-- ==== Sys2Proof/Word.lean ====
section
/-! DEFINITION. The words of the machine: the widths the manual gives its values (R2, R14, R28). -/

namespace Sys2Proof

/-- One byte of storage. -/
abbrev Byte := BitVec 8
/-- A scalar value: a predicate, a scalar port, an address word (R14, R28, R63). -/
abbrev Word := BitVec 64
/-- A vector value: a main or operand register, a vector or dual port (R14, R28). -/
abbrev Wide := BitVec 512

end Sys2Proof
end

