-- ==== Sys2Proof/Config.lean ====
section
/-! DEFINITION. What an implementation fixes, and the free values: constants with no body, so that nothing can be proved of
their values (log 3, log 4, log 10, log 11, log 16, log 50, log 91). -/

namespace Sys2Proof.Config

/-- The parts of a configuration record that the machine's rules name (R430-R432, R437, R441): the partition of dies, the host windows, the slice lengths, the
station address and the EtherType of ports, the least versions of images, and the power caps of partitions, in units of 0.125 W. -/
structure BootRecord where
  parts      : List (BitVec 6 × BitVec 4)
  hostWin    : List (BitVec 4 × Nat × Nat)
  slices     : List (BitVec 4 × Nat)
  stations   : List (BitVec 4 × BitVec 48)
  etherTypes : List (BitVec 4 × BitVec 16)
  minVer     : List (BitVec 16 × BitVec 32)
  powerCaps  : List (BitVec 4 × Nat)
  deriving DecidableEq, Repr, Inhabited

/-- A configuration record that sets nothing. -/
def BootRecord.empty : BootRecord :=
  { parts := [], hostWin := [], slices := [], stations := [], etherTypes := [], minVer := [], powerCaps := [] }

/-- The configuration record of a write of boot flash through function 0, by the number of the write (R431; log 4). -/
opaque bootRecord : Nat → BootRecord

/-- The location word of a link's error, which R417 does not give, by the die and the number of the link (log 91). -/
opaque linkLoc : BitVec 6 → Nat → Word

/-- The n-th delay that the manual leaves open, in clocks (log 3). -/
opaque freeDelay : Nat → Nat

/-- The n-th value that the manual leaves open (log 3). -/
opaque freeWord : Nat → Word

/-- The words of the information registers that a service cause does not name, by the count of free values and the register (log 50). -/
opaque freeInfo : Nat → Nat → Word

/-- The bytes that a rule of an outside standard computes: a signature or a digest of some bytes (R437, R439; log 10). -/
opaque digest : List Byte → List Byte
/-- Whether the signatures of an image verify (R437; log 10). -/
opaque signatureOk : List Byte → Bool
/-- The signature of an attestation report (R439; log 10). -/
opaque sign : List Byte → List Byte

/-- The public halves of the two identity keys (R439; log 10). -/
opaque identityKeys : List Byte
/-- The digest of the image of a type that boot flash holds, by the number of the write that put it there and its type (R439; log 10). -/
opaque bootDigest : Nat → Nat → BitVec 384

/-- The bundles that the lodge's translator makes of a Derura image for which the registers of the model's translation do not suffice
(R331; log 11). -/
opaque translate : List Byte → List Byte
/-- The byte offset at which it lays out label i of such an image (R331; log 11). -/
opaque labelAt : List Byte → Nat → Nat
/-- The bundles of a retranslation of such an image, which keeps every label's offset (R331; log 11). -/
opaque retranslate : List Byte → List Byte

/-- Where the memory policy of a partition places a page that is not present: the physical frame (R408; log 16). -/
opaque placePage : Nat → Nat

end Sys2Proof.Config
end

