-- ==== Sys2Proof/Syntax.lean ====
section
/-! DEFINITION. The instructions: one constructor for each row of the table of operations and events.
A row is either an operation of a bundle's slot (a move, a trigger, a control operation), the bundle itself, or a
step that one of the part's other agents makes (95_what_each_step_holds.md). Each operation carries its decoded fields. -/

namespace Sys2Proof

/-- Context identifier (R360, R382). -/
abbrev CtxId := BitVec 16
/-- Physical die number (R11). -/
abbrev DieId := BitVec 6

/-- A cluster of a die (R12); it also names the cluster's patrol core (R367). -/
structure ClusterId where
  die : DieId
  cid : BitVec 2
  deriving DecidableEq, Repr

/-- A tile as a context sees it: the context, the physical die and the tile index on the die (R13, R35). -/
structure TileKey where
  ctx : CtxId
  die : DieId
  tid : BitVec 6
  deriving DecidableEq, Repr

/-- A page, named by an address space and a virtual address in it (R399, R400). -/
structure PageRef where
  asid : BitVec 16
  va   : BitVec 56
  deriving DecidableEq, Repr

/-- A 64-byte message of the host: the partition that sends it, the endpoint, the words (R382, R425). -/
structure Msg where
  part : BitVec 4
  ep   : BitVec 7
  w0 : Word
  w1 : Word
  w2 : Word
  w3 : Word
  w4 : Word
  w5 : Word
  w6 : Word
  w7 : Word
  deriving DecidableEq, Repr

/-- The object of a barrier episode (R256): a group on a die, a cluster, or a course on one die or on every die. -/
inductive BarObj where
  | group (die : DieId) (g : BitVec 8)
  | cluster (cl : ClusterId)
  | course (q : BitVec 4) (die : Option DieId)
  deriving DecidableEq, Repr

/-- The links of a die: its rings, the die network, the UCIe edges to its east and to its south (R414, R420). -/
inductive LinkKind where
  | ring | net | edgeEast | edgeSouth
  deriving DecidableEq, Repr

/-- The structure and place of an error (R414, R417). An error in a scratchpad may be found by a DMA or copy transfer; one in a stack is
found by the access of a tile, or by no tile (R416). -/
inductive ErrSite where
  | scratch (k : TileKey) (off : BitVec 21) (transfer : Bool)
  | regFile (k : TileKey) (window : BitVec 32)
  | port (k : TileKey) (window : BitVec 32)
  | ibuf (k : TileKey) (va : BitVec 56)
  | macroRow (k : TileKey) (mac : BitVec 2) (page : BitVec 3) (row : BitVec 8)
  | dram (pa : BitVec 50) (k : Option TileKey)
  | link (die : DieId) (kind : LinkKind)
  deriving DecidableEq, Repr

/-- A port of the package with the key of one of its pairings (R435, R438). -/
structure PortKey where
  port : BitVec 4
  key  : Word
  deriving DecidableEq, Repr

/-- What ends forwarded writes: the link fails, the peer refuses those of one entry of the copy queues of the step's context and die, or the
peer's context of a pairing ends (R434, R438). -/
inductive LinkLoss where
  | link | refused (q : Bool) (idx : BitVec 32) | peerEnd (key : Word)
  deriving DecidableEq, Repr

/-- A port and what ends forwarded writes through it (R434, R438). -/
structure PortLoss where
  port : BitVec 4
  what : LinkLoss
  deriving DecidableEq, Repr

/-- The temperature crossings of R441. -/
inductive Thermal where
  | hot105 | cool100 | junction115 | stack115
  deriving DecidableEq, Repr

/-- A guard: a predicate register, inverted or not (R201). -/
structure Guard where
  inv : Bool
  p   : BitVec 5
  deriving DecidableEq, Repr

/-- The sockets of R14. -/
inductive Sock where
  | alu0 | alu1 | mul | prd | xlt | lsu0 | lsu1 | sync | valu0 | valu1 | vsfu | perm | mx | orb | dma | net | sys
  deriving DecidableEq, Repr

/-- The result ports of a socket (R14, R197). -/
inductive RPort where
  | q | qp | q1
  deriving DecidableEq, Repr

/-- The operand ports of a socket (R14, R199). -/
inductive OPort where
  | a | b
  deriving DecidableEq, Repr

/-- The special values (R32). -/
inductive Special where
  | zero | ones | lane | tid | cid | did | cyc | gserial
  deriving DecidableEq, Repr

/-- A move's source (R197). The long-immediate forms carry the bundle's LIMM (R194, R198). -/
inductive Src where
  | m (n : BitVec 6)
  | o (n : BitVec 3)
  | special (v : Special)
  | p (n : BitVec 5)
  | port (sk : Sock) (r : RPort)
  | imm8 (v : BitVec 8)
  | limmS (v : BitVec 32)
  | limmZ (v : BitVec 32)
  | limmHi (v : BitVec 32)
  deriving DecidableEq, Repr

/-- A move's destination other than a trigger port (R199). -/
inductive Dst where
  | null
  | o (n : BitVec 3)
  | p (n : BitVec 5)
  | m (n : BitVec 6)
  | port (sk : Sock) (pt : OPort)
  deriving DecidableEq, Repr

/-- The classes of the source modifier (R202). -/
inductive ModCls where
  | none | rot | bfly | bcast
  deriving DecidableEq, Repr

/-- The source modifier of a vector slot (R202). -/
structure SrcMod where
  cls  : ModCls
  gr   : Bool
  lseg : BitVec 3
  dist : BitVec 5
  deriving DecidableEq, Repr

/-- Which of two twin units an operation names: alu, lsu or valu 0 or 1 (R14). -/
inductive Twin where
  | u0 | u1
  deriving DecidableEq, Repr

/-- The widths of an atomic (R250). -/
inductive AWidth where
  | w32 | w64
  deriving DecidableEq, Repr

/-- Type set F3 (R208). -/
inductive F3 where
  | f32 | f16 | bf16
  deriving DecidableEq, Repr

/-- Type set FI6 (R208): the integer types make no difference between signed and natural. -/
inductive FI6 where
  | f32 | f16 | bf16 | i32 | i16 | i8
  deriving DecidableEq, Repr

/-- Type set FSN9 (R208). -/
inductive FSN9 where
  | f32 | f16 | bf16 | s32 | s16 | s8 | n32 | n16 | n8
  deriving DecidableEq, Repr

/-- Type set SN6 (R208). -/
inductive SN6 where
  | s32 | s16 | s8 | n32 | n16 | n8
  deriving DecidableEq, Repr

/-- Type set W3 (R208). -/
inductive W3 where
  | w32 | w16 | w8
  deriving DecidableEq, Repr

/-- Type set SN4 (R208): the pair of widths 32/16 or 16/8, signed or natural. -/
inductive SN4 where
  | s32 | s16 | n32 | n16
  deriving DecidableEq, Repr

/-- The group formats of UNPKG (R215). -/
inductive GT2 where
  | s4g | s3g
  deriving DecidableEq, Repr

/-- The group formats of QNTG (R215). -/
inductive GT3 where
  | s4g | s3g | s8
  deriving DecidableEq, Repr


/-- One constructor per row of the table. Slot operations name their decoded fields; the steps of other agents name what
they act on. -/
inductive Instr where
  /-- BUNDLE_ISSUE (R204). -/
  | bundleIssue (b : BitVec 512)
  /-- INTERLOCKED_RESULT_DELIVERED (R21). -/
  | interlockedResultDelivered (sk : Sock)
  /-- MOVE (R195). -/
  | move (d : Dst) (s : Src) (g : Guard)
  /-- MOVE_VECTOR (R202). -/
  | moveVector (d : Dst) (md : SrcMod) (s : Src) (g : Guard)
  /-- NOP (R193). -/
  | nop (g : Guard)
  /-- BR (R226). -/
  | br (off : BitVec 19) (g : Guard)
  /-- BRP (R227). -/
  | brp (off : BitVec 19) (g : Guard)
  /-- BRN (R227). -/
  | brn (off : BitVec 19) (g : Guard)
  /-- CALL (R228). -/
  | call (off : BitVec 19) (g : Guard)
  /-- RET (R228). -/
  | ret (n : BitVec 3) (g : Guard)
  /-- LOOP (R229). -/
  | loop (n : BitVec 3) (len : BitVec 11) (g : Guard)
  /-- SPIN (R231). -/
  | spin (n : BitVec 9) (step : BitVec 6) (k : BitVec 4) (g : Guard)
  /-- WAIT (R232). -/
  | wait (count : BitVec 19) (g : Guard)
  /-- WAITU (R179). -/
  | waitu (n : BitVec 3) (g : Guard)
  /-- WAITB (R189). -/
  | waitb (n : BitVec 3) (g : Guard)
  /-- TASKEND (R234). -/
  | taskend (g : Guard)
  /-- SAFE (R235). -/
  | safe (g : Guard)
  /-- TRAPU (R236). -/
  | trapu (code : BitVec 16) (g : Guard)
  /-- ILOCK (R237). -/
  | ilock (pk : BitVec 5) (n : BitVec 3) (g : Guard)
  /-- IUNLOCK (R237). -/
  | iunlock (pk : BitVec 5) (n : BitVec 3) (g : Guard)
  /-- ADD (R221). -/
  | aluAdd (u : Twin) (s : Src) (g : Guard)
  /-- SUB (R221). -/
  | aluSub (u : Twin) (s : Src) (g : Guard)
  /-- AND (R221). -/
  | aluAnd (u : Twin) (s : Src) (g : Guard)
  /-- OR (R221). -/
  | aluOr (u : Twin) (s : Src) (g : Guard)
  /-- XOR (R221). -/
  | aluXor (u : Twin) (s : Src) (g : Guard)
  /-- ANDN (R221). -/
  | aluAndn (u : Twin) (s : Src) (g : Guard)
  /-- SHL (R221). -/
  | aluShl (u : Twin) (s : Src) (g : Guard)
  /-- SHR (R221). -/
  | aluShr (u : Twin) (s : Src) (g : Guard)
  /-- SAR (R221). -/
  | aluSar (u : Twin) (s : Src) (g : Guard)
  /-- ROL (R221). -/
  | aluRol (u : Twin) (s : Src) (g : Guard)
  /-- MIN_S (R221). -/
  | aluMinS (u : Twin) (s : Src) (g : Guard)
  /-- MIN_N (R221). -/
  | aluMinN (u : Twin) (s : Src) (g : Guard)
  /-- MAX_S (R221). -/
  | aluMaxS (u : Twin) (s : Src) (g : Guard)
  /-- MAX_N (R221). -/
  | aluMaxN (u : Twin) (s : Src) (g : Guard)
  /-- EQ (R221). -/
  | aluEq (u : Twin) (s : Src) (g : Guard)
  /-- NE (R221). -/
  | aluNe (u : Twin) (s : Src) (g : Guard)
  /-- LT_S (R221). -/
  | aluLtS (u : Twin) (s : Src) (g : Guard)
  /-- LT_N (R221). -/
  | aluLtN (u : Twin) (s : Src) (g : Guard)
  /-- LE_S (R221). -/
  | aluLeS (u : Twin) (s : Src) (g : Guard)
  /-- LE_N (R221). -/
  | aluLeN (u : Twin) (s : Src) (g : Guard)
  /-- SEL (R221). -/
  | aluSel (u : Twin) (s : Src) (g : Guard)
  /-- CLZ (R221). -/
  | aluClz (u : Twin) (s : Src) (g : Guard)
  /-- CTZ (R221). -/
  | aluCtz (u : Twin) (s : Src) (g : Guard)
  /-- POPC (R221). -/
  | aluPopc (u : Twin) (s : Src) (g : Guard)
  /-- SEXT (R221). -/
  | aluSext (u : Twin) (s : Src) (g : Guard)
  /-- ZEXT (R221). -/
  | aluZext (u : Twin) (s : Src) (g : Guard)
  /-- EXTR (R221). -/
  | aluExtr (u : Twin) (s : Src) (g : Guard)
  /-- INS (R221). -/
  | aluIns (u : Twin) (s : Src) (g : Guard)
  /-- PASS (R221). -/
  | aluPass (u : Twin) (s : Src) (g : Guard)
  /-- CAT32 (R221). -/
  | aluCat32 (u : Twin) (s : Src) (g : Guard)
  /-- ADDSH (R221). -/
  | aluAddsh (u : Twin) (s : Src) (g : Guard)
  /-- MUL (R222). -/
  | mulMul (s : Src) (g : Guard)
  /-- MULH_S (R222). -/
  | mulMulhS (s : Src) (g : Guard)
  /-- MULH_N (R222). -/
  | mulMulhN (s : Src) (g : Guard)
  /-- MAC (R222). -/
  | mulMac (s : Src) (g : Guard)
  /-- DIV_S (R223). -/
  | mulDivS (s : Src) (g : Guard)
  /-- DIV_N (R223). -/
  | mulDivN (s : Src) (g : Guard)
  /-- REM_S (R223). -/
  | mulRemS (s : Src) (g : Guard)
  /-- REM_N (R223). -/
  | mulRemN (s : Src) (g : Guard)
  /-- PAND (R224). -/
  | pand (s : Src) (g : Guard)
  /-- POR (R224). -/
  | por (s : Src) (g : Guard)
  /-- PXOR (R224). -/
  | pxor (s : Src) (g : Guard)
  /-- PANDN (R224). -/
  | pandn (s : Src) (g : Guard)
  /-- PNOT (R224). -/
  | pnot (s : Src) (g : Guard)
  /-- PALL (R224). -/
  | pall (s : Src) (g : Guard)
  /-- PANY (R224). -/
  | pany (s : Src) (g : Guard)
  /-- PCNT (R224). -/
  | pcnt (s : Src) (g : Guard)
  /-- PFIRST (R224). -/
  | pfirst (s : Src) (g : Guard)
  /-- PMASK (R224). -/
  | pmask (s : Src) (g : Guard)
  /-- PFROM (R224). -/
  | pfrom (s : Src) (g : Guard)
  /-- PTO (R224). -/
  | pto (s : Src) (g : Guard)
  /-- XLAT (R240). -/
  | xlat (s : Src) (g : Guard)
  /-- XLATW (R240). -/
  | xlatw (s : Src) (g : Guard)
  /-- HREL (R241). -/
  | hrel (s : Src) (g : Guard)
  /-- HQRY (R241). -/
  | hqry (s : Src) (g : Guard)
  /-- HBASE (R241). -/
  | hbase (s : Src) (g : Guard)
  /-- LD_S8 (R244). -/
  | ldS8 (u : Twin) (s : Src) (g : Guard)
  /-- LD_N8 (R244). -/
  | ldN8 (u : Twin) (s : Src) (g : Guard)
  /-- LD_S16 (R244). -/
  | ldS16 (u : Twin) (s : Src) (g : Guard)
  /-- LD_N16 (R244). -/
  | ldN16 (u : Twin) (s : Src) (g : Guard)
  /-- LD_S32 (R244). -/
  | ldS32 (u : Twin) (s : Src) (g : Guard)
  /-- LD_N32 (R244). -/
  | ldN32 (u : Twin) (s : Src) (g : Guard)
  /-- LD_64 (R244). -/
  | ld64 (u : Twin) (s : Src) (g : Guard)
  /-- ST_8 (R244). -/
  | st8 (u : Twin) (s : Src) (g : Guard)
  /-- ST_16 (R244). -/
  | st16 (u : Twin) (s : Src) (g : Guard)
  /-- ST_32 (R244). -/
  | st32 (u : Twin) (s : Src) (g : Guard)
  /-- ST_64 (R244). -/
  | st64 (u : Twin) (s : Src) (g : Guard)
  /-- VLD (R246). -/
  | vld (u : Twin) (s : Src) (g : Guard)
  /-- VLDR (R245). -/
  | vldr (u : Twin) (s : Src) (g : Guard)
  /-- VST (R246). -/
  | vst (u : Twin) (s : Src) (g : Guard)
  /-- VSTR (R245). -/
  | vstr (u : Twin) (s : Src) (g : Guard)
  /-- VLDG (R247). -/
  | vldg (u : Twin) (s : Src) (g : Guard)
  /-- VSTS (R247). -/
  | vsts (u : Twin) (s : Src) (g : Guard)
  /-- GLD (R97). -/
  | gld (u : Twin) (s : Src) (g : Guard)
  /-- GLDT (R97). -/
  | gldt (u : Twin) (s : Src) (g : Guard)
  /-- CELLW (R77). -/
  | cellw (u : Twin) (s : Src) (g : Guard)
  /-- CELLWR (R77). -/
  | cellwr (u : Twin) (s : Src) (g : Guard)
  /-- CELLR (R77). -/
  | cellr (u : Twin) (s : Src) (g : Guard)
  /-- CELLP (R77). -/
  | cellp (u : Twin) (s : Src) (g : Guard)
  /-- AADD (R251). -/
  | aadd (w : AWidth) (u : Twin) (s : Src) (g : Guard)
  /-- AMIN_S (R251). -/
  | aminS (w : AWidth) (u : Twin) (s : Src) (g : Guard)
  /-- AMIN_N (R251). -/
  | aminN (w : AWidth) (u : Twin) (s : Src) (g : Guard)
  /-- AMAX_S (R251). -/
  | amaxS (w : AWidth) (u : Twin) (s : Src) (g : Guard)
  /-- AMAX_N (R251). -/
  | amaxN (w : AWidth) (u : Twin) (s : Src) (g : Guard)
  /-- AAND (R251). -/
  | aand (w : AWidth) (u : Twin) (s : Src) (g : Guard)
  /-- AOR (R251). -/
  | aor (w : AWidth) (u : Twin) (s : Src) (g : Guard)
  /-- AXOR (R251). -/
  | axor (w : AWidth) (u : Twin) (s : Src) (g : Guard)
  /-- ASWAP (R251). -/
  | aswap (w : AWidth) (u : Twin) (s : Src) (g : Guard)
  /-- ACAS (R251). -/
  | acas (w : AWidth) (u : Twin) (s : Src) (g : Guard)
  /-- AFADD (R251). -/
  | afadd (u : Twin) (s : Src) (g : Guard)
  /-- OSADD_F32 (R253). -/
  | osaddF32 (u : Twin) (s : Src) (g : Guard)
  /-- OSADD_S32 (R253). -/
  | osaddS32 (u : Twin) (s : Src) (g : Guard)
  /-- JOIN (R255). -/
  | join (s : Src) (g : Guard)
  /-- LEAVE (R48). -/
  | leave (s : Src) (g : Guard)
  /-- GBAR (R256). -/
  | gbar (s : Src) (g : Guard)
  /-- CBAR (R256). -/
  | cbar (s : Src) (g : Guard)
  /-- DBAR (R256). -/
  | dbar (s : Src) (g : Guard)
  /-- RELEASE (R104). -/
  | release (s : Src) (g : Guard)
  /-- ACQUIRE (R104). -/
  | acquire (s : Src) (g : Guard)
  /-- XFENCE (R103). -/
  | xfence (s : Src) (g : Guard)
  /-- SPAWN (R257). -/
  | spawn (s : Src) (g : Guard)
  /-- GROW (R258). -/
  | grow (s : Src) (g : Guard)
  /-- MODE (R259). -/
  | mode (s : Src) (g : Guard)
  /-- FRMSET (R260). -/
  | frmset (s : Src) (g : Guard)
  /-- BFSET (R260). -/
  | bfset (s : Src) (g : Guard)
  /-- BFGET (R260). -/
  | bfget (s : Src) (g : Guard)
  /-- EVRD (R261). -/
  | evrd (s : Src) (g : Guard)
  /-- EVCLR (R261). -/
  | evclr (s : Src) (g : Guard)
  /-- EVGATH (R98). -/
  | evgath (s : Src) (g : Guard)
  /-- VADD (R266). -/
  | vadd (u : Twin) (ty : FI6) (md : SrcMod) (s : Src) (g : Guard)
  /-- VSUB (R266). -/
  | vsub (u : Twin) (ty : FI6) (md : SrcMod) (s : Src) (g : Guard)
  /-- VMUL (R266). -/
  | vmul (u : Twin) (ty : FI6) (md : SrcMod) (s : Src) (g : Guard)
  /-- VFMA (R267). -/
  | vfma (u : Twin) (ty : F3) (md : SrcMod) (s : Src) (g : Guard)
  /-- VFMS (R267). -/
  | vfms (u : Twin) (ty : F3) (md : SrcMod) (s : Src) (g : Guard)
  /-- VFNMA (R267). -/
  | vfnma (u : Twin) (ty : F3) (md : SrcMod) (s : Src) (g : Guard)
  /-- VMIN (R268). -/
  | vmin (u : Twin) (ty : FSN9) (md : SrcMod) (s : Src) (g : Guard)
  /-- VMAX (R268). -/
  | vmax (u : Twin) (ty : FSN9) (md : SrcMod) (s : Src) (g : Guard)
  /-- VCLAMP (R268). -/
  | vclamp (u : Twin) (ty : FSN9) (md : SrcMod) (s : Src) (g : Guard)
  /-- VEQ (R269). -/
  | veq (u : Twin) (ty : FI6) (md : SrcMod) (s : Src) (g : Guard)
  /-- VNE (R269). -/
  | vne (u : Twin) (ty : FI6) (md : SrcMod) (s : Src) (g : Guard)
  /-- VLT (R269). -/
  | vlt (u : Twin) (ty : FSN9) (md : SrcMod) (s : Src) (g : Guard)
  /-- VLE (R269). -/
  | vle (u : Twin) (ty : FSN9) (md : SrcMod) (s : Src) (g : Guard)
  /-- VSEL (R270). -/
  | vsel (u : Twin) (ty : W3) (md : SrcMod) (s : Src) (g : Guard)
  /-- VAND (R270). -/
  | vand (u : Twin) (md : SrcMod) (s : Src) (g : Guard)
  /-- VOR (R270). -/
  | vor (u : Twin) (md : SrcMod) (s : Src) (g : Guard)
  /-- VXOR (R270). -/
  | vxor (u : Twin) (md : SrcMod) (s : Src) (g : Guard)
  /-- VSHL (R270). -/
  | vshl (u : Twin) (ty : W3) (md : SrcMod) (s : Src) (g : Guard)
  /-- VSHR (R270). -/
  | vshr (u : Twin) (ty : W3) (md : SrcMod) (s : Src) (g : Guard)
  /-- VSAR (R270). -/
  | vsar (u : Twin) (ty : W3) (md : SrcMod) (s : Src) (g : Guard)
  /-- VADDS (R271). -/
  | vadds (u : Twin) (ty : SN6) (md : SrcMod) (s : Src) (g : Guard)
  /-- VSUBS (R271). -/
  | vsubs (u : Twin) (ty : SN6) (md : SrcMod) (s : Src) (g : Guard)
  /-- VDOT4 (R272). -/
  | vdot4 (u : Twin) (md : SrcMod) (s : Src) (g : Guard)
  /-- VSCALE (R273). -/
  | vscale (u : Twin) (ty : F3) (md : SrcMod) (s : Src) (g : Guard)
  /-- VABS (R274). -/
  | vabs (u : Twin) (md : SrcMod) (s : Src) (g : Guard)
  /-- VNEG (R274). -/
  | vneg (u : Twin) (md : SrcMod) (s : Src) (g : Guard)
  /-- VCVT (R275). -/
  | vcvt (u : Twin) (md : SrcMod) (s : Src) (g : Guard)
  /-- VRSUM (R276). -/
  | vrsum (u : Twin) (md : SrcMod) (s : Src) (g : Guard)
  /-- VRMAX (R276). -/
  | vrmax (u : Twin) (md : SrcMod) (s : Src) (g : Guard)
  /-- VRMIN (R276). -/
  | vrmin (u : Twin) (md : SrcMod) (s : Src) (g : Guard)
  /-- VEXP2 (R277). -/
  | vexp2 (ty : F3) (md : SrcMod) (s : Src) (g : Guard)
  /-- VLOG2 (R277). -/
  | vlog2 (ty : F3) (md : SrcMod) (s : Src) (g : Guard)
  /-- VRCP (R277). -/
  | vrcp (ty : F3) (md : SrcMod) (s : Src) (g : Guard)
  /-- VRSQRT (R277). -/
  | vrsqrt (ty : F3) (md : SrcMod) (s : Src) (g : Guard)
  /-- VSQRT (R277). -/
  | vsqrt (ty : F3) (md : SrcMod) (s : Src) (g : Guard)
  /-- VTANH (R277). -/
  | vtanh (ty : F3) (md : SrcMod) (s : Src) (g : Guard)
  /-- VSIGM (R277). -/
  | vsigm (ty : F3) (md : SrcMod) (s : Src) (g : Guard)
  /-- VSHUF (R279). -/
  | vshuf (ty : W3) (md : SrcMod) (s : Src) (g : Guard)
  /-- VZIP (R279). -/
  | vzip (ty : W3) (md : SrcMod) (s : Src) (g : Guard)
  /-- VUNZIP (R279). -/
  | vunzip (ty : W3) (md : SrcMod) (s : Src) (g : Guard)
  /-- VPACK (R280). -/
  | vpack (ty : SN4) (md : SrcMod) (s : Src) (g : Guard)
  /-- VWIDEN (R280). -/
  | vwiden (ty : SN4) (md : SrcMod) (s : Src) (g : Guard)
  /-- UNPK5 (R281). -/
  | unpk5 (md : SrcMod) (s : Src) (g : Guard)
  /-- PACK5 (R282). -/
  | pack5 (md : SrcMod) (s : Src) (g : Guard)
  /-- UNPKG (R283). -/
  | unpkg (ty : GT2) (md : SrcMod) (s : Src) (g : Guard)
  /-- QNTG (R284). -/
  | qntg (ty : GT3) (md : SrcMod) (s : Src) (g : Guard)
  /-- VCMPR (R285). -/
  | vcmpr (ty : FSN9) (md : SrcMod) (s : Src) (g : Guard)
  /-- VTOPK (R286). -/
  | vtopk (ty : FSN9) (md : SrcMod) (s : Src) (g : Guard)
  /-- VSORT (R287). -/
  | vsort (ty : FSN9) (md : SrcMod) (s : Src) (g : Guard)
  /-- VBCAST (R279). -/
  | vbcast (ty : W3) (md : SrcMod) (s : Src) (g : Guard)
  /-- VEXTR (R279). -/
  | vextr (ty : W3) (md : SrcMod) (s : Src) (g : Guard)
  /-- VINS (R279). -/
  | vins (ty : W3) (md : SrcMod) (s : Src) (g : Guard)
  /-- VIOTA (R279). -/
  | viota (ty : W3) (md : SrcMod) (s : Src) (g : Guard)
  /-- VSLIDE (R279). -/
  | vslide (ty : W3) (md : SrcMod) (s : Src) (g : Guard)
  /-- MXCFG (R292). -/
  | mxcfg (md : Option SrcMod) (s : Src) (g : Guard)
  /-- WLD (R148). -/
  | wld (md : Option SrcMod) (s : Src) (g : Guard)
  /-- WPAGE (R145). -/
  | wpage (md : Option SrcMod) (s : Src) (g : Guard)
  /-- ASTR (R149). -/
  | astr (md : Option SrcMod) (s : Src) (g : Guard)
  /-- DRAIN (R154). -/
  | drain (s : Src) (g : Guard)
  /-- DRAIN_VECTOR (R294). -/
  | drainVector (md : SrcMod) (s : Src) (g : Guard)
  /-- DRAINST (R155). -/
  | drainst (md : Option SrcMod) (s : Src) (g : Guard)
  /-- MXCLR (R153). -/
  | mxclr (md : Option SrcMod) (s : Src) (g : Guard)
  /-- MXSTAT (R146). -/
  | mxstat (md : Option SrcMod) (s : Src) (g : Guard)
  /-- SCRUB_ROW (R419). -/
  | scrubRow (mac : BitVec 2) (page : BitVec 3) (row : BitVec 8) (parityFails : Bool)
  /-- OATT (R297). -/
  | oatt (s : Src) (g : Guard)
  /-- OEPH (R298). -/
  | oeph (s : Src) (g : Guard)
  /-- OINJ (R299). -/
  | oinj (s : Src) (g : Guard)
  /-- OSTEP (R300). -/
  | ostep (s : Src) (g : Guard)
  /-- OSLOT (R301). -/
  | oslot (s : Src) (g : Guard)
  /-- OCNT (R302). -/
  | ocnt (s : Src) (g : Guard)
  /-- OMISS (R302). -/
  | omiss (s : Src) (g : Guard)
  /-- OLAP (R303). -/
  | olap (s : Src) (g : Guard)
  /-- ODET (R303). -/
  | odet (s : Src) (g : Guard)
  /-- DLD (R305). -/
  | dld (s : Src) (g : Guard)
  /-- DST (R305). -/
  | dst (s : Src) (g : Guard)
  /-- DCPY (R306). -/
  | dcpy (s : Src) (g : Guard)
  /-- DMA_TRANSFER_COMPLETE (R178). -/
  | dmaTransferComplete (tag : BitVec 16)
  /-- DPROM (R307). -/
  | dprom (s : Src) (g : Guard)
  /-- DSTAT (R307). -/
  | dstat (s : Src) (g : Guard)
  /-- NSEND (R187). -/
  | nsend (s : Src) (g : Guard)
  /-- NSEND_DELIVERY (R187). -/
  | nsendDelivery (rp : BitVec 4)
  /-- RLD (R185). -/
  | rld (s : Src) (g : Guard)
  /-- CQPOST (R183). -/
  | cqpost (s : Src) (g : Guard)
  /-- CQSTAT (R312). -/
  | cqstat (s : Src) (g : Guard)
  /-- NFLAG (R313). -/
  | nflag (s : Src) (g : Guard)
  /-- SYSRD (R380). -/
  | sysrd (s : Src) (g : Guard)
  /-- SYSWR (R380). -/
  | syswr (s : Src) (g : Guard)
  /-- SNAPSV (R376). -/
  | snapsv (s : Src) (g : Guard)
  /-- SNAPLD (R378). -/
  | snapld (s : Src) (g : Guard)
  /-- RFSV (R377). -/
  | rfsv (s : Src) (g : Guard)
  /-- RFLD (R377). -/
  | rfld (s : Src) (g : Guard)
  /-- HINV (R381). -/
  | hinv (s : Src) (g : Guard)
  /-- IFLUSH (R381). -/
  | iflush (s : Src) (g : Guard)
  /-- STUB (R370). -/
  | stub (e : BitVec 6)
  /-- PTWDL_WRITE (R368). -/
  | ptwdlWrite (v : BitVec 32)
  /-- CSR_WRITE (R368). -/
  | csrWrite (csr : BitVec 12) (v : BitVec 32)
  /-- REVOCATION_ACK (R406). -/
  | revocationAck (die : DieId) (pg : PageRef)
  /-- UNCORRECTABLE_ERROR (R416). -/
  | uncorrectableError (e : ErrSite)
  /-- CORRECTED_ERROR (R414). -/
  | correctedError (e : ErrSite)
  /-- POISON_CONSUMED (R416). -/
  | poisonConsumed (e : ErrSite)
  /-- SELF_TEST_COMPLETE (R416). -/
  | selfTestComplete (e : ErrSite) (passed : Bool)
  /-- NETWORK_FLIT_FAILURE (R414). -/
  | networkFlitFailure (die : DieId) (ring : Bool)
  /-- UCIE_EDGE_FAILURE (R420). -/
  | ucieEdgeFailure (die : DieId) (south : Bool)
  /-- THERMAL_THRESHOLD (R441). -/
  | thermalThreshold (die : DieId) (t : Thermal)
  /-- INBOX_CONSUMER_INDEX (R429). -/
  | inboxConsumerIndex (part : BitVec 4) (ep : BitVec 7) (v : BitVec 32)
  /-- APERTURE_BAD_WRITE (R429). -/
  | apertureBadWrite (part : BitVec 4) (ep : BitVec 7) (off : BitVec 12) (len : BitVec 12)
  /-- FORWARDED_WRITE_ARRIVAL (R435). -/
  | forwardedWriteArrival (port : PortKey) (off : BitVec 14) (unit : Word) (poison : Bool)
  /-- ASIDNEW (R436). -/
  | asidnew (part : BitVec 4)
  /-- ASIDFREE (R436). -/
  | asidfree (asid : BitVec 16)
  /-- TABLESET (R436). -/
  | tableset (pa : BitVec 50) (entry : Word)
  /-- LEAFSET (R407). -/
  | leafset (part : BitVec 4) (pg : PageRef) (pa : BitVec 50) (entry : Word)
  /-- IMGCHECK (R437). -/
  | imgcheck (img : List Byte)
  /-- PACKAGE_LINK_FAILURE (R434). -/
  | packageLinkFailure (port : PortLoss)
  /-- PAIRING_ACTIVE (R438). -/
  | pairingActive (port : BitVec 4) (key : Word) (station : BitVec 48)
  /-- PATROL_SCRATCHPAD_ACCESS (R367). -/
  | patrolScratchpadAccess (rp : BitVec 4) (off : BitVec 21) (size : BitVec 3) (write : Bool) (data : BitVec 32)
  /-- BUNDLE_FETCH (R84). -/
  | bundleFetch
  /-- TIMED_RESULT_LANDS (R19). -/
  | timedResultLands
  /-- DRAIN_BIT_WAIT_END (R55). -/
  | drainBitWaitEnd
  /-- WAITU_END (R179). -/
  | waituEnd
  /-- PROMISE_MISSED (R180). -/
  | promiseMissed
  /-- WAITB_SATISFIED (R189). -/
  | waitbSatisfied
  /-- WAIT_EXPIRED (R190). -/
  | waitExpired
  /-- GROUP_LOAD_COMBINE (R92). -/
  | groupLoadCombine
  /-- CELL_READ_SATISFIED (R78). -/
  | cellReadSatisfied
  /-- ATOMIC_PERFORM (R251). -/
  | atomicPerform
  /-- OSADD_UPDATE_ARRIVAL (R116). -/
  | osaddUpdateArrival
  /-- BARRIER_EPISODE_COMPLETE (R256). -/
  | barrierEpisodeComplete
  /-- WLD_PAGE_WRITTEN (R157). -/
  | wldPageWritten
  /-- ASTR_PASS_ENTERED (R151). -/
  | astrPassEntered
  /-- DRAINST_COMPLETE (R157). -/
  | drainstComplete
  /-- MXCLR_TAKES_EFFECT (R153). -/
  | mxclrTakesEffect
  /-- OEPH_TABLE_LOADED (R167). -/
  | oephTableLoaded
  /-- OINJ_COPY_COMPLETE (R162). -/
  | oinjCopyComplete
  /-- STATION_ARMED (R163). -/
  | stationArmed
  /-- ORBIT_STEP_BEGIN (R166). -/
  | orbitStepBegin
  /-- ORBIT_STEP_COMPLETE (R164). -/
  | orbitStepComplete
  /-- STATION_RELEASE (R170). -/
  | stationRelease
  /-- CONJUNCTION_TASK_START (R46). -/
  | conjunctionTaskStart
  /-- LAP_END (R172). -/
  | lapEnd
  /-- RLD_SERVE (R186). -/
  | rldServe
  /-- COPY_ENTRY_START (R184). -/
  | copyEntryStart
  /-- COPY_ENTRY_RETIRE (R184). -/
  | copyEntryRetire
  /-- TRET (R373). -/
  | tret
  /-- RESUME (R370). -/
  | resume
  /-- DELIVER (R371). -/
  | deliver
  /-- ACK (R370). -/
  | ack
  /-- ABANDON (R370). -/
  | abandon
  /-- PTWDL_READ (R368). -/
  | ptwdlRead
  /-- COURSE_END_BY_FAULT (R364). -/
  | courseEndByFault
  /-- CTXCREATE (R385). -/
  | ctxcreate
  /-- CTXDESTROY (R383). -/
  | ctxdestroy
  /-- LAUNCH (R36). -/
  | launch
  /-- COURSE_START (R387). -/
  | courseStart
  /-- GATE_DISPATCH (R40). -/
  | gateDispatch
  /-- GROW_EXTENSION (R42). -/
  | growExtension
  /-- COURSE_RETIRE (R47). -/
  | courseRetire
  /-- SIGNAL (R389). -/
  | signal
  /-- QSTAT (R384). -/
  | qstat
  /-- QRESUME (R391). -/
  | qresume
  /-- LOAD (R326). -/
  | load
  /-- RETRANSLATION_SWAP (R331). -/
  | retranslationSwap
  /-- STARVATION_PROMOTION (R390). -/
  | starvationPromotion
  /-- SLICE_END (R394). -/
  | sliceEnd
  /-- SWITCH_OUT (R379). -/
  | switchOut
  /-- FORCED_PREEMPTION (R394). -/
  | forcedPreemption
  /-- SWITCH_IN (R379). -/
  | switchIn
  /-- PAGE_TABLE_WALK (R402). -/
  | pageTableWalk
  /-- HANDLE_FAULT_SERVICE (R408). -/
  | handleFaultService
  /-- REVOKE_HANDLES (R406). -/
  | revokeHandles
  /-- MIGRATE_PAGE (R410). -/
  | migratePage
  /-- DUPLICATE_PAGE (R411). -/
  | duplicatePage
  /-- DUPLICATION_END (R412). -/
  | duplicationEnd
  /-- PACKAGE_RESET (R440). -/
  | packageReset
  /-- DIERESET (R427). -/
  | diereset
  /-- DIESTAT (R426). -/
  | diestat
  /-- ERRREAD (R426). -/
  | errread
  /-- TELEM (R426). -/
  | telem
  /-- INBOX (R427). -/
  | inbox
  /-- ATTEST (R439). -/
  | attest
  /-- LINKMAP (R438). -/
  | linkmap
  /-- LINKMAP_TIMEOUT (R438). -/
  | linkmapTimeout
  /-- ATTESTSIGN (R436). -/
  | attestsign
  /-- STORE_PERFORMED (R101). -/
  | storePerformed
  /-- BAD_MESSAGE (R382). -/
  | badMessage
  deriving DecidableEq, Repr

end Sys2Proof
end

