-- ==== Sys2Proof/WellFormed.lean ====
section
/-! DEFINITION. Which instructions are well formed: the static limits of R14, R195-R203 on the fields of one slot. -/

namespace Sys2Proof

/-- Width classes of ports (R14): scalar, vector, dual. -/
inductive WidthClass where
  | s | v | d
  deriving DecidableEq, Repr

/-- Which result ports a socket has (R14). -/
def Sock.hasResult : Sock → RPort → Bool
  | _, .q => true
  | .mul, .qp => false
  | .sys, .qp => false
  | _, .qp => true
  | .lsu0, .q1 => true
  | .lsu1, .q1 => true
  | .perm, .q1 => true
  | .mx, .q1 => true
  | _, .q1 => false

/-- The width class of an operand port, `none` where the port is absent (R14). -/
def Sock.operandClass : Sock → OPort → Option WidthClass
  | .xlt, .b => none
  | .vsfu, .b => none
  | .lsu0, _ => some .d
  | .lsu1, _ => some .d
  | .mx, _ => some .d
  | .net, .b => some .d
  | .valu0, _ => some .v
  | .valu1, _ => some .v
  | .vsfu, _ => some .v
  | .perm, _ => some .v
  | _, _ => some .s

/-- The width class of a socket's trigger port (R14). -/
def Sock.triggerClass : Sock → WidthClass
  | .valu0 => .v
  | .valu1 => .v
  | .vsfu => .v
  | .perm => .v
  | .mx => .d
  | _ => .s

/-- A source names a port that exists (R17, R197). -/
def Src.ok : Src → Bool
  | .port sk r => sk.hasResult r
  | _ => true

/-- A vector slot may not read LIMM shifted (R198). -/
def Src.okVector : Src → Bool
  | .limmHi _ => false
  | s => s.ok

/-- The limits of the source modifier (R203). -/
def SrcMod.ok (md : SrcMod) : Bool :=
  (if md.gr then md.lseg.toNat ≤ 5 else md.lseg.toNat ≤ 4) &&
  (match md.cls with
   | .none => md.lseg = 0 && md.dist = 0
   | _ => md.dist.toNat < 2 ^ md.lseg.toNat)

/-- The modifier that changes nothing: twelve zero bits (R195, R202). -/
def SrcMod.id : SrcMod := { cls := .none, gr := false, lseg := 0, dist := 0 }

/-- The destinations a scalar slot may write (R200). -/
def Dst.okScalar : Dst → Bool
  | .port sk pt => match sk.operandClass pt with
    | some .s => true
    | some .d => true
    | _ => false
  | _ => true

/-- The destinations a vector slot may write (R200). -/
def Dst.okVector : Dst → Bool
  | .p _ => false
  | .port sk pt => match sk.operandClass pt with
    | some .v => true
    | some .d => true
    | _ => false
  | _ => true

/-- An instruction is well formed when its slot's fields keep the limits of R14 and R195-R203. -/
def Instr.wf : Instr → Bool
  | .bundleIssue _ => true
  | .bundleFetch => true
  | .timedResultLands => true
  | .interlockedResultDelivered _ => true
  | .drainBitWaitEnd => true
  | .move d s _ => d.okScalar && s.ok
  | .moveVector d md s _ => d.okVector && md.ok && s.okVector && (d != .null || md == SrcMod.id)
  | .nop _ => true
  | .br _ _ => true
  | .brp _ _ => true
  | .brn _ _ => true
  | .call _ _ => true
  | .ret _ _ => true
  | .loop _ _ _ => true
  | .spin _ _ _ _ => true
  | .wait _ _ => true
  | .waitu _ _ => true
  | .waituEnd => true
  | .promiseMissed => true
  | .waitb _ _ => true
  | .waitbSatisfied => true
  | .waitExpired => true
  | .taskend _ => true
  | .safe _ => true
  | .trapu _ _ => true
  | .ilock _ _ _ => true
  | .iunlock _ _ _ => true
  | .aluAdd _ s _ => s.ok
  | .aluSub _ s _ => s.ok
  | .aluAnd _ s _ => s.ok
  | .aluOr _ s _ => s.ok
  | .aluXor _ s _ => s.ok
  | .aluAndn _ s _ => s.ok
  | .aluShl _ s _ => s.ok
  | .aluShr _ s _ => s.ok
  | .aluSar _ s _ => s.ok
  | .aluRol _ s _ => s.ok
  | .aluMinS _ s _ => s.ok
  | .aluMinN _ s _ => s.ok
  | .aluMaxS _ s _ => s.ok
  | .aluMaxN _ s _ => s.ok
  | .aluEq _ s _ => s.ok
  | .aluNe _ s _ => s.ok
  | .aluLtS _ s _ => s.ok
  | .aluLtN _ s _ => s.ok
  | .aluLeS _ s _ => s.ok
  | .aluLeN _ s _ => s.ok
  | .aluSel _ s _ => s.ok
  | .aluClz _ s _ => s.ok
  | .aluCtz _ s _ => s.ok
  | .aluPopc _ s _ => s.ok
  | .aluSext _ s _ => s.ok
  | .aluZext _ s _ => s.ok
  | .aluExtr _ s _ => s.ok
  | .aluIns _ s _ => s.ok
  | .aluPass _ s _ => s.ok
  | .aluCat32 _ s _ => s.ok
  | .aluAddsh _ s _ => s.ok
  | .mulMul s _ => s.ok
  | .mulMulhS s _ => s.ok
  | .mulMulhN s _ => s.ok
  | .mulMac s _ => s.ok
  | .mulDivS s _ => s.ok
  | .mulDivN s _ => s.ok
  | .mulRemS s _ => s.ok
  | .mulRemN s _ => s.ok
  | .pand s _ => s.ok
  | .por s _ => s.ok
  | .pxor s _ => s.ok
  | .pandn s _ => s.ok
  | .pnot s _ => s.ok
  | .pall s _ => s.ok
  | .pany s _ => s.ok
  | .pcnt s _ => s.ok
  | .pfirst s _ => s.ok
  | .pmask s _ => s.ok
  | .pfrom s _ => s.ok
  | .pto s _ => s.ok
  | .xlat s _ => s.ok
  | .xlatw s _ => s.ok
  | .hrel s _ => s.ok
  | .hqry s _ => s.ok
  | .hbase s _ => s.ok
  | .ldS8 _ s _ => s.ok
  | .ldN8 _ s _ => s.ok
  | .ldS16 _ s _ => s.ok
  | .ldN16 _ s _ => s.ok
  | .ldS32 _ s _ => s.ok
  | .ldN32 _ s _ => s.ok
  | .ld64 _ s _ => s.ok
  | .st8 _ s _ => s.ok
  | .st16 _ s _ => s.ok
  | .st32 _ s _ => s.ok
  | .st64 _ s _ => s.ok
  | .vld _ s _ => s.ok
  | .vldr _ s _ => s.ok
  | .vst _ s _ => s.ok
  | .vstr _ s _ => s.ok
  | .vldg _ s _ => s.ok
  | .vsts _ s _ => s.ok
  | .gld _ s _ => s.ok
  | .gldt _ s _ => s.ok
  | .groupLoadCombine => true
  | .cellw _ s _ => s.ok
  | .cellwr _ s _ => s.ok
  | .cellr _ s _ => s.ok
  | .cellp _ s _ => s.ok
  | .cellReadSatisfied => true
  | .aadd _ _ s _ => s.ok
  | .aminS _ _ s _ => s.ok
  | .aminN _ _ s _ => s.ok
  | .amaxS _ _ s _ => s.ok
  | .amaxN _ _ s _ => s.ok
  | .aand _ _ s _ => s.ok
  | .aor _ _ s _ => s.ok
  | .axor _ _ s _ => s.ok
  | .aswap _ _ s _ => s.ok
  | .acas _ _ s _ => s.ok
  | .afadd _ s _ => s.ok
  | .atomicPerform => true
  | .osaddF32 _ s _ => s.ok
  | .osaddS32 _ s _ => s.ok
  | .osaddUpdateArrival => true
  | .join s _ => s.ok
  | .leave s _ => s.ok
  | .gbar s _ => s.ok
  | .cbar s _ => s.ok
  | .dbar s _ => s.ok
  | .barrierEpisodeComplete => true
  | .release s _ => s.ok
  | .acquire s _ => s.ok
  | .xfence s _ => s.ok
  | .spawn s _ => s.ok
  | .grow s _ => s.ok
  | .mode s _ => s.ok
  | .frmset s _ => s.ok
  | .bfset s _ => s.ok
  | .bfget s _ => s.ok
  | .evrd s _ => s.ok
  | .evclr s _ => s.ok
  | .evgath s _ => s.ok
  | .vadd _ _ md s _ => md.ok && s.okVector
  | .vsub _ _ md s _ => md.ok && s.okVector
  | .vmul _ _ md s _ => md.ok && s.okVector
  | .vfma _ _ md s _ => md.ok && s.okVector
  | .vfms _ _ md s _ => md.ok && s.okVector
  | .vfnma _ _ md s _ => md.ok && s.okVector
  | .vmin _ _ md s _ => md.ok && s.okVector
  | .vmax _ _ md s _ => md.ok && s.okVector
  | .vclamp _ _ md s _ => md.ok && s.okVector
  | .veq _ _ md s _ => md.ok && s.okVector
  | .vne _ _ md s _ => md.ok && s.okVector
  | .vlt _ _ md s _ => md.ok && s.okVector
  | .vle _ _ md s _ => md.ok && s.okVector
  | .vsel _ _ md s _ => md.ok && s.okVector
  | .vand _ md s _ => md.ok && s.okVector
  | .vor _ md s _ => md.ok && s.okVector
  | .vxor _ md s _ => md.ok && s.okVector
  | .vshl _ _ md s _ => md.ok && s.okVector
  | .vshr _ _ md s _ => md.ok && s.okVector
  | .vsar _ _ md s _ => md.ok && s.okVector
  | .vadds _ _ md s _ => md.ok && s.okVector
  | .vsubs _ _ md s _ => md.ok && s.okVector
  | .vdot4 _ md s _ => md.ok && s.okVector
  | .vscale _ _ md s _ => md.ok && s.okVector
  | .vabs _ md s _ => md.ok && s.okVector
  | .vneg _ md s _ => md.ok && s.okVector
  | .vcvt _ md s _ => md.ok && s.okVector
  | .vrsum _ md s _ => md.ok && s.okVector
  | .vrmax _ md s _ => md.ok && s.okVector
  | .vrmin _ md s _ => md.ok && s.okVector
  | .vexp2 _ md s _ => md.ok && s.okVector
  | .vlog2 _ md s _ => md.ok && s.okVector
  | .vrcp _ md s _ => md.ok && s.okVector
  | .vrsqrt _ md s _ => md.ok && s.okVector
  | .vsqrt _ md s _ => md.ok && s.okVector
  | .vtanh _ md s _ => md.ok && s.okVector
  | .vsigm _ md s _ => md.ok && s.okVector
  | .vshuf _ md s _ => md.ok && s.okVector
  | .vzip _ md s _ => md.ok && s.okVector
  | .vunzip _ md s _ => md.ok && s.okVector
  | .vpack _ md s _ => md.ok && s.okVector
  | .vwiden _ md s _ => md.ok && s.okVector
  | .unpk5 md s _ => md.ok && s.okVector
  | .pack5 md s _ => md.ok && s.okVector
  | .unpkg _ md s _ => md.ok && s.okVector
  | .qntg _ md s _ => md.ok && s.okVector
  | .vcmpr _ md s _ => md.ok && s.okVector
  | .vtopk _ md s _ => md.ok && s.okVector
  | .vsort _ md s _ => md.ok && s.okVector
  | .vbcast _ md s _ => md.ok && s.okVector
  | .vextr _ md s _ => md.ok && s.okVector
  | .vins _ md s _ => md.ok && s.okVector
  | .viota _ md s _ => md.ok && s.okVector
  | .vslide _ md s _ => md.ok && s.okVector
  | .mxcfg md s _ => (match md with | none => s.ok | some md => md.ok && s.okVector)
  | .wld md s _ => (match md with | none => s.ok | some md => md.ok && s.okVector)
  | .wldPageWritten => true
  | .wpage md s _ => (match md with | none => s.ok | some md => md.ok && s.okVector)
  | .astr md s _ => (match md with | none => s.ok | some md => md.ok && s.okVector)
  | .astrPassEntered => true
  | .drain s _ => s.ok
  | .drainVector md s _ => md.ok && s.okVector
  | .drainst md s _ => (match md with | none => s.ok | some md => md.ok && s.okVector)
  | .drainstComplete => true
  | .mxclr md s _ => (match md with | none => s.ok | some md => md.ok && s.okVector)
  | .mxclrTakesEffect => true
  | .mxstat md s _ => (match md with | none => s.ok | some md => md.ok && s.okVector)
  | .scrubRow _ _ _ _ => true
  | .oatt s _ => s.ok
  | .oeph s _ => s.ok
  | .oephTableLoaded => true
  | .oinj s _ => s.ok
  | .oinjCopyComplete => true
  | .ostep s _ => s.ok
  | .stationArmed => true
  | .oslot s _ => s.ok
  | .ocnt s _ => s.ok
  | .omiss s _ => s.ok
  | .olap s _ => s.ok
  | .odet s _ => s.ok
  | .orbitStepBegin => true
  | .orbitStepComplete => true
  | .stationRelease => true
  | .conjunctionTaskStart => true
  | .lapEnd => true
  | .dld s _ => s.ok
  | .dst s _ => s.ok
  | .dcpy s _ => s.ok
  | .dmaTransferComplete _ => true
  | .dprom s _ => s.ok
  | .dstat s _ => s.ok
  | .nsend s _ => s.ok
  | .nsendDelivery _ => true
  | .rld s _ => s.ok
  | .rldServe => true
  | .cqpost s _ => s.ok
  | .copyEntryStart => true
  | .copyEntryRetire => true
  | .cqstat s _ => s.ok
  | .nflag s _ => s.ok
  | .sysrd s _ => s.ok
  | .syswr s _ => s.ok
  | .tret => true
  | .snapsv s _ => s.ok
  | .snapld s _ => s.ok
  | .rfsv s _ => s.ok
  | .rfld s _ => s.ok
  | .hinv s _ => s.ok
  | .iflush s _ => s.ok
  | .resume => true
  | .deliver => true
  | .stub _ => true
  | .ack => true
  | .abandon => true
  | .ptwdlRead => true
  | .ptwdlWrite _ => true
  | .csrWrite _ _ => true
  | .courseEndByFault => true
  | .ctxcreate => true
  | .ctxdestroy => true
  | .launch => true
  | .courseStart => true
  | .gateDispatch => true
  | .growExtension => true
  | .courseRetire => true
  | .signal => true
  | .qstat => true
  | .qresume => true
  | .load => true
  | .retranslationSwap => true
  | .starvationPromotion => true
  | .sliceEnd => true
  | .switchOut => true
  | .forcedPreemption => true
  | .switchIn => true
  | .pageTableWalk => true
  | .handleFaultService => true
  | .revokeHandles => true
  | .revocationAck _ _ => true
  | .migratePage => true
  | .duplicatePage => true
  | .duplicationEnd => true
  | .uncorrectableError _ => true
  | .correctedError _ => true
  | .poisonConsumed _ => true
  | .selfTestComplete _ _ => true
  | .networkFlitFailure _ _ => true
  | .ucieEdgeFailure _ _ => true
  | .thermalThreshold _ _ => true
  | .packageReset => true
  | .diereset => true
  | .diestat => true
  | .errread => true
  | .telem => true
  | .inbox => true
  | .inboxConsumerIndex _ _ _ => true
  | .apertureBadWrite _ _ _ _ => true
  | .attest => true
  | .linkmap => true
  | .linkmapTimeout => true
  | .forwardedWriteArrival _ _ _ _ => true
  | .asidnew _ => true
  | .asidfree _ => true
  | .tableset _ _ => true
  | .leafset _ _ _ _ => true
  | .imgcheck _ => true
  | .attestsign => true
  | .storePerformed => true
  | .packageLinkFailure _ => true
  | .pairingActive _ _ _ => true
  | .badMessage => true
  | .patrolScratchpadAccess _ _ _ _ _ => true

end Sys2Proof
end

