-- ==== Sys2Proof/Decode.lean ====
section
/-! DEFINITION. Decoding, total on any bits and rejecting by name (R191-R217), the legality of a bundle (R205), and
after it the encoder, written from the same tables. -/

namespace Sys2Proof

/-- Why bits are no instruction; all but the last two are the codes of R205. -/
inductive Reject where
  | reservedBits | reservedScope | electOutsideTow | duringSpin | reservedControl | reservedSrc | absentResult
  | reservedDst | absentPort | widthClass | strayOp | unassignedOpcode | reservedMod | doubleWrite | doubleTrigger
  | irrevocable
  /-- Fewer or more than 64 bytes: no bundle (R191). -/
  | notABundle
  /-- A width that no slot has (R195). -/
  | notASlot
  deriving DecidableEq, Repr

/-- The code that "illegal bundle" reports (R205). -/
def Reject.code : Reject → BitVec 8
  | .reservedBits => 0x01
  | .reservedScope => 0x02
  | .electOutsideTow => 0x03
  | .duringSpin => 0x04
  | .reservedControl => 0x05
  | .reservedSrc => 0x06
  | .absentResult => 0x07
  | .reservedDst => 0x08
  | .absentPort => 0x09
  | .widthClass => 0x0A
  | .strayOp => 0x0B
  | .unassignedOpcode => 0x0C
  | .reservedMod => 0x0D
  | .doubleWrite => 0x0E
  | .doubleTrigger => 0x0F
  | .irrevocable => 0x10
  | .notABundle => 0x00
  | .notASlot => 0x00

/-! ### Fields -/

/-- Socket numbers (R14). -/
def Sock.num : Sock → BitVec 6
  | .alu0 => 0x01
  | .alu1 => 0x02
  | .mul => 0x03
  | .prd => 0x04
  | .xlt => 0x05
  | .lsu0 => 0x06
  | .lsu1 => 0x07
  | .sync => 0x08
  | .valu0 => 0x09
  | .valu1 => 0x0A
  | .vsfu => 0x0B
  | .perm => 0x0C
  | .mx => 0x0D
  | .orb => 0x0E
  | .dma => 0x0F
  | .net => 0x10
  | .sys => 0x11

/-- The socket of a number; 0x00 and 0x12-0x3F name none (R199). -/
def Sock.ofNum (n : BitVec 6) : Option Sock :=
  match n.toNat with
  | 0x01 => some .alu0
  | 0x02 => some .alu1
  | 0x03 => some .mul
  | 0x04 => some .prd
  | 0x05 => some .xlt
  | 0x06 => some .lsu0
  | 0x07 => some .lsu1
  | 0x08 => some .sync
  | 0x09 => some .valu0
  | 0x0A => some .valu1
  | 0x0B => some .vsfu
  | 0x0C => some .perm
  | 0x0D => some .mx
  | 0x0E => some .orb
  | 0x0F => some .dma
  | 0x10 => some .net
  | 0x11 => some .sys
  | _ => none

/-- Result-port codes (R197). -/
def RPort.num : RPort → BitVec 2
  | .q => 0
  | .qp => 1
  | .q1 => 2

/-- The result port of a code; 0b11 is reserved (R197). -/
def RPort.ofNum (n : BitVec 2) : Option RPort :=
  match n.toNat with
  | 0 => some .q
  | 1 => some .qp
  | 2 => some .q1
  | _ => none

/-- Operand-port codes (R199). -/
def OPort.num : OPort → BitVec 1
  | .a => 0
  | .b => 1

/-- The operand port of a code (R199). -/
def OPort.ofNum (n : BitVec 1) : OPort := if n = 0 then .a else .b

/-- Special-value numbers (R32). -/
def Special.num : Special → BitVec 6
  | .zero => 0
  | .ones => 1
  | .lane => 2
  | .tid => 3
  | .cid => 4
  | .did => 5
  | .cyc => 6
  | .gserial => 7

/-- The special value of a number; 8-63 are reserved (R32). -/
def Special.ofNum (n : BitVec 6) : Option Special :=
  match n.toNat with
  | 0 => some .zero
  | 1 => some .ones
  | 2 => some .lane
  | 3 => some .tid
  | 4 => some .cid
  | 5 => some .did
  | 6 => some .cyc
  | 7 => some .gserial
  | _ => none

/-- Modifier classes (R202). -/
def ModCls.num : ModCls → BitVec 2
  | .none => 0
  | .rot => 1
  | .bfly => 2
  | .bcast => 3

/-- The modifier class of a code (R202). -/
def ModCls.ofNum (n : BitVec 2) : ModCls :=
  match n.toNat with
  | 0 => .none
  | 1 => .rot
  | 2 => .bfly
  | _ => .bcast

/-- GUARD: bit 5 inverts, bits 4-0 name the predicate (R201). -/
def Guard.enc (g : Guard) : BitVec 6 := (BitVec.ofBool g.inv ++ g.p : BitVec 6)
/-- The guard of six bits (R201). -/
def Guard.dec (b : BitVec 6) : Guard := { inv := b.getLsbD 5, p := b.extractLsb' 0 5 }

/-- MOD (R202): class, granule, segment, distance and the reserved bit 0. -/
def SrcMod.enc (md : SrcMod) : BitVec 12 :=
  (md.cls.num ++ BitVec.ofBool md.gr ++ md.lseg ++ md.dist ++ (0 : BitVec 1) : BitVec 12)

/-- The modifier of twelve bits, refused under R203. -/
def SrcMod.dec (b : BitVec 12) : Except Reject SrcMod :=
  let md : SrcMod := { cls := ModCls.ofNum (b.extractLsb' 10 2), gr := b.getLsbD 9, lseg := b.extractLsb' 6 3,
                       dist := b.extractLsb' 1 5 }
  if b.getLsbD 0 then .error .reservedMod
  else if md.ok then .ok md else .error .reservedMod

/-- SRC (R197). -/
def Src.enc : Src → BitVec 10
  | .m n => (0 : BitVec 4) ++ n
  | .o n => (1 : BitVec 4) ++ (0 : BitVec 3) ++ n
  | .special v => (2 : BitVec 4) ++ v.num
  | .p n => (3 : BitVec 4) ++ (0 : BitVec 1) ++ n
  | .port sk r => (1 : BitVec 2) ++ sk.num ++ r.num
  | .imm8 v => (2 : BitVec 2) ++ v
  | .limmS _ => 0x300
  | .limmZ _ => 0x301
  | .limmHi _ => 0x302

/-- The long immediate a source carries; 0 where it reads none (R194). -/
def Src.limm : Src → BitVec 32
  | .limmS v => v
  | .limmZ v => v
  | .limmHi v => v
  | _ => 0

/-- The source of ten bits in a bundle whose long immediate is `limm` (R197, R198); `vec` for a vector slot. -/
def Src.dec (vec : Bool) (limm : BitVec 32) (b : BitVec 10) : Except Reject Src :=
  let n : BitVec 6 := b.extractLsb' 0 6
  match (b.extractLsb' 8 2 : BitVec 2).toNat with
  | 0 =>
    match (b.extractLsb' 6 2 : BitVec 2).toNat with
    | 0 => .ok (.m n)
    | 1 => if (n.extractLsb' 3 3 : BitVec 3) = 0 then .ok (.o (n.extractLsb' 0 3)) else .error .reservedSrc
    | 2 => match Special.ofNum n with
      | some v => .ok (.special v)
      | none => .error .reservedSrc
    | _ => if n.getLsbD 5 then .error .reservedSrc else .ok (.p (n.extractLsb' 0 5))
  | 1 =>
    match Sock.ofNum (b.extractLsb' 2 6), RPort.ofNum (b.extractLsb' 0 2) with
    | some sk, some r => if sk.hasResult r then .ok (.port sk r) else .error .absentResult
    | _, _ => .error .reservedSrc
  | 2 => .ok (.imm8 (b.extractLsb' 0 8))
  | _ =>
    match (b.extractLsb' 0 8 : BitVec 8).toNat with
    | 0 => .ok (.limmS limm)
    | 1 => .ok (.limmZ limm)
    | 2 => if vec then .error .reservedSrc else .ok (.limmHi limm)
    | _ => .error .reservedSrc

/-- DST of a move (R199). -/
def Dst.enc : Dst → BitVec 9
  | .null => 0
  | .o n => (0 : BitVec 2) ++ (1 : BitVec 4) ++ n
  | .p n => (0 : BitVec 2) ++ (1 : BitVec 2) ++ n
  | .m n => (1 : BitVec 2) ++ (0 : BitVec 1) ++ n
  | .port sk pt => (2 : BitVec 2) ++ sk.num ++ pt.num

/-- What DST names: a destination, or a trigger port (R199). -/
inductive DstCode where
  | move (d : Dst)
  | trigger (sk : Sock)
  deriving DecidableEq, Repr

/-- The destination of nine bits (R199), absent ports refused (R17). -/
def DstCode.dec (b : BitVec 9) : Except Reject DstCode :=
  let low : BitVec 7 := b.extractLsb' 0 7
  match (b.extractLsb' 7 2 : BitVec 2).toNat with
  | 0 =>
    if low = 0 then .ok (.move .null)
    else if (low.extractLsb' 3 4 : BitVec 4) = 1 then .ok (.move (.o (low.extractLsb' 0 3)))
    else if (low.extractLsb' 5 2 : BitVec 2) = 1 then .ok (.move (.p (low.extractLsb' 0 5)))
    else .error .reservedDst
  | 1 => if low.getLsbD 6 then .error .reservedDst else .ok (.move (.m (low.extractLsb' 0 6)))
  | 2 =>
    match Sock.ofNum (low.extractLsb' 1 6) with
    | none => .error .reservedDst
    | some sk =>
      let pt := OPort.ofNum (low.extractLsb' 0 1)
      match sk.operandClass pt with
      | none => .error .absentPort
      | some _ => .ok (.move (.port sk pt))
  | _ =>
    match Sock.ofNum (low.extractLsb' 1 6) with
    | none => .error .reservedDst
    | some sk => if low.getLsbD 0 then .error .reservedDst else .ok (.trigger sk)

/-! ### Opcodes (R207-R216) -/

/-- Offset of a type in F3 (R208). -/
def F3.off : F3 → BitVec 7
  | .f32 => 0
  | .f16 => 1
  | .bf16 => 2

/-- Offset of a type in FI6 (R208). -/
def FI6.off : FI6 → BitVec 7
  | .f32 => 0
  | .f16 => 1
  | .bf16 => 2
  | .i32 => 3
  | .i16 => 4
  | .i8 => 5

/-- Offset of a type in FSN9 (R208). -/
def FSN9.off : FSN9 → BitVec 7
  | .f32 => 0
  | .f16 => 1
  | .bf16 => 2
  | .s32 => 3
  | .s16 => 4
  | .s8 => 5
  | .n32 => 6
  | .n16 => 7
  | .n8 => 8

/-- Offset of a type in SN6 (R208). -/
def SN6.off : SN6 → BitVec 7
  | .s32 => 0
  | .s16 => 1
  | .s8 => 2
  | .n32 => 3
  | .n16 => 4
  | .n8 => 5

/-- Offset of a width in W3 (R208). -/
def W3.off : W3 → BitVec 7
  | .w32 => 0
  | .w16 => 1
  | .w8 => 2

/-- Offset of a pair in SN4 (R208). -/
def SN4.off : SN4 → BitVec 7
  | .s32 => 0
  | .s16 => 1
  | .n32 => 2
  | .n16 => 3

/-- Offset of a group format of UNPKG (R215). -/
def GT2.off : GT2 → BitVec 7
  | .s4g => 0
  | .s3g => 1

/-- Offset of a group format of QNTG (R215). -/
def GT3.off : GT3 → BitVec 7
  | .s4g => 0
  | .s3g => 1
  | .s8 => 2

/-- Offset of an atomic's width (R211). -/
def AWidth.off : AWidth → BitVec 7
  | .w32 => 0
  | .w64 => 1

/-- The alu socket of a twin (R14). -/
def Twin.alu : Twin → Sock
  | .u0 => .alu0
  | .u1 => .alu1

/-- The lsu socket of a twin (R14). -/
def Twin.lsu : Twin → Sock
  | .u0 => .lsu0
  | .u1 => .lsu1

/-- The valu socket of a twin (R14). -/
def Twin.valu : Twin → Sock
  | .u0 => .valu0
  | .u1 => .valu1

/-- The parts of a slot's word: what the encoder packs and the decoder reads. -/
inductive SlotCode where
  | control (opc : BitVec 7) (operand : BitVec 19) (g : Guard)
  | move (d : Dst) (s : Src) (g : Guard)
  | moveV (d : Dst) (md : SrcMod) (s : Src) (g : Guard)
  | trigger (sk : Sock) (op : BitVec 7) (s : Src) (g : Guard)
  | triggerV (sk : Sock) (op : BitVec 7) (md : SrcMod) (s : Src) (g : Guard)
  | bundle (b : BitVec 512)
  /-- A step of another agent: no encoding. -/
  | agent
  deriving DecidableEq, Repr

/-- The slot, socket and opcode of each operation (R209-R216). -/
def Instr.slotCode : Instr → SlotCode
  | .bundleIssue b => .bundle b
  | .bundleFetch => .agent
  | .timedResultLands => .agent
  | .interlockedResultDelivered _ => .agent
  | .drainBitWaitEnd => .agent
  | .move d s g => .move d s g
  | .moveVector d md s g => .moveV d md s g
  | .nop g => .control 0x00 0 g
  | .br off g => .control 0x01 off g
  | .brp off g => .control 0x02 off g
  | .brn off g => .control 0x03 off g
  | .call off g => .control 0x04 off g
  | .ret n g => .control 0x05 ((0 : BitVec 16) ++ n) g
  | .loop n len g => .control 0x06 (n ++ (0 : BitVec 5) ++ len) g
  | .spin n step k g => .control 0x07 (n ++ step ++ k) g
  | .wait count g => .control 0x08 count g
  | .waitu n g => .control 0x09 ((0 : BitVec 16) ++ n) g
  | .waituEnd => .agent
  | .promiseMissed => .agent
  | .waitb n g => .control 0x0A ((0 : BitVec 16) ++ n) g
  | .waitbSatisfied => .agent
  | .waitExpired => .agent
  | .taskend g => .control 0x0B 0 g
  | .safe g => .control 0x0C 0 g
  | .trapu code g => .control 0x0D ((0 : BitVec 3) ++ code) g
  | .ilock pk n g => .control 0x0E ((0 : BitVec 11) ++ pk ++ n) g
  | .iunlock pk n g => .control 0x0F ((0 : BitVec 11) ++ pk ++ n) g
  | .aluAdd u s g => .trigger u.alu 0x01 s g
  | .aluSub u s g => .trigger u.alu 0x02 s g
  | .aluAnd u s g => .trigger u.alu 0x03 s g
  | .aluOr u s g => .trigger u.alu 0x04 s g
  | .aluXor u s g => .trigger u.alu 0x05 s g
  | .aluAndn u s g => .trigger u.alu 0x06 s g
  | .aluShl u s g => .trigger u.alu 0x07 s g
  | .aluShr u s g => .trigger u.alu 0x08 s g
  | .aluSar u s g => .trigger u.alu 0x09 s g
  | .aluRol u s g => .trigger u.alu 0x0A s g
  | .aluMinS u s g => .trigger u.alu 0x0B s g
  | .aluMinN u s g => .trigger u.alu 0x0C s g
  | .aluMaxS u s g => .trigger u.alu 0x0D s g
  | .aluMaxN u s g => .trigger u.alu 0x0E s g
  | .aluEq u s g => .trigger u.alu 0x0F s g
  | .aluNe u s g => .trigger u.alu 0x10 s g
  | .aluLtS u s g => .trigger u.alu 0x11 s g
  | .aluLtN u s g => .trigger u.alu 0x12 s g
  | .aluLeS u s g => .trigger u.alu 0x13 s g
  | .aluLeN u s g => .trigger u.alu 0x14 s g
  | .aluSel u s g => .trigger u.alu 0x15 s g
  | .aluClz u s g => .trigger u.alu 0x16 s g
  | .aluCtz u s g => .trigger u.alu 0x17 s g
  | .aluPopc u s g => .trigger u.alu 0x18 s g
  | .aluSext u s g => .trigger u.alu 0x19 s g
  | .aluZext u s g => .trigger u.alu 0x1A s g
  | .aluExtr u s g => .trigger u.alu 0x1B s g
  | .aluIns u s g => .trigger u.alu 0x1C s g
  | .aluPass u s g => .trigger u.alu 0x1D s g
  | .aluCat32 u s g => .trigger u.alu 0x1E s g
  | .aluAddsh u s g => .trigger u.alu 0x1F s g
  | .mulMul s g => .trigger .mul 0x01 s g
  | .mulMulhS s g => .trigger .mul 0x02 s g
  | .mulMulhN s g => .trigger .mul 0x03 s g
  | .mulMac s g => .trigger .mul 0x04 s g
  | .mulDivS s g => .trigger .mul 0x05 s g
  | .mulDivN s g => .trigger .mul 0x06 s g
  | .mulRemS s g => .trigger .mul 0x07 s g
  | .mulRemN s g => .trigger .mul 0x08 s g
  | .pand s g => .trigger .prd 0x01 s g
  | .por s g => .trigger .prd 0x02 s g
  | .pxor s g => .trigger .prd 0x03 s g
  | .pandn s g => .trigger .prd 0x04 s g
  | .pnot s g => .trigger .prd 0x05 s g
  | .pall s g => .trigger .prd 0x06 s g
  | .pany s g => .trigger .prd 0x07 s g
  | .pcnt s g => .trigger .prd 0x08 s g
  | .pfirst s g => .trigger .prd 0x09 s g
  | .pmask s g => .trigger .prd 0x0A s g
  | .pfrom s g => .trigger .prd 0x0B s g
  | .pto s g => .trigger .prd 0x0C s g
  | .xlat s g => .trigger .xlt 0x01 s g
  | .xlatw s g => .trigger .xlt 0x02 s g
  | .hrel s g => .trigger .xlt 0x03 s g
  | .hqry s g => .trigger .xlt 0x04 s g
  | .hbase s g => .trigger .xlt 0x05 s g
  | .ldS8 u s g => .trigger u.lsu 0x01 s g
  | .ldN8 u s g => .trigger u.lsu 0x02 s g
  | .ldS16 u s g => .trigger u.lsu 0x03 s g
  | .ldN16 u s g => .trigger u.lsu 0x04 s g
  | .ldS32 u s g => .trigger u.lsu 0x05 s g
  | .ldN32 u s g => .trigger u.lsu 0x06 s g
  | .ld64 u s g => .trigger u.lsu 0x07 s g
  | .st8 u s g => .trigger u.lsu 0x08 s g
  | .st16 u s g => .trigger u.lsu 0x09 s g
  | .st32 u s g => .trigger u.lsu 0x0A s g
  | .st64 u s g => .trigger u.lsu 0x0B s g
  | .vld u s g => .trigger u.lsu 0x0C s g
  | .vldr u s g => .trigger u.lsu 0x0D s g
  | .vst u s g => .trigger u.lsu 0x0E s g
  | .vstr u s g => .trigger u.lsu 0x0F s g
  | .vldg u s g => .trigger u.lsu 0x10 s g
  | .vsts u s g => .trigger u.lsu 0x11 s g
  | .gld u s g => .trigger u.lsu 0x12 s g
  | .gldt u s g => .trigger u.lsu 0x13 s g
  | .groupLoadCombine => .agent
  | .cellw u s g => .trigger u.lsu 0x14 s g
  | .cellwr u s g => .trigger u.lsu 0x15 s g
  | .cellr u s g => .trigger u.lsu 0x16 s g
  | .cellp u s g => .trigger u.lsu 0x17 s g
  | .cellReadSatisfied => .agent
  | .aadd w u s g => .trigger u.lsu (0x18 + w.off) s g
  | .aminS w u s g => .trigger u.lsu (0x1A + w.off) s g
  | .aminN w u s g => .trigger u.lsu (0x1C + w.off) s g
  | .amaxS w u s g => .trigger u.lsu (0x1E + w.off) s g
  | .amaxN w u s g => .trigger u.lsu (0x20 + w.off) s g
  | .aand w u s g => .trigger u.lsu (0x22 + w.off) s g
  | .aor w u s g => .trigger u.lsu (0x24 + w.off) s g
  | .axor w u s g => .trigger u.lsu (0x26 + w.off) s g
  | .aswap w u s g => .trigger u.lsu (0x28 + w.off) s g
  | .acas w u s g => .trigger u.lsu (0x2A + w.off) s g
  | .afadd u s g => .trigger u.lsu 0x2C s g
  | .atomicPerform => .agent
  | .osaddF32 u s g => .trigger u.lsu 0x2D s g
  | .osaddS32 u s g => .trigger u.lsu 0x2E s g
  | .osaddUpdateArrival => .agent
  | .join s g => .trigger .sync 0x01 s g
  | .leave s g => .trigger .sync 0x02 s g
  | .gbar s g => .trigger .sync 0x03 s g
  | .cbar s g => .trigger .sync 0x04 s g
  | .dbar s g => .trigger .sync 0x05 s g
  | .barrierEpisodeComplete => .agent
  | .release s g => .trigger .sync 0x06 s g
  | .acquire s g => .trigger .sync 0x07 s g
  | .xfence s g => .trigger .sync 0x08 s g
  | .spawn s g => .trigger .sync 0x09 s g
  | .grow s g => .trigger .sync 0x0A s g
  | .mode s g => .trigger .sync 0x0B s g
  | .frmset s g => .trigger .sync 0x0C s g
  | .bfset s g => .trigger .sync 0x0D s g
  | .bfget s g => .trigger .sync 0x0E s g
  | .evrd s g => .trigger .sync 0x0F s g
  | .evclr s g => .trigger .sync 0x10 s g
  | .evgath s g => .trigger .sync 0x11 s g
  | .vadd u ty md s g => .triggerV u.valu (0x01 + ty.off) md s g
  | .vsub u ty md s g => .triggerV u.valu (0x07 + ty.off) md s g
  | .vmul u ty md s g => .triggerV u.valu (0x0D + ty.off) md s g
  | .vfma u ty md s g => .triggerV u.valu (0x13 + ty.off) md s g
  | .vfms u ty md s g => .triggerV u.valu (0x16 + ty.off) md s g
  | .vfnma u ty md s g => .triggerV u.valu (0x19 + ty.off) md s g
  | .vmin u ty md s g => .triggerV u.valu (0x1C + ty.off) md s g
  | .vmax u ty md s g => .triggerV u.valu (0x25 + ty.off) md s g
  | .vclamp u ty md s g => .triggerV u.valu (0x4C + ty.off) md s g
  | .veq u ty md s g => .triggerV u.valu (0x2E + ty.off) md s g
  | .vne u ty md s g => .triggerV u.valu (0x34 + ty.off) md s g
  | .vlt u ty md s g => .triggerV u.valu (0x3A + ty.off) md s g
  | .vle u ty md s g => .triggerV u.valu (0x43 + ty.off) md s g
  | .vsel u ty md s g => .triggerV u.valu (0x55 + ty.off) md s g
  | .vand u md s g => .triggerV u.valu 0x58 md s g
  | .vor u md s g => .triggerV u.valu 0x59 md s g
  | .vxor u md s g => .triggerV u.valu 0x5A md s g
  | .vshl u ty md s g => .triggerV u.valu (0x5B + ty.off) md s g
  | .vshr u ty md s g => .triggerV u.valu (0x5E + ty.off) md s g
  | .vsar u ty md s g => .triggerV u.valu (0x61 + ty.off) md s g
  | .vadds u ty md s g => .triggerV u.valu (0x64 + ty.off) md s g
  | .vsubs u ty md s g => .triggerV u.valu (0x6A + ty.off) md s g
  | .vdot4 u md s g => .triggerV u.valu 0x70 md s g
  | .vscale u ty md s g => .triggerV u.valu (0x71 + ty.off) md s g
  | .vabs u md s g => .triggerV u.valu 0x74 md s g
  | .vneg u md s g => .triggerV u.valu 0x75 md s g
  | .vcvt u md s g => .triggerV u.valu 0x76 md s g
  | .vrsum u md s g => .triggerV u.valu 0x77 md s g
  | .vrmax u md s g => .triggerV u.valu 0x78 md s g
  | .vrmin u md s g => .triggerV u.valu 0x79 md s g
  | .vexp2 ty md s g => .triggerV .vsfu (0x01 + ty.off) md s g
  | .vlog2 ty md s g => .triggerV .vsfu (0x04 + ty.off) md s g
  | .vrcp ty md s g => .triggerV .vsfu (0x07 + ty.off) md s g
  | .vrsqrt ty md s g => .triggerV .vsfu (0x0A + ty.off) md s g
  | .vsqrt ty md s g => .triggerV .vsfu (0x0D + ty.off) md s g
  | .vtanh ty md s g => .triggerV .vsfu (0x10 + ty.off) md s g
  | .vsigm ty md s g => .triggerV .vsfu (0x13 + ty.off) md s g
  | .vshuf ty md s g => .triggerV .perm (0x01 + ty.off) md s g
  | .vzip ty md s g => .triggerV .perm (0x04 + ty.off) md s g
  | .vunzip ty md s g => .triggerV .perm (0x07 + ty.off) md s g
  | .vpack ty md s g => .triggerV .perm (0x0A + ty.off) md s g
  | .vwiden ty md s g => .triggerV .perm (0x0E + ty.off) md s g
  | .unpk5 md s g => .triggerV .perm 0x12 md s g
  | .pack5 md s g => .triggerV .perm 0x13 md s g
  | .unpkg ty md s g => .triggerV .perm (0x14 + ty.off) md s g
  | .qntg ty md s g => .triggerV .perm (0x16 + ty.off) md s g
  | .vcmpr ty md s g => .triggerV .perm (0x19 + ty.off) md s g
  | .vtopk ty md s g => .triggerV .perm (0x22 + ty.off) md s g
  | .vsort ty md s g => .triggerV .perm (0x2B + ty.off) md s g
  | .vbcast ty md s g => .triggerV .perm (0x34 + ty.off) md s g
  | .vextr ty md s g => .triggerV .perm (0x37 + ty.off) md s g
  | .vins ty md s g => .triggerV .perm (0x3A + ty.off) md s g
  | .viota ty md s g => .triggerV .perm (0x3D + ty.off) md s g
  | .vslide ty md s g => .triggerV .perm (0x40 + ty.off) md s g
  | .mxcfg none s g => .trigger .mx 0x01 s g
  | .mxcfg (some md) s g => .triggerV .mx 0x01 md s g
  | .wld none s g => .trigger .mx 0x02 s g
  | .wld (some md) s g => .triggerV .mx 0x02 md s g
  | .wldPageWritten => .agent
  | .wpage none s g => .trigger .mx 0x03 s g
  | .wpage (some md) s g => .triggerV .mx 0x03 md s g
  | .astr none s g => .trigger .mx 0x04 s g
  | .astr (some md) s g => .triggerV .mx 0x04 md s g
  | .astrPassEntered => .agent
  | .drain s g => .trigger .mx 0x05 s g
  | .drainVector md s g => .triggerV .mx 0x05 md s g
  | .drainst none s g => .trigger .mx 0x06 s g
  | .drainst (some md) s g => .triggerV .mx 0x06 md s g
  | .drainstComplete => .agent
  | .mxclr none s g => .trigger .mx 0x07 s g
  | .mxclr (some md) s g => .triggerV .mx 0x07 md s g
  | .mxclrTakesEffect => .agent
  | .mxstat none s g => .trigger .mx 0x08 s g
  | .mxstat (some md) s g => .triggerV .mx 0x08 md s g
  | .scrubRow _ _ _ _ => .agent
  | .oatt s g => .trigger .orb 0x01 s g
  | .oeph s g => .trigger .orb 0x02 s g
  | .oephTableLoaded => .agent
  | .oinj s g => .trigger .orb 0x03 s g
  | .oinjCopyComplete => .agent
  | .ostep s g => .trigger .orb 0x04 s g
  | .stationArmed => .agent
  | .oslot s g => .trigger .orb 0x05 s g
  | .ocnt s g => .trigger .orb 0x06 s g
  | .omiss s g => .trigger .orb 0x07 s g
  | .olap s g => .trigger .orb 0x08 s g
  | .odet s g => .trigger .orb 0x09 s g
  | .orbitStepBegin => .agent
  | .orbitStepComplete => .agent
  | .stationRelease => .agent
  | .conjunctionTaskStart => .agent
  | .lapEnd => .agent
  | .dld s g => .trigger .dma 0x01 s g
  | .dst s g => .trigger .dma 0x02 s g
  | .dcpy s g => .trigger .dma 0x03 s g
  | .dmaTransferComplete _ => .agent
  | .dprom s g => .trigger .dma 0x04 s g
  | .dstat s g => .trigger .dma 0x05 s g
  | .nsend s g => .trigger .net 0x01 s g
  | .nsendDelivery _ => .agent
  | .rld s g => .trigger .net 0x02 s g
  | .rldServe => .agent
  | .cqpost s g => .trigger .net 0x03 s g
  | .copyEntryStart => .agent
  | .copyEntryRetire => .agent
  | .cqstat s g => .trigger .net 0x04 s g
  | .nflag s g => .trigger .net 0x05 s g
  | .sysrd s g => .trigger .sys 0x01 s g
  | .syswr s g => .trigger .sys 0x02 s g
  | .tret => .agent
  | .snapsv s g => .trigger .sys 0x03 s g
  | .snapld s g => .trigger .sys 0x04 s g
  | .rfsv s g => .trigger .sys 0x05 s g
  | .rfld s g => .trigger .sys 0x06 s g
  | .hinv s g => .trigger .sys 0x07 s g
  | .iflush s g => .trigger .sys 0x08 s g
  | .resume => .agent
  | .deliver => .agent
  | .stub _ => .agent
  | .ack => .agent
  | .abandon => .agent
  | .ptwdlRead => .agent
  | .ptwdlWrite _ => .agent
  | .csrWrite _ _ => .agent
  | .courseEndByFault => .agent
  | .ctxcreate => .agent
  | .ctxdestroy => .agent
  | .launch => .agent
  | .courseStart => .agent
  | .gateDispatch => .agent
  | .growExtension => .agent
  | .courseRetire => .agent
  | .signal => .agent
  | .qstat => .agent
  | .qresume => .agent
  | .load => .agent
  | .retranslationSwap => .agent
  | .starvationPromotion => .agent
  | .sliceEnd => .agent
  | .switchOut => .agent
  | .forcedPreemption => .agent
  | .switchIn => .agent
  | .pageTableWalk => .agent
  | .handleFaultService => .agent
  | .revokeHandles => .agent
  | .revocationAck _ _ => .agent
  | .migratePage => .agent
  | .duplicatePage => .agent
  | .duplicationEnd => .agent
  | .uncorrectableError _ => .agent
  | .correctedError _ => .agent
  | .poisonConsumed _ => .agent
  | .selfTestComplete _ _ => .agent
  | .networkFlitFailure _ _ => .agent
  | .ucieEdgeFailure _ _ => .agent
  | .thermalThreshold _ _ => .agent
  | .packageReset => .agent
  | .diereset => .agent
  | .diestat => .agent
  | .errread => .agent
  | .telem => .agent
  | .inbox => .agent
  | .inboxConsumerIndex _ _ _ => .agent
  | .apertureBadWrite _ _ _ _ => .agent
  | .attest => .agent
  | .linkmap => .agent
  | .linkmapTimeout => .agent
  | .forwardedWriteArrival _ _ _ _ => .agent
  | .asidnew _ => .agent
  | .asidfree _ => .agent
  | .tableset _ _ => .agent
  | .leafset _ _ _ _ => .agent
  | .imgcheck _ => .agent
  | .attestsign => .agent
  | .storePerformed => .agent
  | .packageLinkFailure _ => .agent
  | .pairingActive _ _ _ => .agent
  | .badMessage => .agent
  | .patrolScratchpadAccess _ _ _ _ _ => .agent

/-- The control operation of an opcode and operand; `none` for a reserved opcode or operand value (R193, R209, R225). -/
def controlOf (opc : BitVec 7) (x : BitVec 19) (g : Guard) : Option Instr :=
  let n : BitVec 3 := x.extractLsb' 0 3
  let short (i : Instr) : Option Instr := if (x.extractLsb' 3 16 : BitVec 16) = 0 then some i else none
  let bare (i : Instr) : Option Instr := if x = 0 then some i else none
  let lock (i : Instr) : Option Instr := if (x.extractLsb' 8 11 : BitVec 11) = 0 then some i else none
  match opc.toNat with
  | 0x00 => bare (.nop g)
  | 0x01 => some (.br x g)
  | 0x02 => some (.brp x g)
  | 0x03 => some (.brn x g)
  | 0x04 => some (.call x g)
  | 0x05 => short (.ret n g)
  | 0x06 => if (x.extractLsb' 11 5 : BitVec 5) = 0 then some (.loop (x.extractLsb' 16 3) (x.extractLsb' 0 11) g) else none
  | 0x07 => some (.spin (x.extractLsb' 10 9) (x.extractLsb' 4 6) (x.extractLsb' 0 4) g)
  | 0x08 => some (.wait x g)
  | 0x09 => short (.waitu n g)
  | 0x0A => short (.waitb n g)
  | 0x0B => bare (.taskend g)
  | 0x0C => bare (.safe g)
  | 0x0D => if (x.extractLsb' 16 3 : BitVec 3) = 0 then some (.trapu (x.extractLsb' 0 16) g) else none
  | 0x0E => lock (.ilock (x.extractLsb' 3 5) n g)
  | 0x0F => lock (.iunlock (x.extractLsb' 3 5) n g)
  | _ => none

/-- The operations of alu by opcode (R210). -/
def aluOf (u : Twin) (op : BitVec 7) (s : Src) (g : Guard) : Option Instr :=
  match op.toNat with
  | 0x01 => some (.aluAdd u s g)
  | 0x02 => some (.aluSub u s g)
  | 0x03 => some (.aluAnd u s g)
  | 0x04 => some (.aluOr u s g)
  | 0x05 => some (.aluXor u s g)
  | 0x06 => some (.aluAndn u s g)
  | 0x07 => some (.aluShl u s g)
  | 0x08 => some (.aluShr u s g)
  | 0x09 => some (.aluSar u s g)
  | 0x0A => some (.aluRol u s g)
  | 0x0B => some (.aluMinS u s g)
  | 0x0C => some (.aluMinN u s g)
  | 0x0D => some (.aluMaxS u s g)
  | 0x0E => some (.aluMaxN u s g)
  | 0x0F => some (.aluEq u s g)
  | 0x10 => some (.aluNe u s g)
  | 0x11 => some (.aluLtS u s g)
  | 0x12 => some (.aluLtN u s g)
  | 0x13 => some (.aluLeS u s g)
  | 0x14 => some (.aluLeN u s g)
  | 0x15 => some (.aluSel u s g)
  | 0x16 => some (.aluClz u s g)
  | 0x17 => some (.aluCtz u s g)
  | 0x18 => some (.aluPopc u s g)
  | 0x19 => some (.aluSext u s g)
  | 0x1A => some (.aluZext u s g)
  | 0x1B => some (.aluExtr u s g)
  | 0x1C => some (.aluIns u s g)
  | 0x1D => some (.aluPass u s g)
  | 0x1E => some (.aluCat32 u s g)
  | 0x1F => some (.aluAddsh u s g)
  | _ => none

/-- The operations of mul by opcode (R210). -/
def mulOf (op : BitVec 7) (s : Src) (g : Guard) : Option Instr :=
  match op.toNat with
  | 0x01 => some (.mulMul s g)
  | 0x02 => some (.mulMulhS s g)
  | 0x03 => some (.mulMulhN s g)
  | 0x04 => some (.mulMac s g)
  | 0x05 => some (.mulDivS s g)
  | 0x06 => some (.mulDivN s g)
  | 0x07 => some (.mulRemS s g)
  | 0x08 => some (.mulRemN s g)
  | _ => none

/-- The operations of prd by opcode (R210). -/
def prdOf (op : BitVec 7) (s : Src) (g : Guard) : Option Instr :=
  match op.toNat with
  | 0x01 => some (.pand s g)
  | 0x02 => some (.por s g)
  | 0x03 => some (.pxor s g)
  | 0x04 => some (.pandn s g)
  | 0x05 => some (.pnot s g)
  | 0x06 => some (.pall s g)
  | 0x07 => some (.pany s g)
  | 0x08 => some (.pcnt s g)
  | 0x09 => some (.pfirst s g)
  | 0x0A => some (.pmask s g)
  | 0x0B => some (.pfrom s g)
  | 0x0C => some (.pto s g)
  | _ => none

/-- The operations of xlt by opcode (R210). -/
def xltOf (op : BitVec 7) (s : Src) (g : Guard) : Option Instr :=
  match op.toNat with
  | 0x01 => some (.xlat s g)
  | 0x02 => some (.xlatw s g)
  | 0x03 => some (.hrel s g)
  | 0x04 => some (.hqry s g)
  | 0x05 => some (.hbase s g)
  | _ => none

/-- The operations of lsu by opcode (R211). -/
def lsuOf (u : Twin) (op : BitVec 7) (s : Src) (g : Guard) : Option Instr :=
  match op.toNat with
  | 0x01 => some (.ldS8 u s g)
  | 0x02 => some (.ldN8 u s g)
  | 0x03 => some (.ldS16 u s g)
  | 0x04 => some (.ldN16 u s g)
  | 0x05 => some (.ldS32 u s g)
  | 0x06 => some (.ldN32 u s g)
  | 0x07 => some (.ld64 u s g)
  | 0x08 => some (.st8 u s g)
  | 0x09 => some (.st16 u s g)
  | 0x0A => some (.st32 u s g)
  | 0x0B => some (.st64 u s g)
  | 0x0C => some (.vld u s g)
  | 0x0D => some (.vldr u s g)
  | 0x0E => some (.vst u s g)
  | 0x0F => some (.vstr u s g)
  | 0x10 => some (.vldg u s g)
  | 0x11 => some (.vsts u s g)
  | 0x12 => some (.gld u s g)
  | 0x13 => some (.gldt u s g)
  | 0x14 => some (.cellw u s g)
  | 0x15 => some (.cellwr u s g)
  | 0x16 => some (.cellr u s g)
  | 0x17 => some (.cellp u s g)
  | 0x18 => some (.aadd .w32 u s g)
  | 0x19 => some (.aadd .w64 u s g)
  | 0x1A => some (.aminS .w32 u s g)
  | 0x1B => some (.aminS .w64 u s g)
  | 0x1C => some (.aminN .w32 u s g)
  | 0x1D => some (.aminN .w64 u s g)
  | 0x1E => some (.amaxS .w32 u s g)
  | 0x1F => some (.amaxS .w64 u s g)
  | 0x20 => some (.amaxN .w32 u s g)
  | 0x21 => some (.amaxN .w64 u s g)
  | 0x22 => some (.aand .w32 u s g)
  | 0x23 => some (.aand .w64 u s g)
  | 0x24 => some (.aor .w32 u s g)
  | 0x25 => some (.aor .w64 u s g)
  | 0x26 => some (.axor .w32 u s g)
  | 0x27 => some (.axor .w64 u s g)
  | 0x28 => some (.aswap .w32 u s g)
  | 0x29 => some (.aswap .w64 u s g)
  | 0x2A => some (.acas .w32 u s g)
  | 0x2B => some (.acas .w64 u s g)
  | 0x2C => some (.afadd u s g)
  | 0x2D => some (.osaddF32 u s g)
  | 0x2E => some (.osaddS32 u s g)
  | _ => none

/-- The operations of sync by opcode (R212). -/
def syncOf (op : BitVec 7) (s : Src) (g : Guard) : Option Instr :=
  match op.toNat with
  | 0x01 => some (.join s g)
  | 0x02 => some (.leave s g)
  | 0x03 => some (.gbar s g)
  | 0x04 => some (.cbar s g)
  | 0x05 => some (.dbar s g)
  | 0x06 => some (.release s g)
  | 0x07 => some (.acquire s g)
  | 0x08 => some (.xfence s g)
  | 0x09 => some (.spawn s g)
  | 0x0A => some (.grow s g)
  | 0x0B => some (.mode s g)
  | 0x0C => some (.frmset s g)
  | 0x0D => some (.bfset s g)
  | 0x0E => some (.bfget s g)
  | 0x0F => some (.evrd s g)
  | 0x10 => some (.evclr s g)
  | 0x11 => some (.evgath s g)
  | _ => none

/-- The operations of valu by opcode (R213). -/
def valuOf (u : Twin) (op : BitVec 7) (md : SrcMod) (s : Src) (g : Guard) : Option Instr :=
  match op.toNat with
  | 0x01 => some (.vadd u .f32 md s g)
  | 0x02 => some (.vadd u .f16 md s g)
  | 0x03 => some (.vadd u .bf16 md s g)
  | 0x04 => some (.vadd u .i32 md s g)
  | 0x05 => some (.vadd u .i16 md s g)
  | 0x06 => some (.vadd u .i8 md s g)
  | 0x07 => some (.vsub u .f32 md s g)
  | 0x08 => some (.vsub u .f16 md s g)
  | 0x09 => some (.vsub u .bf16 md s g)
  | 0x0A => some (.vsub u .i32 md s g)
  | 0x0B => some (.vsub u .i16 md s g)
  | 0x0C => some (.vsub u .i8 md s g)
  | 0x0D => some (.vmul u .f32 md s g)
  | 0x0E => some (.vmul u .f16 md s g)
  | 0x0F => some (.vmul u .bf16 md s g)
  | 0x10 => some (.vmul u .i32 md s g)
  | 0x11 => some (.vmul u .i16 md s g)
  | 0x12 => some (.vmul u .i8 md s g)
  | 0x13 => some (.vfma u .f32 md s g)
  | 0x14 => some (.vfma u .f16 md s g)
  | 0x15 => some (.vfma u .bf16 md s g)
  | 0x16 => some (.vfms u .f32 md s g)
  | 0x17 => some (.vfms u .f16 md s g)
  | 0x18 => some (.vfms u .bf16 md s g)
  | 0x19 => some (.vfnma u .f32 md s g)
  | 0x1A => some (.vfnma u .f16 md s g)
  | 0x1B => some (.vfnma u .bf16 md s g)
  | 0x1C => some (.vmin u .f32 md s g)
  | 0x1D => some (.vmin u .f16 md s g)
  | 0x1E => some (.vmin u .bf16 md s g)
  | 0x1F => some (.vmin u .s32 md s g)
  | 0x20 => some (.vmin u .s16 md s g)
  | 0x21 => some (.vmin u .s8 md s g)
  | 0x22 => some (.vmin u .n32 md s g)
  | 0x23 => some (.vmin u .n16 md s g)
  | 0x24 => some (.vmin u .n8 md s g)
  | 0x25 => some (.vmax u .f32 md s g)
  | 0x26 => some (.vmax u .f16 md s g)
  | 0x27 => some (.vmax u .bf16 md s g)
  | 0x28 => some (.vmax u .s32 md s g)
  | 0x29 => some (.vmax u .s16 md s g)
  | 0x2A => some (.vmax u .s8 md s g)
  | 0x2B => some (.vmax u .n32 md s g)
  | 0x2C => some (.vmax u .n16 md s g)
  | 0x2D => some (.vmax u .n8 md s g)
  | 0x2E => some (.veq u .f32 md s g)
  | 0x2F => some (.veq u .f16 md s g)
  | 0x30 => some (.veq u .bf16 md s g)
  | 0x31 => some (.veq u .i32 md s g)
  | 0x32 => some (.veq u .i16 md s g)
  | 0x33 => some (.veq u .i8 md s g)
  | 0x34 => some (.vne u .f32 md s g)
  | 0x35 => some (.vne u .f16 md s g)
  | 0x36 => some (.vne u .bf16 md s g)
  | 0x37 => some (.vne u .i32 md s g)
  | 0x38 => some (.vne u .i16 md s g)
  | 0x39 => some (.vne u .i8 md s g)
  | 0x3A => some (.vlt u .f32 md s g)
  | 0x3B => some (.vlt u .f16 md s g)
  | 0x3C => some (.vlt u .bf16 md s g)
  | 0x3D => some (.vlt u .s32 md s g)
  | 0x3E => some (.vlt u .s16 md s g)
  | 0x3F => some (.vlt u .s8 md s g)
  | 0x40 => some (.vlt u .n32 md s g)
  | 0x41 => some (.vlt u .n16 md s g)
  | 0x42 => some (.vlt u .n8 md s g)
  | 0x43 => some (.vle u .f32 md s g)
  | 0x44 => some (.vle u .f16 md s g)
  | 0x45 => some (.vle u .bf16 md s g)
  | 0x46 => some (.vle u .s32 md s g)
  | 0x47 => some (.vle u .s16 md s g)
  | 0x48 => some (.vle u .s8 md s g)
  | 0x49 => some (.vle u .n32 md s g)
  | 0x4A => some (.vle u .n16 md s g)
  | 0x4B => some (.vle u .n8 md s g)
  | 0x4C => some (.vclamp u .f32 md s g)
  | 0x4D => some (.vclamp u .f16 md s g)
  | 0x4E => some (.vclamp u .bf16 md s g)
  | 0x4F => some (.vclamp u .s32 md s g)
  | 0x50 => some (.vclamp u .s16 md s g)
  | 0x51 => some (.vclamp u .s8 md s g)
  | 0x52 => some (.vclamp u .n32 md s g)
  | 0x53 => some (.vclamp u .n16 md s g)
  | 0x54 => some (.vclamp u .n8 md s g)
  | 0x55 => some (.vsel u .w32 md s g)
  | 0x56 => some (.vsel u .w16 md s g)
  | 0x57 => some (.vsel u .w8 md s g)
  | 0x58 => some (.vand u md s g)
  | 0x59 => some (.vor u md s g)
  | 0x5A => some (.vxor u md s g)
  | 0x5B => some (.vshl u .w32 md s g)
  | 0x5C => some (.vshl u .w16 md s g)
  | 0x5D => some (.vshl u .w8 md s g)
  | 0x5E => some (.vshr u .w32 md s g)
  | 0x5F => some (.vshr u .w16 md s g)
  | 0x60 => some (.vshr u .w8 md s g)
  | 0x61 => some (.vsar u .w32 md s g)
  | 0x62 => some (.vsar u .w16 md s g)
  | 0x63 => some (.vsar u .w8 md s g)
  | 0x64 => some (.vadds u .s32 md s g)
  | 0x65 => some (.vadds u .s16 md s g)
  | 0x66 => some (.vadds u .s8 md s g)
  | 0x67 => some (.vadds u .n32 md s g)
  | 0x68 => some (.vadds u .n16 md s g)
  | 0x69 => some (.vadds u .n8 md s g)
  | 0x6A => some (.vsubs u .s32 md s g)
  | 0x6B => some (.vsubs u .s16 md s g)
  | 0x6C => some (.vsubs u .s8 md s g)
  | 0x6D => some (.vsubs u .n32 md s g)
  | 0x6E => some (.vsubs u .n16 md s g)
  | 0x6F => some (.vsubs u .n8 md s g)
  | 0x70 => some (.vdot4 u md s g)
  | 0x71 => some (.vscale u .f32 md s g)
  | 0x72 => some (.vscale u .f16 md s g)
  | 0x73 => some (.vscale u .bf16 md s g)
  | 0x74 => some (.vabs u md s g)
  | 0x75 => some (.vneg u md s g)
  | 0x76 => some (.vcvt u md s g)
  | 0x77 => some (.vrsum u md s g)
  | 0x78 => some (.vrmax u md s g)
  | 0x79 => some (.vrmin u md s g)
  | _ => none

/-- The operations of vsfu by opcode (R215). -/
def vsfuOf (op : BitVec 7) (md : SrcMod) (s : Src) (g : Guard) : Option Instr :=
  match op.toNat with
  | 0x01 => some (.vexp2 .f32 md s g)
  | 0x02 => some (.vexp2 .f16 md s g)
  | 0x03 => some (.vexp2 .bf16 md s g)
  | 0x04 => some (.vlog2 .f32 md s g)
  | 0x05 => some (.vlog2 .f16 md s g)
  | 0x06 => some (.vlog2 .bf16 md s g)
  | 0x07 => some (.vrcp .f32 md s g)
  | 0x08 => some (.vrcp .f16 md s g)
  | 0x09 => some (.vrcp .bf16 md s g)
  | 0x0A => some (.vrsqrt .f32 md s g)
  | 0x0B => some (.vrsqrt .f16 md s g)
  | 0x0C => some (.vrsqrt .bf16 md s g)
  | 0x0D => some (.vsqrt .f32 md s g)
  | 0x0E => some (.vsqrt .f16 md s g)
  | 0x0F => some (.vsqrt .bf16 md s g)
  | 0x10 => some (.vtanh .f32 md s g)
  | 0x11 => some (.vtanh .f16 md s g)
  | 0x12 => some (.vtanh .bf16 md s g)
  | 0x13 => some (.vsigm .f32 md s g)
  | 0x14 => some (.vsigm .f16 md s g)
  | 0x15 => some (.vsigm .bf16 md s g)
  | _ => none

/-- The operations of perm by opcode (R215). -/
def permOf (op : BitVec 7) (md : SrcMod) (s : Src) (g : Guard) : Option Instr :=
  match op.toNat with
  | 0x01 => some (.vshuf .w32 md s g)
  | 0x02 => some (.vshuf .w16 md s g)
  | 0x03 => some (.vshuf .w8 md s g)
  | 0x04 => some (.vzip .w32 md s g)
  | 0x05 => some (.vzip .w16 md s g)
  | 0x06 => some (.vzip .w8 md s g)
  | 0x07 => some (.vunzip .w32 md s g)
  | 0x08 => some (.vunzip .w16 md s g)
  | 0x09 => some (.vunzip .w8 md s g)
  | 0x0A => some (.vpack .s32 md s g)
  | 0x0B => some (.vpack .s16 md s g)
  | 0x0C => some (.vpack .n32 md s g)
  | 0x0D => some (.vpack .n16 md s g)
  | 0x0E => some (.vwiden .s32 md s g)
  | 0x0F => some (.vwiden .s16 md s g)
  | 0x10 => some (.vwiden .n32 md s g)
  | 0x11 => some (.vwiden .n16 md s g)
  | 0x12 => some (.unpk5 md s g)
  | 0x13 => some (.pack5 md s g)
  | 0x14 => some (.unpkg .s4g md s g)
  | 0x15 => some (.unpkg .s3g md s g)
  | 0x16 => some (.qntg .s4g md s g)
  | 0x17 => some (.qntg .s3g md s g)
  | 0x18 => some (.qntg .s8 md s g)
  | 0x19 => some (.vcmpr .f32 md s g)
  | 0x1A => some (.vcmpr .f16 md s g)
  | 0x1B => some (.vcmpr .bf16 md s g)
  | 0x1C => some (.vcmpr .s32 md s g)
  | 0x1D => some (.vcmpr .s16 md s g)
  | 0x1E => some (.vcmpr .s8 md s g)
  | 0x1F => some (.vcmpr .n32 md s g)
  | 0x20 => some (.vcmpr .n16 md s g)
  | 0x21 => some (.vcmpr .n8 md s g)
  | 0x22 => some (.vtopk .f32 md s g)
  | 0x23 => some (.vtopk .f16 md s g)
  | 0x24 => some (.vtopk .bf16 md s g)
  | 0x25 => some (.vtopk .s32 md s g)
  | 0x26 => some (.vtopk .s16 md s g)
  | 0x27 => some (.vtopk .s8 md s g)
  | 0x28 => some (.vtopk .n32 md s g)
  | 0x29 => some (.vtopk .n16 md s g)
  | 0x2A => some (.vtopk .n8 md s g)
  | 0x2B => some (.vsort .f32 md s g)
  | 0x2C => some (.vsort .f16 md s g)
  | 0x2D => some (.vsort .bf16 md s g)
  | 0x2E => some (.vsort .s32 md s g)
  | 0x2F => some (.vsort .s16 md s g)
  | 0x30 => some (.vsort .s8 md s g)
  | 0x31 => some (.vsort .n32 md s g)
  | 0x32 => some (.vsort .n16 md s g)
  | 0x33 => some (.vsort .n8 md s g)
  | 0x34 => some (.vbcast .w32 md s g)
  | 0x35 => some (.vbcast .w16 md s g)
  | 0x36 => some (.vbcast .w8 md s g)
  | 0x37 => some (.vextr .w32 md s g)
  | 0x38 => some (.vextr .w16 md s g)
  | 0x39 => some (.vextr .w8 md s g)
  | 0x3A => some (.vins .w32 md s g)
  | 0x3B => some (.vins .w16 md s g)
  | 0x3C => some (.vins .w8 md s g)
  | 0x3D => some (.viota .w32 md s g)
  | 0x3E => some (.viota .w16 md s g)
  | 0x3F => some (.viota .w8 md s g)
  | 0x40 => some (.vslide .w32 md s g)
  | 0x41 => some (.vslide .w16 md s g)
  | 0x42 => some (.vslide .w8 md s g)
  | _ => none

/-- The operations of mx by opcode (R216). -/
def mxOf (op : BitVec 7) (s : Src) (g : Guard) : Option Instr :=
  match op.toNat with
  | 0x01 => some (.mxcfg none s g)
  | 0x02 => some (.wld none s g)
  | 0x03 => some (.wpage none s g)
  | 0x04 => some (.astr none s g)
  | 0x05 => some (.drain s g)
  | 0x06 => some (.drainst none s g)
  | 0x07 => some (.mxclr none s g)
  | 0x08 => some (.mxstat none s g)
  | _ => none

/-- The operations of orb by opcode (R216). -/
def orbOf (op : BitVec 7) (s : Src) (g : Guard) : Option Instr :=
  match op.toNat with
  | 0x01 => some (.oatt s g)
  | 0x02 => some (.oeph s g)
  | 0x03 => some (.oinj s g)
  | 0x04 => some (.ostep s g)
  | 0x05 => some (.oslot s g)
  | 0x06 => some (.ocnt s g)
  | 0x07 => some (.omiss s g)
  | 0x08 => some (.olap s g)
  | 0x09 => some (.odet s g)
  | _ => none

/-- The operations of dma by opcode (R216). -/
def dmaOf (op : BitVec 7) (s : Src) (g : Guard) : Option Instr :=
  match op.toNat with
  | 0x01 => some (.dld s g)
  | 0x02 => some (.dst s g)
  | 0x03 => some (.dcpy s g)
  | 0x04 => some (.dprom s g)
  | 0x05 => some (.dstat s g)
  | _ => none

/-- The operations of net by opcode (R216). -/
def netOf (op : BitVec 7) (s : Src) (g : Guard) : Option Instr :=
  match op.toNat with
  | 0x01 => some (.nsend s g)
  | 0x02 => some (.rld s g)
  | 0x03 => some (.cqpost s g)
  | 0x04 => some (.cqstat s g)
  | 0x05 => some (.nflag s g)
  | _ => none

/-- The operations of sys by opcode (R216). -/
def sysOf (op : BitVec 7) (s : Src) (g : Guard) : Option Instr :=
  match op.toNat with
  | 0x01 => some (.sysrd s g)
  | 0x02 => some (.syswr s g)
  | 0x03 => some (.snapsv s g)
  | 0x04 => some (.snapld s g)
  | 0x05 => some (.rfsv s g)
  | 0x06 => some (.rfld s g)
  | 0x07 => some (.hinv s g)
  | 0x08 => some (.iflush s g)
  | _ => none

/-- The mx operations from a vector slot (R216, R289). -/
def mxVOf (op : BitVec 7) (md : SrcMod) (s : Src) (g : Guard) : Option Instr :=
  match op.toNat with
  | 0x01 => some (.mxcfg (some md) s g)
  | 0x02 => some (.wld (some md) s g)
  | 0x03 => some (.wpage (some md) s g)
  | 0x04 => some (.astr (some md) s g)
  | 0x05 => some (.drainVector md s g)
  | 0x06 => some (.drainst (some md) s g)
  | 0x07 => some (.mxclr (some md) s g)
  | 0x08 => some (.mxstat (some md) s g)
  | _ => none

/-- The operation a scalar slot triggers on a socket; `none` where the opcode is unassigned (R207). -/
def triggerOf (sk : Sock) (op : BitVec 7) (s : Src) (g : Guard) : Option Instr :=
  match sk with
  | .alu0 => aluOf .u0 op s g
  | .alu1 => aluOf .u1 op s g
  | .mul => mulOf op s g
  | .prd => prdOf op s g
  | .xlt => xltOf op s g
  | .lsu0 => lsuOf .u0 op s g
  | .lsu1 => lsuOf .u1 op s g
  | .sync => syncOf op s g
  | .mx => mxOf op s g
  | .orb => orbOf op s g
  | .dma => dmaOf op s g
  | .net => netOf op s g
  | .sys => sysOf op s g
  | .valu0 => none
  | .valu1 => none
  | .vsfu => none
  | .perm => none

/-- The operation a vector slot triggers on a socket (R207). -/
def triggerVOf (sk : Sock) (op : BitVec 7) (md : SrcMod) (s : Src) (g : Guard) : Option Instr :=
  match sk with
  | .valu0 => valuOf .u0 op md s g
  | .valu1 => valuOf .u1 op md s g
  | .vsfu => vsfuOf op md s g
  | .perm => permOf op md s g
  | .mx => mxVOf op md s g
  | .alu0 => none
  | .alu1 => none
  | .mul => none
  | .prd => none
  | .xlt => none
  | .lsu0 => none
  | .lsu1 => none
  | .sync => none
  | .orb => none
  | .dma => none
  | .net => none
  | .sys => none

/-! ### Slots -/

/-- A control slot's word (R193). -/
def decodeControl (w : BitVec 32) : Except Reject Instr :=
  match controlOf (w.extractLsb' 6 7) (w.extractLsb' 13 19) (Guard.dec (w.extractLsb' 0 6)) with
  | some i => .ok i
  | none => .error .reservedControl

/-- A scalar slot's word in a bundle whose long immediate is `limm` (R195, R205). -/
def decodeScalar (limm : BitVec 32) (w : BitVec 32) : Except Reject Instr :=
  let g := Guard.dec (w.extractLsb' 0 6)
  let op : BitVec 7 := w.extractLsb' 25 7
  match Src.dec false limm (w.extractLsb' 6 10) with
  | .error e => .error e
  | .ok s =>
    match DstCode.dec (w.extractLsb' 16 9) with
    | .error e => .error e
    | .ok (.move d) =>
      if !d.okScalar then .error .widthClass
      else if op ≠ 0 then .error .strayOp
      else .ok (.move d s g)
    | .ok (.trigger sk) =>
      if sk.triggerClass = .v then .error .widthClass
      else match triggerOf sk op s g with
        | some i => .ok i
        | none => .error .unassignedOpcode

/-- A vector slot's word in a bundle whose long immediate is `limm` (R195, R202, R205). -/
def decodeVector (limm : BitVec 32) (w : BitVec 48) : Except Reject Instr :=
  let g := Guard.dec (w.extractLsb' 0 6)
  let op : BitVec 7 := w.extractLsb' 25 7
  let mb : BitVec 12 := w.extractLsb' 32 12
  let top : BitVec 4 := w.extractLsb' 44 4
  match Src.dec true limm (w.extractLsb' 6 10) with
  | .error e => .error e
  | .ok s =>
    match DstCode.dec (w.extractLsb' 16 9) with
    | .error e => .error e
    | .ok (.move d) =>
      if !d.okVector then .error .widthClass
      else if op ≠ 0 || (d == .null && mb ≠ 0) then .error .strayOp
      else if top ≠ 0 then .error .reservedMod
      else match SrcMod.dec mb with
        | .error e => .error e
        | .ok md => .ok (.moveVector d md s g)
    | .ok (.trigger sk) =>
      if sk.triggerClass = .s then .error .widthClass
      else match SrcMod.dec mb with
        | .error e => if (triggerVOf sk op SrcMod.id s g).isSome then .error e else .error .unassignedOpcode
        | .ok md =>
          match triggerVOf sk op md s g with
          | none => .error .unassignedOpcode
          | some i => if top ≠ 0 then .error .reservedMod else .ok i

/-! ### The bundle -/

/-- The bits of a bundle's bytes, byte 0 lowest (R5, R191). -/
def bitsOfBytes : List Byte → Nat
  | [] => 0
  | b :: bs => b.toNat + 256 * bitsOfBytes bs

/-- The low `n` bytes of a number, lowest first (R5). -/
def bytesOfNat : Nat → Nat → List Byte
  | 0, _ => []
  | n + 1, x => BitVec.ofNat 8 x :: bytesOfNat n (x / 256)

/-- The fields of a bundle (R191). -/
def bundleHdr (b : BitVec 512) : BitVec 16 := b.extractLsb' 0 16
/-- The control slot's word (R191). -/
def bundleCtl (b : BitVec 512) : BitVec 32 := b.extractLsb' 16 32
/-- The long immediate (R191, R194). -/
def bundleLimm (b : BitVec 512) : BitVec 32 := b.extractLsb' 48 32
/-- Scalar slot j, 0-3 (R191). -/
def bundleS (b : BitVec 512) (j : Nat) : BitVec 32 := b.extractLsb' (80 + 32 * j) 32
/-- Vector slot j, 0-5 (R191). -/
def bundleV (b : BitVec 512) (j : Nat) : BitVec 48 := b.extractLsb' (208 + 48 * j) 48
/-- The reserved bits [511:496] (R191). -/
def bundleTop (b : BitVec 512) : BitVec 16 := b.extractLsb' 496 16

/-- A bundle put together from its fields (R191). -/
def packBundle (hdr : BitVec 16) (ctl limm : BitVec 32) (s0 s1 s2 s3 : BitVec 32) (v0 v1 v2 v3 v4 v5 : BitVec 48) :
    BitVec 512 :=
  ((0 : BitVec 16) ++ v5 ++ v4 ++ v3 ++ v2 ++ v1 ++ v0 ++ s3 ++ s2 ++ s1 ++ s0 ++ limm ++ ctl ++ hdr : BitVec 512)

/-- Header MARK (R192). -/
def hdrMark (h : BitVec 16) : Bool := h.getLsbD 0
/-- Header DRAIN (R192). -/
def hdrDrain (h : BitVec 16) : Bool := h.getLsbD 1
/-- Header ELECT (R192). -/
def hdrElect (h : BitVec 16) : Bool := h.getLsbD 2
/-- Header SCOPE (R192). -/
def hdrScope (h : BitVec 16) : BitVec 3 := h.extractLsb' 3 3
/-- Header NPROF (R192). -/
def hdrNprof (h : BitVec 16) : BitVec 4 := h.extractLsb' 6 4
/-- Header SPINREC (R192). -/
def hdrSpinrec (h : BitVec 16) : Bool := h.getLsbD 10

/-- What a move writes or starts, for the collision checks of R205. -/
inductive Target where
  | reg (d : Dst)
  | trig (sk : Sock)
  deriving DecidableEq, Repr

/-- The target of a slot's operation; a null destination and a control operation have none (R196). -/
def Instr.target (i : Instr) : Option Target :=
  match i.slotCode with
  | .move .null _ _ => none
  | .move d _ _ => some (.reg d)
  | .moveV .null _ _ _ => none
  | .moveV d _ _ _ => some (.reg d)
  | .trigger sk _ _ _ => some (.trig sk)
  | .triggerV sk _ _ _ _ => some (.trig sk)
  | _ => none

/-- Barrier triggers (R56). -/
def Instr.isBarrier : Instr → Bool
  | .cbar _ _ => true
  | .gbar _ _ => true
  | .dbar _ _ => true
  | .evgath _ _ => true
  | _ => false

/-- The irrevocable operations (R59). -/
def Instr.isIrrevocable (i : Instr) : Bool :=
  match i.slotCode with
  | .trigger .lsu0 op _ _ => 0x18 ≤ op.toNat && op.toNat ≤ 0x2E
  | .trigger .lsu1 op _ _ => 0x18 ≤ op.toNat && op.toNat ≤ 0x2E
  | .trigger .dma op _ _ => op.toNat ≤ 3
  | .trigger .net op _ _ => op.toNat = 1 || op.toNat = 3
  | .trigger .orb op _ _ => op.toNat ≠ 5 && op.toNat ≠ 6
  | .trigger .sync op _ _ => op.toNat = 1 || op.toNat = 2 || op.toNat = 9 || op.toNat = 10
  | _ => false

/-- A bundle that passed the encoding checks: header, control operation, and the moves with their slot index. -/
structure Decoded where
  hdr   : BitVec 16
  ctl   : Instr
  moves : List (Nat × Instr)
  deriving DecidableEq, Repr

/-- A bundle that holds TASKEND in its control slot, or a barrier trigger, or has MARK set is a MARK bundle (R56). -/
def Decoded.isMark (d : Decoded) : Bool :=
  hdrMark d.hdr || d.moves.any (fun x => x.2.isBarrier) || (match d.ctl with | .taskend _ => true | _ => false)

/-- The first scalar slot, from slot j on, that fails, or all of them decoded (R205). -/
def decodeScalars (b : BitVec 512) : List Nat → Except (Reject × Nat) (List (Nat × Instr))
  | [] => .ok []
  | j :: js =>
    match decodeScalar (bundleLimm b) (bundleS b j) with
    | .error e => .error (e, j)
    | .ok i =>
      match decodeScalars b js with
      | .error e => .error e
      | .ok r => .ok ((j, i) :: r)

/-- The vector slots likewise; vector slot j has index 4 + j (R191). -/
def decodeVectors (b : BitVec 512) : List Nat → Except (Reject × Nat) (List (Nat × Instr))
  | [] => .ok []
  | j :: js =>
    match decodeVector (bundleLimm b) (bundleV b j) with
    | .error e => .error (e, 4 + j)
    | .ok i =>
      match decodeVectors b js with
      | .error e => .error e
      | .ok r => .ok ((4 + j, i) :: r)

/-- The later slot of the first pair that names one target among those that `sel` picks (codes 0x0E, 0x0F). -/
def firstClash (sel : Target → Bool) (seen : List Target) : List (Nat × Instr) → Option Nat
  | [] => none
  | (j, i) :: rest =>
    match i.target with
    | none => firstClash sel seen rest
    | some t => if sel t && t ∈ seen then some j else firstClash sel (t :: seen) rest

/-- Is the target a trigger port? -/
def Target.isTrig : Target → Bool
  | .trig _ => true
  | .reg _ => false

/-- The checks of R205 in their order. `tow` when the tile runs in a tow set, `spinning` during a spin whose entry
issued with this bundle decodes to `replay` (R231). -/
def checkBundle (tow spinning : Bool) (replay : List Instr) (b : BitVec 512) : Except (Reject × Nat) Decoded :=
  let h := bundleHdr b
  if (h.extractLsb' 11 5 : BitVec 5) ≠ 0 || bundleTop b ≠ 0 then .error (.reservedBits, 11)
  else if 5 ≤ (hdrScope h).toNat then .error (.reservedScope, 11)
  else if hdrElect h && !tow then .error (.electOutsideTow, 11)
  else if spinning && hdrSpinrec h then .error (.duringSpin, 11)
  else if spinning && (bundleCtl b).extractLsb' 6 7 = (0x07 : BitVec 7) then .error (.duringSpin, 10)
  else match (if spinning then
      [0, 1, 2, 3, 4, 5].find? (fun j => (bundleV b j).extractLsb' 16 9 ≠ (0 : BitVec 9)) else none) with
    | some j => .error (.duringSpin, 4 + j)
    | none =>
      match decodeControl (bundleCtl b) with
      | .error e => .error (e, 10)
      | .ok ctl =>
        match decodeScalars b [0, 1, 2, 3] with
        | .error e => .error e
        | .ok ss =>
          match decodeVectors b [0, 1, 2, 3, 4, 5] with
          | .error e => .error e
          | .ok vs =>
            let moves := ss ++ vs
            let seen := replay.filterMap Instr.target
            match firstClash (fun t => !t.isTrig) seen moves with
            | some j => .error (.doubleWrite, j)
            | none =>
              match firstClash Target.isTrig seen moves with
              | some j => .error (.doubleTrigger, j)
              | none =>
                let d : Decoded := { hdr := h, ctl := ctl, moves := moves.filter (fun x => x.2.target.isSome) }
                if d.isMark then .ok d
                else match moves.find? (fun x => x.2.isIrrevocable) with
                  | some (j, _) => .error (.irrevocable, j)
                  | none => .ok d

/-- The instruction of a bundle's 64 bytes (R191). -/
def decodeBytes (bs : List Byte) : Except Reject Instr :=
  if bs.length = 64 then .ok (.bundleIssue (BitVec.ofNat 512 (bitsOfBytes bs))) else .error .notABundle

/-! ### The encoder -/

/-- An instruction's words: a control slot, a scalar or vector slot with the long immediate it reads, or a bundle. -/
inductive Encoded where
  | control (w : BitVec 32)
  | scalar (w limm : BitVec 32)
  | vector (w : BitVec 48) (limm : BitVec 32)
  | bundle (b : BitVec 512)
  deriving DecidableEq, Repr

/-- The words of an instruction (R191-R203); the steps of other agents have none. -/
def encode (i : Instr) : Option Encoded :=
  match i.slotCode with
  | .control opc operand g => some (.control (operand ++ opc ++ g.enc : BitVec 32))
  | .move d s g => some (.scalar ((0 : BitVec 7) ++ d.enc ++ s.enc ++ g.enc : BitVec 32) s.limm)
  | .moveV d md s g =>
    some (.vector ((0 : BitVec 4) ++ md.enc ++ (0 : BitVec 7) ++ d.enc ++ s.enc ++ g.enc : BitVec 48) s.limm)
  | .trigger sk op s g =>
    some (.scalar (op ++ ((3 : BitVec 2) ++ sk.num ++ (0 : BitVec 1) : BitVec 9) ++ s.enc ++ g.enc : BitVec 32) s.limm)
  | .triggerV sk op md s g =>
    some (.vector ((0 : BitVec 4) ++ md.enc ++ op ++ ((3 : BitVec 2) ++ sk.num ++ (0 : BitVec 1) : BitVec 9) ++ s.enc ++
      g.enc : BitVec 48) s.limm)
  | .bundle b => some (.bundle b)
  | .agent => none

/-- The instruction of some words. -/
def decode : Encoded → Except Reject Instr
  | .control w => decodeControl w
  | .scalar w limm => decodeScalar limm w
  | .vector w limm => decodeVector limm w
  | .bundle b => .ok (.bundleIssue b)

/-! ### One table word -/

/-- A 32-bit word alone does not say whether it stands in a control slot or in a scalar slot. Read as a scalar slot where
that gives a move with a destination or a trigger, otherwise as a control slot (DESIGN CHOICE, log 6). -/
def decodeTableWord32 (w : BitVec 32) : Option Instr :=
  match decodeScalar 0 w with
  | .ok i => if i.target.isSome then some i else
      match decodeControl w with
      | .ok c => some c
      | .error _ => some i
  | .error _ =>
    match decodeControl w with
    | .ok c => some c
    | .error _ => none

/-- The instruction of a row's bits: one slot word, or a whole bundle. -/
def decodeTableWord (nbits w : Nat) : Option Instr :=
  if nbits ≤ 32 then decodeTableWord32 (BitVec.ofNat 32 w)
  else if nbits ≤ 48 then (match decodeVector 0 (BitVec.ofNat 48 w) with | .ok i => some i | .error _ => none)
  else some (.bundleIssue (BitVec.ofNat 512 w))

end Sys2Proof
end

