-- ==== Sys2Proof/Machine/Bits.lean ====
section
/-! DEFINITION. Bits, lanes and bytes: the helpers of R5, R31 and R263. -/

namespace Sys2Proof.Machine

/-- Bits [lo + len - 1 : lo] of a number. -/
def bitsOf (x lo len : Nat) : Nat := (x >>> lo) % 2 ^ len

/-- Lane i of a value of lane width w (R263). -/
def laneOf (w : Nat) (x : Nat) (i : Nat) : Nat := bitsOf x (w * i) w

/-- The number whose lanes 0 to n - 1, of width w, are given by f (R263). -/
def ofLanes (w : Nat) (f : Nat → Nat) : Nat → Nat
  | 0 => 0
  | n + 1 => ofLanes w f n + (f n % 2 ^ w) * 2 ^ (w * n)

/-- A 512-bit value from its lanes of width w (R263). -/
def wideOfLanes (w : Nat) (f : Nat → Nat) : Wide := BitVec.ofNat 512 (ofLanes w f (512 / w))

/-- A number of w bits read as two's complement (R122). -/
def sInt (w x : Nat) : Int := if x % 2 ^ w < 2 ^ (w - 1) then (x % 2 ^ w : Nat) else (x % 2 ^ w : Nat) - (2 ^ w : Nat)

/-- An integer wrapped to w bits (R122). -/
def wrapInt (w : Nat) (i : Int) : Nat := (i % (2 ^ w : Nat)).toNat

/-- An integer clamped to [lo, hi] (R122). -/
def clampInt (lo hi i : Int) : Int := if i < lo then lo else if hi < i then hi else i

/-- Bits [63:0] of a 512-bit value (R22). -/
def lowWord (x : Wide) : Word := x.truncate 64

/-- A 64-bit value zero-extended (R22). -/
def wideOfWord (x : Word) : Wide := x.zeroExtend 512

/-- A value merged into an old one under a mask of bits (R31). -/
def mergeBits (mask old new : Wide) : Wide := (old &&& ~~~ mask) ||| (new &&& mask)

/-- Lane i, of wb bytes, is active under a guard value (R31). -/
def laneOn (g : Word) (wb i : Nat) : Bool := g.getLsbD (wb * i)

/-- The bits of the active lanes of wb bytes (R31). -/
def laneMask (g : Word) (wb : Nat) : Wide :=
  wideOfLanes (8 * wb) (fun i => if laneOn g wb i then 2 ^ (8 * wb) - 1 else 0)

/-- The qp bits of the active lanes of wb bytes: wb bits for each lane (R264, R269). -/
def laneMaskQp (g : Word) (wb : Nat) : Wide :=
  BitVec.ofNat 512 (ofLanes wb (fun i => if laneOn g wb i then 2 ^ wb - 1 else 0) (64 / wb))

/-- Byte i of a value (R5). -/
def byteOf (x : Nat) (i : Nat) : Byte := BitVec.ofNat 8 (x >>> (8 * i))

/-- The first n bytes of a value, lowest first (R5). -/
def bytesOf (x : Nat) : Nat → List Byte
  | 0 => []
  | n + 1 => BitVec.ofNat 8 x :: bytesOf (x / 256) n

/-- The value of some bytes, lowest first (R5). -/
def ofBytes : List Byte → Nat
  | [] => 0
  | b :: bs => b.toNat + 256 * ofBytes bs

/-- How often f holds below n. -/
def countBelow (f : Nat → Bool) : Nat → Nat
  | 0 => 0
  | n + 1 => countBelow f n + (if f n then 1 else 0)

/-- The least i from k on, within n tries, for which f holds. -/
def findFrom (f : Nat → Bool) (k : Nat) : Nat → Option Nat
  | 0 => none
  | n + 1 => if f k then some k else findFrom f (k + 1) n

/-- The number of bits of x, at most n. -/
def bitLenAux (x : Nat) : Nat → Nat
  | 0 => 0
  | n + 1 => if x / 2 ^ n ≠ 0 then n + 1 else bitLenAux x n

/-- The number of bits of x: 0 for 0. -/
def bitLen (x : Nat) : Nat := if x = 0 then 0 else x.log2 + 1

/-- The numbers lo, lo + 1, …, hi - 1. -/
def rangeList (lo hi : Nat) : List Nat := (List.range (hi - lo)).map (· + lo)

end Sys2Proof.Machine
end

