-- ==== Sys2Proof/Machine/State.lean ====
section
/-! DEFINITION. The state of the part as plain data: what spec/ gives the machine (INVENTORY.md, State), and
State.reset, the machine right after reset. -/

namespace Sys2Proof.Machine

/-! ### Why a step stops -/

/-- Why the machine stops with a fault. -/
inductive Fault where
  /-- A privileged save or restore names a save area outside the populated physical ranges, which the memory-side units
  refuse (R398). Raised by RFSV, RFLD and SNAPSV, alone or in a bundle, and by DELIVER, also as a command, SWITCH_OUT and SWITCH_IN. Safe: the manual
  gives no state after it. -/
  | unpopulatedPhysical (pa : Nat)
  deriving DecidableEq, Repr

/-- Why the machine gives an instruction no meaning. -/
inductive Refusal where
  /-- Raised by Dispatch alone, for an instruction that has no meaning yet. Safe. -/
  | notModelled (mnemonic : String)
  deriving DecidableEq, Repr

/-! ### Tile state -/

/-- A handle register: its descriptor (R80), with the translation it captured (R83, R405) and whether a translation that
will write it is pending (R81). -/
structure Handle where
  v     : Bool
  w     : Bool
  sz    : BitVec 2
  ldie  : BitVec 6
  dup   : Bool
  t     : Bool
  vpn   : BitVec 42
  frame : Nat
  pend  : Bool
  deriving DecidableEq, Repr

/-- How often each event of R142 occurred: ev0 to ev8. -/
structure EvCount where
  inv : Nat
  ovf : Nat
  unf : Nat
  inx : Nat
  sat : Nat
  trn : Nat
  nan : Nat
  wld : Nat
  div : Nat
  deriving DecidableEq, Repr

/-- Where a delivery takes its value from: the operation has given it; it is the orbit's count, or the station's misses, as they stand
at the delivery (R302); it is mxstat, of which CIM may be cleared with it (R146, R295); it was read from a stack, or its memory side was
lost before the delivery, which is then of poisoned data (R423); it is a gather's, whose lanes are served step by step from these offsets
(R211). -/
inductive Delivery where
  | plain | ocnt | omiss
  | gather (offs : List (Option Nat))
  | mxstat (clear : Bool)
  | load (pa : Nat)
  | lost (pa : Nat)
  deriving DecidableEq, Repr

/-- An operation's result on its way to a result port (R19-R21). `mask` holds the bits it will write (R31);
`rem` is the latency still to run, in issue cycles, or in clocks when `free` (R24); an interlocked result has
`ready` once its value is there, and is deliverable from clock `due`. `id` gives the trigger order. -/
structure InFlight where
  sk     : Sock
  port   : RPort
  value  : Wide
  mask   : Wide
  rem    : Nat
  free   : Bool
  locked : Bool
  ready  : Bool
  due    : Nat
  id     : Nat
  evs    : EvCount
  live   : Delivery
  deriving DecidableEq, Repr

/-- A loop-stack entry (R229, R230); `implicit` marks the kernel loop of R43. -/
structure LoopEntry where
  start    : BitVec 56
  stop     : BitVec 56
  left     : Nat
  implicit : Bool
  deriving DecidableEq, Repr

/-- A spin-buffer entry: six vector slots and the profile recorded with them (R60), with the long immediate they read. -/
structure SpinEntry where
  slots : List (BitVec 48)
  limm  : BitVec 32
  nprof : BitVec 4
  deriving DecidableEq, Repr

/-- A spin in progress (R61): K entries, N times, register step, entries issued so far, index of the oldest entry. -/
structure SpinRun where
  k     : Nat
  n     : Nat
  step  : Nat
  done  : Nat
  first : Nat
  deriving DecidableEq, Repr

/-- A happens-before clock (R105-R109): for a tile and one of its access paths (R99), the number of its latest epoch that
is ordered before; unlisted means 0. -/
abbrev VClock := List ((TileKey × Nat) × Nat)

/-- An XFENCE in force (R103); a barrier's holds every path behind every participant's accesses (R106). -/
structure Fence where
  early  : BitVec 6
  late   : BitVec 6
  /-- Whose accesses are awaited: of each tile, those with trigger numbers below the one given. -/
  who    : List (TileKey × Nat)
  /-- An ACQUIRE's: the LS reads before it must have delivered before a later LS access (R104). -/
  acq    : Bool
  /-- The scope of an ACQUIRE (R105). -/
  scope  : BitVec 3
  /-- An XFENCE whose region has not committed: the commit comes before the later accesses too (R103). -/
  region : Bool
  /-- A RELEASE's, which holds nothing: it takes in what the ACQUIREs before it have still to take in (R104, R105). -/
  rel    : Bool
  deriving DecidableEq, Repr

/-- A WAITU in progress (R179): its start, the promised cycle, the TAG, and the cycle in which the transfer was complete. -/
structure WaitU where
  start : Nat
  p   : Nat
  tag : BitVec 16
  done : Option Nat
  deriving DecidableEq, Repr

/-- A WAITB in progress (R189): its start, its words, and the physical word of a handle flag. -/
structure WaitB where
  start : Nat
  kind  : BitVec 3
  limit : Nat
  obj   : Word
  value : Word
  mask  : Word
  /-- For a flag in handle space: the physical address of the word and the handle it was checked through. -/
  pa    : Option Nat
  hd    : Option Handle
  revoked : Bool
  /-- The orbit count at the detachment, which the wait goes on comparing. -/
  last  : Option (BitVec 32)
  deriving DecidableEq, Repr

/-- The sequencer (R230): program counter, loops, waits, the header and address of the bundle that issues. -/
structure Seq where
  pc         : BitVec 56
  loops      : List LoopEntry
  kernelDone : Bool
  /-- Clocks a tow follower still waits before its first bundle (R51). -/
  skew       : Nat
  waitLeft   : Nat
  drain      : Bool
  ending     : Bool
  waitu      : Option WaitU
  waitb      : Option WaitB
  barrier    : Option BarObj
  hdr        : BitVec 16
  here       : BitVec 56
  slot       : Nat
  target     : Option (BitVec 56)
  fences     : List Fence
  /-- Steps a VLDG still occupies lsu0 and lsu1 (R217), and whether they count clocks: as the unit ran at its trigger (R26). -/
  busy0      : Nat
  busy1      : Nat
  busyFree0  : Bool
  busyFree1  : Bool
  /-- The clock from which the ring's delivery slot for the bundle at issue is reserved, once it has been asked for (R76). -/
  ring       : Option Nat
  /-- Issue stall clocks owed for an lsu bank conflict (R67). -/
  owe        : Nat
  /-- The boundary at which the tile stands is a safe point (R44). -/
  safe       : Bool
  /-- The bundle that issued last made a branch decision: a branch, or the end of a loop's body (R53, R227). -/
  chose      : Bool
  /-- A follower's decision at the branch before differs from its leader's: the target's first bundle and the follower (R53). -/
  diverged   : Option (BitVec 56 × BitVec 4)
  deriving DecidableEq, Repr

/-- What the xlt unit is asked to do (R240, R241). -/
inductive XltOp where
  | read | write | release | query | base
  deriving DecidableEq, Repr

/-- An operation of the xlt unit that waits for a translation, its own or an earlier one (R240-R242). -/
structure XlatReq where
  id    : Nat
  op    : XltOp
  h     : BitVec 4
  va    : BitVec 56
  /-- A walker or the lodge has it: the die's cache missed (R404). -/
  walk  : Bool
  /-- The handle that was granted or refused in the request's turn while the tile could not take it (R25, R413). -/
  got   : Option Handle
  deriving DecidableEq, Repr

/-- A group load, kept until a bundle has read its result or its region has closed (R87-R97): the leaves as read, by
rank; `ep` is its epoch on the GR path; `race` the member, its rank and the writer that raced (R95). -/
structure GLoad where
  id      : Nat
  u       : Twin
  addr    : Word
  op      : BitVec 3
  ty      : BitVec 4
  members : List (BitVec 6)
  leaves  : List (Option Wide)
  trapping : Bool
  here    : BitVec 56
  slot    : Nat
  ep      : Nat
  combined : Bool
  absent  : Word
  trapped : Bool
  race    : Option (BitVec 6 × Nat × BitVec 6)
  /-- A bundle has read a result of it (R95). -/
  seen    : Bool
  /-- Its region has closed, so that no later write races with it (R95, R371). -/
  closed  : Bool
  deriving DecidableEq, Repr

/-- A cell read in progress (R77, R78). -/
structure CellRd where
  id      : Nat
  u       : Twin
  tid     : BitVec 6
  off     : Nat
  consume : Bool
  done    : Bool
  deriving DecidableEq, Repr

/-- Where an access goes: a scratchpad byte of a tile of the die, or a physical address (R63). -/
inductive Place where
  | scratch (tid : BitVec 6) (off : Nat)
  | phys (pa : Nat)
  deriving DecidableEq, Repr

/-- The atomics of R251. -/
inductive AtomOp where
  | add | minS | minN | maxS | maxN | and | or | xor | swap | cas | fadd
  deriving DecidableEq, Repr

/-- An atomic in progress (R250-R252). -/
structure AtomReq where
  id    : Nat
  sk    : Sock
  op    : AtomOp
  wide  : Bool
  place : Place
  a     : Word
  b     : Word
  vc    : VClock
  rel   : List (BitVec 3 × VClock)
  deriving DecidableEq, Repr

/-- A remote load in progress (R185). -/
structure RldReq where
  id  : Nat
  tid : BitVec 6
  off : Nat
  deriving DecidableEq, Repr

/-- What a gated store will do at the commit of its region (R57, R78). -/
inductive GKind where
  /-- Bytes to write from the place on: offset, mask of bits written, value. -/
  | write (bytes : List (Nat × Byte × Byte))
  | cellw (v : Word)
  | cellwr (v : Word)
  | cellr (id : Nat)
  | cqclear (q : Bool)
  deriving DecidableEq, Repr

/-- A gated store with its origin (R57). -/
structure Gated where
  place : Place
  kind  : GKind
  here  : BitVec 56
  slot  : Nat
  u     : Twin
  addr  : Word
  /-- Its index among the tile's operations (R104). -/
  num   : Nat
  /-- The LS clock of the tile at the trigger, and its RELEASEs so far by scope (R105). -/
  vc    : VClock
  rel   : List (BitVec 3 × VClock)
  deriving DecidableEq, Repr

/-- A committed LS operation that is not performed yet, in program order (R101, R251). -/
inductive LsOp where
  | store (g : Gated)
  | atom (a : AtomReq)
  deriving DecidableEq, Repr

/-- An exact binary number m × 2^e (R9, R138). -/
structure Dyadic where
  m : Int
  e : Int
  deriving DecidableEq, Repr

/-- The kinds of an accumulator column (R144). -/
inductive AccKind where
  | none | rounded | exact
  deriving DecidableEq, Repr

/-- One accumulator column (R144). -/
structure AccCol where
  row    : Nat
  col    : Nat
  acc    : BitVec 32
  x      : Dyadic
  passes : Nat
  kind   : AccKind
  poison : Bool
  deriving DecidableEq, Repr

/-- A page descriptor, written by WLD at its trigger: resident format and GSZ (R144, R148). -/
structure PageDesc where
  mac  : BitVec 2
  page : BitVec 3
  fmt  : BitVec 4
  gsz  : Bool
  deriving DecidableEq, Repr

/-- The image of a loaded page: the index of the WLD that wrote it, the resident integers column by column, and the group factors fB
of each column (R144, R147). An image stays while an earlier-triggered pass that uses it is queued (R152). `gone` is the clock of the
engine at which the page was emptied: passes that had streamed by then keep the image (R151, R419). -/
structure PageImage where
  mac     : BitVec 2
  page    : BitVec 3
  ver     : Nat
  gone    : Option Nat
  cols    : List (List Int)
  factors : List (List Dyadic)
  deriving DecidableEq, Repr

/-- A queued operation of the matrix engine, with the local clock of its event (R152, R157). A pass also holds the end of its
streaming. -/
inductive MxOp where
  | wld (id due : Nat) (mac : BitVec 2) (page : BitVec 3) (src stride sidx : Nat) (bf : BitVec 32)
  | pass (id due stop : Nat) (row : Nat) (src : Nat) (sf : BitVec 3) (mode : BitVec 2) (fmt : BitVec 4) (pages : List (BitVec 3))
      (nprof : BitVec 4)
  | clr (id due : Nat) (rows : BitVec 16)
  | drainst (id due : Nat) (dst : Nat) (row slice count : Nat) (clear : Bool) (bf : BitVec 32) (frm : BitVec 4)
  | stat (id : Nat)
  deriving DecidableEq, Repr

/-- The matrix state, which a rollback restores whole (R58, R144, R156, R293). -/
structure MxCore where
  mxcfg  : Word
  cim    : Bool
  desc   : List PageDesc
  pages  : List PageImage
  acc    : List AccCol
  queue  : List MxOp
  /-- The engine's clock, and the clocks at which the load queue and the streaming fall free, and of the last event of the
  stream queue (R157). -/
  clk        : Nat
  loadFree   : Nat
  streamFree : Nat
  lastEvent  : Nat
  deriving DecidableEq, Repr

/-- What a rollback restores (R58). -/
structure TileCore where
  m        : Vector Wide 64
  o        : Vector Wide 8
  p        : Vector Word 32
  h        : Vector Handle 16
  opnd     : Vector Wide 36
  opMask   : Vector Word 36
  res      : Vector Wide 72
  queues   : List (Sock × RPort × List Wide)
  unread   : List (Sock × RPort)
  /-- Whose results the ports of the lsu units hold: the operation's index, in queue mode that of each entry (R95, R97). -/
  owners   : List (Sock × RPort × List Nat)
  lockmask : Word
  frm      : Word
  bf       : Vector (BitVec 32) 24
  ev       : Vector (BitVec 32) 16
  osSeq    : Nat
  spinBuf  : Vector SpinEntry 16
  recIdx   : BitVec 4
  spin     : Option SpinRun
  seq      : Seq
  mx       : MxCore
  flight   : List InFlight
  xlats    : List XlatReq
  gloads   : List GLoad
  cellRds  : List CellRd
  rlds     : List RldReq
  deriving DecidableEq, Repr

/-- A cause that is recorded or held (R363, R366). -/
structure Cause where
  code  : BitVec 8
  tepc  : BitVec 56
  i0    : Word
  i1    : Word
  i2    : Word
  i3    : Word
  /-- The handle register of a handle fault as the faulting access found it: its page is what the service translates (R82, R408). -/
  h     : Option Handle := none
  /-- Its operation was performed and is not undone by a rollback, so no replay raises the cause again (R59, R366). -/
  final : Bool := false
  deriving DecidableEq, Repr

/-- The frame that DELIVER writes and tret restores (R371, R373). -/
structure Frame where
  opnd     : Vector Wide 36
  opMask   : Vector Word 36
  res      : Vector Wide 72
  queues   : List (Sock × RPort × List Wide)
  owners   : List (Sock × RPort × List Nat)
  lockmask : Word
  frm      : Word
  seq      : Seq
  spin     : Option SpinRun
  flight   : List InFlight
  /-- The region's group loads whose own "group partial" has not been taken (R97, R371). -/
  gloads   : List GLoad
  deriving DecidableEq, Repr

/-- A running task (R41, R45, R46). `conj` is the conjunction serial of a conjunction task. -/
structure Task where
  conj   : Option (BitVec 48)
  q      : BitVec 4
  course : Nat
  gate   : Nat
  pos    : BitVec 4
  code   : BitVec 56
  pro    : Nat
  ker    : Nat
  epi    : Nat
  trip   : Nat
  cluster : Bool
  /-- Tow width, or 0 outside tow mode, and the distance from the leader (R51). -/
  tow    : Nat
  dist   : Nat
  /-- Station-buffer slots a conjunction task pins (R169). -/
  pins   : List Nat
  step   : Nat
  deriving DecidableEq, Repr

/-- A conjunction waiting in a station's queue (R169). -/
structure Conj where
  serial : BitVec 48
  task   : Nat
  arg    : BitVec 32
  pro    : Nat
  ret    : Nat
  step   : Nat
  deriving DecidableEq, Repr

/-- A miss record (R171). -/
structure Miss where
  pid  : BitVec 16
  rid  : BitVec 16
  wake : Bool
  task : Nat
  arg  : BitVec 32
  deriving DecidableEq, Repr

/-- An ephemeris entry (R167). -/
structure EphEntry where
  pid  : BitVec 16
  rid  : BitVec 16
  task : Nat
  arg  : BitVec 32
  v    : Bool
  pw   : Bool
  rw   : Bool
  deriving DecidableEq, Repr

/-- A body at a station: its id and the local offset of its slot (R161, R162). -/
structure Body where
  id   : BitVec 16
  slot : Nat
  deriving DecidableEq, Repr

/-- A station operation that has issued and not completed (R298-R300). -/
inductive OrbOp where
  | oeph (id src n : Nat)
  | oinj (id src : Nat) (retro : Bool) (bid : BitVec 16)
  | ostep (id : Nat)
  deriving DecidableEq, Repr

/-- A tile's station on an orbit (R159-R172). -/
structure Station where
  attached : Bool
  armed    : Bool
  /-- OSTEP has issued (R160). -/
  stepped  : Bool
  eph      : List EphEntry
  pro      : Body
  ret      : Body
  held     : Option Body
  misses   : List Miss
  recov    : List Miss
  ops      : List OrbOp
  /-- The last step has been released by this station (R170), and a conjunction that waits for room (R171). -/
  released : Bool
  holding  : List Conj
  deriving DecidableEq, Repr

/-- One DMA transfer (R177, R178, R305-R308). -/
inductive DmaKind where
  | load (pa dst len : Nat)
  | store (src pa len : Nat)
  | copy (src dst count : Nat) (bfs bfd : BitVec 32) (frm : BitVec 4)
  deriving DecidableEq, Repr

/-- A transfer with its promise (R177). -/
structure Transfer where
  tag     : BitVec 16
  kind    : DmaKind
  promise : Nat
  done    : Option Nat
  fail    : Bool
  id      : Nat
  deriving DecidableEq, Repr

/-- An NSEND on its way (R187, R188). -/
structure Send where
  id   : Nat
  mask : BitVec 16
  cl   : BitVec 2
  off  : Nat
  line : Wide
  /-- The clock at which it has reached its targets (log 3). -/
  due  : Nat
  deriving DecidableEq, Repr

/-- The race tag of a 64-byte line (R95, R109): the last plain write and the plain reads since, by tile and epoch; and
every LS write, atomics and cells included, by tile and latest epoch. -/
structure LineTag where
  line    : Nat
  writer  : Option (TileKey × Nat)
  readers : List (TileKey × Nat)
  writes  : List (TileKey × Nat)
  deriving DecidableEq, Repr

/-- What a read of a location can acquire: the writer and its RELEASEs before the write by scope (R105). `whole` marks a
copy-engine flag, whose read needs no ACQUIRE (R106). -/
structure RelTag where
  owner : TileKey
  rel   : List (BitVec 3 × VClock)
  whole : Bool
  deriving DecidableEq, Repr

/-- An old byte that the tile's own loads still return, with what a read of it can acquire, until the issue cycle from which the new one
shows (R73, R105). -/
structure Shade where
  place : Place
  old   : Byte
  tags  : List RelTag
  shows : Nat
  deriving DecidableEq, Repr

/-- What of the user's state a stub must not change: the sequencer and the sys ports, kept while the tile is in privileged mode
(R44, R359, R370; log 24). -/
structure UserKeep where
  seq  : Seq
  a    : Wide
  mask : Word
  q    : Wide
  deriving DecidableEq, Repr

/-- The cause registers that a service cause covers: a program never observes a service cause (R363; log 26). -/
structure Under where
  tv    : Bool
  nest  : Bool
  code  : BitVec 8
  tepc  : Word
  tinfo : Vector Word 4
  deriving DecidableEq, Repr

/-- What happens-before the accesses of a tile on its six paths, its RELEASEs so far by scope, and what its reads so far can acquire
(R103-R107). -/
structure HbMark where
  vcs : Vector VClock 6
  rel : List (BitVec 3 × VClock)
  acq : List RelTag
  deriving DecidableEq, Repr

/-- What a tow set does in a clock (R52, R53): its tiles issue; one stalls, and none issues; some take a trap before their bundles issue,
and no other issues; or only the tiles named go on, and the others wait for them: at a branch at which they may decide otherwise, or in a
barrier at which they have still to arrive. -/
inductive TowTurn where
  | go | stall | freeze
  | only (tids : List (BitVec 6))
  deriving DecidableEq, Repr

/-- A tile of a context. -/
structure Tile where
  core     : TileCore
  mark     : TileCore
  task     : Option Task
  frozen   : Bool
  gated    : List Gated
  /-- The registers m, o, p and h written since the mark, by their window class and index (R58, R369, R416). -/
  wrote    : List (Nat × Nat)
  stores   : Nat
  scratch  : List Host.Cell
  full     : List Nat
  held     : List (Nat × TileKey)
  poison   : List Nat
  /-- Old bytes that the tile's own loads still return (R73). -/
  shadow   : List Shade
  lsq      : List LsOp
  issue    : Nat
  ibuf     : List (BitVec 56 × BitVec 512)
  locks    : List (BitVec 56 × Nat)
  dma      : List Transfer
  nextTag  : BitVec 16
  sends    : List Send
  cfill    : BitVec 32
  cdrain   : BitVec 32
  tv       : Bool
  inh      : Bool
  nest     : Bool
  priv     : Bool
  code     : BitVec 8
  tepc     : Word
  tinfo    : Vector Word 4
  savebase : Word
  stubbase : Word
  heldCauses : List Cause
  /-- The handle register as the access of the tile's latest handle fault found it (R82, R408). -/
  faultH   : Option Handle
  /-- The translations that the lodge has refused in this region, which its replay makes again (R408). -/
  refused  : List Handle
  /-- The results that SNAPSV took out of the pipelines (R376), and the index from which operations are the stub's own: user
  operations below it are parked in privileged mode (R359). -/
  snap     : List InFlight
  stubFrom : Nat
  user     : Option UserKeep
  under    : Option Under
  /-- Events that asynchronous operations have caused while the tile was frozen or switched out: they count when it resumes
  (R25, R143). -/
  owed     : EvCount
  /-- The tile has been switched out with its context (R379, R394). -/
  out      : Bool
  /-- The tile has been dispatched in its context: its save area is set and its scratchpad was zeroed (R29, R66, R396). -/
  dispatched : Bool
  frame    : Option Frame
  conjQ    : List Conj
  station  : Station
  /-- Happens-before clocks of the six paths, the RELEASEs so far by scope, what the reads so far can acquire, the race
  tags of the tile's lines and the release tags of its 8-byte units (R105-R109). -/
  vcs      : Vector VClock 6
  rel      : List (BitVec 3 × VClock)
  acq      : List RelTag
  lines    : List LineTag
  tags     : List (Nat × RelTag)
  /-- The clocks, the RELEASEs and what can be acquired, as they stood at the mark point (R58). -/
  markHb   : HbMark
  /-- Tow set (R51-R54): by bundle number, the register writes that the leader posted, and the address that followed at the
  leader with whether it took a branch; bundles issued in the task; the issue cycle at the mark point, or at the latest rollback to
  it, and the bundle number there; what was decided for the set, for which clock, and whether the tile itself traps in it; and the issue cycles that the follower has gained on
  a leader that waits at a branch. -/
  posts    : List (Nat × List (Dst × Wide))
  trace    : List (Nat × BitVec 56 × Bool)
  towN     : Nat
  markAt   : Nat × Nat
  towAt    : Option (Nat × TowTurn × Bool)
  ahead    : Nat
  nextId   : Nat
  deriving DecidableEq, Repr

/-! ### Contexts and courses -/

/-- A course record's fields (R38). -/
structure CourseRec where
  ext    : List Nat
  ndim   : Nat
  perm   : List Nat
  wmode  : Bool
  growok : Bool
  det    : Bool
  orb    : Bool
  nprof  : BitVec 4
  shape  : BitVec 2
  town   : Nat
  code   : BitVec 56
  pro    : Nat
  ker    : Nat
  epi    : Nat
  units  : Nat
  trip   : Nat
  arg    : Word
  wtok   : BitVec 32
  stok   : BitVec 32
  dmask  : Word
  deriving DecidableEq, Repr

/-- An ordered scatter-add update (R115-R117). -/
structure OsUpd where
  pa    : Nat
  val   : BitVec 32
  float : Bool
  conjK : Bool
  gate  : Nat
  conj  : BitVec 48
  pos   : BitVec 4
  seq   : Nat
  lane  : Nat
  src   : TileKey
  spilled : Bool
  q     : BitVec 4
  course : Nat
  deriving DecidableEq, Repr

/-- The gates one unit, or one die's dynamic walker (`lead = none`), still holds: ranges [lo, hi) in order (R40, R42). -/
structure Share where
  die    : DieId
  lead   : Option (BitVec 6)
  ranges : List (Nat × Nat)
  deriving DecidableEq, Repr

/-- A course in a launch queue (R36-R47, R386-R391). -/
structure Course where
  serial  : Nat
  cr      : CourseRec
  gates   : Nat
  started : Bool
  shares  : List Share
  growth  : Nat
  updates : List OsUpd
  grants  : List (DieId × Nat × Bool)
  /-- What happens-before the course's accesses, the accesses of its ended tasks, and the tiles of those tasks with the operation indices
  below which they may still have accesses in progress (R106). -/
  hb      : VClock
  out     : VClock
  tails   : List (TileKey × Nat)
  deriving DecidableEq, Repr

/-- A launch queue (R386-R391). -/
structure Queue where
  cls     : BitVec 3
  halted  : Bool
  courses : List Course
  next    : Nat
  lastAdm : Option Nat
  lastStart : Option Nat
  lastRet : Option Nat
  /-- The accesses of its retired courses, and what a course that was ended may still have in progress (R106). -/
  hb      : VClock
  tails   : List (TileKey × Nat)
  deriving DecidableEq, Repr

/-- A group of a context on a die (R48). -/
structure Group where
  die     : DieId
  g       : BitVec 8
  members : List (BitVec 6)
  gen     : BitVec 32
  /-- Who joined through which course (R48). -/
  by_     : List (BitVec 6 × BitVec 4)
  /-- The clock of the latest change, and the members before the changes of that clock (R91). -/
  was     : Nat × List (BitVec 6)
  deriving DecidableEq, Repr

/-- An arrival at a barrier object (R256); `gather` holds the offset and result id of an EVGATH. -/
structure Arrival where
  ob     : BarObj
  die    : DieId
  tid    : BitVec 6
  gather : Option (Nat × Nat)
  evs    : List (BitVec 32)
  close  : Bool
  system : Bool
  deriving DecidableEq, Repr

/-- A copy-queue entry (R182-R184). -/
structure CopyEntry where
  idx     : BitVec 32
  src     : Nat
  dst     : Nat
  len     : Nat
  fv      : Bool
  fdie    : DieId
  ftid    : BitVec 6
  foff    : Nat
  fval    : Word
  started : Bool
  copied  : Bool
  failed  : Bool
  port    : Option (BitVec 4)
  hb      : VClock
  /-- The tile that posted it and its operation index (R103). -/
  poster  : TileKey
  op      : Nat
  deriving DecidableEq, Repr

/-- A copy queue of a context on a die (R181): entries, indices, sticky bits, and the codes of the last 64 retired. -/
structure CopyQ where
  die     : DieId
  q       : Bool
  entries : List CopyEntry
  prod    : BitVec 32
  cons    : BitVec 32
  fovw    : Bool
  ferr    : Bool
  retired : List (BitVec 32 × BitVec 2)
  deriving DecidableEq, Repr

/-- An orbit of a cluster-shaped gate (R159-R174). -/
structure Orbit where
  cl      : ClusterId
  q       : BitVec 4
  course  : Nat
  gate    : Nat
  word    : Word
  ordinal : Nat
  attachedN : Nat
  lap     : Nat
  step    : Nat
  total   : Nat
  /-- The orbit's clock, which stops while its cluster is switched out (R166); on it, the start of the lap, the latest
  arming, release or start of a lap, the last step's completion, and the completion of the step in progress. -/
  clk     : Nat
  lapAt   : Nat
  after   : Nat
  doneAt  : Nat
  stepDue : Option Nat
  /-- The clock in which a body transfer of the step in progress has yielded last (R67, R166). -/
  yieldAt : Option Nat
  lapOver : Bool
  olap    : List (TileKey × Nat)
  odet    : List (TileKey × Nat)
  want    : Bool
  leave   : Bool
  count   : BitVec 32
  deriving DecidableEq, Repr

/-- An image that LOAD made by translation: the template's place and size, the retranslation that runs after the swap, and whether
the template has been freed (R331). -/
structure CtxImage where
  base    : BitVec 56
  size    : Nat
  cur     : Option (BitVec 56)
  freed   : Bool
  deriving DecidableEq, Repr

/-- A context (R33). -/
structure Ctx where
  id      : CtxId
  part    : BitVec 4
  asid    : BitVec 16
  dies    : Word
  det     : Bool
  qmode   : Bool
  debug   : Bool
  weights : Word
  tvec    : Word
  spill   : Word
  spillSz : Nat
  cmask   : Word
  mmask   : Word
  queues  : List Queue
  tokens  : List (BitVec 32 × BitVec 32 × VClock)
  groups  : List Group
  arrivals : List Arrival
  copyQs  : List CopyQ
  orbits  : List Orbit
  ordinals : List (ClusterId × Nat × Nat)
  transit : List OsUpd
  /-- The images that LOAD made by translation (R331). -/
  imgs    : List CtxImage
  /-- The queue that started the latest course of a class (R388), and the queue whose course a die's walker offered a unit
  last, by class (R390). -/
  lastCls : List (BitVec 3 × BitVec 4)
  offers  : List (DieId × BitVec 3 × BitVec 4)
  /-- The slot of the context's save areas and images on each die (R398). -/
  slots   : List (DieId × Nat)
  deriving DecidableEq, Repr

/-! ### Dies and the package -/

/-- A leaf translation (R399-R401). -/
structure Leaf where
  asid  : BitVec 16
  va    : BitVec 56
  sz    : BitVec 2
  frame : Nat
  r     : Bool
  w     : Bool
  x     : Bool
  dup   : Bool
  mig   : Bool
  deriving DecidableEq, Repr

/-- An error record (R417, R426). -/
structure ErrRec where
  tcause : Word
  i0 : Word
  i1 : Word
  i2 : Word
  i3 : Word
  deriving DecidableEq, Repr

/-- The exceptions that a patrol access raises on its own core (R367, R368, R370). -/
inductive PatrolExc where
  | accessFault | illegalInstruction
  deriving DecidableEq, Repr

/-- A cluster of a die: scheduling (R392-R394) and its patrol core's registers (R368). -/
structure Cluster where
  resident : Option CtxId
  sliceEnd : Nat
  overrun  : Bool
  /-- Pass value and debt of each context, and the contexts that are runnable (R393). -/
  passes   : List (CtxId × Nat × Nat)
  ready    : List CtxId
  /-- Until when slices are withheld for a power cap (R441). -/
  withheld : Nat
  ptsel    : BitVec 32
  ptwa     : BitVec 32
  ptwdl    : BitVec 32
  ptwdh    : BitVec 32
  rdata    : BitVec 32
  exc      : Option PatrolExc
  /-- The patrol core's instruction and data SRAM, and the words at its endpoint to the groomer core: only its RISC-V program uses them
  (R367; log 66). -/
  sram     : List Host.Cell
  endpoint : List Word
  deriving DecidableEq, Repr

/-- A compute die (R10-R13, R404, R421, R426, R441). -/
structure Die where
  cs    : Bool
  ms    : Bool
  cyc   : Nat
  tlb   : List Leaf
  c0    : Cluster
  c1    : Cluster
  c2    : Cluster
  c3    : Cluster
  errs  : List ErrRec
  hot   : Bool
  edgeE : Bool
  edgeS : Bool
  /-- The self-tests that run: of which structure, until which clock, and in which cycle of the die the error was found (R416). -/
  testing : List (ErrSite × Nat × Nat)
  /-- The die's bring-up test failed: its domains stay in reset (R427, R440). -/
  inReset : Bool
  deriving DecidableEq, Repr

/-- An address space (R400, R436). -/
structure AddrSpace where
  asid : BitVec 16
  part : BitVec 4
  root : Nat
  deriving DecidableEq, Repr

/-- Work of the lodge on one page (R406-R413): a revocation, a move, a duplication and its end, a change of the leaf's entry, and the
request of a tile (a walk, a handle fault, a fetch) that waits for its turn. -/
inductive PageWork where
  | revoke
  | migrate (dst : DieId)
  | duplicate (dies : Word)
  | endDup
  | change (at_ : Nat) (entry : Word)
  | serve (k : TileKey) (i : Instr)
  deriving DecidableEq, Repr

/-- A page request with its progress; `old` names the frame and size that a changed leaf had before (R407). -/
structure PageReq where
  pg      : PageRef
  work    : PageWork
  old     : Option (Nat × BitVec 2)
  begun   : Bool
  waiting : List DieId
  deriving DecidableEq, Repr

/-- The extra copies of a read-duplicated page (R411), with its home frame and its size. -/
structure DupPage where
  pg     : PageRef
  frame  : Nat
  sz     : BitVec 2
  copies : List (DieId × Nat)
  deriving DecidableEq, Repr

/-- An endpoint's inbox at the host (R427, R429). -/
structure Inbox where
  part  : BitVec 4
  ep    : BitVec 7
  base  : Nat
  slots : Nat
  idx   : Nat
  cons  : Nat
  /-- How often the endpoint has raised its MSI-X vector. -/
  raised : Nat
  deriving DecidableEq, Repr

/-- A message on its way to the host (R383, R384, R429). -/
structure OutMsg where
  part : BitVec 4
  ep   : BitVec 7
  w    : List Word
  deriving DecidableEq, Repr

/-- A pairing of a proxy page with a peer port (R433, R438). -/
structure Pairing where
  port    : BitVec 4
  ctx     : CtxId
  part    : BitVec 4
  tag     : BitVec 32
  va      : BitVec 56
  frame   : Nat
  station : BitVec 48
  key     : Word
  active  : Bool
  since   : Nat
  up      : Bool
  deriving DecidableEq, Repr

/-- An image that was verified and runs (R437, R439): type, version, digest. -/
structure RunImage where
  ty      : BitVec 16
  version : BitVec 32
  digest  : BitVec 384
  deriving DecidableEq, Repr

/-- An opaque block of a save area (R369, R374): the sequencer and region block and the parts of a tile that have no
architected layout, kept beside the physical address they stand at. -/
structure SavedBlock where
  pa    : Nat
  core  : TileCore
  mark  : TileCore
  snap  : List InFlight
  gated : List Gated
  stores : Nat
  deriving DecidableEq, Repr

/-- A copy of a tile's opaque block that the patrol core has begun to read: its words are the free values from `base` on (R369). -/
structure BlockCopy where
  at_   : TileKey
  base  : Nat
  block : SavedBlock
  deriving DecidableEq, Repr

/-- A step that will happen: at a clock, at a tile (or at the context, die or cluster that the tile names). -/
structure Event where
  due  : Nat
  at_  : TileKey
  step : Instr
  deriving DecidableEq, Repr

/-- A background retranslation: of which image, at which load address, from which bytes (R331, R397). -/
structure RetransJob where
  ctx  : CtxId
  base : BitVec 56
  code : List Byte
  deriving DecidableEq, Repr

/-- The reports that the monitor has built, whether the latest one named is signed, and the report that a call of ATTESTSIGN names, an
input (R436, R439; log 5). -/
structure LodgeBuf where
  reports : List (List Byte)
  signed : Bool
  asked  : List Byte
  deriving DecidableEq, Repr

/-- The whole machine. -/
structure State where
  clock  : Nat
  cur    : TileKey
  turn   : List TileKey
  /-- The cells that a tile must reach in a clock behind tiles whose turns of that clock are still to come, and committed cell operations
  that wait for those turns (R79). -/
  behind : Nat × TileKey × List Place
  lateCells : List (TileKey × Gated)
  events : List Event
  free   : Nat
  booted : Bool
  mem    : List Host.Cell
  memPoison : List Nat
  tiles  : List (TileKey × Tile)
  ctxs   : List Ctx
  dies   : List (DieId × Die)
  nextCtx : CtxId
  parts  : List (DieId × BitVec 4)
  hostWin : List (BitVec 4 × Nat × Nat)
  slices  : List (BitVec 4 × Nat)
  stations : List (BitVec 4 × BitVec 48)
  etherTypes : List (BitVec 4 × BitVec 16)
  powerCaps : List (BitVec 4 × Nat)
  /-- The log area of boot flash: the causes of failed package resets (R440). -/
  bootLog : List Word
  /-- The configuration record that boot flash holds, and which of its writes through function 0 was the latest: its images stand for that
  write (R431, R437, R439; log 4). -/
  flashRec : Config.BootRecord
  flashNo : Nat
  asids  : List AddrSpace
  pageReqs : List PageReq
  dups   : List DupPage
  dramTags : List (Nat × RelTag)
  /-- Host messages that have arrived and are not handled, and the partition whose message the lodge handled last (R397). -/
  msgs   : List Msg
  lastPart : BitVec 4
  /-- Walks that wait for one of the 128 walkers, those that have one, and the partition that a walker was given to last; the
  retranslations that wait, the one that is made, and the partition of the latest (R397). -/
  walks    : List (TileKey × Instr)
  walkers  : List (TileKey × Instr)
  lastWalk : BitVec 4
  jobs     : List RetransJob
  job      : Option RetransJob
  lastJob  : BitVec 4
  inboxes : List Inbox
  outbox : List OutMsg
  advisories : Nat
  pairings : List Pairing
  images : List RunImage
  /-- The images that IMGCHECK has passed and that no core runs yet (R436). -/
  checked : List RunImage
  minVer : List (BitVec 16 × BitVec 32)
  buf    : LodgeBuf
  saved  : List SavedBlock
  copies : List BlockCopy
  errLog : List (BitVec 4 × DieId × ErrRec)
  /-- What the latest call of the monitor returned in a0 (R436). -/
  a0     : Word
  deriving DecidableEq, Repr

/-! ### Reset -/

/-- A handle register that was never made (R80). -/
def Handle.reset : Handle :=
  { v := false, w := false, sz := 0, ldie := 0, dup := false, t := false, vpn := 0, frame := 0, pend := false }

/-- No events. -/
def EvCount.zero : EvCount :=
  { inv := 0, ovf := 0, unf := 0, inx := 0, sat := 0, trn := 0, nan := 0, wld := 0, div := 0 }

/-- The sequencer with nothing running. -/
def Seq.reset : Seq :=
  { pc := 0, loops := [], kernelDone := false, skew := 0, waitLeft := 0, drain := false, ending := false, waitu := none,
    waitb := none, barrier := none, hdr := 0, here := 0, slot := 0, target := none, fences := [], busy0 := 0, busy1 := 0,
    busyFree0 := false, busyFree1 := false, ring := none, owe := 0, safe := false, chose := false, diverged := none }

/-- The matrix state of a first dispatch: MODE 0b01, every accumulator +0 with kind none (R144, R145). -/
def MxCore.reset : MxCore :=
  { mxcfg := 1, cim := false, desc := [], pages := [], acc := [], queue := [], clk := 0, loadFree := 0, streamFree := 0, lastEvent := 0 }

/-- An empty spin-buffer entry: six all-zero slots (R231). -/
def SpinEntry.empty : SpinEntry := { slots := [0, 0, 0, 0, 0, 0], limm := 0, nprof := 0 }

/-- The state of a first dispatch (R29, R144, R239). -/
def TileCore.reset : TileCore :=
  { m := Vector.replicate 64 0, o := Vector.replicate 8 0, p := Vector.replicate 32 0,
    h := Vector.replicate 16 Handle.reset, opnd := Vector.replicate 36 0, opMask := Vector.replicate 36 (BitVec.allOnes 64),
    res := Vector.replicate 72 0, queues := [], unread := [], owners := [], lockmask := 0, frm := 0, bf := Vector.replicate 24 0,
    ev := Vector.replicate 16 0, osSeq := 0, spinBuf := Vector.replicate 16 SpinEntry.empty, recIdx := 0, spin := none,
    seq := Seq.reset, mx := MxCore.reset, flight := [], xlats := [], gloads := [], cellRds := [], rlds := [] }

/-- A station off every orbit. -/
def Station.reset : Station :=
  { attached := false, armed := false, stepped := false, eph := [], pro := { id := 0xFFFF, slot := 0 },
    ret := { id := 0xFFFF, slot := 0 }, held := none, misses := [], recov := [], ops := [], released := true, holding := [] }

/-- A tile after its reset, which is the state of a first dispatch (R422, R29, R66, R144); the registers to which spec/
gives no reset value are 0 (DESIGN CHOICE, log 8). -/
def Tile.reset : Tile :=
  { core := TileCore.reset, mark := TileCore.reset, task := none, frozen := false, gated := [], wrote := [], stores := 0, scratch := [],
    full := [], held := [], poison := [], shadow := [], lsq := [], issue := 0, ibuf := [],
    locks := [], dma := [], nextTag := 0, sends := [], cfill := 0, cdrain := 0, tv := false, inh := false,
    nest := false, priv := false, code := 0, tepc := 0, tinfo := Vector.replicate 4 0, savebase := 0, stubbase := 0,
    heldCauses := [], faultH := none, refused := [], snap := [], stubFrom := 0, user := none, under := none, owed := EvCount.zero, out := false, dispatched := false, frame := none, conjQ := [], station := Station.reset,
    vcs := Vector.replicate 6 [], rel := [], acq := [], lines := [], tags := [],
    markHb := { vcs := Vector.replicate 6 [], rel := [], acq := [] }, posts := [], trace := [], towN := 0, markAt := (0, 0),
    towAt := none, ahead := 0, nextId := 0 }

/-- A cluster with no context (R393), its patrol core's registers 0 (DESIGN CHOICE, log 8) and its SRAM with nothing listed (DESIGN CHOICE, log 66). -/
def Cluster.reset : Cluster :=
  { resident := none, sliceEnd := 0, overrun := false, passes := [], ready := [], withheld := 0, ptsel := 0, ptwa := 0, ptwdl := 0,
    ptwdh := 0, rdata := 0, exc := none, sram := [], endpoint := [] }

/-- A die after bring-up: both sides in service (R440). -/
def Die.reset : Die :=
  { cs := true, ms := true, cyc := 0, tlb := [], c0 := Cluster.reset, c1 := Cluster.reset, c2 := Cluster.reset,
    c3 := Cluster.reset, errs := [], hot := false, edgeE := true,
    edgeS := true, testing := [], inReset := false }

/-- The tile that no context uses: identifier 0xFFFF (R360). -/
def TileKey.none : TileKey := { ctx := 0xFFFF, die := 0, tid := 0 }

/-- The machine right after a package reset, its bring-up done (R422, R440): no context, no page, every stack zero, all dies
in service. The partition map and the other contents of the configuration record stand at the values of log 4. -/
def State.reset : State :=
  { clock := 0, cur := TileKey.none, turn := [], behind := (0, TileKey.none, []), lateCells := [], events := [], free := 0, booted := true, mem := [], memPoison := [],
    tiles := [], ctxs := [], dies := [], nextCtx := 0, parts := [], hostWin := [], slices := [], stations := [], etherTypes := [], powerCaps := [], bootLog := [], flashRec := Config.BootRecord.empty, flashNo := 0, asids := [], pageReqs := [], dups := [],
    dramTags := [], msgs := [], lastPart := 15, walks := [], walkers := [], lastWalk := 15, jobs := [], job := none, lastJob := 15, inboxes := [], outbox := [], advisories := 0, pairings := [], images := [], checked := [],
    minVer := [], buf := { reports := [], signed := false, asked := [] }, saved := [], copies := [], errLog := [], a0 := 0 }

end Sys2Proof.Machine
end

