-- ==== Sys2Proof/Machine/Access.lean ====
section
/-! DEFINITION. Reading and writing the parts of the state: association lists, tiles, contexts, dies, ports, bytes. -/

namespace Sys2Proof.Machine

/-- What a step of the machine answers. -/
abbrev Out := Host.Outcome State Fault Refusal

/-! ### Association lists -/

/-- The value of a key. -/
def assocGet {α β : Type} [DecidableEq α] (l : List (α × β)) (k : α) : Option β :=
  match l with
  | [] => none
  | (a, b) :: r => if a = k then some b else assocGet r k

/-- The list with the value of a key replaced, or the key added at the end. -/
def assocSet {α β : Type} [DecidableEq α] (l : List (α × β)) (k : α) (v : β) : List (α × β) :=
  match l with
  | [] => [(k, v)]
  | (a, b) :: r => if a = k then (a, v) :: r else (a, b) :: assocSet r k v

/-! ### Tiles -/

/-- A tile of a context; one that is not listed is as its first dispatch leaves it (R29, R66). -/
def State.tileAt (s : State) (k : TileKey) : Tile := (assocGet s.tiles k).getD Tile.reset

/-- The state with a tile replaced. -/
def State.setTileAt (s : State) (k : TileKey) (t : Tile) : State := { s with tiles := assocSet s.tiles k t }

/-- A tile changed. -/
def State.modTileAt (s : State) (k : TileKey) (f : Tile → Tile) : State := s.setTileAt k (f (s.tileAt k))

/-- The tile that the step is about. -/
def State.tile (s : State) : Tile := s.tileAt s.cur

/-- The state with that tile replaced. -/
def State.setTile (s : State) (t : Tile) : State := s.setTileAt s.cur t

/-- That tile changed. -/
def State.modTile (s : State) (f : Tile → Tile) : State := s.setTile (f s.tile)

/-- A tile's core changed. -/
def Tile.mapCore (t : Tile) (f : TileCore → TileCore) : Tile := { t with core := f t.core }

/-- A tile's sequencer changed. -/
def Tile.mapSeq (t : Tile) (f : Seq → Seq) : Tile := t.mapCore (fun c => { c with seq := f c.seq })

/-- A change made to the live state and to the copy of the last mark point alike: what belongs to an operation triggered
before the mark is kept by a rollback (R58, R143). -/
def Tile.mapBoth (t : Tile) (f : TileCore → TileCore) : Tile := { t with core := f t.core, mark := f t.mark }

/-- The sequencers that a tile keeps beside its own: the user's under a stub, and the frame's (R359, R371). -/
def Tile.mapSide (t : Tile) (f : Seq → Seq) : Tile :=
  { t with user := t.user.map (fun u => { u with seq := f u.seq }), frame := t.frame.map (fun x => { x with seq := f x.seq }) }

/-- Every sequencer that a tile holds: its own, the mark's, the user's under a stub, the frame's. -/
def Tile.mapSeqs (t : Tile) (f : Seq → Seq) : Tile := (t.mapBoth (fun c => { c with seq := f c.seq })).mapSide f

/-! ### Dies, clusters, contexts -/

/-- A die; one that is not listed is as the bring-up leaves it (R440). -/
def State.dieAt (s : State) (d : DieId) : Die := (assocGet s.dies d).getD Die.reset

/-- A die changed. -/
def State.modDie (s : State) (d : DieId) (f : Die → Die) : State := { s with dies := assocSet s.dies d (f (s.dieAt d)) }

/-- A cluster of a die. -/
def Die.cluster (d : Die) (c : BitVec 2) : Cluster :=
  match c.toNat with
  | 0 => d.c0
  | 1 => d.c1
  | 2 => d.c2
  | _ => d.c3

/-- A die with a cluster replaced. -/
def Die.setCluster (d : Die) (c : BitVec 2) (v : Cluster) : Die :=
  match c.toNat with
  | 0 => { d with c0 := v }
  | 1 => { d with c1 := v }
  | 2 => { d with c2 := v }
  | _ => { d with c3 := v }

/-- A cluster. -/
def State.clusterAt (s : State) (c : ClusterId) : Cluster := (s.dieAt c.die).cluster c.cid

/-- A cluster changed. -/
def State.modCluster (s : State) (c : ClusterId) (f : Cluster → Cluster) : State :=
  s.modDie c.die (fun d => d.setCluster c.cid (f (d.cluster c.cid)))

/-- The cluster number and the ring position of a tile (R13). -/
def tidCluster (tid : BitVec 6) : BitVec 2 := tid.extractLsb' 4 2
/-- The ring position of a tile (R13). -/
def tidRing (tid : BitVec 6) : BitVec 4 := tid.extractLsb' 0 4
/-- The tile at a ring position of a cluster (R13). -/
def tidOf (cid : BitVec 2) (rp : BitVec 4) : BitVec 6 := cid ++ rp

/-- The cluster of a tile (R13). -/
def keyCluster (k : TileKey) : ClusterId := { die := k.die, cid := tidCluster k.tid }

/-- Another tile of the same context and die. -/
def keyPeer (k : TileKey) (tid : BitVec 6) : TileKey := { k with tid := tid }

/-- A context that does not exist: no allotment, no flags. -/
def Ctx.blank (id : CtxId) : Ctx :=
  { id := id, part := 0, asid := 0, dies := 0, det := false, qmode := false, debug := false, weights := 0, tvec := 0,
    spill := 0, spillSz := 0, cmask := 0, mmask := 0, queues := [], tokens := [], groups := [],
    arrivals := [], copyQs := [], orbits := [], ordinals := [], transit := [], imgs := [],
    lastCls := [], offers := [], slots := [] }

/-- The context with an identifier, if it exists. -/
def State.ctxAt? (s : State) (id : CtxId) : Option Ctx := s.ctxs.find? (fun c => c.id = id)

/-- The context with an identifier. -/
def State.ctxAt (s : State) (id : CtxId) : Ctx := (s.ctxAt? id).getD (Ctx.blank id)

/-- The context of the tile that the step is about. -/
def State.ctx (s : State) : Ctx := s.ctxAt s.cur.ctx

/-- A context changed, where it exists. -/
def State.modCtx (s : State) (id : CtxId) (f : Ctx → Ctx) : State :=
  { s with ctxs := s.ctxs.map (fun c => if c.id = id then f c else c) }

/-- Every context changed. -/
def State.mapCtxs (s : State) (f : Ctx → Ctx) : State := { s with ctxs := s.ctxs.map f }

/-- Every tile changed. -/
def State.mapTiles (s : State) (f : TileKey → Tile → Tile) : State :=
  { s with tiles := s.tiles.map (fun x : TileKey × Tile => (x.1, f x.1 x.2)) }

/-- The number of dies of the allotment below a physical die: its logical index (R10, R385). -/
def Ctx.logical (c : Ctx) (d : DieId) : Nat := countBelow (fun i => c.dies.getLsbD i) d.toNat

/-- The allotted dies in ascending order: logical index k is the k-th (R10, R385). -/
def Ctx.dieList (c : Ctx) : List DieId :=
  (List.range 64).filterMap (fun i => if c.dies.getLsbD i then some (BitVec.ofNat 6 i) else none)

/-- The cycle counter of a die (R2, R32): the clock, from where bring-up aligned it. -/
def State.cycle (s : State) (d : DieId) : Nat := s.clock + (s.dieAt d).cyc

/-! ### Ports -/

/-- Every socket (R14). -/
def allSocks : List Sock :=
  [.alu0, .alu1, .mul, .prd, .xlt, .lsu0, .lsu1, .sync, .valu0, .valu1, .vsfu, .perm, .mx, .orb, .dma, .net, .sys]

/-- A socket's number as an index (R14). -/
def sockIdx : Sock → Fin 18
  | .alu0 => 1
  | .alu1 => 2
  | .mul => 3
  | .prd => 4
  | .xlt => 5
  | .lsu0 => 6
  | .lsu1 => 7
  | .sync => 8
  | .valu0 => 9
  | .valu1 => 10
  | .vsfu => 11
  | .perm => 12
  | .mx => 13
  | .orb => 14
  | .dma => 15
  | .net => 16
  | .sys => 17

/-- Where the operand ports stand: 2 × socket + port (R369). -/
def opIdx (sk : Sock) (pt : OPort) : Fin 36 :=
  match pt with
  | .a => ⟨2 * (sockIdx sk).val, by have := (sockIdx sk).isLt; omega⟩
  | .b => ⟨2 * (sockIdx sk).val + 1, by have := (sockIdx sk).isLt; omega⟩

/-- Where the result ports stand: 4 × socket + port (R369). -/
def resIdx (sk : Sock) (p : RPort) : Fin 72 :=
  match p with
  | .q => ⟨4 * (sockIdx sk).val, by have := (sockIdx sk).isLt; omega⟩
  | .qp => ⟨4 * (sockIdx sk).val + 1, by have := (sockIdx sk).isLt; omega⟩
  | .q1 => ⟨4 * (sockIdx sk).val + 2, by have := (sockIdx sk).isLt; omega⟩

/-- An operand port (R16). -/
def TileCore.opnd' (c : TileCore) (sk : Sock) (pt : OPort) : Wide := c.opnd.get (opIdx sk pt)

/-- An operand port's recorded mask (R239). -/
def TileCore.mask' (c : TileCore) (sk : Sock) (pt : OPort) : Word := c.opMask.get (opIdx sk pt)

/-- An operand port written, with its recorded mask (R16, R239). -/
def TileCore.setOpnd (c : TileCore) (sk : Sock) (pt : OPort) (v : Wide) (mask : Word) : TileCore :=
  { c with opnd := c.opnd.set (opIdx sk pt).val v (opIdx sk pt).isLt,
           opMask := c.opMask.set (opIdx sk pt).val mask (opIdx sk pt).isLt }

/-- A result port (R19). -/
def TileCore.res' (c : TileCore) (sk : Sock) (p : RPort) : Wide := c.res.get (resIdx sk p)

/-- A result port written. -/
def TileCore.setRes (c : TileCore) (sk : Sock) (p : RPort) (v : Wide) : TileCore :=
  { c with res := c.res.set (resIdx sk p).val v (resIdx sk p).isLt }

/-- The queue of a result port in queue mode (R27). -/
def TileCore.queue' (c : TileCore) (sk : Sock) (p : RPort) : List Wide :=
  match c.queues.find? (fun x => x.1 = sk && x.2.1 = p) with
  | some x => x.2.2
  | none => []

/-- That queue replaced. -/
def TileCore.setQueue (c : TileCore) (sk : Sock) (p : RPort) (q : List Wide) : TileCore :=
  { c with queues := (if q = [] then [] else [(sk, p, q)]) ++ c.queues.filter (fun x => !(x.1 = sk && x.2.1 = p)) }

/-- A predicate register; p0 reads as all ones (R28). -/
def TileCore.pred (c : TileCore) (n : BitVec 5) : Word := if n = 0 then BitVec.allOnes 64 else c.p.get n.toFin

/-- A predicate register written; p0 ignores writes (R28). -/
def TileCore.setPred (c : TileCore) (n : BitVec 5) (v : Word) : TileCore :=
  if n = 0 then c else { c with p := c.p.set n.toNat v n.isLt }

/-- A main register written. -/
def TileCore.setM (c : TileCore) (n : BitVec 6) (v : Wide) : TileCore := { c with m := c.m.set n.toNat v n.isLt }

/-- An operand-file register written. -/
def TileCore.setO (c : TileCore) (n : BitVec 3) (v : Wide) : TileCore := { c with o := c.o.set n.toNat v n.isLt }

/-- A handle register written. -/
def TileCore.setH (c : TileCore) (n : BitVec 4) (v : Handle) : TileCore := { c with h := c.h.set n.toNat v n.isLt }

/-- A bank format register; 0 beyond bank 23 (R68). -/
def TileCore.bfOf (c : TileCore) (b : Nat) : BitVec 32 := if h : b < 24 then c.bf.get ⟨b, h⟩ else 0

/-- Is the unit free-running (R24, R26)? -/
def TileCore.unitFree (c : TileCore) (sk : Sock) : Bool :=
  match sk with
  | .alu0 => c.lockmask.getLsbD 1
  | .alu1 => c.lockmask.getLsbD 2
  | .mul => c.lockmask.getLsbD 3
  | .prd => c.lockmask.getLsbD 4
  | .xlt => false
  | .lsu0 => c.lockmask.getLsbD 6
  | .lsu1 => c.lockmask.getLsbD 7
  | .sync => false
  | .valu0 => c.lockmask.getLsbD 9
  | .valu1 => c.lockmask.getLsbD 10
  | .vsfu => c.lockmask.getLsbD 11
  | .perm => c.lockmask.getLsbD 12
  | .mx => c.lockmask.getLsbD 13
  | .orb => c.lockmask.getLsbD 14
  | .dma => false
  | .net => false
  | .sys => false

/-! ### Bytes -/

/-- The byte an address holds: an address that is not listed reads as 0 (R66, R440; host memory log 7). -/
def cellsGet (l : List Host.Cell) (a : Nat) : Byte :=
  match l with
  | [] => 0
  | (k, v) :: r => if k = a then v else cellsGet r a

/-- A byte written, keeping the canonical form: addresses rising, no zero listed. -/
def cellsSet (l : List Host.Cell) (a : Nat) (v : Byte) : List Host.Cell :=
  match l with
  | [] => if v = 0 then [] else [(a, v)]
  | (k, w) :: r =>
    if k = a then (if v = 0 then r else (a, v) :: r)
    else if a < k then (if v = 0 then (k, w) :: r else (a, v) :: (k, w) :: r)
    else (k, w) :: cellsSet r a v

/-- The canonical form of a memory, from an address on: addresses strictly rising, and no entry 0. -/
def cellsWf (lo : Nat) : List Host.Cell → Bool
  | [] => true
  | (k, v) :: r => lo ≤ k && v ≠ 0 && cellsWf (k + 1) r

/-- The canonical form of a memory. -/
def Memory.wf (l : List Host.Cell) : Bool := cellsWf 0 l

/-- n bytes from an address on. -/
def cellsRead (l : List Host.Cell) (a : Nat) : Nat → List Byte
  | 0 => []
  | n + 1 => cellsGet l a :: cellsRead l (a + 1) n

/-- Bytes written from an address on. -/
def cellsWrite (l : List Host.Cell) (a : Nat) : List Byte → List Host.Cell
  | [] => l
  | b :: bs => cellsWrite (cellsSet l a b) (a + 1) bs

/-- A byte of DRAM or host memory. -/
def State.memByte (s : State) (pa : Nat) : Byte := cellsGet s.mem pa

/-- n bytes of DRAM or host memory, as a number (R5). -/
def State.memRead (s : State) (pa n : Nat) : Nat := ofBytes (cellsRead s.mem pa n)

/-- Bytes of DRAM or host memory written. -/
def State.memWrite (s : State) (pa : Nat) (bs : List Byte) : State := { s with mem := cellsWrite s.mem pa bs }

/-- A scratchpad byte. -/
def Tile.byte (t : Tile) (off : Nat) : Byte := cellsGet t.scratch off

/-- n scratchpad bytes, as a number (R5). -/
def Tile.spRead (t : Tile) (off n : Nat) : Nat := ofBytes (cellsRead t.scratch off n)

/-- Scratchpad bytes written. -/
def Tile.spWrite (t : Tile) (off : Nat) (bs : List Byte) : Tile := { t with scratch := cellsWrite t.scratch off bs }

/-- The scratchpad's size and a bank's (R65). -/
def spSize : Nat := 0x180000
/-- The size of a bank (R65). -/
def bankSize : Nat := 0x10000

/-- An index for a new operation, higher than every earlier one of the tile. -/
def Tile.fresh (t : Tile) : Nat × Tile := (t.nextId, { t with nextId := t.nextId + 1 })

/-- The count of free values moves on (log 3). -/
def State.spend (s : State) : State := { s with free := s.free + 1 }

/-- A free delay is drawn (log 3). -/
def State.drawDelay (s : State) : Nat × State := (Config.freeDelay s.free, s.spend)

/-- A step that will happen at a tile, at a clock. -/
def State.addEvent (s : State) (due : Nat) (k : TileKey) (i : Instr) : State :=
  { s with events := s.events ++ [{ due := due, at_ := k, step := i }] }

/-- A step that will happen at a tile after a free delay (log 3). -/
def State.addLater (s : State) (k : TileKey) (i : Instr) : State :=
  { s with events := s.events ++ [{ due := s.clock + Config.freeDelay s.free, at_ := k, step := i }], free := s.free + 1 }

/-! ### Round robin among the partitions (R397) -/

/-- The partition served next among some, in round robin after the one served last (R397). -/
def nextPart (last : BitVec 4) (ps : List (BitVec 4)) : Option (BitVec 4) :=
  ((List.range 16).map (fun i => last + BitVec.ofNat 4 (i + 1))).find? (· ∈ ps)

/-- A free walker is given to the oldest walk of the partition whose turn it is (R397). -/
def State.giveWalker (s : State) : State :=
  let part (w : TileKey × Instr) : BitVec 4 := (s.ctxAt w.1.ctx).part
  match (if s.walkers.length < 128 then nextPart s.lastWalk (s.walks.map part) else none) with
  | none => s
  | some p => match s.walks.find? (fun w => part w = p) with
    | none => s
    | some w => ({ s with walks := s.walks.erase w, walkers := s.walkers ++ [w], lastWalk := p } : State).addLater w.1 w.2

/-- A step at a tile needs a walker (R397, R404, R409). -/
def State.askWalk (s : State) (k : TileKey) (i : Instr) : State := ({ s with walks := s.walks ++ [(k, i)] } : State).giveWalker

/-- The walker of a tile's step is free again (R397). -/
def State.endWalk (s : State) (k : TileKey) (i : Instr) : State := ({ s with walkers := s.walkers.erase (k, i) } : State).giveWalker

/-- The step that ends a background retranslation is on its way. -/
def State.swapComing (s : State) : Bool := s.events.any (fun e => e.step = .retranslationSwap)

/-- The next background retranslation begins: of the oldest image of the partition whose turn it is, one at a time (R331, R397). -/
def State.startJob (s : State) : State :=
  let part (j : RetransJob) : BitVec 4 := (s.ctxAt j.ctx).part
  match (if s.job.isNone then nextPart s.lastJob (s.jobs.map part) else none) with
  | none => s
  | some p => match s.jobs.find? (fun j => part j = p) with
    | none => s
    | some j => ({ s with jobs := s.jobs.erase j, job := some j, lastJob := p } : State).addLater { ctx := j.ctx, die := 0, tid := 0 } .retranslationSwap

end Sys2Proof.Machine
end

