-- ==== Sys2Proof/Machine/Float.lean ====
section
/-! DEFINITION. Number formats, rounding and conversions (R122-R133). Every operation converts its operands to exact
numbers, computes exactly, and rounds once. -/

namespace Sys2Proof.Machine

/-! ### Events -/

/-- Two sets of events together (R143). -/
def EvCount.add (a b : EvCount) : EvCount :=
  { inv := a.inv + b.inv, ovf := a.ovf + b.ovf, unf := a.unf + b.unf, inx := a.inx + b.inx, sat := a.sat + b.sat,
    trn := a.trn + b.trn, nan := a.nan + b.nan, wld := a.wld + b.wld, div := a.div + b.div }

/-- An invalid operation that produces a NaN (R124). -/
def evInvNan : EvCount := { EvCount.zero with inv := 1, nan := 1 }
/-- A NaN that is delivered (R124). -/
def evNan : EvCount := { EvCount.zero with nan := 1 }
/-- An invalid operation (R124). -/
def evInv : EvCount := { EvCount.zero with inv := 1 }
/-- A saturation clamp (R122). -/
def evSat : EvCount := { EvCount.zero with sat := 1 }
/-- An inexact result (R124). -/
def evInx : EvCount := { EvCount.zero with inx := 1 }

/-- A value with the events of making it. -/
structure Res where
  val : Nat
  ev  : EvCount
  deriving DecidableEq, Repr

/-- A value that counts nothing. -/
def Res.pure (v : Nat) : Res := { val := v, ev := EvCount.zero }

/-! ### Formats -/

/-- The floating-point formats (R123). -/
inductive Fmt where
  | f32 | f16 | bf16 | e5m2 | e4m3
  deriving DecidableEq, Repr

/-- Bits of a format (R123). -/
def Fmt.width : Fmt → Nat
  | .f32 => 32
  | .f16 => 16
  | .bf16 => 16
  | .e5m2 => 8
  | .e4m3 => 8

/-- Mantissa bits (R123). -/
def Fmt.mant : Fmt → Nat
  | .f32 => 23
  | .f16 => 10
  | .bf16 => 7
  | .e5m2 => 2
  | .e4m3 => 3

/-- Exponent bits (R123). -/
def Fmt.exps (f : Fmt) : Nat := f.width - 1 - f.mant

/-- Exponent bias (R123). -/
def Fmt.bias (f : Fmt) : Nat := 2 ^ (f.exps - 1) - 1

/-- The exponent of the lowest mantissa bit of a subnormal (R123). -/
def Fmt.low (f : Fmt) : Int := 1 - (f.bias : Int) - f.mant

/-- The default NaN (R123). -/
def Fmt.nan : Fmt → Nat
  | .f32 => 0x7FC00000
  | .f16 => 0x7E00
  | .bf16 => 0x7FC0
  | .e5m2 => 0x7E
  | .e4m3 => 0x7F

/-- The magnitude bits of the largest finite value (R123). -/
def Fmt.maxBits : Fmt → Nat
  | .f32 => 0x7F7FFFFF
  | .f16 => 0x7BFF
  | .bf16 => 0x7F7F
  | .e5m2 => 0x7B
  | .e4m3 => 0x7E

/-- The magnitude bits of infinity; E4M3 has none (R123). -/
def Fmt.infBits : Fmt → Nat
  | .f32 => 0x7F800000
  | .f16 => 0x7C00
  | .bf16 => 0x7F80
  | .e5m2 => 0x7C
  | .e4m3 => 0x7F

/-- The sign bit (R123). -/
def Fmt.signBit (f : Fmt) (neg : Bool) : Nat := if neg then 2 ^ (f.width - 1) else 0

/-- A floating-point value: a NaN, an infinity, or (-1)^neg × m × 2^e. -/
inductive FVal where
  | nan (signalling : Bool)
  | inf (neg : Bool)
  | fin (neg : Bool) (m : Nat) (e : Int)
  deriving DecidableEq, Repr

/-- The value of an encoding (R123, R124). -/
def Fmt.decode (f : Fmt) (x : Nat) : FVal :=
  let x := x % 2 ^ f.width
  let neg := x.testBit (f.width - 1)
  let mag := x % 2 ^ (f.width - 1)
  let m := mag % 2 ^ f.mant
  let e := mag / 2 ^ f.mant
  if f = .e4m3 then
    if mag = 0x7F then .nan false
    else if e = 0 then .fin neg m f.low else .fin neg (m + 2 ^ f.mant) (f.low + (e - 1 : Nat))
  else if e = 2 ^ f.exps - 1 then (if m = 0 then .inf neg else .nan (!m.testBit (f.mant - 1)))
  else if e = 0 then .fin neg m f.low
  else .fin neg (m + 2 ^ f.mant) (f.low + (e - 1 : Nat))

/-- An exact or nearly exact magnitude: num × 2^e, or strictly between it and (num + 1) × 2^e when `sticky`. -/
structure Mag where
  num : Nat
  e   : Int
  sticky : Bool
  deriving DecidableEq, Repr

/-- p / q with at least 200 significant bits, and whether more remain. -/
def Mag.ofRat (p q : Nat) (e : Int) : Mag :=
  let k := 200 + bitLen q
  { num := p * 2 ^ k / q, e := e - k, sticky := p * 2 ^ k % q ≠ 0 }

/-- Whether a magnitude cut after `mant`, with the part below given, is rounded up (R130). -/
def roundsUp (mode : Nat) (neg odd above tie below : Bool) : Bool :=
  match mode with
  | 0 => above || (tie && odd)
  | 1 => false
  | 2 => !neg && (above || tie || below)
  | 3 => neg && (above || tie || below)
  | _ => above || tie

/-- A magnitude cut at the exponent q and rounded: the integer at 2^q, and whether the result is inexact (R130). -/
def Mag.cut (x : Mag) (mode : Nat) (neg : Bool) (q : Int) : Nat × Bool :=
  if q ≤ x.e then (x.num * 2 ^ (x.e - q).toNat, x.sticky)
  else
    let s := (q - x.e).toNat
    let mant := x.num / 2 ^ s
    let rem := x.num % 2 ^ s
    let half := 2 ^ (s - 1)
    let above := half < rem || (rem = half && x.sticky)
    let tie := rem = half && !x.sticky
    let below := (rem ≠ 0 || x.sticky) && rem < half
    (mant + (if roundsUp mode neg (mant % 2 = 1) above tie below then 1 else 0), rem ≠ 0 || x.sticky)

/-- What an overflow delivers (R130): infinity or the largest finite value, with E4M3 and FSAT as R130 gives. -/
def Fmt.overflow (f : Fmt) (mode : Nat) (fsat neg : Bool) : Res :=
  let toInf := match mode with
    | 1 => false
    | 2 => !neg
    | 3 => neg
    | _ => true
  let ev : EvCount := { EvCount.zero with ovf := 1, inx := 1 }
  let s := f.signBit neg
  if !toInf then { val := s + f.maxBits, ev := ev }
  else if (f = .e4m3 || f = .e5m2) && fsat then { val := s + f.maxBits, ev := ev.add evSat }
  else if f = .e4m3 then { val := f.nan, ev := ev.add evNan }
  else { val := s + f.infBits, ev := ev }

/-- round(x, fmt, mode) (R130), with tininess detected after rounding (R124). -/
def Fmt.round (f : Fmt) (mode : Nat) (fsat neg : Bool) (x : Mag) : Res :=
  if x.num = 0 && !x.sticky then Res.pure (f.signBit neg)
  else
    let big : Int := (bitLen x.num : Int) - 1 + x.e
    let emin : Int := f.low + f.mant
    let q : Int := if big < emin then f.low else big - f.mant
    let (mant, inexact) := x.cut mode neg q
    let bits := mant + ((q - f.low).toNat) * 2 ^ f.mant
    if f.maxBits < bits then f.overflow mode fsat neg
    else
      let tiny := big < emin && !(big = emin - 1 && (x.cut mode neg (big - f.mant)).1 = 2 ^ (f.mant + 1))
      { val := f.signBit neg + bits,
        ev := { EvCount.zero with inx := if inexact then 1 else 0, unf := if tiny && inexact then 1 else 0 } }

/-- An infinity delivered in a format: exact, but for E4M3 and FSAT (R130). -/
def Fmt.ofInf (f : Fmt) (fsat neg : Bool) : Res :=
  if (f = .e4m3 || f = .e5m2) && fsat then { val := f.signBit neg + f.maxBits, ev := evSat }
  else if f = .e4m3 then { val := f.nan, ev := evNan }
  else Res.pure (f.signBit neg + f.infBits)

/-- The default NaN, invalid when a signalling input made it (R124). -/
def Fmt.ofNan (f : Fmt) (signalling : Bool) : Res :=
  { val := f.nan, ev := if signalling then evInvNan else evNan }

/-- A value delivered in a format (R130, R132). -/
def Fmt.ofVal (f : Fmt) (mode : Nat) (fsat : Bool) : FVal → Res
  | .nan sg => f.ofNan sg
  | .inf neg => f.ofInf fsat neg
  | .fin neg m e => f.round mode fsat neg { num := m, e := e, sticky := false }

/-- Is the value a signalling NaN? -/
def FVal.isSnan : FVal → Bool
  | .nan sg => sg
  | _ => false

/-- Is the value a NaN? -/
def FVal.isNan : FVal → Bool
  | .nan _ => true
  | _ => false

/-- The sign of a value. -/
def FVal.neg : FVal → Bool
  | .nan _ => false
  | .inf n => n
  | .fin n _ _ => n

/-- The value with its sign turned. -/
def FVal.negate : FVal → FVal
  | .nan sg => .nan sg
  | .inf n => .inf (!n)
  | .fin n m e => .fin (!n) m e

/-- Is the value a zero? -/
def FVal.isZero : FVal → Bool
  | .fin _ 0 _ => true
  | _ => false

/-- The exact dyadic of a finite value. -/
def FVal.dyadic : FVal → Dyadic
  | .fin n m e => { m := if n then -(m : Int) else m, e := e }
  | _ => { m := 0, e := 0 }

/-- The exact sum (R9). -/
def Dyadic.add (x y : Dyadic) : Dyadic :=
  if x.e ≤ y.e then { m := x.m + y.m * 2 ^ (y.e - x.e).toNat, e := x.e }
  else { m := x.m * 2 ^ (x.e - y.e).toNat + y.m, e := y.e }

/-- The exact product (R9). -/
def Dyadic.mul (x y : Dyadic) : Dyadic := { m := x.m * y.m, e := x.e + y.e }

/-- A dyadic rounded; `zneg` is the sign of an exact zero (R130). -/
def Fmt.ofDyadic (f : Fmt) (mode : Nat) (fsat zneg : Bool) (x : Dyadic) : Res :=
  if x.m = 0 then Res.pure (f.signBit zneg)
  else f.round mode fsat (x.m < 0) { num := x.m.natAbs, e := x.e, sticky := false }

/-- The sum of two finite or infinite values, rounded once; a zero sum takes the IEEE sign (R265, R267). -/
def Fmt.sum (f : Fmt) (mode : Nat) (x y : FVal) : Res :=
  match x, y with
  | .nan a, .nan b => f.ofNan (a || b)
  | .nan a, _ => f.ofNan a
  | _, .nan b => f.ofNan b
  | .inf a, .inf b => if a = b then f.ofInf false a else { val := f.nan, ev := evInvNan }
  | .inf a, _ => f.ofInf false a
  | _, .inf b => f.ofInf false b
  | .fin a m e, .fin b n g =>
    let zneg := if m = 0 && n = 0 && a = b then a else mode = 3
    f.ofDyadic mode false zneg ((FVal.fin a m e).dyadic.add (FVal.fin b n g).dyadic)

/-- The product of two values; exact, so it may be used within a longer operation. `none` for 0 × ∞ (R266, R267). -/
def FVal.prod (x y : FVal) : Option FVal :=
  match x, y with
  | .nan a, .nan b => some (.nan (a || b))
  | .nan a, _ => some (.nan a)
  | _, .nan b => some (.nan b)
  | .inf a, y => if y.isZero then none else some (.inf (xor a y.neg))
  | x, .inf b => if x.isZero then none else some (.inf (xor x.neg b))
  | .fin a m e, .fin b n g => some (.fin (xor a b) (m * n) (e + g))

/-- a × t rounded (R266). -/
def Fmt.mul (f : Fmt) (mode : Nat) (x y : FVal) : Res :=
  match x.prod y with
  | none => { val := f.nan, ev := evInvNan }
  | some v => f.ofVal mode false v

/-- a × b + t rounded once (R267). -/
def Fmt.fma (f : Fmt) (mode : Nat) (a b t : FVal) : Res :=
  match a.prod b with
  | none => { val := f.nan, ev := evInvNan }
  | some v => f.sum mode v t

/-- f32_add_rne (R9) on encodings. -/
def f32AddRne (x y : Nat) : Res := Fmt.sum .f32 0 (Fmt.f32.decode x) (Fmt.f32.decode y)

/-- f32_mul_rne (R9, R127) of two values. -/
def f32MulRne (x y : FVal) : Res := Fmt.mul .f32 0 x y

/-- The order of two numbers, NaNs aside. -/
def FVal.cmp (x y : FVal) : Ordering :=
  match x, y with
  | .nan _, _ => .eq
  | _, .nan _ => .eq
  | .inf a, .inf b => if a = b then .eq else if a then .lt else .gt
  | .inf a, _ => if a then .lt else .gt
  | _, .inf b => if b then .gt else .lt
  | x, y => let d := x.dyadic.add (y.negate.dyadic); if d.m < 0 then .lt else if d.m = 0 then .eq else .gt

/-- IEEE 754-2019 minimum (or maximum) of two encodings: NaN wins, -0 is below +0 (R93, R268). -/
def Fmt.minmax (f : Fmt) (wantMax : Bool) (x y : Nat) : Res :=
  let a := f.decode x
  let b := f.decode y
  if a.isNan || b.isNan then f.ofNan (a.isSnan || b.isSnan)
  else
    let less := a.cmp b = .lt || (a.cmp b = .eq && a.neg && !b.neg)
    Res.pure (if less = wantMax then y % 2 ^ f.width else x % 2 ^ f.width)

/-! ### Integers -/

/-- The integer formats (R122). -/
structure IFmt where
  w      : Nat
  signed : Bool
  deriving DecidableEq, Repr

/-- The lowest and the highest value (R122). -/
def IFmt.lo (f : IFmt) : Int := if f.signed then -((2 ^ (f.w - 1) : Nat) : Int) else 0
/-- The highest value (R122). -/
def IFmt.hi (f : IFmt) : Int := if f.signed then ((2 ^ (f.w - 1) : Nat) : Int) - 1 else ((2 ^ f.w : Nat) : Int) - 1

/-- The value of an encoding (R122). -/
def IFmt.decode (f : IFmt) (x : Nat) : Int := if f.signed then sInt f.w x else ((x % 2 ^ f.w : Nat) : Int)

/-- An integer result with its events. -/
structure IRes where
  val : Int
  ev  : EvCount
  deriving DecidableEq, Repr

/-- sat(x, lo, hi) of an exact integer, a clamp counting saturation (R122, R132). -/
def satInt (lo hi x : Int) : IRes :=
  if x < lo then { val := lo, ev := evSat } else if hi < x then { val := hi, ev := evSat } else { val := x, ev := EvCount.zero }

/-- A magnitude rounded to an integer and clamped (R132). -/
def roundInt (mode : Nat) (neg : Bool) (x : Mag) (lo hi : Int) : IRes :=
  let (m, inexact) := x.cut mode neg 0
  let v : Int := if neg then -(m : Int) else m
  if v < lo || hi < v then satInt lo hi v
  else { val := v, ev := if inexact then evInx else EvCount.zero }

/-- A floating value to an integer format (R132). -/
def intOfVal (mode : Nat) (lo hi : Int) : FVal → IRes
  | .nan _ => { val := 0, ev := evInv }
  | .inf neg => { val := if neg then lo else hi, ev := evSat }
  | .fin neg m e => roundInt mode neg { num := m, e := e, sticky := false } lo hi

/-- A storage or lane element type (R68, R208). -/
inductive ElTy where
  | int (f : IFmt)
  | flt (f : Fmt)
  deriving DecidableEq, Repr

/-- Bits of an element. -/
def ElTy.width : ElTy → Nat
  | .int f => f.w
  | .flt f => f.width

/-- The element type of an FMT code 0x1-0xB (R68). -/
def ElTy.ofCode (n : Nat) : Option ElTy :=
  match n with
  | 1 => some (.int { w := 8, signed := true })
  | 2 => some (.int { w := 8, signed := false })
  | 3 => some (.int { w := 16, signed := true })
  | 4 => some (.int { w := 16, signed := false })
  | 5 => some (.int { w := 32, signed := true })
  | 6 => some (.int { w := 32, signed := false })
  | 7 => some (.flt .f32)
  | 8 => some (.flt .f16)
  | 9 => some (.flt .bf16)
  | 10 => some (.flt .e4m3)
  | 11 => some (.flt .e5m2)
  | _ => none

/-- A conversion between element types (R132). -/
def convert (mode : Nat) (fsat : Bool) (src dst : ElTy) (x : Nat) : Res :=
  match src, dst with
  | .flt a, .flt b => b.ofVal mode fsat (a.decode x)
  | .flt a, .int b => let r := intOfVal mode b.lo b.hi (a.decode x); { val := wrapInt b.w r.val, ev := r.ev }
  | .int a, .flt b =>
    let v := a.decode x
    b.round mode fsat (v < 0) { num := v.natAbs, e := 0, sticky := false }
  | .int a, .int b =>
    let v := a.decode x
    if b.w < a.w then (let r := satInt b.lo b.hi v; { val := wrapInt b.w r.val, ev := r.ev })
    else if a.w < b.w then Res.pure (wrapInt b.w v)
    else (let r := satInt b.lo b.hi v; { val := wrapInt b.w r.val, ev := r.ev })

/-- A group-scaled element's value: f32_mul_rne(q, scale) (R127). -/
def groupDecode (q : FVal) (scale : FVal) : Res := f32MulRne q scale

/-- The finite, non-zero magnitude of a scale, if it has one. -/
def scaleMag : FVal → Option (Bool × Nat × Int)
  | .fin neg m e => if m = 0 then none else some (neg, m, e)
  | _ => none

/-- x / scale rounded to an integer and clamped, 0 and invalid for a zero or non-finite scale (R127, R284). -/
def quantInt (mode : Nat) (lo hi : Int) (x scale : FVal) : IRes :=
  match scaleMag scale with
  | none => { val := 0, ev := evInv }
  | some (sn, sm, se) =>
    match x with
    | .nan _ => { val := 0, ev := evInv }
    | .inf n => { val := if xor n sn then lo else hi, ev := evSat }
    | .fin n m e => roundInt mode (xor n sn) (Mag.ofRat m sm (e - se)) lo hi

/-- x / scale rounded into a small float (R127). -/
def quantFlt (f : Fmt) (mode : Nat) (fsat : Bool) (x scale : FVal) : Res :=
  match scaleMag scale with
  | none => { val := 0, ev := evInv }
  | some (sn, sm, se) =>
    match x with
    | .nan sg => f.ofNan sg
    | .inf n => f.ofInf fsat (xor n sn)
    | .fin n m e => f.round mode fsat (xor n sn) (Mag.ofRat m sm (e - se))

/-! ### Special functions (R277, R278), at 256 fractional bits (log 18) -/

/-- The fractional bits of the fixed-point values below (log 18). -/
def fixBits : Nat := 256
/-- One in fixed point. -/
def fixOne : Nat := 2 ^ fixBits

/-- The sum of s^(2k+1)/(2k+1) for k from j on, where p is s^(2j+1) and s2 is s squared. -/
def atanhSum (s2 : Nat) (p j : Nat) : Nat → Nat
  | 0 => 0
  | n + 1 => p / (2 * j + 1) + atanhSum s2 (p * s2 / fixOne) (j + 1) n

/-- ln z for z in [1, 2], in fixed point: 2 atanh((z - 1) / (z + 1)). -/
def fixLn (z : Nat) : Nat :=
  let s := (z - fixOne) * fixOne / (z + fixOne)
  2 * atanhSum (s * s / fixOne) s 0 90

/-- ln 2 in fixed point. -/
def fixLn2 : Nat := fixLn (2 * fixOne)

/-- The exponential series of y from the k-th term t on. -/
def expSum (y : Nat) (t k : Nat) : Nat → Nat
  | 0 => 0
  | n + 1 => t + expSum y (t * y / fixOne / (k + 1)) (k + 1) n

/-- e^y for y in [0, 1], in fixed point. -/
def fixExp (y : Nat) : Nat := expSum y fixOne 0 70

/-- The integer square root, bit by bit. -/
def isqrtAux (x r : Nat) : Nat → Nat
  | 0 => r
  | n + 1 => if (r + 2 ^ n) * (r + 2 ^ n) ≤ x then isqrtAux x (r + 2 ^ n) n else isqrtAux x r n

/-- The integer square root. -/
def isqrt (x : Nat) : Nat := isqrtAux x 0 (bitLen x / 2 + 1)

/-- m × 2^e in fixed point, rounded down. -/
def toFix (m : Nat) (e : Int) : Nat :=
  let k := e + fixBits
  if 0 ≤ k then m * 2 ^ k.toNat else m / 2 ^ (-k).toNat

/-- Is m × 2^e at least 2^k? -/
def magGe (m : Nat) (e k : Int) : Bool := m ≠ 0 && k ≤ (bitLen m : Int) - 1 + e

/-- e^x for x = m × 2^e ≥ 0 below 2^12, in fixed point. -/
def fixExpBig (m : Nat) (e : Int) : Nat :=
  let y := toFix m e
  let n := y / fixLn2
  fixExp (y - n * fixLn2) * 2 ^ n

/-- A value just below m × 2^e. -/
def justBelow (m : Nat) (e : Int) : Mag := { num := m * 2 ^ 128 - 1, e := e - 128, sticky := true }

/-- 2^x for finite x. -/
def exp2Mag (neg : Bool) (m : Nat) (e : Int) : Mag :=
  if m = 0 then { num := 1, e := 0, sticky := false }
  else if magGe m e 11 then (if neg then { num := 1, e := -4000, sticky := true } else { num := 1, e := 4000, sticky := true })
  else
    let whole : Bool := 0 ≤ e || m % 2 ^ (-e).toNat = 0
    let y := toFix m e
    if whole then
      let n : Nat := y / fixOne
      { num := 1, e := if neg then -(n : Int) else n, sticky := false }
    else if neg then
      let n := y / fixOne + 1
      let f := n * fixOne - y
      { num := fixExp (f * fixLn2 / fixOne), e := -(n : Int) - fixBits, sticky := true }
    else
      let n := y / fixOne
      { num := fixExp ((y - n * fixOne) * fixLn2 / fixOne), e := (n : Int) - fixBits, sticky := true }

/-- log2 of m × 2^e > 0: sign and magnitude. -/
def log2Mag (m : Nat) (e : Int) : Bool × Mag :=
  let k := bitLen m - 1
  let n : Int := (k : Int) + e
  if m = 2 ^ k then (n < 0, { num := n.natAbs, e := 0, sticky := false })
  else
    let z := m * fixOne / 2 ^ k
    let frac := fixLn z * fixOne / fixLn2
    if n < 0 then (true, { num := n.natAbs * fixOne - frac - 1, e := -(fixBits : Int), sticky := true })
    else (false, { num := n.toNat * fixOne + frac, e := -(fixBits : Int), sticky := true })

/-- √(m × 2^e). -/
def sqrtMag (m : Nat) (e : Int) : Mag :=
  let m' := if e % 2 = 0 then m else 2 * m
  let e' := if e % 2 = 0 then e else e - 1
  let x := m' * 2 ^ 200
  let r := isqrt x
  { num := r, e := e' / 2 - 100, sticky := r * r ≠ x }

/-- 1 / √(m × 2^e). -/
def rsqrtMag (m : Nat) (e : Int) : Mag :=
  let m' := if e % 2 = 0 then m else 2 * m
  let e' := if e % 2 = 0 then e else e - 1
  let k := 150 + bitLen m'
  let r := isqrt (2 ^ (2 * k) / m')
  { num := r, e := -(e' / 2) - k, sticky := r * r * m' ≠ 2 ^ (2 * k) }

/-- tanh of m × 2^e > 0. -/
def tanhMag (m : Nat) (e : Int) : Mag :=
  if magGe m e 7 then justBelow 1 0
  else if !magGe m e (-50) then justBelow m e
  else
    let x := fixExpBig (2 * m) e
    { num := (x - fixOne) * fixOne / (x + fixOne), e := -(fixBits : Int), sticky := true }

/-- 1 / (1 + e^(-x)) for x = ±m × 2^e, not zero. -/
def sigmMag (neg : Bool) (m : Nat) (e : Int) : Mag :=
  if magGe m e 9 then (if neg then { num := 1, e := -4000, sticky := true } else justBelow 1 0)
  else if !magGe m e (-100) then (if neg then justBelow 1 (-1) else { num := 2 ^ 127, e := -128, sticky := true })
  else
    let x := fixExpBig m e
    if neg then Mag.ofRat fixOne (x + fixOne) 0 else Mag.ofRat x (x + fixOne) 0

/-- The special functions (R277). -/
inductive Sfu where
  | exp2 | log2 | rcp | rsqrt | sqrt | tanh | sigm
  deriving DecidableEq, Repr

/-- A special function of one value, rounded once (R277, R278). -/
def Fmt.special (f : Fmt) (mode : Nat) (fn : Sfu) (x : FVal) : Res :=
  let bad : Res := { val := f.nan, ev := evInvNan }
  let one : Mag := { num := 1, e := 0, sticky := false }
  let nil : Mag := { num := 0, e := 0, sticky := false }
  match x with
  | .nan sg => f.ofNan sg
  | .inf neg =>
    match fn with
    | .exp2 => if neg then f.round mode false false nil else f.ofInf false false
    | .log2 => if neg then bad else f.ofInf false false
    | .rcp => f.round mode false neg nil
    | .rsqrt => if neg then bad else f.round mode false false nil
    | .sqrt => if neg then bad else f.ofInf false false
    | .tanh => f.round mode false neg one
    | .sigm => f.round mode false false (if neg then nil else one)
  | .fin neg m e =>
    match fn with
    | .exp2 => f.round mode false false (exp2Mag neg m e)
    | .log2 =>
      if m = 0 then f.ofInf false true
      else if neg then bad
      else let r := log2Mag m e; f.round mode false r.1 r.2
    | .rcp => if m = 0 then f.ofInf false neg else f.round mode false neg (Mag.ofRat 1 m (-e))
    | .rsqrt => if m = 0 then f.ofInf false neg else if neg then bad else f.round mode false false (rsqrtMag m e)
    | .sqrt => if m = 0 then f.round mode false neg nil else if neg then bad else f.round mode false false (sqrtMag m e)
    | .tanh => if m = 0 then f.round mode false neg nil else f.round mode false neg (tanhMag m e)
    | .sigm => if m = 0 then f.round mode false false { num := 1, e := -1, sticky := false } else
        f.round mode false false (sigmMag neg m e)

end Sys2Proof.Machine
end

