-- ==== Sys2Proof/Machine/Flags.lean ====
section
/-! DEFINITION. Flags and event counters (R142, R143, R220). -/

namespace Sys2Proof.Machine

/-- "Sets the flag": 1 or 0 on q (R220). -/
def flagQ (b : Bool) : Wide := if b then 1 else 0

/-- "Sets the flag": all ones or zero on qp (R220). -/
def flagQp (b : Bool) : Wide := if b then wideOfWord (BitVec.allOnes 64) else 0

/-- A counter with n more events, saturating at 0xFFFF_FFFF (R142). -/
def satCount (c : BitVec 32) (n : Nat) : BitVec 32 := BitVec.ofNat 32 (min (c.toNat + n) 0xFFFFFFFF)

/-- How often a set of events counts into counter i (R142). -/
def EvCount.of (e : EvCount) (i : Nat) : Nat :=
  match i with
  | 0 => e.inv
  | 1 => e.ovf
  | 2 => e.unf
  | 3 => e.inx
  | 4 => e.sat
  | 5 => e.trn
  | 6 => e.nan
  | 7 => e.wld
  | 8 => e.div
  | _ => 0

/-- Events counted into the counters of a tile (R142, R143). -/
def TileCore.count (c : TileCore) (e : EvCount) : TileCore :=
  { c with ev := Vector.ofFn (fun i : Fin 16 => satCount (c.ev.get i) (e.of i.val)) }

end Sys2Proof.Machine
end

