-- ==== Sys2Proof/Machine/Operands.lean ====
section
/-! DEFINITION. The operand forms: guards, sources, the source modifier, destinations (R14-R17, R22, R28-R32, R197-R204). -/

namespace Sys2Proof.Machine

/-! ### Guards (R30, R31, R201) -/

/-- The value of a guard: its predicate, inverted or not. -/
def TileCore.guardWord (c : TileCore) (g : Guard) : Word := if g.inv then ~~~ (c.pred g.p) else c.pred g.p

/-- A scalar or control slot's guard tests bit 0 (R30, R225). -/
def TileCore.guardOn (c : TileCore) (g : Guard) : Bool := (c.guardWord g).getLsbD 0

/-! ### Sources (R197, R198) -/

/-- The value of a special source (R32). -/
def State.special (s : State) (v : Special) : Wide :=
  match v with
  | .zero => 0
  | .ones => BitVec.allOnes 512
  | .lane => wideOfLanes 32 (fun i => i)
  | .tid => s.cur.tid.zeroExtend 512
  | .cid => (tidCluster s.cur.tid).zeroExtend 512
  | .did => BitVec.ofNat 512 (s.ctx.logical s.cur.die)
  | .cyc => BitVec.ofNat 512 (s.cycle s.cur.die % 2 ^ 64)
  | .gserial => match s.tile.task with
    | none => 0
    | some t => match t.conj with
      | some c => c.zeroExtend 512
      | none => BitVec.ofNat 512 t.gate

/-- A result port as a bundle reads it: the latest result landed (R19), or the head of its queue in queue mode (R27). -/
def State.readPort (s : State) (sk : Sock) (p : RPort) : Wide :=
  if s.ctx.qmode then ((s.tile.core.queue' sk p).head?).getD 0 else s.tile.core.res' sk p

/-- An immediate in a vector slot: bits [31:0] in all sixteen lanes (R198). -/
def broadcast32 (v : BitVec 32) : Wide := wideOfLanes 32 (fun _ => v.toNat)

/-- A source read by a slot; `vec` for a vector slot (R22, R197, R198). The long-immediate forms carry LIMM (R194). -/
def State.readSrc (s : State) (vec : Bool) (src : Src) : Wide :=
  match src with
  | .m n => s.tile.core.m.get n.toFin
  | .o n => s.tile.core.o.get n.toFin
  | .special v => s.special v
  | .p n => wideOfWord (s.tile.core.pred n)
  | .port sk r => s.readPort sk r
  | .imm8 v => if vec then broadcast32 (v.signExtend 32) else wideOfWord (v.signExtend 64)
  | .limmS v => if vec then broadcast32 v else wideOfWord (v.signExtend 64)
  | .limmZ v => if vec then broadcast32 v else wideOfWord (v.zeroExtend 64)
  | .limmHi v => if vec then 0 else wideOfWord (v ++ (0 : BitVec 32) : BitVec 64)

/-- A scalar slot's source: bits [63:0] (R22). -/
def State.scalarSrc (s : State) (src : Src) : Word := lowWord (s.readSrc false src)

/-! ### The source modifier (R202) -/

/-- The lane that lane i reads. -/
def modLane (md : SrcMod) (i : Nat) : Nat :=
  let z := 2 ^ md.lseg.toNat
  let base := i - i % z
  match md.cls with
  | .none => i
  | .rot => base + ((i - base + md.dist.toNat) % z)
  | .bfly => base + ((i - base) ^^^ md.dist.toNat)
  | .bcast => base + md.dist.toNat

/-- A value rearranged by the modifier. -/
def modApply (md : SrcMod) (x : Wide) : Wide :=
  if md.cls = .none then x
  else if md.gr then wideOfLanes 16 (fun i => laneOf 16 x.toNat (modLane md i))
  else wideOfLanes 32 (fun i => laneOf 32 x.toNat (modLane md i))

/-- The granule of the modifier in bytes (R31, R201). -/
def modGranule (md : SrcMod) : Nat := if md.gr then 2 else 4

/-- A vector slot's source after its modifier (R202). -/
def State.vectorSrc (s : State) (md : SrcMod) (src : Src) : Wide := modApply md (s.readSrc true src)

/-! ### Destinations (R199, R200) -/

/-- The mask that a scalar move records with a port of lsu (R239). -/
def scalarMask : Word := 0xF

/-- A scalar move's write: bits [511:64] cleared (R200). -/
def TileCore.scalarWrite (c : TileCore) (d : Dst) (v : Word) : TileCore :=
  match d with
  | .null => c
  | .o n => c.setO n (wideOfWord v)
  | .p n => c.setPred n v
  | .m n => c.setM n (wideOfWord v)
  | .port sk pt => c.setOpnd sk pt (wideOfWord v) scalarMask

/-- A vector move's write: into a register the lanes that the guard holds, by the modifier's granule; into a port the
whole value, with the guard recorded (R31, R200, R239; log 19). -/
def TileCore.vectorWrite (c : TileCore) (d : Dst) (granule : Nat) (g : Word) (v : Wide) : TileCore :=
  match d with
  | .null => c
  | .o n => c.setO n (mergeBits (laneMask g granule) (c.o.get n.toFin) v)
  | .p _ => c
  | .m n => c.setM n (mergeBits (laneMask g granule) (c.m.get n.toFin) v)
  | .port sk pt => c.setOpnd sk pt v g

end Sys2Proof.Machine
end

