-- ==== Sys2Proof/Machine/Ops.lean ====
section
/-! DEFINITION. The named operations that the meanings share: units and results, happens-before, places and addresses,
the store path, taking a trap, rolling back to the mark. -/

namespace Sys2Proof.Machine

/-! ### The running tile -/

/-- The task of the tile belongs to a cluster-shaped gate, or is a conjunction task of one (R75). -/
def Tile.inCluster (t : Tile) : Bool := match t.task with
  | none => false
  | some k => k.cluster || k.conj.isSome

/-- The context is resident on the tile's cluster (R392). -/
def State.residentAt (s : State) (k : TileKey) : Bool := (s.clusterAt (keyCluster k)).resident = some k.ctx

/-- The cluster of the tile starts tasks of the context: the context is resident and its slice has not ended (R392, R394). -/
def State.activeAt (s : State) (k : TileKey) : Bool := s.residentAt k && !(s.clusterAt (keyCluster k)).overrun

/-- No operation of the previous task is in flight (R29, R234). Operations that stand in the matrix engine's queue do not count: they
go on into the next task (DEDUCED, log 98). -/
def TileCore.drained (c : TileCore) : Bool := c.flight.isEmpty && c.xlats.isEmpty

/-- The course that a tile's task belongs to (R38). -/
def State.courseAt (s : State) (k : TileKey) : Option Course :=
  match (s.tileAt k).task with
  | none => none
  | some t => match (s.ctxAt k.ctx).queues[t.q.toNat]? with
    | none => none
    | some q => q.courses.find? (fun c => c.serial = t.course)

/-- The course runs deterministically (R38). -/
def State.detCourse (s : State) (k : TileKey) : Bool :=
  (s.ctxAt k.ctx).det || (match s.courseAt k with | some c => c.cr.det | none => false)

/-- Two tasks run one gate in one tow set (R51). -/
def Task.sameTow (a b : Task) : Bool := a.q = b.q && a.course = b.course && a.gate = b.gate && a.tow = b.tow

/-- The tiles of a tow set that still run its gate, leader first; the tile alone outside tow mode (R51). -/
def State.towSet (s : State) (k : TileKey) : List TileKey :=
  match (s.tileAt k).task with
  | none => [k]
  | some t =>
    if t.tow = 0 then [k]
    else ((List.range t.tow).map (fun i => keyPeer k (k.tid - BitVec.ofNat 6 t.dist + BitVec.ofNat 6 i))).filter (fun j =>
      match (s.tileAt j).task with
      | some u => t.sameTow u
      | none => false)

/-! ### Results (R19-R24, R27) -/

/-- Does a unit run free for an operation triggered now (R24, R27)? -/
def State.runsFree (s : State) (sk : Sock) : Bool := !s.ctx.qmode && s.tile.core.unitFree sk

/-- A timed result: lands after its latency, under its mask (R19, R31). `ev` counts when it lands (R143). -/
def State.timed (s : State) (sk : Sock) (lat : Nat) (rs : List (RPort × Wide × Wide)) (ev : EvCount) : State :=
  let free := s.runsFree sk
  s.modTile (fun t =>
    let mk (ev : EvCount) (r : RPort × Wide × Wide) : InFlight :=
      { sk := sk, port := r.1, value := r.2.1, mask := r.2.2, rem := lat, free := free, locked := false, ready := true,
        due := 0, id := t.nextId, evs := ev, live := .plain }
    let fl := match rs with
      | [] => []
      | r :: rest => mk ev r :: rest.map (mk EvCount.zero)
    { t.mapCore (fun c => { c with flight := c.flight ++ fl }) with nextId := t.nextId + 1 })

/-- The index that the next operation of the tile receives. -/
def State.nextOp (s : State) : Nat := s.tile.nextId

/-- An interlocked operation triggered: its results are pending on their ports until they are filled (R21); they hold the unit's mode
at the trigger (R375). -/
def State.pend (s : State) (sk : Sock) (ports : List RPort) : State :=
  let free := s.runsFree sk
  s.modTile (fun t =>
    { t.mapCore (fun c => { c with flight := c.flight ++ ports.map (fun p =>
        { sk := sk, port := p, value := 0, mask := BitVec.allOnes 512, rem := 0, free := free, locked := true,
          ready := false, due := 0, id := t.nextId, evs := EvCount.zero, live := .plain }) }) with nextId := t.nextId + 1 })

/-- The results of an operation of the tile of the step do something at their delivery (R295, R302). -/
def State.deliverAs (s : State) (id : Nat) (l : Delivery) : State :=
  s.modTile (fun t => t.mapCore (fun c => { c with flight := c.flight.map (fun f => if f.id = id then { f with live := l } else f) }))

/-! ### Snapshot entries (R374-R377) -/

/-- The physical address of a tile's save area. -/
def Tile.area (t : Tile) : Nat := t.savebase.toNat

/-- The order of landing of a snapshot's entries (R375). -/
def insertSnap (f : InFlight) : List InFlight → List InFlight
  | [] => [f]
  | g :: r => if f.rem < g.rem then f :: g :: r else g :: insertSnap f r

/-- Snapshot entries in ascending order of landing; later triggers follow where equal (R375). -/
def sortSnap (l : List InFlight) : List InFlight := l.foldl (fun acc f => insertSnap f acc) []

/-- The tag of a snapshot entry (R375). -/
def snapTag (f : InFlight) : Nat :=
  2 ^ 19 + (if f.ready then 2 ^ 18 else 0) + (if f.locked then 2 ^ 17 else 0) + (if f.free then 2 ^ 16 else 0) +
    (match f.port with | .q => 0 | .qp => 1 | .q1 => 2) * 2 ^ 14 + (sockIdx f.sk).val * 2 ^ 8 + (if f.locked then 0 else f.rem % 256)

/-- A snapshot entry's 128 bytes (R375). -/
def snapBytes (f : InFlight) : List Byte := bytesOf (if f.ready then f.value.toNat else 0) 64 ++ bytesOf (snapTag f) 8 ++ bytesOf 0 56

/-- An empty snapshot entry. -/
def snapNone : List Byte := bytesOf 0 128

/-- n snapshot entries from a list. -/
def snapEntries (l : List InFlight) : Nat → List Byte
  | 0 => []
  | n + 1 => (match l with | f :: _ => snapBytes f | [] => snapNone) ++ snapEntries (l.drop 1) n

/-- The value of a port of a result list. -/
def portVal (rs : List (RPort × Wide)) (p : RPort) : Wide := (assocGet rs p).getD 0

/-- An operation's pending results get their values, deliverable from a clock on. -/
def fillFlight (fl : List InFlight) (id : Nat) (due : Nat) (rs : List (RPort × Wide)) : List InFlight :=
  fl.map (fun f => if f.id = id && f.locked && !f.ready then { f with ready := true, due := due, value := portVal rs f.port } else f)

/-- The results in flight of a tile changed wherever they stand: in the live state, in the mark's copy, in the snapshot and in the
frame (R58, R371, R377). -/
def Tile.mapFlights (t : Tile) (f : List InFlight → List InFlight) : Tile :=
  { t.mapBoth (fun c => { c with flight := f c.flight }) with
    snap := f t.snap, frame := t.frame.map (fun x => { x with flight := f x.flight }) }

/-- Those of a saved block (R377). -/
def SavedBlock.mapFlights (b : SavedBlock) (f : List InFlight → List InFlight) : SavedBlock :=
  { b with snap := f b.snap, mark := { b.mark with flight := f b.mark.flight } }

/-- Those of a tile and of what its save area holds of it (R58, R371, R377). -/
def State.mapFlights (s : State) (k : TileKey) (f : List InFlight → List InFlight) : State :=
  { s.modTileAt k (fun t => t.mapFlights f) with
    saved := s.saved.map (fun b => if b.pa = (s.tileAt k).area then b.mapFlights f else b) }

/-- An entry of the list awaits the results of an operation. -/
def awaits (l : List InFlight) (id : Nat) : Bool := l.any (fun f => f.id = id && f.locked && !f.ready)

/-- The results that a save area's entries awaited stand in them: in the frame block, and in the snapshot (R371, R377). -/
def State.writeEntries (s : State) (k : TileKey) (frame snap : Bool) : State :=
  let a := (s.tileAt k).area
  let s := match (s.tileAt k).frame with
    | some f => if frame then s.memWrite (a + 0x15000) (snapEntries (sortSnap f.flight) (min 160 f.flight.length)) else s
    | none => s
  match s.saved.find? (fun b => b.pa = a) with
  | some b => if snap then s.memWrite (a + 0x7000) (snapEntries (sortSnap b.snap) b.snap.length) else s
  | none => s

/-- The results of an operation of a tile arrive (R58, R371, R377). -/
def State.fillAt (s : State) (k : TileKey) (id due : Nat) (rs : List (RPort × Wide)) : State :=
  let t := s.tileAt k
  let frame := match t.frame with | some f => awaits f.flight id | none => false
  let snap := s.saved.any (fun b => b.pa = t.area && awaits b.snap id)
  let s := s.mapFlights k (fun l => fillFlight l id due rs)
  if frame || snap then s.writeEntries k frame snap else s

/-- Events that count when an operation's q is delivered, wherever its result stands (R143). -/
def chargeFlight (fl : List InFlight) (id : Nat) (ev : EvCount) : List InFlight :=
  fl.map (fun f => if f.id = id && f.port = .q then { f with evs := f.evs.add ev } else f)

/-- The events of an operation of a tile go with its result (R143). -/
def State.chargeAt (s : State) (k : TileKey) (id : Nat) (ev : EvCount) : State :=
  s.mapFlights k (fun l => chargeFlight l id ev)

/-- An interlocked operation triggered whose values are known at once: they are delivered when their time comes (R21). -/
def State.answer (s : State) (sk : Sock) (due : Nat) (rs : List (RPort × Wide)) : State :=
  let free := s.runsFree sk
  s.modTile (fun t =>
    { t.mapCore (fun c => { c with flight := c.flight ++ rs.map (fun r =>
        { sk := sk, port := r.1, value := r.2, mask := BitVec.allOnes 512, rem := 0, free := free, locked := true,
          ready := true, due := due, id := t.nextId, evs := EvCount.zero, live := .plain }) }) with nextId := t.nextId + 1 })

/-- One that is answered after a free delay of at most `bound` clocks, where there is a bound (R21, log 3). -/
def State.lockedBy (s : State) (sk : Sock) (bound : Option Nat) (rs : List (RPort × Wide)) : State :=
  let d := Config.freeDelay s.free
  let due := s.clock + (match bound with | none => d | some b => d % (b + 1))
  ({ s with free := s.free + 1 }).answer sk due rs

/-- An interlocked operation whose value is known at once (R21). -/
def State.locked (s : State) (sk : Sock) (rs : List (RPort × Wide)) : State := s.lockedBy sk none rs

/-- Undelivered interlocked results of a port (R21). -/
def TileCore.pending (c : TileCore) (sk : Sock) (p : RPort) : Bool :=
  c.flight.any (fun f => f.locked && f.sk = sk && f.port = p)

/-- Undelivered interlocked results of a port that can still be delivered: in privileged mode the user's are parked (R21,
R359). -/
def Tile.portPending (t : Tile) (sk : Sock) (p : RPort) : Bool :=
  t.core.flight.any (fun f => f.locked && f.sk = sk && f.port = p && !(t.priv && f.id < t.stubFrom))

/-- Results in flight for a port. -/
def TileCore.inFlight (c : TileCore) (sk : Sock) (p : RPort) : Nat :=
  (c.flight.filter (fun f => f.sk = sk && f.port = p)).length

/-- Whose results a port of an lsu holds, oldest first (R95). -/
def TileCore.owners' (c : TileCore) (sk : Sock) (p : RPort) : List Nat :=
  match c.owners.find? (fun x => x.1 = sk && x.2.1 = p) with
  | some x => x.2.2
  | none => []

/-- That list replaced. -/
def TileCore.setOwners (c : TileCore) (sk : Sock) (p : RPort) (l : List Nat) : TileCore :=
  { c with owners := (if l = [] then [] else [(sk, p, l)]) ++ c.owners.filter (fun x => !(x.1 = sk && x.2.1 = p)) }

/-- A port of an lsu holds an operation's result from now on; of the other units nothing is noted (R95, R97). -/
def TileCore.own (c : TileCore) (qmode : Bool) (f : InFlight) : TileCore :=
  if f.sk = .lsu0 || f.sk = .lsu1 then c.setOwners f.sk f.port (if qmode then c.owners' f.sk f.port ++ [f.id] else [f.id]) else c

/-- A result that lands: merged under its mask; queued in queue mode (R19, R27, R31, R95). Of the results that land in one clock, the
earlier of one port is never readable: a later one merges over what the port held before that clock, in `base` (R20). -/
def TileCore.land (base c : TileCore) (qmode : Bool) (f : InFlight) : TileCore :=
  let old := (if qmode then c else base).res' f.sk f.port
  let v := mergeBits f.mask old f.value
  let c := (c.setRes f.sk f.port v).own qmode f
  let c := if qmode then c.setQueue f.sk f.port (c.queue' f.sk f.port ++ [v]) else c
  { c.count f.evs with unread := (f.sk, f.port) :: c.unread.filter (fun x => !(x.1 = f.sk && x.2 = f.port)) }

/-- The results that land in one clock, in trigger order (R20). -/
def TileCore.landAll (c : TileCore) (qmode : Bool) (fs : List InFlight) : TileCore :=
  fs.foldl (fun d f => TileCore.land c d qmode f) c

/-- A pipeline's remaining latency after one clock: a data-locked unit advances in issue cycles only, unless every unit runs
free (R24, R55). -/
def stepFlight (issue allFree : Bool) (f : InFlight) : InFlight :=
  if f.locked then f else if f.free || issue || allFree then { f with rem := f.rem - 1 } else f

/-- The steps for which a VLDG still occupies an lsu after one clock; `free` is the unit's mode at the trigger (R26, R217). -/
def stepBusy (free issue : Bool) (n : Nat) : Nat := if free || issue then n - 1 else n

/-- The pipelines of a tile after one clock (R23, R24); in privileged mode the user's are parked (R359). -/
def Tile.clockTick (t : Tile) (issue allFree : Bool) : Tile :=
  let t := t.mapCore (fun c =>
    { c with
      flight := c.flight.map (fun f => if t.priv && f.id < t.stubFrom then f else stepFlight issue allFree f),
      mx := if t.priv then c.mx else { c.mx with clk := c.mx.clk + 1 },
      seq := if t.priv then c.seq else
        { c.seq with busy0 := stepBusy (c.seq.busyFree0 || allFree) issue c.seq.busy0,
                     busy1 := stepBusy (c.seq.busyFree1 || allFree) issue c.seq.busy1 } })
  { t with issue := if issue then t.issue + 1 else t.issue }

/-! ### Happens-before (R105-R109) -/

/-- The count of a clock for a tile and path. -/
def vcGet (v : VClock) (k : TileKey × Nat) : Nat := (assocGet v k).getD 0

/-- The later of two clocks. -/
def vcJoin (a : VClock) : VClock → VClock
  | [] => a
  | (k, n) :: r => vcJoin (assocSet a k (max n (vcGet a k))) r

/-- Path codes (R99). -/
def pathLS : Nat := 0
/-- Group reduction path (R99). -/
def pathGR : Nat := 1
/-- Matrix path (R99). -/
def pathMX : Nat := 2
/-- DMA and copy path (R99). -/
def pathDM : Nat := 3
/-- Orbit path (R99). -/
def pathOB : Nat := 4
/-- Network path (R99). -/
def pathNT : Nat := 5

/-- The clock of a path of a tile. -/
def Tile.vcOf (t : Tile) (p : Nat) : VClock := if h : p < 6 then t.vcs.get ⟨p, h⟩ else []

/-- That clock replaced. -/
def Tile.setVc (t : Tile) (p : Nat) (v : VClock) : Tile := if h : p < 6 then { t with vcs := t.vcs.set p v h } else t

/-- A path's clock with every access so far included, from which a later access is told apart. -/
def Tile.bump (t : Tile) (k : TileKey) (p : Nat) : Tile :=
  t.setVc p (assocSet (t.vcOf p) (k, p) (vcGet (t.vcOf p) (k, p) + 1))

/-- Every path of a tile takes in a clock. -/
def Tile.joinAll (t : Tile) (v : VClock) : Tile := { t with vcs := Vector.ofFn (fun i : Fin 6 => vcJoin (t.vcs.get i) v) }

/-- Every path of a tile told apart from now on. -/
def Tile.bumpAll (t : Tile) (k : TileKey) : Tile :=
  [0, 1, 2, 3, 4, 5].foldl (fun t p => t.bump k p) t

/-- All that the accesses of a tile so far follow. -/
def Tile.vcTotal (t : Tile) : VClock := [0, 1, 2, 3, 4, 5].foldl (fun v p => vcJoin v (t.vcOf p)) []

/-- The epoch of an access of a tile now (R109). -/
def Tile.epoch (t : Tile) (k : TileKey) (p : Nat) : Nat := vcGet (t.vcOf p) (k, p)

/-- An access of another tile, made on a path in an epoch, happens-before what a clock stands for; a tile's own accesses
on the path are in program order (R101, R107). -/
def ordered (v : VClock) (me : TileKey) (k : TileKey) (p q : Nat) (ep : Nat) : Bool :=
  (k = me && p = q) || ep < vcGet v (k, p)

/-- A scope covers two tiles: the die scope those of one context on the die (R100). -/
def covers (scope : BitVec 3) (a b : TileKey) : Bool :=
  a = b || (match scope.toNat with
    | 0 => false
    | 1 => a.die = b.die && tidCluster a.tid = tidCluster b.tid
    | 2 => a.die = b.die && a.ctx = b.ctx
    | _ => true)

/-- The race tag of a line. -/
def Tile.lineTag (t : Tile) (line : Nat) : LineTag :=
  (t.lines.find? (fun l => l.line = line)).getD { line := line, writer := none, readers := [], writes := [] }

/-- That tag replaced. -/
def Tile.setLine (t : Tile) (l : LineTag) : Tile := { t with lines := l :: t.lines.filter (fun x => x.line ≠ l.line) }

/-- The earlier access of a line that races with an access whose clock is v: its tile and whether it wrote. Of several, it is the writer,
else the first of the readers (R109, R110; log 80). -/
def raceWith (l : LineTag) (v : VClock) (me : TileKey) (write : Bool) : Option (TileKey × Bool) :=
  let bad (x : TileKey × Nat) : Bool := x.1 ≠ me && !ordered v me x.1 pathLS pathLS x.2
  match (match l.writer with | some w => if bad w then some w else none | none => none) with
  | some w => some (w.1, true)
  | none => if write then (match l.readers.find? bad with | some r => some (r.1, false) | none => none) else none

/-- The 64-byte lines of n bytes from an offset on. -/
def linesOf (off n : Nat) : List Nat := rangeList (off / 64) ((off + n - 1) / 64 + 1)

/-- A plain read of a line recorded (R109). -/
def LineTag.read (l : LineTag) (me : TileKey) (ep : Nat) : LineTag := { l with readers := assocSet l.readers me ep }

/-- A write of a line recorded; `plain` for one that takes part in the check of R109 (R95, R109). -/
def LineTag.write (l : LineTag) (me : TileKey) (ep : Nat) (plain : Bool) : LineTag :=
  { l with writer := if plain then some (me, ep) else l.writer, readers := if plain then [] else l.readers,
           writes := assocSet l.writes me ep }

/-! ### Traps (R25, R361-R366, R371) -/

/-- The address of a bundle as a trap-information register holds it (R365). -/
def addrWord (a : BitVec 56) : Word := (a.zeroExtend 64) &&& 0x00FFFFFFFFFFFFC0

/-- A precise cause of the bundle that issues, in the layout of R365. -/
def State.cause (s : State) (code : BitVec 8) (sk : Nat) (i2 : Word) : Cause :=
  { code := code, tepc := s.tile.core.seq.here, i0 := addrWord s.tile.core.seq.here,
    i1 := BitVec.ofNat 64 (s.tile.core.seq.slot % 256 + 256 * (sk % 64)), i2 := i2, i3 := 0 }

/-- "illegal operand" of a trigger with operand t (R365). -/
def State.illegalOperand (s : State) (sk : Sock) (t : Wide) : Cause := s.cause 0x06 (sockIdx sk).val (lowWord t)
/-- "address fault" at an address word (R64, R365). -/
def State.addressFault (s : State) (sk : Sock) (addr : Word) : Cause := s.cause 0x07 (sockIdx sk).val addr
/-- "handle misuse" at an address word (R82, R365). -/
def State.handleMisuse (s : State) (sk : Sock) (addr : Word) : Cause := s.cause 0x08 (sockIdx sk).val addr
/-- "course violation" (R50, R365). -/
def State.courseViolation (s : State) (sk : Sock) (t : Wide) : Cause := s.cause 0x09 (sockIdx sk).val (lowWord t)
/-- "orbit fault" (R160, R365). -/
def State.orbitFault (s : State) (sk : Sock) (t : Wide) : Cause := s.cause 0x0A (sockIdx sk).val (lowWord t)
/-- "privilege violation" (R358, R365). -/
def State.privViolation (s : State) (sk : Nat) (t : Word) : Cause := s.cause 0x12 sk t
/-- "handle fault", with the register in tinfo1, and what it holds now (R82, R363; the other words: log 50). Its tepc is set by the
rollback. -/
def State.handleFault (s : State) (h : BitVec 4) : Cause :=
  { code := 0x30, tepc := s.tile.mark.seq.pc, i0 := Config.freeInfo s.free 0, i1 := h.zeroExtend 64,
    i2 := Config.freeInfo s.free 2, i3 := Config.freeInfo s.free 3, h := some (s.tile.core.h.get h.toFin) }

/-- "soft error" with its structure and location; kind 1 is poison consumed (R416, R417). -/
def State.softError (s : State) (d : DieId) (kind struct : Nat) (loc : Word) : Cause :=
  { code := 0x31, tepc := 0, i0 := BitVec.ofNat 64 (kind * 256 + struct), i1 := loc, i2 := BitVec.ofNat 64 (s.cycle d), i3 := 0 }

/-- An error record kept by the groomer core of a die, of which it holds 256, and in the partition's error record (R417,
R426). -/
def State.logError (s : State) (part : BitVec 4) (die : DieId) (r : ErrRec) : State :=
  let s := s.modDie die (fun d => { d with errs := (d.errs ++ [r]).drop (d.errs.length - 255) })
  { s with errLog := s.errLog ++ [(part, die, r)] }

/-- An error record of cause 0x31 (R417). -/
def errRec (cycle kind struct : Nat) (loc : Word) (test : Nat) : ErrRec :=
  { tcause := 0x31, i0 := BitVec.ofNat 64 (kind * 256 + struct), i1 := loc, i2 := BitVec.ofNat 64 cycle, i3 := BitVec.ofNat 64 test }

/-- KIND of a soft error (R417). -/
def Cause.kind (c : Cause) : Nat := bitsOf c.i0.toNat 8 8

/-- Poison consumed and an unrecoverable register enter the partition's error record when a tile takes them; an error that was detected is
logged at the end of its self-test (R416, R417). -/
def State.logTaken (s : State) (k : TileKey) (c : Cause) : State :=
  if c.code = 0x31 && c.kind ≠ 0 then
    s.logError (s.ctxAt k.ctx).part k.die { tcause := 0x31, i0 := c.i0, i1 := c.i1, i2 := c.i2, i3 := c.i3 }
  else s

/-- A held cause that a rollback leaves standing: a soft error of a structure, poison that an irrevocable operation consumed, a switch
request. Every other one belongs to an
operation that the rollback has undone, or is raised again by the replay (R366). -/
def Cause.outlives (c : Cause) : Bool := c.code = 0x32 || (c.code = 0x31 && (c.kind ≠ 1 || c.final))

/-- An MXSTAT whose earlier mx operations come back in the queues is delivered behind them, in its frame entry too (R58, R146). -/
def Frame.reopen (f : Frame) (q : List MxOp) : Frame :=
  { f with flight := f.flight.map (fun e => if .stat e.id ∈ q then { e with ready := false } else e) }

/-- The tile restored to its last mark point: the region's gated stores are discarded, and holds on cells released; a distance that
it has waited is not waited again (R51, R58, R78); held causes that the replay raises again go (R366). The events that operations of
the matrix engine counted since the mark go with it, and count when those are performed again (R143; DEDUCED, log 101). -/
def Tile.rollback (t : Tile) : Tile :=
  { t with core := { t.mark with seq := { t.mark.seq with skew := t.core.seq.skew } }, gated := [], wrote := [], stores := 0, towN := t.markAt.2, markAt := (t.issue, t.markAt.2), vcs := t.markHb.vcs, rel := t.markHb.rel, acq := t.markHb.acq,
           heldCauses := t.heldCauses.filter Cause.outlives, frame := t.frame.map (fun f => f.reopen t.mark.mx.queue) }

/-- The cells held by a tile released in another one (R78). -/
def Tile.unhold (t : Tile) (k : TileKey) : Tile := { t with held := t.held.filter (fun x => x.2 ≠ k) }

/-- The tiles of a tow set wait while one of them replays n issue cycles: those since its mark point, or since it went back there
last (R51, R52; log 29). -/
def Tile.waitReplay (t : Tile) (n : Nat) : Tile := t.mapSeq (fun q => { q with skew := q.skew + n })

/-- A tile rolled back, and its holds on the cells of its cluster released (R58, R78). -/
def State.rollbackAt (s : State) (k : TileKey) : State :=
  let t := s.tileAt k
  let s := ((s.towSet k).filter (· ≠ k)).foldl (fun s j => s.modTileAt j (fun x => x.waitReplay (t.issue - t.markAt.1))) s
  let s := s.modTileAt k Tile.rollback
  { s with tiles := s.tiles.map (fun x => (x.1, if x.1.ctx = k.ctx && x.1.die = k.die then x.2.unhold k else x.2)) }

/-- Service causes that roll back first (R58, R363). -/
def isRollbackCause (code : BitVec 8) : Bool := code = 0x30 || code = 0x31

/-- Recoverable causes (R363). -/
def isRecoverable (code : BitVec 8) : Bool := 0x20 ≤ code.toNat && code.toNat ≤ 0x23

/-- Service causes (R363). -/
def isService (code : BitVec 8) : Bool := 0x30 ≤ code.toNat

/-- tvec.EN (R34). -/
def Ctx.tvecOn (c : Ctx) : Bool := c.tvec.getLsbD 0

/-- What the patrol core and the lodge do about a trap: deliver it, end the course, or hold the tile for the host's
debugger (R34, R364; log 2). -/
def trapService (c : Ctx) (t : Tile) (code : BitVec 8) : Option Instr :=
  if isRecoverable code && c.tvecOn && !t.inh then some .deliver
  else if c.debug then none
  else some .courseEndByFault

/-- What is done about a cause. A soft error waits for its self-test, but poison consumed and an unrecoverable register end
the course at once (R416). A promise missed waits until its transfer completes (R180). -/
def causeService (c : Ctx) (t : Tile) (code : BitVec 8) (i0 : Word) : Option Instr :=
  if code = 0x31 then (if bitsOf i0.toNat 8 8 = 0 then none else some .courseEndByFault)
  else if code = 0x30 then some .handleFaultService
  else if code = 0x32 then some .switchOut
  else if isService code || code = 0x21 then none
  else trapService c t code

/-- The cause registers as they stand. -/
def Tile.causeRegs (t : Tile) : Under := { tv := t.tv, nest := t.nest, code := t.code, tepc := t.tepc, tinfo := t.tinfo }

/-- A service cause covers the registers of the cause before it (R363; log 26). -/
def Tile.cover (t : Tile) : Tile := { t with under := some (t.under.getD t.causeRegs) }

/-- The registers that a service cause covered come back (R363; log 26). -/
def Tile.uncover (t : Tile) : Tile :=
  match t.under with
  | none => t
  | some u => { t with tv := u.tv, nest := u.nest, code := u.code, tepc := u.tepc, tinfo := u.tinfo, under := none }

/-- The tile frozen with a cause recorded (R25, R361-R363). -/
def Tile.recordCause (t : Tile) (c : Cause) : Tile :=
  let t := if isService c.code then t.cover else t
  { t with frozen := true, tv := true, nest := t.inh, code := c.code, tepc := addrWord c.tepc, faultH := c.h,
           tinfo := #v[c.i0, c.i1, c.i2, c.i3] }

/-- A tile frozen with its tow set: it would resume where it stands, and has no cause of its own (R52, R372). `svc` for a
service cause, of which no tile of the set shows anything afterwards. -/
def Tile.freeze (svc : Bool) (t : Tile) : Tile :=
  if t.frozen then t
  else
    let t := if svc then t.cover else t
    { t with frozen := true, tepc := addrWord t.core.seq.pc, code := 0, tinfo := Vector.replicate 4 0 }

/-- The cause arises while the tile is frozen after its rollback, and the replay will raise it again (R366). -/
def Tile.replays (t : Tile) (c : Cause) : Bool := isRollbackCause t.code && !c.outlives

/-- A cause that rolls back has the mark point as its tepc, where the tile stands after its rollback (R58, R363). -/
def State.atMark (s : State) (k : TileKey) (c : Cause) : Cause :=
  if isRollbackCause c.code then { c with tepc := (s.tileAt k).core.seq.pc } else c

/-- A tile of a tow set that has its turn of this clock still before it, and traps in it by itself (R52). -/
def State.trapsToo (s : State) (k : TileKey) : Bool :=
  k ∈ s.turn && (match (s.tileAt k).towAt with | some x => x.1 = s.clock && x.2.2 | none => false)

/-- A tile takes a cause. One that is frozen already holds it (R366), and so does one in a stub whose user's state the cause would roll
back (R359; log 82); "handle fault" and "soft error" roll back first (R58); a freeze of one tile of a tow set freezes them all, but those
that trap in the same clock record their own causes (R52). -/
def State.takeTrapAt (s : State) (k : TileKey) (c : Cause) : State :=
  let s := if isService c.code then s.spend else s
  let t := s.tileAt k
  if t.frozen || (t.priv && isRollbackCause c.code) then (if t.replays c then s else s.setTileAt k { t with heldCauses := t.heldCauses ++ [c] })
  else
    let s := if isRollbackCause c.code then s.rollbackAt k else s
    let c := s.atMark k c
    let s := ((s.towSet k).filter (fun j => j = k || !s.trapsToo j)).foldl (fun s j => s.modTileAt j (Tile.freeze (isService c.code))) s
    let s := (s.modTileAt k (fun t => t.recordCause c)).logTaken k c
    match causeService (s.ctxAt k.ctx) (s.tileAt k) c.code c.i0 with
    | some i => if i = .handleFaultService then s.askWalk k i else s.addLater k i
    | none => s

/-- The tile of the step takes a cause. -/
def State.takeTrap (s : State) (c : Cause) : State := s.takeTrapAt s.cur c

/-- Events of an asynchronous operation of the tile: they count in the live state and in the mark's copy; while the tile is
frozen, switched out or in privileged mode no register changes, and they count when it resumes (R25, R143, R359). -/
def Tile.countLate (t : Tile) (e : EvCount) : Tile :=
  if t.frozen || t.out || t.priv then { t with owed := t.owed.add e } else t.mapBoth (fun c => c.count e)

/-- The events owed count (R25, R143). -/
def Tile.settleOwed (t : Tile) : Tile :=
  if t.owed = EvCount.zero then t else { t.mapBoth (fun c => c.count t.owed) with owed := EvCount.zero }

/-- The return from a handler, from privileged mode or from a freeze: V is cleared and the tile thaws; issue continues at
tepc (R370, R373). -/
def Tile.thaw (t : Tile) : Tile :=
  { t.settleOwed with frozen := false, tv := false,
                      core := { t.settleOwed.core with seq := { t.core.seq with pc := t.tepc.truncate 56 } } }.uncover

/-- The rank of a held cause (R366). -/
def causeRank (code : BitVec 8) : Nat :=
  if code = 0x30 || code = 0x31 then 0 else if code = 0x32 then 3 else if isRecoverable code then 2 else 1

/-- The held cause that is taken first (R366). -/
def firstHeld (l : List Cause) : Option Cause :=
  [0, 1, 2, 3].findSome? (fun r => l.find? (fun c => causeRank c.code = r))

/-- A held soft error whose self-test has passed meanwhile (R416). -/
def Cause.passed (c : Cause) : Bool := c.code = 0x31 && c.kind = 0 && c.i3 = 1

/-- Held soft errors whose self-tests have passed: the tile is rolled back, and resumed at once (R366, R416, R424). -/
def State.settlePassed (s : State) (k : TileKey) : State :=
  if (s.tileAt k).priv || !(s.tileAt k).heldCauses.any Cause.passed then s
  else (s.modTileAt k (fun t => { t with heldCauses := t.heldCauses.filter (fun c => !c.passed) })).rollbackAt k

/-- After a thaw and before any bundle issues, a tile takes the first of its held causes (R366). -/
def State.takeHeld (s : State) (k : TileKey) : State :=
  let s := s.settlePassed k
  match firstHeld (s.tileAt k).heldCauses with
  | none => s
  | some c => (s.modTileAt k (fun t => { t with heldCauses := t.heldCauses.erase c })).takeTrapAt k c

/-- Every tile of a tow set thaws, each at its tepc, and takes its held causes (R52, R366, R370). -/
def State.thawSet (s : State) (k : TileKey) : State :=
  let s := (s.towSet k).foldl (fun s j => s.modTileAt j Tile.thaw) s
  (s.towSet k).foldl (fun s j => if (s.tileAt j).frozen then s else s.takeHeld j) s

/-! ### Places and addresses (R63-R65, R75, R80-R82) -/

/-- Is it an address of host memory (R398)? -/
def isHost (pa : Nat) : Bool := 2 ^ 49 ≤ pa && pa < 2 ^ 50

/-- The die that a stack address belongs to (R398). -/
def dieOfPa (pa : Nat) : DieId := BitVec.ofNat 6 (pa / 2 ^ 36)

/-- The memory side that an address needs is lost (R423). -/
def State.sideLost (s : State) (pa : Nat) : Bool := !isHost pa && !(s.dieAt (dieOfPa pa)).ms

/-- Why an address is refused. -/
inductive AddrFail where
  | fault | misuse | hfault (h : BitVec 4)
  deriving DecidableEq, Repr

/-- The cause that an address's refusal raises. -/
def State.addrCause (s : State) (sk : Sock) (addr : Word) : AddrFail → Cause
  | .fault => s.addressFault sk addr
  | .misuse => s.handleMisuse sk addr
  | .hfault h => s.handleFault h

/-- The size of a page (R80, R399). -/
def pageSize (sz : BitVec 2) : Nat :=
  match sz.toNat with
  | 0 => 2 ^ 14
  | 1 => 2 ^ 25
  | _ => 2 ^ 36

/-- The space of an address word (R63). -/
def addrSpace (a : Word) : Nat := (a.extractLsb' 60 4 : BitVec 4).toNat
/-- The handle register of an address word (R63). -/
def addrHandle (a : Word) : BitVec 4 := a.extractLsb' 56 4
/-- The offset of an address word in a scratchpad (R63). -/
def addrOff (a : Word) : Nat := (a.extractLsb' 0 21 : BitVec 21).toNat
/-- The offset of an address word in a page (R63). -/
def addrPageOff (a : Word) : Nat := (a.extractLsb' 0 36 : BitVec 36).toNat

/-- How an access uses an address. -/
inductive Use where
  /-- A load, which may read any bank. -/
  | load
  /-- A plain store: not to banks 22-23, not to banks 18-21 of an attached orbit (R64). -/
  | store
  /-- An atomic: likewise (R250). -/
  | atomic
  /-- A cell operation: only banks 22-23, never a handle (R77). -/
  | cell
  deriving DecidableEq, Repr

/-- Does the use write? -/
def Use.writes : Use → Bool
  | .store => true
  | .atomic => true
  | _ => false

/-- The bank rule of a use at an offset of a tile (R64, R77). -/
def bankOk (t : Tile) (u : Use) (off : Nat) : Bool :=
  let b := off / bankSize
  match u with
  | .load => true
  | .cell => 22 ≤ b
  | _ => !(22 ≤ b) && !(t.station.attached && 18 ≤ b && b ≤ 21)

/-- A scratchpad range: below the end, in one bank, aligned, in a bank that the use may touch (R64, R65, R243). -/
def scratchOk (t : Tile) (u : Use) (off align n : Nat) : Bool :=
  off + n ≤ spSize && off / bankSize = (off + n - 1) / bankSize && off % align = 0 && bankOk t u off

/-- Two handles hold the same translation: page and kind (R80). -/
def Handle.like (a b : Handle) : Bool := a.vpn = b.vpn && a.w = b.w

/-- A handle without V holds a translation that the lodge may still serve: it was made, and its re-translation has not been refused in
this region (R82, R408; log 97). -/
def Tile.mayServe (t : Tile) (h : Handle) : Bool := h.t && !t.refused.any (fun x => x.like h)

/-- The place of an access of n bytes, or why it is refused (R63, R64, R75, R82). -/
def State.place (s : State) (u : Use) (addr : Word) (align n : Nat) : Except AddrFail Place :=
  let t := s.tile
  match addrSpace addr with
  | 0 =>
    if (addr.extractLsb' 21 39 : BitVec 39) ≠ 0 || !scratchOk t u (addrOff addr) align n then .error .fault
    else .ok (.scratch s.cur.tid (addrOff addr))
  | 1 =>
    let rp : BitVec 4 := addr.extractLsb' 56 4
    let tid := tidOf (tidCluster s.cur.tid) rp
    if (addr.extractLsb' 21 35 : BitVec 35) ≠ 0 || !scratchOk (s.tileAt (keyPeer s.cur tid)) u (addrOff addr) align n then .error .fault
    else if rp ≠ tidRing s.cur.tid && !t.inCluster then .error .fault
    else .ok (.scratch tid (addrOff addr))
  | 8 =>
    if (addr.extractLsb' 36 20 : BitVec 20) ≠ 0 || addrPageOff addr % align ≠ 0 || u = .cell then .error .fault
    else
      let h := t.core.h.get (addrHandle addr).toFin
      if !h.v then .error (if t.mayServe h then .hfault (addrHandle addr) else .misuse)
      else if pageSize h.sz < addrPageOff addr + n then .error .misuse
      else if u.writes && !h.w then .error .misuse
      else .ok (.phys (h.frame + addrPageOff addr))
  | _ => .error .fault

/-- An access through a handle register that a translation will write stalls (R81). -/
def State.handlePending (s : State) (addr : Word) : Bool :=
  addrSpace addr = 8 && (s.tile.core.h.get (addrHandle addr).toFin).pend

/-- The tile that owns a scratchpad place. -/
def State.ownerKey (s : State) (tid : BitVec 6) : TileKey := keyPeer s.cur tid

/-- n bytes at a place, as a number (R5). -/
def State.readPlaceAt (s : State) (k : TileKey) (p : Place) (n : Nat) : Nat :=
  match p with
  | .scratch tid off => (s.tileAt (keyPeer k tid)).spRead off n
  | .phys pa => s.memRead pa n

/-- n bytes at a place as the tile of the step reaches it. -/
def State.readPlace (s : State) (p : Place) (n : Nat) : Nat := s.readPlaceAt s.cur p n

/-- The place i bytes further. -/
def Place.shift (p : Place) (i : Nat) : Place :=
  match p with
  | .scratch tid off => .scratch tid (off + i)
  | .phys pa => .phys (pa + i)

/-- A byte merged under a mask of bits. -/
def mergeByte (old v mask : Byte) : Byte := (old &&& ~~~ mask) ||| (v &&& mask)

/-- One byte at a place changed under a mask of bits. -/
def State.writeByteAt (s : State) (k : TileKey) (p : Place) (v mask : Byte) : State :=
  match p with
  | .scratch tid off => s.modTileAt (keyPeer k tid) (fun t => t.spWrite off [mergeByte (t.byte off) v mask])
  | .phys pa => s.memWrite pa [mergeByte (s.memByte pa) v mask]

/-- The bytes of a store written one by one. -/
def State.writeEach (s : State) (k : TileKey) (p : Place) : List (Nat × Byte × Byte) → State
  | [] => s
  | (i, v, m) :: r => (s.writeByteAt k (p.shift i) v m).writeEach k p r

/-- The 8-byte units from `base` on that some offsets cover whole (R415). -/
def wholeUnits (base : Nat) (is : List Nat) : List Nat :=
  (is.map (· + base)).filter (fun a => a % 8 = 0 && (List.range 8).all (fun j => (a + j) ∈ is.map (· + base)))

/-- The poison of units that a store covers whole is cleared (R415). -/
def State.unpoison (s : State) (k : TileKey) (p : Place) (is : List Nat) : State :=
  match p with
  | .scratch tid off =>
    if (s.tileAt (keyPeer k tid)).poison = [] then s
    else s.modTileAt (keyPeer k tid) (fun t => { t with poison := t.poison.filter (fun u => u ∉ wholeUnits off is) })
  | .phys pa => if s.memPoison = [] then s else { s with memPoison := s.memPoison.filter (fun u => u ∉ wholeUnits pa is) }

/-- The bytes of a store written: offset, value and mask of bits for each; a unit written whole loses its poison (R57,
R415). -/
def State.writeBytesAt (s : State) (k : TileKey) (p : Place) (bs : List (Nat × Byte × Byte)) : State :=
  (s.writeEach k p bs).unpoison k p ((bs.filter (fun b => b.2.2 = 0xFF)).map (·.1))

/-- A poisoned 8-byte unit among n bytes at a place (R415). -/
def State.poisonAt (s : State) (k : TileKey) (p : Place) (n : Nat) : Option Nat :=
  match p with
  | .scratch tid off => (s.tileAt (keyPeer k tid)).poison.find? (fun u => u < off + n && off < u + 8)
  | .phys pa => s.memPoison.find? (fun u => u < pa + n && pa < u + 8)

/-- A store's bytes from a value: every bit of n bytes. -/
def fullBytes (v : Nat) (n : Nat) : List (Nat × Byte × Byte) :=
  (List.range n).map (fun i => (i, byteOf v i, 0xFF))

/-- The release tags at a byte of a place (R105). -/
def State.tagsAt (s : State) (k : TileKey) (p : Place) : List RelTag :=
  match p with
  | .scratch tid off => ((s.tileAt (keyPeer k tid)).tags.filter (fun x => x.1 = off)).map (·.2)
  | .phys pa => (s.dramTags.filter (fun x => x.1 = pa)).map (·.2)

/-- A write's release tag at a byte: it replaces what stands there, or joins it in a chain of atomics (R105). -/
def State.tagByte (s : State) (k : TileKey) (p : Place) (chain : Bool) (tag : RelTag) : State :=
  let add := tag.rel ≠ [] || tag.whole
  match p with
  | .scratch tid off => s.modTileAt (keyPeer k tid) (fun t =>
      { t with tags := (if add then [(off, tag)] else []) ++ (if chain then t.tags else t.tags.filter (fun x => x.1 ≠ off)) })
  | .phys pa =>
      { s with dramTags := (if add then [(pa, tag)] else []) ++ (if chain then s.dramTags else s.dramTags.filter (fun x => x.1 ≠ pa)) }

/-- A write of some bytes tagged. -/
def State.tagBytes (s : State) (k : TileKey) (p : Place) (chain : Bool) (tag : RelTag) : List Nat → State
  | [] => s
  | i :: r => (s.tagByte k (p.shift i) chain tag).tagBytes k p chain tag r

/-- A write of n bytes that is no LS write ends what could be acquired there (R105). -/
def State.untag (s : State) (k : TileKey) (p : Place) (n : Nat) : State :=
  match p with
  | .scratch tid off =>
    if (s.tileAt (keyPeer k tid)).tags = [] then s
    else s.modTileAt (keyPeer k tid) (fun t => { t with tags := t.tags.filter (fun x => x.1 < off || off + n ≤ x.1) })
  | .phys pa => if s.dramTags = [] then s else { s with dramTags := s.dramTags.filter (fun x => x.1 < pa || pa + n ≤ x.1) }

/-- What an ACQUIRE takes in: the RELEASEs before the writes that the tile has read, where both scopes cover both tiles
(R105). -/
def acquired (me : TileKey) (scope : BitVec 3) (tags : List RelTag) : VClock :=
  tags.foldl (fun v t => t.rel.foldl (fun v r => if covers r.1 t.owner me && covers scope t.owner me then vcJoin v r.2 else v) v) []

/-- The LS path takes in a clock. -/
def Tile.joinLs (t : Tile) (v : VClock) : Tile := t.setVc pathLS (vcJoin (t.vcOf pathLS) v)

/-- The LS path takes in a clock, in the mark's copy as well: the edge belongs to something before the mark (R58). -/
def Tile.joinLsBoth (t : Tile) (v : VClock) : Tile :=
  let m := t.markHb
  { t.joinLs v with markHb := { m with vcs := m.vcs.set pathLS (vcJoin (m.vcs.get 0) v) } }

/-- What a flag that a copy engine wrote brings with it (R106). -/
def wholeClock (tags : List RelTag) : VClock :=
  tags.foldl (fun v x => if x.whole then x.rel.foldl (fun v r => vcJoin v r.2) v else v) []

/-- What an edge reaches that comes late, after operations behind it have issued: the paths, and the scopes of RELEASEs, each from an
operation index of the tile on, and the fences on the way, a barrier's among them (R103-R107). -/
structure Late where
  paths  : List (Nat × Nat)
  scopes : List (BitVec 3 × Nat)
  hit    : List Fence

/-- The operation index at which a fence stands on a tile (R103). -/
def Fence.pos (f : Fence) (k : TileKey) : Nat := (assocGet f.who k).getD 0

/-- The paths of a mask. -/
def pathsOf (m : BitVec 6) : List Nat := (List.range 6).filter (fun i => m.getLsbD i)

/-- A late edge follows a tile's fences in order: one of `from_`, and a later one behind which an access stands that it has reached on a
path of the fence's EARLIER, takes it to the paths of its LATER (R103-R107). -/
def Late.walk (k : TileKey) (from_ : List Fence) (l : Late) : List Fence → Late
  | [] => l
  | f :: fs =>
    let n := f.pos k
    let l := if f ∈ from_ || l.paths.any (fun x => f.early.getLsbD x.1 && x.2 ≤ n) then
        { paths := l.paths ++ (pathsOf f.late).map (fun p => (p, n)), scopes := if f.rel then (f.scope, n) :: l.scopes else l.scopes,
          hit := f :: l.hit : Late }
      else l
    l.walk k from_ fs

/-- What a late edge reaches on a tile that begins at some paths, and behind some fences, among others. -/
def lateOf (k : TileKey) (start : List (Nat × Nat)) (from_ fs : List Fence) : Late :=
  ({ paths := start, scopes := [], hit := [] } : Late).walk k from_ fs

/-- A clock joined into some paths and into the RELEASEs of some scopes. -/
def HbMark.join (m : HbMark) (l : Late) (v : VClock) : HbMark :=
  { m with vcs := Vector.ofFn (fun i : Fin 6 => if l.paths.any (fun x => x.1 = i.val) then vcJoin (m.vcs.get i) v else m.vcs.get i),
           rel := l.scopes.foldl (fun r x => assocSet r x.1 (vcJoin ((assocGet r x.1).getD []) v)) m.rel }

/-- The clock of an LS access of index n, and the RELEASEs before it, with what a late edge brings them. -/
def Late.after (l : Late) (n : Nat) (v vc : VClock) (rel : List (BitVec 3 × VClock)) : VClock × List (BitVec 3 × VClock) :=
  (if l.paths.any (fun x => x.1 = pathLS && x.2 ≤ n) then vcJoin vc v else vc,
   (l.scopes.filter (fun x => x.2 ≤ n)).foldl (fun r x => assocSet r x.1 (vcJoin ((assocGet r x.1).getD []) v)) rel)

/-- A gated store behind a late edge follows it (R105, R107). -/
def Gated.joinLate (g : Gated) (l : Late) (v : VClock) : Gated :=
  { g with vc := (l.after g.num v g.vc g.rel).1, rel := (l.after g.num v g.vc g.rel).2 }

/-- A committed operation behind a late edge follows it (R105, R107). -/
def LsOp.joinLate (o : LsOp) (l : Late) (v : VClock) : LsOp :=
  match o with
  | .store g => .store (g.joinLate l v)
  | .atom a => .atom { a with vc := (l.after a.id v a.vc a.rel).1, rel := (l.after a.id v a.vc a.rel).2 }

/-- A late edge taken in by a tile, whose stores that are not performed yet follow it too, and by its mark's copy where what it begins at
is of before the mark (R58). -/
def Tile.joinLate (t : Tile) (k : TileKey) (start startMark : List (Nat × Nat)) (from_ : List Fence) (v : VClock) : Tile :=
  let l := lateOf k start from_ t.core.seq.fences
  let m := ({ vcs := t.vcs, rel := t.rel, acq := t.acq } : HbMark).join l v
  { t with vcs := m.vcs, rel := m.rel, markHb := t.markHb.join (lateOf k startMark from_ t.mark.seq.fences) v,
           gated := t.gated.map (fun g => g.joinLate l v), lsq := t.lsq.map (fun o => o.joinLate l v) }

/-- The fences that a late edge reaches, on a tile's own list and, through the barriers on it, on those of others (R106). -/
def State.lateHit (s : State) (fs : List Fence) : List Fence :=
  (s.tiles.foldl (fun l x => l ++ (lateOf x.1 [] fs x.2.core.seq.fences).hit) fs).eraseDups

/-- Those that it reaches in n rounds. -/
def State.lateHits (s : State) (fs : List Fence) : Nat → List Fence
  | 0 => fs
  | n + 1 =>
    let gs := s.lateHit fs
    if gs.length = fs.length then fs else s.lateHits gs n

/-- A late edge spreads from some fences, over every barrier that they reach (R106, R107). -/
def State.spreadLate (s : State) (fs : List Fence) (v : VClock) : State :=
  if v = [] || fs = [] then s
  else
    let hit := s.lateHits fs.eraseDups (s.tiles.foldl (fun n x => n + x.2.core.seq.fences.length) 0)
    { s with tiles := s.tiles.map (fun x => (x.1, x.2.joinLate x.1 [] [] hit v)) }

/-- What follows a course that a tile's operation of index `id` belongs to follows the edge too (R106). -/
def State.lateTails (s : State) (k : TileKey) (id : Nat) (v : VClock) : State :=
  s.modCtx k.ctx (fun c => { c with queues := c.queues.map (fun q => { q with courses := q.courses.map (fun x =>
    if x.tails.any (fun y => y.1 = k && id < y.2) then { x with out := vcJoin x.out v } else x) }) })

/-- An edge reaches a tile at its operation of index `id` on a path: accesses behind it on that path, and what fences, RELEASEs and
barriers behind it pass on, follow it (R103-R107). On LS and GR the accesses of the tile follow in program order; on the others what comes
after the access does so by XFENCE alone, and the path's clock stands for that (R101). -/
def State.lateEdge (s : State) (k : TileKey) (path id : Nat) (v : VClock) : State :=
  if v = [] then s
  else
    let t := s.tileAt k
    let start := [(path, id + 1)]
    let marked := t.mark.flight.any (fun f => f.id = id)
    let hit := (lateOf k start [] t.core.seq.fences).hit
    let s := s.modTileAt k (fun t => t.joinLate k start (if marked then start else []) [] v)
    (s.lateTails k id v).spreadLate hit v

/-- The tile's own ACQUIREs that came after its operation of index `id`. -/
def Tile.acquiresAfter (t : Tile) (k : TileKey) (id : Nat) : List Fence :=
  t.core.seq.fences.filter (fun f => f.acq && f.who.any (fun w => w.1 = k && id < w.2))

/-- A tile has read tags through the operation of index `id`: what it may acquire later, in the mark's copy as well where the operation is
of before the mark (R58, R105). -/
def Tile.seeTags (t : Tile) (id : Nat) (plain : List RelTag) : Tile :=
  let t := { t with acq := t.acq ++ plain }
  if t.mark.flight.any (fun f => f.id = id) then { t with markHb := { t.markHb with acq := t.markHb.acq ++ plain } } else t

/-- The same, with what it takes in at once from a completion flag; an ACQUIRE that has issued since takes in its RELEASEs (R104-R107). -/
def State.seeTags (s : State) (k : TileKey) (id : Nat) (tags : List RelTag) : State :=
  let fs := (s.tileAt k).acquiresAfter k id
  let plain := tags.filter (fun x => !x.whole)
  let s := (s.modTileAt k (fun t => t.seeTags id plain)).lateEdge k pathLS id (wholeClock tags)
  fs.foldl (fun s f => s.spreadLate [f] (acquired k f.scope plain)) s

/-- The tags at n bytes of a place (R105). -/
def State.tagsOf (s : State) (k : TileKey) (p : Place) (n : Nat) : List RelTag :=
  match p with
  | .scratch tid off => ((s.tileAt (keyPeer k tid)).tags.filter (fun x => off ≤ x.1 && x.1 < off + n)).map (·.2)
  | .phys pa => (s.dramTags.filter (fun x => pa ≤ x.1 && x.1 < pa + n)).map (·.2)

/-- A read of n bytes on another path than LS, by a tile's operation of index `id`, takes in at once what a completion flag there brings with
it (R106). -/
def State.noteFlag (s : State) (k : TileKey) (path id : Nat) (p : Place) (n : Nat) : State :=
  s.lateEdge k path id (wholeClock (s.tagsOf k p n))

/-- A read by a tile's operation of index `id` of a value with some tags (R105, R106). -/
def State.noteTags (s : State) (k : TileKey) (id : Nat) (tags : List RelTag) : State := if tags = [] then s else s.seeTags k id tags

/-- A read of n bytes by a tile's operation of index `id` (R105, R106). -/
def State.noteRead (s : State) (k : TileKey) (id : Nat) (p : Place) (n : Nat) : State := s.noteTags k id (s.tagsOf k p n)

/-! ### The store path (R57, R73, R76, R101) -/

/-- A write to a line of a tile that a group load has read, or will read, in no order with it (R95): recorded with every
such load. -/
def markGLoads (s : State) (owner : TileKey) (line : Nat) (writer : TileKey) (v : VClock) : State :=
  { s with tiles := s.tiles.map (fun x =>
      if x.1.ctx = owner.ctx && x.1.die = owner.die then
        (x.1, x.2.mapBoth (fun c => { c with gloads := c.gloads.map (fun g =>
          if g.race.isNone && !g.closed && addrOff g.addr / 64 = line && owner.tid ∈ g.members &&
              !ordered v writer x.1 pathGR pathLS g.ep then
            { g with race := some (owner.tid, (g.members.findIdx? (fun m => m = owner.tid)).getD 0, writer.tid) }
          else g) }))
      else x) }

/-- The lines of some bytes from an offset on, each once. -/
def linesOfBytes (off : Nat) (is : List Nat) : List Nat := (is.map (fun i => (off + i) / 64)).eraseDups

/-- The group loads that a write of some bytes races with learn of it (R95). -/
def State.noteGLoads (s : State) (k : TileKey) (p : Place) (is : List Nat) (v : VClock) : State :=
  match p with
  | .phys _ => s
  | .scratch tid off => (linesOfBytes off is).foldl (fun s line => markGLoads s (keyPeer k tid) line k v) s

/-- The race tags of an LS write of some bytes at a place, and the group loads (R95, R109). -/
def State.noteLines (s : State) (k : TileKey) (p : Place) (is : List Nat) (v : VClock) (plain : Bool) : State :=
  match p with
  | .phys _ => s
  | .scratch tid off =>
    let s := (linesOfBytes off is).foldl (fun s line =>
      s.modTileAt (keyPeer k tid) (fun t => t.setLine ((t.lineTag line).write k (vcGet v (k, pathLS)) plain))) s
    s.noteGLoads k p is v

/-- An LS write of some bytes at a place: race tags, group loads, release tags (R95, R105, R109). -/
def State.noteWrite (s : State) (k : TileKey) (p : Place) (is : List Nat) (v : VClock) (rel : List (BitVec 3 × VClock))
    (plain chain : Bool) : State :=
  (s.tagBytes k p chain { owner := k, rel := rel, whole := false } is).noteLines k p is v plain

/-- A place in a stack whose memory side is lost (R423). -/
def State.placeLost (s : State) (p : Place) : Bool :=
  match p with
  | .phys pa => s.sideLost pa
  | .scratch _ _ => false

/-- The location word of a poisoned unit (R417). -/
def poisonLoc (p : Place) (u : Nat) : Nat × Word :=
  match p with
  | .scratch _ _ => (0x01, BitVec.ofNat 64 u)
  | .phys _ => (0x06, BitVec.ofNat 64 u)

/-- A committed plain store performed; its race tags stand since the commit. One that reaches a lost memory side ends without its write
(R101, R105, R109, R423). -/
def State.performStore (s : State) (k : TileKey) (g : Gated) : State :=
  match g.kind with
  | .write bs => if s.placeLost g.place then s else (s.writeBytesAt k g.place bs).tagBytes k g.place false { owner := k, rel := g.rel, whole := false } (bs.map (·.1))
  | _ => s

/-- The new value of an atomic, and its events (R251). -/
def atomNew (op : AtomOp) (w : Nat) (old a b : Nat) : Res :=
  let a := a % 2 ^ w
  let b := b % 2 ^ w
  match op with
  | .add => Res.pure ((old + a) % 2 ^ w)
  | .minS => Res.pure (if sInt w old ≤ sInt w a then old else a)
  | .minN => Res.pure (min old a)
  | .maxS => Res.pure (if sInt w a ≤ sInt w old then old else a)
  | .maxN => Res.pure (max old a)
  | .and => Res.pure (old &&& a)
  | .or => Res.pure (old ||| a)
  | .xor => Res.pure (old ^^^ a)
  | .swap => Res.pure a
  | .cas => Res.pure (if old = b then a else old)
  | .fadd => f32AddRne old a

/-- The poison that an atomic meets at its place: that of a unit of it, or of a lost memory side (R415, R423). -/
def State.atomPoison (s : State) (k : TileKey) (a : AtomReq) : Option Nat :=
  match a.place with
  | .phys pa => if s.sideLost pa then some (pa / 8 * 8) else s.poisonAt k a.place (if a.wide then 8 else 4)
  | .scratch _ _ => s.poisonAt k a.place (if a.wide then 8 else 4)

/-- An atomic performed: one indivisible read, change and write, its result delivered after a free delay (R113, R251). One that reads a
poisoned unit, or a lost memory side, consumes the poison and writes nothing (R415, R416, R423). -/
def State.performAtom (s : State) (k : TileKey) (a : AtomReq) : State :=
  match s.atomPoison k a with
  | some u => s.takeTrapAt k { s.softError k.die 1 (poisonLoc a.place u).1 (poisonLoc a.place u).2 with final := true }
  | none =>
  let n := if a.wide then 8 else 4
  let old := s.readPlaceAt k a.place n
  let r := atomNew a.op (8 * n) old a.a.toNat a.b.toNat
  let s := s.noteRead k a.id a.place n
  let s := s.writeBytesAt k a.place (fullBytes r.val n)
  let s := s.noteWrite k a.place (List.range n) a.vc a.rel false true
  let s := s.modTileAt k (fun t => t.countLate r.ev)
  let due := s.clock + Config.freeDelay s.free
  let s := { s with free := s.free + 1 }
  let ok : Wide := if old = a.b.toNat % 2 ^ (8 * n) then 1 else 0
  s.fillAt k a.id due [(.q, BitVec.ofNat 512 old), (.qp, ok)]

/-- A committed LS operation performed. -/
def State.performLs (s : State) (k : TileKey) (o : LsOp) : State :=
  match o with
  | .store g => s.performStore k g
  | .atom a => s.performAtom k a

/-- Every committed LS operation of a tile performed, in program order: a later LS access of the tile never comes before
them (R101). -/
def State.flushLs (s : State) (k : TileKey) : State :=
  let ops := (s.tileAt k).lsq
  ops.foldl (fun s o => s.performLs k o) (s.modTileAt k (fun t => { t with lsq := [] }))

/-- What of a place the tile's own loads do not see yet: what stood before the oldest of its stores that were committed too lately (R73). -/
def Tile.shaded (t : Tile) (p : Place) : Option Shade := (t.shadow.filter (fun x => x.place = p && t.issue < x.shows)).getLast?

/-- The byte of a place as the tile's own loads see it (R73). -/
def Tile.ownByte (t : Tile) (p : Place) (b : Byte) : Byte :=
  match t.shaded p with
  | some x => x.old
  | none => b

/-- The tags of n bytes at a place as the tile's own loads see them: those of the bytes that they return (R73, R105). -/
def State.ownTags (s : State) (p : Place) (n : Nat) : List RelTag :=
  (List.range n).flatMap (fun i => match s.tile.shaded (p.shift i) with
    | some x => x.tags
    | none => s.tagsAt s.cur (p.shift i))

/-- n bytes at a place as a load of the tile sees them (R73). -/
def State.loadPlace (s : State) (p : Place) (n : Nat) : Nat :=
  let t := s.tile
  ofBytes ((List.range n).map (fun i => t.ownByte (p.shift i) (BitVec.ofNat 8 (s.readPlace (p.shift i) 1))))

/-- The 8-byte word of a scratchpad that holds the byte at one place meets n bytes at another (R74). -/
def sameWord (a p : Place) (n : Nat) : Bool :=
  match a, p with
  | .scratch ta oa, .scratch tp op => ta = tp && op / 8 ≤ oa / 8 && oa / 8 ≤ (op + n - 1) / 8
  | _, _ => false

/-- Does a load of n bytes read a scratchpad word that is pending: a committed store makes it visible only later (R74)? -/
def Tile.shadowed (t : Tile) (p : Place) (n : Nat) : Bool := t.shadow.any (fun x => t.issue < x.shows && sameWord x.place p n)

/-- The race of a plain load at a place, if there is one (R109). -/
def State.loadRace (s : State) (p : Place) (n : Nat) : Option (TileKey × Bool) :=
  match p with
  | .phys _ => none
  | .scratch tid off =>
    let o := s.tileAt (s.ownerKey tid)
    (linesOf off n).findSome? (fun line => raceWith (o.lineTag line) (s.tile.vcOf pathLS) s.cur false)

/-- A tile or window access to a station buffer while a step of its orbit is in progress: a body transfer may yield to it, one clock
for every such clock; whether it addresses the bank that is accessed is open (R67, R166; log 17). -/
def State.yieldStep (s : State) (p : Place) : State :=
  match p with
  | .phys _ => s
  | .scratch tid off =>
    let cl := keyCluster (keyPeer s.cur tid)
    let late (o : Orbit) : Bool := o.cl = cl && o.stepDue.any (fun d => o.clk < d) && o.yieldAt ≠ some o.clk
    if 18 ≤ off / bankSize && off / bankSize < 22 && s.ctx.orbits.any late then
      let b := if (Config.freeWord s.free).getLsbD 0 then 1 else 0
      s.spend.modCtx s.cur.ctx (fun c => { c with orbits := c.orbits.map (fun o =>
        if late o then { o with stepDue := o.stepDue.map (· + b), yieldAt := some o.clk } else o) })
    else s

/-- A plain load of n bytes recorded (R105, R109); its clocks at the bank are noted elsewhere. -/
def State.noteLanes (s : State) (p : Place) (n : Nat) : State :=
  let s := s.noteTags s.cur s.nextOp (s.ownTags p n)
  match p with
  | .phys _ => s
  | .scratch tid off =>
    let ep := s.tile.epoch s.cur pathLS
    (linesOf off n).foldl (fun s line =>
      s.modTileAt (s.ownerKey tid) (fun t => t.setLine ((t.lineTag line).read s.cur ep))) s

/-- A plain load of n bytes recorded, which meets its bank in this clock (R67, R105, R109). -/
def State.noteLoad (s : State) (p : Place) (n : Nat) : State := (s.noteLanes p n).yieldStep p

/-- "memory-model exception" of the bundle's later access (R110). -/
def raceCause (here : BitVec 56) (u : Twin) (slot : Nat) (addr : Word) (write : Bool) (e : TileKey × Bool) : BitVec 56 → Cause :=
  fun tepc =>
  { code := 0x0C, tepc := tepc, i0 := addrWord here,
    i1 := BitVec.ofNat 64 ((match u with | .u0 => 0 | .u1 => 128) + slot), i2 := addr,
    i3 := BitVec.ofNat 64 ((if write then 32 else 0) + (if e.2 then 16 else 0) + (tidRing e.1.tid).toNat) }

/-- The lsu of a twin. -/
def lsuOfTwin : Twin → Sock
  | .u0 => .lsu0
  | .u1 => .lsu1

/-- The bytes of a scratchpad that a gated operation will write (R57, R95). -/
def GKind.written : GKind → List Nat
  | .write bs => bs.map (·.1)
  | .cellw _ => List.range 8
  | .cellwr _ => List.range 8
  | .cellr _ => []
  | .cqclear _ => []

/-- A store gated until its region commits (R57). -/
def State.gate (s : State) (u : Twin) (place : Place) (kind : GKind) (addr : Word) : State :=
  s.modTile (fun t =>
    { t with gated := t.gated ++ [{ place := place, kind := kind, here := t.core.seq.here, slot := t.core.seq.slot, u := u,
                                    addr := addr, num := t.nextId, vc := t.vcOf pathLS, rel := t.rel }],
             stores := t.stores + 1, nextId := t.nextId + 1 })

/-- Is the cell full, held cells included (R78)? -/
def Tile.cellFull (t : Tile) (off : Nat) : Bool := off ∈ t.full

/-- Is the cell held (R78)? -/
def Tile.cellHeld (t : Tile) (off : Nat) : Bool := t.held.any (fun x => x.1 = off)

/-- A cell set full: a transition counts in CFILL (R190). -/
def Tile.setFull (t : Tile) (off : Nat) : Tile :=
  if t.cellFull off then t else { t with full := off :: t.full, cfill := t.cfill + 1 }

/-- A cell set empty and its hold ended: a transition counts in CDRAIN (R78, R190). -/
def Tile.setEmpty (t : Tile) (off : Nat) : Tile :=
  { t with full := t.full.filter (· ≠ off), held := t.held.filter (fun x => x.1 ≠ off),
           cdrain := if t.cellFull off then t.cdrain + 1 else t.cdrain }

/-- The bytes before a store with their tags, kept for the tile's own loads until two issue cycles later (R73). -/
def State.shadowBytes (s : State) (g : Gated) (bs : List (Nat × Byte × Byte)) : List Shade :=
  bs.map (fun b => { place := g.place.shift b.1, old := BitVec.ofNat 8 (s.readPlace (g.place.shift b.1) 1),
                     tags := s.tagsAt s.cur (g.place.shift b.1), shows := s.tile.issue + 2 })

/-- They join those of earlier stores that a load still misses (R73). -/
def Tile.shade (t : Tile) (l : List Shade) : Tile := { t with shadow := l ++ t.shadow.filter (fun x => t.issue < x.shows) }

/-- A cell written and set full at a commit (R77, R78). R73 delays what the tile's own loads see of its stores to c + 2; a CELLW or
CELLWR counts as none of them, and a plain load sees the cell's new word at once (DESIGN CHOICE, log 89). -/
def State.commitCell (s : State) (g : Gated) (v : Word) : State :=
  match g.place with
  | .scratch tid off =>
    let s := s.flushLs s.cur
    let s := s.writeBytesAt s.cur g.place (fullBytes v.toNat 8)
    let s := s.noteWrite s.cur g.place (List.range 8) g.vc g.rel false false
    s.modTileAt (s.ownerKey tid) (fun t => t.setFull off)
  | .phys _ => s

/-- One gated store takes its effect at the commit (R57, R73, R78, R101, R109): a store to the tile's own scratchpad at once, behind
every store before it; one to the window or through a handle in the queue of committed operations; a cell operation at its
bank. -/
def State.commitNow (s : State) (g : Gated) : State :=
  match g.kind with
  | .write bs =>
    let sh := s.shadowBytes g bs
    let s := (s.modTile (fun t => t.shade sh)).noteLines s.cur g.place (bs.map (·.1)) g.vc true
    if addrSpace g.addr = 0 then (s.flushLs s.cur).performStore s.cur g
    else (s.modTile (fun t => { t with lsq := t.lsq ++ [.store g] })).addLater s.cur .storePerformed
  | .cellw v => s.commitCell g v
  | .cellwr v => s.commitCell g v
  | .cellr _ =>
    match g.place with
    | .scratch tid off => (s.flushLs s.cur).modTileAt (s.ownerKey tid) (fun t => { t.setEmpty off with tags := t.tags.filter (fun x => x.1 < off || off + 8 ≤ x.1) })
    | .phys _ => s
  | .cqclear q => s.modCtx s.cur.ctx (fun c => { c with copyQs := c.copyQs.map (fun x =>
      if x.die = s.cur.die && x.q = q then { x with fovw := false, ferr := false } else x) })

/-- The tile of the step reaches a cell in this clock behind a tile whose turn is still to come (R79). -/
def State.goesBehind (s : State) (p : Place) : Bool := s.behind.1 = s.clock && s.behind.2.1 = s.cur && p ∈ s.behind.2.2

/-- A cell operation that no other one can make trap. -/
def GKind.waits : GKind → Bool
  | .cellwr _ => true
  | .cellr _ => true
  | _ => false

/-- One gated store at the commit; a cell operation takes its effect behind those of the clock that come before it (R57, R79). -/
def State.commitOne (s : State) (g : Gated) : State :=
  if g.kind.waits && s.goesBehind g.place then { s with lateCells := s.lateCells ++ [(s.cur, g)] } else s.commitNow g

end Sys2Proof.Machine
end

