-- ==== Sys2Proof/Machine/Region.lean ====
section
/-! DEFINITION. Restart regions: what a closing MARK bundle waits for, checks and commits (R56-R58, R78, R95-R97, R110). -/

namespace Sys2Proof.Machine

/-! ### Fences (R103, R104) -/

/-- What a tile's accesses with trigger numbers below n still have in progress on the paths of a mask. LS stores and atomics
are performed on demand, and the GR path reads its leaves at the trigger, so neither is waited for (log 20). -/
def State.inProgress (s : State) (k : TileKey) (paths : BitVec 6) (n : Nat) : Bool :=
  let t := s.tileAt k
  let old (i : Nat) : Bool := i < n
  (paths.getLsbD 0 && t.core.cellRds.any (fun c => !c.done && old c.id)) ||
  (paths.getLsbD 2 && t.core.mx.queue.any (fun q => match q with
    | .wld i _ _ _ _ _ _ _ => old i
    | .pass i _ _ _ _ _ _ _ _ _ => old i
    | .drainst i _ _ _ _ _ _ _ _ => old i
    | _ => false)) ||
  (paths.getLsbD 3 && (t.dma.any (fun d => d.done.isNone && old d.id) ||
    (s.ctxAt k.ctx).copyQs.any (fun q => q.entries.any (fun e => e.poster = k && old e.op)))) ||
  (paths.getLsbD 4 && t.station.ops.any (fun x => match x with | .oinj i _ _ _ => old i | .oeph i _ _ => old i | .ostep _ => false)) ||
  (paths.getLsbD 5 && (t.sends.any (fun x => old x.id) || t.core.rlds.any (fun r => old r.id)))

/-- What a fence still waits for among the accesses before it; for an ACQUIRE, the LS reads that have not delivered (R103,
R104). -/
def State.fencePending (s : State) (f : Fence) : Bool :=
  if f.acq then
    f.who.any (fun w => s.tile.core.flight.any (fun x => x.locked && (x.sk = .lsu0 || x.sk = .lsu1) && x.id < w.2 &&
      !s.tile.core.gloads.any (fun g => g.id = x.id)))
  else f.who.any (fun w => s.inProgress w.1 f.early w.2)

/-- Which fences still hold: a fence also waits for every earlier one that names a path of its EARLIER in its LATER. -/
def State.heldFences (s : State) (seen : List (Fence × Bool)) : List Fence → List (Fence × Bool)
  | [] => seen
  | f :: fs =>
    let held := s.fencePending f || seen.any (fun x => x.2 && x.1.late &&& f.early ≠ 0)
    s.heldFences (seen ++ [(f, held)]) fs

/-- An access on a path must wait for a fence (R103). -/
def State.fenceStall (s : State) (path : Nat) : Bool :=
  (s.heldFences [] s.tile.core.seq.fences).any (fun x => x.2 && x.1.late.getLsbD path)

/-- A CELLR of the region has not read its cell (R78, R248). -/
def State.cellStall (s : State) : Bool := s.tile.core.cellRds.any (fun c => c.consume && !c.done)

/-- A RELEASE still waits for what happens-before it: an LS write of the tile of index n that follows it is not performed (R104). -/
def State.releaseHolds (s : State) (n : Nat) : Bool :=
  (s.heldFences [] s.tile.core.seq.fences).any (fun x => x.2 && x.1.rel && x.1.pos s.cur ≤ n)

/-- What a closing MARK bundle still waits for: a CELLR that has not read its cell, a group load whose leaves have not been combined, a
RELEASE of which stores of the region follow, and which waits for an earlier access (R57, R104, R248). -/
def State.closeStall (s : State) : Bool :=
  s.cellStall || s.tile.core.gloads.any (fun g => !g.combined) || s.tile.gated.any (fun g => s.releaseHolds g.num)

/-- The trap-information word of a group load's or a later access's unit and slot (R95, R97, R110). -/
def unitSlot (u : Twin) (slot : Nat) : Nat := (match u with | .u0 => 0 | .u1 => 128) + slot

/-- "memory-model exception" of a group load (R95). -/
def gloadRaceCause (g : GLoad) (m : BitVec 6) (rank : Nat) (w : BitVec 6) (tepc : BitVec 56) : Cause :=
  { code := 0x0C, tepc := tepc, i0 := addrWord g.here,
    i1 := BitVec.ofNat 64 (m.toNat * 2 ^ 24 + rank * 2 ^ 16 + unitSlot g.u g.slot), i2 := g.addr,
    i3 := BitVec.ofNat 64 (w.toNat * 2 ^ 24 + addrOff g.addr) }

/-- "group partial" of a group load (R97). -/
def gloadPartialCause (g : GLoad) (tepc : BitVec 56) : Cause :=
  { code := 0x20, tepc := tepc, i0 := addrWord g.here, i1 := BitVec.ofNat 64 (unitSlot g.u g.slot), i2 := g.absent, i3 := g.addr }

/-- A write of tile k that has been triggered and is not performed yet writes a line that the load of tile `me` reads, in no order with it:
its member and the member's rank (R95). -/
def GLoad.metBy (g : GLoad) (me k : TileKey) (p : Place) (is : List Nat) (v : VClock) : Option (BitVec 6 × Nat × BitVec 6) :=
  match p with
  | .phys _ => none
  | .scratch tid off =>
    if me.ctx = k.ctx && me.die = k.die && addrOff g.addr / 64 ∈ linesOfBytes off is && tid ∈ g.members && !ordered v k me pathGR pathLS g.ep then
      some (tid, (g.members.findIdx? (fun m => m = tid)).getD 0, k.tid)
    else none

/-- The LS writes of a tile that have been triggered and are not performed yet: its atomics, and what its region has gated and a rollback
may still discard (R57, R58, R113). -/
def Tile.openWrites (t : Tile) : List (Place × List Nat × VClock) :=
  t.lsq.filterMap (fun o => match o with
    | .atom a => some (a.place, List.range (if a.wide then 8 else 4), a.vc)
    | .store _ => none) ++
  t.gated.map (fun g => (g.place, g.kind.written, g.vc))

/-- The race of a group load of the tile of the step; writes that are not performed yet count for as long as they stand (R95). -/
def State.settleRace (s : State) (g : GLoad) : GLoad :=
  if g.race.isSome || g.closed then g
  else { g with race := s.tiles.findSome? (fun x => x.2.openWrites.findSome? (fun w => g.metBy s.cur x.1 w.1 w.2.1 w.2.2)) }

/-- The operation is a group load of the tile of the step that has a race: its results are not delivered, and a bundle that reads them
traps (R95). -/
def State.raced (s : State) (id : Nat) : Bool := s.tile.core.gloads.any (fun g => g.id = id && (s.settleRace g).race.isSome)

/-- The trap that a group load raises at a bundle that reads it or closes its region. A write that comes after the first bundle that
read the load's result and before the closing MARK bundle still races with it, and traps at that bundle (R95, R97; DEDUCED, log 83). -/
def gloadCause (g : GLoad) (tepc : BitVec 56) : Option Cause :=
  match g.race with
  | some (m, rank, w) => some (gloadRaceCause g m rank w tepc)
  | none => if g.trapping && g.absent ≠ 0 && !g.trapped && g.combined then some (gloadPartialCause g tepc) else none

/-- The group load whose result a read of a port returns, where no bundle has read one of its results before (R21, R95, R97). -/
def TileCore.readGLoad (c : TileCore) (sk : Sock) (p : RPort) : Option GLoad :=
  match (c.owners' sk p).head? with
  | none => none
  | some id => c.gloads.find? (fun g => g.id = id && g.combined && !g.seen)

/-- The race of a gated store with an earlier access, at its commit (R109, R110). -/
def State.storeRace (s : State) (g : Gated) : Option Cause :=
  match g.kind, g.place with
  | .write bs, .scratch tid off =>
    let o := s.tileAt (s.ownerKey tid)
    match (linesOfBytes off (bs.map (·.1))).findSome? (fun line => raceWith (o.lineTag line) g.vc s.cur true) with
    | some e => some (raceCause g.here g.u g.slot g.addr true e s.tile.core.seq.here)
    | none => none
  | _, _ => none

/-- "cell overwrite": the bundle and slot of the CELLW, and the cell's address word (R78). -/
def cellOverwriteCause (g : Gated) (tepc : BitVec 56) : Cause :=
  { code := 0x0D, tepc := tepc, i0 := addrWord g.here, i1 := BitVec.ofNat 64 (unitSlot g.u g.slot), i2 := g.addr, i3 := 0 }

/-- The first CELLW of a region that finds its cell full, the region's own earlier cell operations counted: `seen` lists
the cells they changed, with their new bit (R78). -/
def State.cellOverwrite (s : State) (seen : List (Place × Bool)) : List Gated → Option Gated
  | [] => none
  | g :: gs =>
    match g.place with
    | .phys _ => s.cellOverwrite seen gs
    | .scratch tid off =>
      let isFull := match seen.find? (fun x => x.1 = g.place) with
        | some x => x.2
        | none => (s.tileAt (s.ownerKey tid)).cellFull off
      match g.kind with
      | .cellw _ => if isFull then some g else s.cellOverwrite ((g.place, true) :: seen) gs
      | .cellwr _ => s.cellOverwrite ((g.place, true) :: seen) gs
      | .cellr _ => s.cellOverwrite ((g.place, false) :: seen) gs
      | _ => s.cellOverwrite seen gs

/-- The trap that stands at a closing MARK bundle on behalf of its region's accesses (R206, item 9): a race of a gated store, then the
causes of the group loads in trigger order, then a cell overwrite (DESIGN CHOICE, log 100). -/
def State.closeCause (s : State) : Option Cause :=
  let here := s.tile.core.seq.here
  match s.tile.gated.findSome? (fun g => s.storeRace g) with
  | some c => some c
  | none =>
    match s.tile.core.gloads.findSome? (fun g => gloadCause (s.settleRace g) here) with
    | some c => some c
    | none => match s.cellOverwrite [] s.tile.gated with
      | some g => some (cellOverwriteCause g here)
      | none => none

/-- The commit of an XFENCE's region comes before the later accesses on the paths of LATER (R103). -/
def Tile.fenceRegion (t : Tile) (k : TileKey) : Tile :=
  let fs := t.core.seq.fences.filter (fun f => f.region)
  if fs = [] then t
  else
    let t := t.bump k pathLS
    let v := t.vcOf pathLS
    let t := fs.foldl (fun t f => (pathsOf f.late).foldl (fun t p => t.setVc p (vcJoin (t.vcOf p) v)) t) t
    t.mapSeq (fun q => { q with fences := q.fences.map (fun f => { f with region := false }) })

/-- Every store of a region that holds an XFENCE is performed with its commit (R103). -/
def State.performFenced (s : State) : State :=
  if s.tile.core.seq.fences.any (fun f => f.region) then s.flushLs s.cur else s

/-- Gated stores and cell operations committed in program order (R57). -/
def State.commitAll (s : State) (gs : List Gated) : State := gs.foldl (fun s g => s.commitOne g) s

/-- The region committed: its stores and cell operations in program order (R57, R103). -/
def State.commitRegion (s : State) : State :=
  let s := s.flushLs s.cur
  let s := (s.commitAll s.tile.gated).performFenced
  s.modTile (fun t =>
    let t := (t.fenceRegion s.cur).mapCore (fun c => { c with cellRds := c.cellRds.filter (fun r => !r.done), gloads := [] })
    { t with gated := [], stores := 0 })

/-- The live state becomes the state at the new mark point (R56, R58); what the leader of a tow set posted before it is no
longer needed. -/
def Tile.takeMark (t : Tile) : Tile :=
  { t with mark := t.core, refused := [], wrote := [], markAt := (t.issue, t.towN), markHb := { vcs := t.vcs, rel := t.rel, acq := t.acq }, posts := t.posts.filter (fun x => t.towN ≤ x.1),
           trace := t.trace.filter (fun x => t.towN ≤ x.1) }

end Sys2Proof.Machine
end

