-- ==== Sys2Proof/Machine/Slot.lean ====
section
/-! DEFINITION. How one slot's operation runs: its guard, its source, the traps that rank before it, its effect (R30, R206). -/

namespace Sys2Proof.Machine

/-- What an operation does at each stage of the issue of its bundle: whether it stalls the bundle (R23), the traps that
it raises (R206, items 6, 8 and 9), and its effect. -/
structure Hooks where
  stall : State → Bool
  early : State → Option Cause
  check : State → Option Cause
  race  : State → Option Cause
  act   : State → State

/-- An operation that neither stalls nor traps. -/
def Hooks.plain (act : State → State) : Hooks :=
  { stall := fun _ => false, early := fun _ => none, check := fun _ => none, race := fun _ => none, act := act }

/-- An operation that may trap by itself (R206, item 8). -/
def Hooks.checked (check : State → Option Cause) (act : State → State) : Hooks :=
  { stall := fun _ => false, early := fun _ => none, check := check, race := fun _ => none, act := act }

/-- An operation that may stall its bundle and may trap by itself. -/
def Hooks.stalled (stall : State → Bool) (check : State → Option Cause) (act : State → State) : Hooks :=
  { stall := stall, early := fun _ => none, check := check, race := fun _ => none, act := act }

/-- The result ports that a source reads. -/
def srcPorts : Src → List (Sock × RPort)
  | .port sk r => [(sk, r)]
  | _ => []

/-- A read of some ports waits for an interlocked result, or for an entry in queue mode (R21, R27). -/
def State.portWait (s : State) (x : Sock × RPort) : Bool :=
  if s.ctx.qmode then s.tile.core.queue' x.1 x.2 = [] else s.tile.portPending x.1 x.2

/-- A bundle has read a result of the operation (R95). -/
def GLoad.read (g : GLoad) (id : Nat) : GLoad := if g.id = id then { g with seen := true } else g

/-- Whose result a port gives is noted as read; in queue mode the next entry's follows (R27, R95). -/
def TileCore.disown (c : TileCore) (qmode : Bool) (sk : Sock) (p : RPort) : TileCore :=
  match c.owners' sk p with
  | [] => c
  | id :: r =>
    let c : TileCore := { c with gloads := c.gloads.map (fun g => g.read id) }
    if qmode then c.setOwners sk p r else c

/-- The ports were read: in queue mode each gives up one entry (R27); a result that was read is no longer unread (R20). -/
def TileCore.consume (c : TileCore) (qmode : Bool) : List (Sock × RPort) → TileCore
  | [] => c
  | (sk, p) :: r =>
    let c := c.disown qmode sk p
    let c := if qmode then c.setQueue sk p ((c.queue' sk p).drop 1) else c
    ({ c with unread := c.unread.filter (fun x => !(x.1 = sk && x.2 = p)) }).consume qmode r

/-- The ports read by a step (R20, R27). -/
def State.consume (s : State) (ps : List (Sock × RPort)) : State :=
  match ps with
  | [] => s
  | _ => s.modTile (fun t => t.mapCore (fun c => c.consume s.ctx.qmode ps))

/-- "early read" in debug mode: a port with a result still in flight (R74). -/
def State.earlyPort (s : State) (src : Src) : Bool :=
  s.ctx.debug && (match src with
    | .port sk r => s.tile.core.flight.any (fun f => !f.locked && f.sk = sk && f.port = r)
    | _ => false)

/-- "early read" of a port: tinfo2 holds the slot's SRC field (R74, R363). -/
def State.earlyCause (s : State) (sk : Nat) (src : Src) : Cause := s.cause 0x03 sk (src.enc.zeroExtend 64)

/-- The trap that a read of an lsu port takes on behalf of a group load (R95, R97). -/
def State.portCause (s : State) (x : Sock × RPort) : Option Cause :=
  match s.tile.core.readGLoad x.1 x.2 with
  | some g => gloadCause (s.settleRace g) s.tile.core.seq.here
  | none => none

/-- The group load that a read of some ports traps for (R97). -/
def State.portLoad (s : State) (ports : List (Sock × RPort)) : Option Nat :=
  (ports.find? (fun x => (s.portCause x).isSome)).bind (fun x => (s.tile.core.readGLoad x.1 x.2).map (·.id))

/-- The group load that the close of a region traps for (R97). -/
def State.closeLoad (s : State) : Option Nat :=
  (s.tile.core.gloads.find? (fun g => (gloadCause (s.settleRace g) s.tile.core.seq.here).isSome)).map (·.id)

/-- A group partial that was taken is not taken again (R97). -/
def TileCore.noteTrapped (c : TileCore) (id : Option Nat) : TileCore :=
  { c with gloads := c.gloads.map (fun g => if some g.id = id then { g with trapped := true } else g) }

/-- A trap of the bundle taken; where it is the group partial of a load, that is noted (R97). -/
def State.takeBundleTrap (s : State) (c : Cause) (id : Option Nat) : State :=
  if c.code = 0x20 then (s.modTile (fun t => t.mapCore (fun x => x.noteTrapped id))).takeTrap c else s.takeTrap c

/-- The stages of one operation whose sources are read: it waits, traps or takes effect (R23, R206). -/
def State.runHooks (s : State) (h : Hooks) (ports : List (Sock × RPort)) : State :=
  if h.stall s then s
  else match h.early s with
    | some c => s.takeTrap c
    | none => match h.check s with
      | some c => s.takeTrap c
      | none => match (match h.race s with | some c => some c | none => ports.findSome? (fun x => s.portCause x)) with
        | some c => s.takeBundleTrap c (s.portLoad ports)
        | none => h.act (s.consume ports)

/-- One trigger of a scalar slot on the tile of the step: a frozen tile issues nothing (R25), a false guard cancels it
(R30), an operation of another unit than sys is a privilege violation in privileged mode (R359), and a read of an
undelivered result waits (R21). -/
def runScalar (sk : Sock) (hk : Wide → Word → Hooks) (src : Src) (g : Guard) (s : State) : Out :=
  if s.tile.frozen then .next s
  else if !s.tile.core.guardOn g then .next s
  else if s.tile.priv && sk ≠ .sys then .next (s.takeTrap (s.privViolation (sockIdx sk).val (s.scalarSrc src)))
  else if (srcPorts src).any (fun x => s.portWait x) then .next s
  else if s.earlyPort src then .next (s.takeTrap (s.earlyCause (sockIdx sk).val src))
  else .next (s.runHooks (hk (wideOfWord (s.scalarSrc src)) (BitVec.allOnes 64)) (srcPorts src))

/-- One trigger of a vector slot: its guard is the operation's lane mask (R31). -/
def runVector (sk : Sock) (hk : Wide → Word → Hooks) (md : SrcMod) (src : Src) (g : Guard) (s : State) : Out :=
  if s.tile.frozen then .next s
  else if s.tile.priv then .next (s.takeTrap (s.privViolation (sockIdx sk).val (lowWord (s.vectorSrc md src))))
  else if (srcPorts src).any (fun x => s.portWait x) then .next s
  else if s.earlyPort src then .next (s.takeTrap (s.earlyCause (sockIdx sk).val src))
  else .next (s.runHooks (hk (s.vectorSrc md src) (s.tile.core.guardWord g)) (srcPorts src))

/-- A trigger from either kind of slot, where both may write the trigger port (R14, R289). -/
def runEither (sk : Sock) (hk : Wide → Word → Hooks) (md : Option SrcMod) (src : Src) (g : Guard) (s : State) : Out :=
  match md with
  | none => runScalar sk hk src g s
  | some md => runVector sk hk md src g s

/-- Operand port a of a unit. -/
def State.opA (s : State) (sk : Sock) : Wide := s.tile.core.opnd' sk .a
/-- Operand port b of a unit. -/
def State.opB (s : State) (sk : Sock) : Wide := s.tile.core.opnd' sk .b

/-- Every bit of a port. -/
def allBits : Wide := BitVec.allOnes 512

end Sys2Proof.Machine
end

