-- ==== Sys2Proof/Machine/Vector.lean ====
section
/-! DEFINITION. The lane-wise operations of valu0, valu1 and vsfu (R262-R278). -/

namespace Sys2Proof.Machine

/-- The valu of a twin. -/
def valuOfTwin : Twin → Sock
  | .u0 => .valu0
  | .u1 => .valu1

/-- frm.RM (R129). -/
def TileCore.rm (c : TileCore) : Nat := (c.frm.extractLsb' 0 3 : BitVec 3).toNat
/-- frm.FSAT (R129). -/
def TileCore.fsat (c : TileCore) : Bool := c.frm.getLsbD 3

/-! ### Types (R208) -/

/-- The format of a type of F3. -/
def fmtF3 : F3 → Fmt
  | .f32 => .f32
  | .f16 => .f16
  | .bf16 => .bf16

/-- The element type of a type of FI6. -/
def tyFI6 : FI6 → ElTy
  | .f32 => .flt .f32
  | .f16 => .flt .f16
  | .bf16 => .flt .bf16
  | .i32 => .int { w := 32, signed := false }
  | .i16 => .int { w := 16, signed := false }
  | .i8 => .int { w := 8, signed := false }

/-- The element type of a type of FSN9. -/
def tyFSN9 : FSN9 → ElTy
  | .f32 => .flt .f32
  | .f16 => .flt .f16
  | .bf16 => .flt .bf16
  | .s32 => .int { w := 32, signed := true }
  | .s16 => .int { w := 16, signed := true }
  | .s8 => .int { w := 8, signed := true }
  | .n32 => .int { w := 32, signed := false }
  | .n16 => .int { w := 16, signed := false }
  | .n8 => .int { w := 8, signed := false }

/-- The integer format of a type of SN6. -/
def tySN6 : SN6 → IFmt
  | .s32 => { w := 32, signed := true }
  | .s16 => { w := 16, signed := true }
  | .s8 => { w := 8, signed := true }
  | .n32 => { w := 32, signed := false }
  | .n16 => { w := 16, signed := false }
  | .n8 => { w := 8, signed := false }

/-- The lane width of a type of W3. -/
def widthW3 : W3 → Nat
  | .w32 => 32
  | .w16 => 16
  | .w8 => 8

/-! ### Lanes -/

/-- The events of the first n lanes, active ones only (R143). -/
def laneEvents (on : Nat → Bool) (f : Nat → Res) : Nat → EvCount
  | 0 => EvCount.zero
  | n + 1 => if on n then (laneEvents on f n).add (f n).ev else laneEvents on f n

/-- A result of lanes of width w on q, under the guard, with the events of the active lanes (R264, R143). -/
def State.laneResult (s : State) (sk : Sock) (lat w : Nat) (g : Word) (f : Nat → Res) : State :=
  s.timed sk lat [(.q, wideOfLanes w (fun i => (f i).val), laneMask g (w / 8))]
    (laneEvents (fun i => laneOn g (w / 8) i) f (512 / w))

/-- A lane operation of a valu: f gives lane i from the lanes of a, b and t and the rounding mode (R15, R265). -/
def laneHooks (sk : Sock) (lat w : Nat) (t : Wide) (g : Word) (f : Nat → Nat → Nat → Nat → Res) : Hooks :=
  .plain (fun s => s.laneResult sk lat w g (fun i =>
    f s.tile.core.rm (laneOf w (s.opA sk).toNat i) (laneOf w (s.opB sk).toNat i) (laneOf w t.toNat i)))

/-- Two events in one lane count once each (R143). -/
def Res.mapEv (r : Res) (e : EvCount) : Res := { val := r.val, ev := e }

/-- a + t, a − t or a × t of one lane (R266). `op` is 0, 1 or 2. -/
def laneArith (op : Nat) (ty : ElTy) (mode a t : Nat) : Res :=
  match ty with
  | .int f =>
    let x : Int := match op with
      | 0 => (a : Int) + t
      | 1 => (a : Int) - t
      | _ => (a : Int) * t
    Res.pure (wrapInt f.w x)
  | .flt f =>
    match op with
    | 0 => f.sum mode (f.decode a) (f.decode t)
    | 1 => f.sum mode (f.decode a) (f.decode t).negate
    | _ => f.mul mode (f.decode a) (f.decode t)

/-- The latency of VADD, VSUB and VMUL: 4 for floating lanes, 2 for integer lanes (R213). -/
def arithLat : ElTy → Nat
  | .flt _ => 4
  | .int _ => 2

/-- VFMA, VFMS and VFNMA of one lane (R267). -/
def laneFma (op : Nat) (f : Fmt) (mode a b t : Nat) : Res :=
  let a := f.decode a
  let b := f.decode b
  let t := f.decode t
  match op with
  | 0 => f.fma mode a b t
  | 1 => f.fma mode a b t.negate
  | _ => f.fma mode a.negate b t

/-- The minimum or maximum of one lane (R268). -/
def laneMinmax (wantMax : Bool) (ty : ElTy) (a t : Nat) : Res :=
  match ty with
  | .flt f => f.minmax wantMax a t
  | .int f => if decide (f.decode a ≤ f.decode t) = wantMax then Res.pure t else Res.pure a

/-- min(max(t, a), b) of one lane; a NaN anywhere counts once (R268). -/
def laneClamp (ty : ElTy) (a b t : Nat) : Res :=
  match ty with
  | .int _ => laneMinmax false ty (laneMinmax true ty t a).val b
  | .flt f =>
    let x := f.decode a
    let y := f.decode b
    let z := f.decode t
    if x.isNan || y.isNan || z.isNan then f.ofNan (x.isSnan || y.isSnan || z.isSnan)
    else f.minmax false (f.minmax true t a).val b

/-- The compares (R269). -/
inductive Cmp where
  | eq | ne | lt | le
  deriving DecidableEq, Repr

/-- A compare of one lane, 1 when true, with its events (R269). -/
def laneCmp (op : Cmp) (ty : ElTy) (a t : Nat) : Res :=
  match ty with
  | .int f =>
    let x := f.decode a
    let y := f.decode t
    let r : Bool := match op with
      | .eq => x = y
      | .ne => x ≠ y
      | .lt => x < y
      | .le => x ≤ y
    Res.pure (if r then 1 else 0)
  | .flt f =>
    let x := f.decode a
    let y := f.decode t
    if x.isNan || y.isNan then
      let quiet : Bool := match op with
        | .eq => true
        | .ne => true
        | _ => false
      { val := if op = .ne then 1 else 0, ev := if !quiet || x.isSnan || y.isSnan then evInv else EvCount.zero }
    else
      let o := x.cmp y
      let r : Bool := match op with
        | .eq => o = .eq
        | .ne => o ≠ .eq
        | .lt => o = .lt
        | .le => o ≠ .gt
      Res.pure (if r then 1 else 0)

/-- A compare's result: only qp, all ones or all zeros in the bits of an active lane (R264, R269). -/
def cmpHooks (sk : Sock) (op : Cmp) (ty : ElTy) (t : Wide) (g : Word) : Hooks :=
  .plain (fun s =>
    let w := ty.width
    let f (i : Nat) : Res := laneCmp op ty (laneOf w (s.opA sk).toNat i) (laneOf w t.toNat i)
    s.timed sk 2 [(.qp, BitVec.ofNat 512 (ofLanes (w / 8) (fun i => if (f i).val = 1 then 2 ^ (w / 8) - 1 else 0) (512 / w)),
                   laneMaskQp g (w / 8))]
      (laneEvents (fun i => laneOn g (w / 8) i) f (512 / w)))

/-- A bitwise operation of a and t over all 512 bits, guarded at 32 bits (R270). -/
def bitHooks (sk : Sock) (t : Wide) (g : Word) (f : Wide → Wide → Wide) : Hooks :=
  .plain (fun s => s.timed sk 2 [(.q, f (s.opA sk) t, laneMask g 4)] EvCount.zero)

/-- The lane shifts: 0 left, 1 right, 2 arithmetic right; c is t_i as a natural number (R270). -/
def laneShift (op w a c : Nat) : Res :=
  match op with
  | 0 => Res.pure (if w ≤ c then 0 else a * 2 ^ c % 2 ^ w)
  | 1 => Res.pure (if w ≤ c then 0 else a / 2 ^ c)
  | _ => Res.pure (wrapInt w (sInt w a / 2 ^ min c w))

/-- VADDS and VSUBS of one lane (R271). -/
def laneSat (sub : Bool) (f : IFmt) (a t : Nat) : Res :=
  let x := f.decode a
  let y := f.decode t
  let r := satInt f.lo f.hi (if sub then x - y else x + y)
  { val := wrapInt f.w r.val, ev := r.ev }

/-- VDOT4 of one lane (R272). -/
def laneDot4 (a t : Nat) : Res :=
  Res.pure (wrapInt 32 ((List.range 4).foldl (fun (x : Int) k => x + sInt 8 (laneOf 8 a k) * sInt 8 (laneOf 8 t k)) 0))

/-- VSCALE of one lane: a × 2^n (R273). A scale beyond ±2000 overflows or vanishes as ±2000 does. -/
def laneScale (f : Fmt) (mode a t : Nat) : Res :=
  let n := clampInt (-2000) 2000 (sInt f.width t)
  match f.decode a with
  | .nan sg => f.ofNan sg
  | .inf neg => f.ofInf false neg
  | .fin neg m e => f.round mode false neg { num := m, e := e + n, sticky := false }

/-! ### Type words (R214) -/

/-- TYPE of the type word in port a. -/
def typeOf (a : Wide) : Nat := bitsOf a.toNat 4 4
/-- STYPE of the type word in port a. -/
def stypeOf (a : Wide) : Nat := bitsOf a.toNat 0 4

/-- VABS or VNEG of one lane (R274). -/
def laneAbsNeg (isNeg : Bool) (ty : ElTy) (t : Nat) : Res :=
  match ty with
  | .int f =>
    let x := f.decode t
    Res.pure (wrapInt f.w (if isNeg || x < 0 then -x else x))
  | .flt f =>
    match f.decode t with
    | .nan sg => f.ofNan sg
    | v => Res.pure (t % 2 ^ (f.width - 1) + f.signBit (isNeg && !v.neg))

/-- The types of VABS and VNEG (R214). -/
def absOk (a : Wide) : Bool := stypeOf a = 0 && (typeOf a = 7 || typeOf a = 8 || typeOf a = 9 || typeOf a = 1 || typeOf a = 3 || typeOf a = 5)
/-- The types of the reductions (R214). -/
def reduceOk (a : Wide) : Bool := stypeOf a = 0 && 1 ≤ typeOf a && typeOf a ≤ 9
/-- The types of VCVT (R275). -/
def cvtOk (a : Wide) : Bool := typeOf a ≠ stypeOf a && 1 ≤ typeOf a && typeOf a ≤ 11 && 1 ≤ stypeOf a && stypeOf a ≤ 11

/-- The element type of a code; a code that the check has refused never gets here. -/
def codeTy (n : Nat) : ElTy := (ElTy.ofCode n).getD (.flt .f32)

/-- "illegal operand" unless port a satisfies a condition (R214, R263). -/
def needA (sk : Sock) (t : Wide) (ok : Wide → Bool) (s : State) : Option Cause :=
  if ok (s.opA sk) then none else some (s.illegalOperand sk t)

/-- VABS or VNEG (R274). -/
def absHooks (isNeg : Bool) (sk : Sock) (t : Wide) (g : Word) : Hooks :=
  .checked (needA sk t absOk) (fun s =>
    let ty := codeTy (typeOf (s.opA sk))
    s.laneResult sk 2 ty.width g (fun i => laneAbsNeg isNeg ty (laneOf ty.width t.toNat i)))

/-- VCVT (R275): element i goes from width ws to width wd; the bits above the last element are written as zero. -/
def cvtHooks (sk : Sock) (t : Wide) (g : Word) : Hooks :=
  .checked (needA sk t cvtOk) (fun s =>
    let dst := codeTy (typeOf (s.opA sk))
    let src := codeTy (stypeOf (s.opA sk))
    let n := 512 / max src.width dst.width
    let on (i : Nat) : Bool := laneOn g (src.width / 8) i
    let f (i : Nat) : Res := convert s.tile.core.rm s.tile.core.fsat src dst (laneOf src.width t.toNat i)
    s.timed sk 3 [(.q, BitVec.ofNat 512 (ofLanes dst.width (fun i => (f i).val) n),
                   wideOfLanes dst.width (fun i => if n ≤ i || on i then 2 ^ dst.width - 1 else 0))]
      (laneEvents on f n))

/-! ### Reductions (R139, R276) -/

/-- Neighbours combined two by two; an unpaired last one is carried up (R92). -/
def pairUp {α : Type} (f : α → α → α) : List α → List α
  | x :: y :: r => f x y :: pairUp f r
  | l => l

/-- The canonical tree over a list (R92). -/
def treeFold {α : Type} (f : α → α → α) : Nat → List α → List α
  | 0, l => l
  | n + 1, l => treeFold f n (pairUp f l)

/-- A node whose children may be absent (R92). -/
def absentNode {α : Type} (f : α → α → α) (x y : Option α) : Option α :=
  match x, y with
  | none, y => y
  | x, none => x
  | some x, some y => some (f x y)

/-- The root of the canonical tree of at most 64 leaves; absent when every leaf is (R92). -/
def treeRoot {α : Type} (f : α → α → α) (l : List (Option α)) : Option α :=
  ((treeFold (absentNode f) 6 l).head?).join

/-- One f32_add_rne with the events so far (R137). -/
def addRes (x y : Res) : Res := let r := f32AddRne x.val y.val; { val := r.val, ev := (x.ev.add y.ev).add r.ev }

/-- An exact sum with infinities and NaNs: the dyadic, whether +∞ or −∞ or a NaN took part, and whether only −0 did. -/
structure ExactSum where
  x : Dyadic
  pos : Bool
  neg : Bool
  nan : Bool
  negZero : Bool
  deriving DecidableEq, Repr

/-- A value joins an exact sum (R138, R139). -/
def ExactSum.add (e : ExactSum) (v : FVal) : ExactSum :=
  match v with
  | .nan _ => { e with nan := true, negZero := false }
  | .inf n => { e with pos := e.pos || !n, neg := e.neg || n, negZero := false }
  | .fin n m _ => { e with x := e.x.add v.dyadic, negZero := e.negZero && n && m = 0 }

/-- The events of a reduction: invalid and NaN-produced at most once (R139, R143). -/
def EvCount.once (e : EvCount) (inv nan : Bool) : EvCount :=
  { e with inv := if e.inv ≠ 0 || inv then 1 else 0, nan := if nan then 1 else 0 }

/-- VRSUM of floating lanes under a profile (R137, R139). -/
def sumFloat (f : Fmt) (nprof : Nat) (lanes : List (Option Nat)) : Res :=
  let act := lanes.filterMap id
  let snan := act.any (fun x => (f.decode x).isSnan)
  match act with
  | [] => Res.pure 0
  | x0 :: _ =>
    if nprof = 4 || nprof = 7 then
      let e := act.foldl (fun e x => e.add (f.decode x))
        { x := { m := 0, e := 0 }, pos := false, neg := false, nan := false, negZero := true : ExactSum }
      let r : Res := if e.nan then f.ofNan snan
        else if e.pos && e.neg then { val := f.nan, ev := evInvNan }
        else if e.pos then f.ofInf false false
        else if e.neg then f.ofInf false true
        else f.ofDyadic 0 false e.negZero e.x
      r.mapEv (r.ev.once snan (f.decode r.val).isNan)
    else
      let widen (x : Nat) : Res := Res.pure (Fmt.f32.ofVal 0 false (f.decode x)).val
      let root : Res := if nprof = 6 then (act.drop 1).foldl (fun a x => addRes a (widen x)) (widen x0)
        else (treeRoot addRes (lanes.map (fun o => o.map widen))).getD (Res.pure 0)
      let r : Res := f.ofVal 0 false (Fmt.f32.decode root.val)
      { val := r.val, ev := (root.ev.add r.ev).once snan (f.decode r.val).isNan }

/-- VRSUM, VRMAX or VRMIN of the active lanes: op 0, 1 or 2 (R276). The result and its width. -/
def reduceLanes (op : Nat) (ty : ElTy) (nprof : Nat) (lanes : List (Option Nat)) : Res :=
  let act := lanes.filterMap id
  match op, ty with
  | 0, .flt f => sumFloat f nprof lanes
  | 0, .int f => Res.pure (wrapInt 64 (act.foldl (fun (x : Int) v => x + f.decode v) 0))
  | _, .flt f =>
    let bad := act.any (fun x => (f.decode x).isNan)
    if bad then f.ofNan (act.any (fun x => (f.decode x).isSnan))
    else match act with
      | [] => f.ofInf false (op = 1)
      | x :: r => Res.pure (r.foldl (fun a v => (f.minmax (op = 1) a v).val) x)
  | _, .int f =>
    match act with
    | [] => Res.pure (wrapInt f.w (if op = 1 then f.lo else f.hi))
    | x :: r => Res.pure (wrapInt f.w (r.foldl (fun a v => if op = 1 then max a (f.decode v) else min a (f.decode v)) (f.decode x)))

/-- VRSUM, VRMAX and VRMIN: every other bit of q is zero (R264, R276). -/
def reduceHooks (op lat : Nat) (sk : Sock) (t : Wide) (g : Word) : Hooks :=
  .checked (needA sk t reduceOk) (fun s =>
    let ty := codeTy (typeOf (s.opA sk))
    let lanes := (List.range (512 / ty.width)).map (fun i => if laneOn g (ty.width / 8) i then some (laneOf ty.width t.toNat i) else none)
    let r := reduceLanes op ty (hdrNprof s.tile.core.seq.hdr).toNat lanes
    s.timed sk lat [(.q, BitVec.ofNat 512 r.val, allBits)] r.ev)

/-! ### The operations -/

/-- VADD (R266). -/
def hkVadd (u : Twin) (ty : FI6) (t : Wide) (g : Word) : Hooks :=
  laneHooks (valuOfTwin u) (arithLat (tyFI6 ty)) (tyFI6 ty).width t g (fun mode a _ t => laneArith 0 (tyFI6 ty) mode a t)
/-- VADD (R266). -/
def execVadd (u : Twin) (ty : FI6) (md : SrcMod) (src : Src) (g : Guard) (s : State) : Out :=
  runVector (valuOfTwin u) (hkVadd u ty) md src g s
/-- VSUB (R266). -/
def hkVsub (u : Twin) (ty : FI6) (t : Wide) (g : Word) : Hooks :=
  laneHooks (valuOfTwin u) (arithLat (tyFI6 ty)) (tyFI6 ty).width t g (fun mode a _ t => laneArith 1 (tyFI6 ty) mode a t)
/-- VSUB (R266). -/
def execVsub (u : Twin) (ty : FI6) (md : SrcMod) (src : Src) (g : Guard) (s : State) : Out :=
  runVector (valuOfTwin u) (hkVsub u ty) md src g s
/-- VMUL (R266). -/
def hkVmul (u : Twin) (ty : FI6) (t : Wide) (g : Word) : Hooks :=
  laneHooks (valuOfTwin u) (arithLat (tyFI6 ty)) (tyFI6 ty).width t g (fun mode a _ t => laneArith 2 (tyFI6 ty) mode a t)
/-- VMUL (R266). -/
def execVmul (u : Twin) (ty : FI6) (md : SrcMod) (src : Src) (g : Guard) (s : State) : Out :=
  runVector (valuOfTwin u) (hkVmul u ty) md src g s
/-- VFMA (R267). -/
def hkVfma (u : Twin) (ty : F3) (t : Wide) (g : Word) : Hooks :=
  laneHooks (valuOfTwin u) 4 (fmtF3 ty).width t g (fun mode a b t => laneFma 0 (fmtF3 ty) mode a b t)
/-- VFMA (R267). -/
def execVfma (u : Twin) (ty : F3) (md : SrcMod) (src : Src) (g : Guard) (s : State) : Out :=
  runVector (valuOfTwin u) (hkVfma u ty) md src g s
/-- VFMS (R267). -/
def hkVfms (u : Twin) (ty : F3) (t : Wide) (g : Word) : Hooks :=
  laneHooks (valuOfTwin u) 4 (fmtF3 ty).width t g (fun mode a b t => laneFma 1 (fmtF3 ty) mode a b t)
/-- VFMS (R267). -/
def execVfms (u : Twin) (ty : F3) (md : SrcMod) (src : Src) (g : Guard) (s : State) : Out :=
  runVector (valuOfTwin u) (hkVfms u ty) md src g s
/-- VFNMA (R267). -/
def hkVfnma (u : Twin) (ty : F3) (t : Wide) (g : Word) : Hooks :=
  laneHooks (valuOfTwin u) 4 (fmtF3 ty).width t g (fun mode a b t => laneFma 2 (fmtF3 ty) mode a b t)
/-- VFNMA (R267). -/
def execVfnma (u : Twin) (ty : F3) (md : SrcMod) (src : Src) (g : Guard) (s : State) : Out :=
  runVector (valuOfTwin u) (hkVfnma u ty) md src g s
/-- VMIN (R268). -/
def hkVmin (u : Twin) (ty : FSN9) (t : Wide) (g : Word) : Hooks :=
  laneHooks (valuOfTwin u) 2 (tyFSN9 ty).width t g (fun _ a _ t => laneMinmax false (tyFSN9 ty) a t)
/-- VMIN (R268). -/
def execVmin (u : Twin) (ty : FSN9) (md : SrcMod) (src : Src) (g : Guard) (s : State) : Out :=
  runVector (valuOfTwin u) (hkVmin u ty) md src g s
/-- VMAX (R268). -/
def hkVmax (u : Twin) (ty : FSN9) (t : Wide) (g : Word) : Hooks :=
  laneHooks (valuOfTwin u) 2 (tyFSN9 ty).width t g (fun _ a _ t => laneMinmax true (tyFSN9 ty) a t)
/-- VMAX (R268). -/
def execVmax (u : Twin) (ty : FSN9) (md : SrcMod) (src : Src) (g : Guard) (s : State) : Out :=
  runVector (valuOfTwin u) (hkVmax u ty) md src g s
/-- VCLAMP (R268). -/
def hkVclamp (u : Twin) (ty : FSN9) (t : Wide) (g : Word) : Hooks :=
  laneHooks (valuOfTwin u) 2 (tyFSN9 ty).width t g (fun _ a b t => laneClamp (tyFSN9 ty) a b t)
/-- VCLAMP (R268). -/
def execVclamp (u : Twin) (ty : FSN9) (md : SrcMod) (src : Src) (g : Guard) (s : State) : Out :=
  runVector (valuOfTwin u) (hkVclamp u ty) md src g s
/-- VEQ (R269). -/
def hkVeq (u : Twin) (ty : FI6) (t : Wide) (g : Word) : Hooks :=
  cmpHooks (valuOfTwin u) .eq (tyFI6 ty) t g
/-- VEQ (R269). -/
def execVeq (u : Twin) (ty : FI6) (md : SrcMod) (src : Src) (g : Guard) (s : State) : Out :=
  runVector (valuOfTwin u) (hkVeq u ty) md src g s
/-- VNE (R269). -/
def hkVne (u : Twin) (ty : FI6) (t : Wide) (g : Word) : Hooks :=
  cmpHooks (valuOfTwin u) .ne (tyFI6 ty) t g
/-- VNE (R269). -/
def execVne (u : Twin) (ty : FI6) (md : SrcMod) (src : Src) (g : Guard) (s : State) : Out :=
  runVector (valuOfTwin u) (hkVne u ty) md src g s
/-- VLT (R269). -/
def hkVlt (u : Twin) (ty : FSN9) (t : Wide) (g : Word) : Hooks :=
  cmpHooks (valuOfTwin u) .lt (tyFSN9 ty) t g
/-- VLT (R269). -/
def execVlt (u : Twin) (ty : FSN9) (md : SrcMod) (src : Src) (g : Guard) (s : State) : Out :=
  runVector (valuOfTwin u) (hkVlt u ty) md src g s
/-- VLE (R269). -/
def hkVle (u : Twin) (ty : FSN9) (t : Wide) (g : Word) : Hooks :=
  cmpHooks (valuOfTwin u) .le (tyFSN9 ty) t g
/-- VLE (R269). -/
def execVle (u : Twin) (ty : FSN9) (md : SrcMod) (src : Src) (g : Guard) (s : State) : Out :=
  runVector (valuOfTwin u) (hkVle u ty) md src g s
/-- VSEL (R270). -/
def hkVsel (u : Twin) (ty : W3) (t : Wide) (g : Word) : Hooks :=
  laneHooks (valuOfTwin u) 2 (widthW3 ty) t g (fun _ a b t => Res.pure (if t % 2 = 1 then a else b))
/-- VSEL (R270). -/
def execVsel (u : Twin) (ty : W3) (md : SrcMod) (src : Src) (g : Guard) (s : State) : Out :=
  runVector (valuOfTwin u) (hkVsel u ty) md src g s
/-- VAND (R270). -/
def hkVand (u : Twin) (t : Wide) (g : Word) : Hooks :=
  bitHooks (valuOfTwin u) t g (fun a t => a &&& t)
/-- VAND (R270). -/
def execVand (u : Twin) (md : SrcMod) (src : Src) (g : Guard) (s : State) : Out :=
  runVector (valuOfTwin u) (hkVand u) md src g s
/-- VOR (R270). -/
def hkVor (u : Twin) (t : Wide) (g : Word) : Hooks :=
  bitHooks (valuOfTwin u) t g (fun a t => a ||| t)
/-- VOR (R270). -/
def execVor (u : Twin) (md : SrcMod) (src : Src) (g : Guard) (s : State) : Out :=
  runVector (valuOfTwin u) (hkVor u) md src g s
/-- VXOR (R270). -/
def hkVxor (u : Twin) (t : Wide) (g : Word) : Hooks :=
  bitHooks (valuOfTwin u) t g (fun a t => a ^^^ t)
/-- VXOR (R270). -/
def execVxor (u : Twin) (md : SrcMod) (src : Src) (g : Guard) (s : State) : Out :=
  runVector (valuOfTwin u) (hkVxor u) md src g s
/-- VSHL (R270). -/
def hkVshl (u : Twin) (ty : W3) (t : Wide) (g : Word) : Hooks :=
  laneHooks (valuOfTwin u) 2 (widthW3 ty) t g (fun _ a _ t => laneShift 0 (widthW3 ty) a t)
/-- VSHL (R270). -/
def execVshl (u : Twin) (ty : W3) (md : SrcMod) (src : Src) (g : Guard) (s : State) : Out :=
  runVector (valuOfTwin u) (hkVshl u ty) md src g s
/-- VSHR (R270). -/
def hkVshr (u : Twin) (ty : W3) (t : Wide) (g : Word) : Hooks :=
  laneHooks (valuOfTwin u) 2 (widthW3 ty) t g (fun _ a _ t => laneShift 1 (widthW3 ty) a t)
/-- VSHR (R270). -/
def execVshr (u : Twin) (ty : W3) (md : SrcMod) (src : Src) (g : Guard) (s : State) : Out :=
  runVector (valuOfTwin u) (hkVshr u ty) md src g s
/-- VSAR (R270). -/
def hkVsar (u : Twin) (ty : W3) (t : Wide) (g : Word) : Hooks :=
  laneHooks (valuOfTwin u) 2 (widthW3 ty) t g (fun _ a _ t => laneShift 2 (widthW3 ty) a t)
/-- VSAR (R270). -/
def execVsar (u : Twin) (ty : W3) (md : SrcMod) (src : Src) (g : Guard) (s : State) : Out :=
  runVector (valuOfTwin u) (hkVsar u ty) md src g s
/-- VADDS (R271). -/
def hkVadds (u : Twin) (ty : SN6) (t : Wide) (g : Word) : Hooks :=
  laneHooks (valuOfTwin u) 2 (tySN6 ty).w t g (fun _ a _ t => laneSat false (tySN6 ty) a t)
/-- VADDS (R271). -/
def execVadds (u : Twin) (ty : SN6) (md : SrcMod) (src : Src) (g : Guard) (s : State) : Out :=
  runVector (valuOfTwin u) (hkVadds u ty) md src g s
/-- VSUBS (R271). -/
def hkVsubs (u : Twin) (ty : SN6) (t : Wide) (g : Word) : Hooks :=
  laneHooks (valuOfTwin u) 2 (tySN6 ty).w t g (fun _ a _ t => laneSat true (tySN6 ty) a t)
/-- VSUBS (R271). -/
def execVsubs (u : Twin) (ty : SN6) (md : SrcMod) (src : Src) (g : Guard) (s : State) : Out :=
  runVector (valuOfTwin u) (hkVsubs u ty) md src g s
/-- VDOT4 (R272). -/
def hkVdot4 (u : Twin) (t : Wide) (g : Word) : Hooks :=
  laneHooks (valuOfTwin u) 4 32 t g (fun _ a _ t => laneDot4 a t)
/-- VDOT4 (R272). -/
def execVdot4 (u : Twin) (md : SrcMod) (src : Src) (g : Guard) (s : State) : Out :=
  runVector (valuOfTwin u) (hkVdot4 u) md src g s
/-- VSCALE (R273). -/
def hkVscale (u : Twin) (ty : F3) (t : Wide) (g : Word) : Hooks :=
  laneHooks (valuOfTwin u) 3 (fmtF3 ty).width t g (fun mode a _ t => laneScale (fmtF3 ty) mode a t)
/-- VSCALE (R273). -/
def execVscale (u : Twin) (ty : F3) (md : SrcMod) (src : Src) (g : Guard) (s : State) : Out :=
  runVector (valuOfTwin u) (hkVscale u ty) md src g s
/-- VABS (R274). -/
def hkVabs (u : Twin) (t : Wide) (g : Word) : Hooks :=
  absHooks false (valuOfTwin u) t g
/-- VABS (R274). -/
def execVabs (u : Twin) (md : SrcMod) (src : Src) (g : Guard) (s : State) : Out :=
  runVector (valuOfTwin u) (hkVabs u) md src g s
/-- VNEG (R274). -/
def hkVneg (u : Twin) (t : Wide) (g : Word) : Hooks :=
  absHooks true (valuOfTwin u) t g
/-- VNEG (R274). -/
def execVneg (u : Twin) (md : SrcMod) (src : Src) (g : Guard) (s : State) : Out :=
  runVector (valuOfTwin u) (hkVneg u) md src g s
/-- VCVT (R275). -/
def hkVcvt (u : Twin) (t : Wide) (g : Word) : Hooks :=
  cvtHooks (valuOfTwin u) t g
/-- VCVT (R275). -/
def execVcvt (u : Twin) (md : SrcMod) (src : Src) (g : Guard) (s : State) : Out :=
  runVector (valuOfTwin u) (hkVcvt u) md src g s
/-- VRSUM (R276). -/
def hkVrsum (u : Twin) (t : Wide) (g : Word) : Hooks :=
  reduceHooks 0 6 (valuOfTwin u) t g
/-- VRSUM (R276). -/
def execVrsum (u : Twin) (md : SrcMod) (src : Src) (g : Guard) (s : State) : Out :=
  runVector (valuOfTwin u) (hkVrsum u) md src g s
/-- VRMAX (R276). -/
def hkVrmax (u : Twin) (t : Wide) (g : Word) : Hooks :=
  reduceHooks 1 4 (valuOfTwin u) t g
/-- VRMAX (R276). -/
def execVrmax (u : Twin) (md : SrcMod) (src : Src) (g : Guard) (s : State) : Out :=
  runVector (valuOfTwin u) (hkVrmax u) md src g s
/-- VRMIN (R276). -/
def hkVrmin (u : Twin) (t : Wide) (g : Word) : Hooks :=
  reduceHooks 2 4 (valuOfTwin u) t g
/-- VRMIN (R276). -/
def execVrmin (u : Twin) (md : SrcMod) (src : Src) (g : Guard) (s : State) : Out :=
  runVector (valuOfTwin u) (hkVrmin u) md src g s
/-- A special function of t, lane by lane (R277). -/
def sfuHooks (fn : Sfu) (f : Fmt) (t : Wide) (g : Word) : Hooks :=
  laneHooks .vsfu 10 f.width t g (fun mode _ _ t => f.special mode fn (f.decode t))
/-- VEXP2 (R277, R278). -/
def hkVexp2 (ty : F3) (t : Wide) (g : Word) : Hooks :=
  sfuHooks .exp2 (fmtF3 ty) t g
/-- VEXP2 (R277, R278). -/
def execVexp2 (ty : F3) (md : SrcMod) (src : Src) (g : Guard) (s : State) : Out :=
  runVector .vsfu (hkVexp2 ty) md src g s
/-- VLOG2 (R277, R278). -/
def hkVlog2 (ty : F3) (t : Wide) (g : Word) : Hooks :=
  sfuHooks .log2 (fmtF3 ty) t g
/-- VLOG2 (R277, R278). -/
def execVlog2 (ty : F3) (md : SrcMod) (src : Src) (g : Guard) (s : State) : Out :=
  runVector .vsfu (hkVlog2 ty) md src g s
/-- VRCP (R277, R278). -/
def hkVrcp (ty : F3) (t : Wide) (g : Word) : Hooks :=
  sfuHooks .rcp (fmtF3 ty) t g
/-- VRCP (R277, R278). -/
def execVrcp (ty : F3) (md : SrcMod) (src : Src) (g : Guard) (s : State) : Out :=
  runVector .vsfu (hkVrcp ty) md src g s
/-- VRSQRT (R277, R278). -/
def hkVrsqrt (ty : F3) (t : Wide) (g : Word) : Hooks :=
  sfuHooks .rsqrt (fmtF3 ty) t g
/-- VRSQRT (R277, R278). -/
def execVrsqrt (ty : F3) (md : SrcMod) (src : Src) (g : Guard) (s : State) : Out :=
  runVector .vsfu (hkVrsqrt ty) md src g s
/-- VSQRT (R277, R278). -/
def hkVsqrt (ty : F3) (t : Wide) (g : Word) : Hooks :=
  sfuHooks .sqrt (fmtF3 ty) t g
/-- VSQRT (R277, R278). -/
def execVsqrt (ty : F3) (md : SrcMod) (src : Src) (g : Guard) (s : State) : Out :=
  runVector .vsfu (hkVsqrt ty) md src g s
/-- VTANH (R277, R278). -/
def hkVtanh (ty : F3) (t : Wide) (g : Word) : Hooks :=
  sfuHooks .tanh (fmtF3 ty) t g
/-- VTANH (R277, R278). -/
def execVtanh (ty : F3) (md : SrcMod) (src : Src) (g : Guard) (s : State) : Out :=
  runVector .vsfu (hkVtanh ty) md src g s
/-- VSIGM (R277, R278). -/
def hkVsigm (ty : F3) (t : Wide) (g : Word) : Hooks :=
  sfuHooks .sigm (fmtF3 ty) t g
/-- VSIGM (R277, R278). -/
def execVsigm (ty : F3) (md : SrcMod) (src : Src) (g : Guard) (s : State) : Out :=
  runVector .vsfu (hkVsigm ty) md src g s

end Sys2Proof.Machine
end

