-- ==== Sys2Proof/Machine/Permute.lean ====
section
/-! DEFINITION. The operations of perm: permutation, packing, compress, top-k and sort (R279-R287). -/

namespace Sys2Proof.Machine

/-- The control word of port a: bits [31:0] (R263). -/
def ctlWord (a : Wide) : Nat := a.toNat % 2 ^ 32

/-- An element permute: f gives lane i of q from the lanes of a, b and t (R279). -/
def permHooks (w : Nat) (t : Wide) (g : Word) (f : (Nat → Nat) → (Nat → Nat) → (Nat → Nat) → Nat → Nat) : Hooks :=
  .plain (fun s => s.laneResult .perm 2 w g (fun i =>
    Res.pure (f (laneOf w (s.opA .perm).toNat) (laneOf w (s.opB .perm).toNat) (laneOf w t.toNat) i)))

/-- VSHUF (R279). -/
def shufLane (n : Nat) (a b t : Nat → Nat) (i : Nat) : Nat :=
  let j := t i % (2 * n)
  if j < n then a j else b (j - n)

/-- VZIP (R279). -/
def zipLane (a _b t : Nat → Nat) (i : Nat) : Nat := if i % 2 = 0 then a (i / 2) else t (i / 2)

/-- VUNZIP (R279). -/
def unzipLane (n : Nat) (a _b t : Nat → Nat) (i : Nat) : Nat := if i < n / 2 then a (2 * i) else t (2 * (i - n / 2))

/-- VSLIDE by s lanes (R279). -/
def slideLane (n s : Nat) (a t : Nat → Nat) (i : Nat) : Nat := if i + s < n then a (i + s) else t (i + s - n)

/-- The source width and the signedness of VPACK and VWIDEN's pair of widths (R208). -/
def tySN4 : SN4 → IFmt
  | .s32 => { w := 32, signed := true }
  | .s16 => { w := 16, signed := true }
  | .n32 => { w := 32, signed := false }
  | .n16 => { w := 16, signed := false }

/-- Half a format's width. -/
def halfFmt (f : IFmt) : IFmt := { f with w := f.w / 2 }

/-- VPACK: a's lanes, then t's, clamped to half their width (R280). -/
def packHooks (f : IFmt) (t : Wide) (g : Word) : Hooks :=
  .plain (fun s =>
    let n := 512 / f.w
    s.laneResult .perm 2 (f.w / 2) g (fun i =>
      let x := f.decode (if i < n then laneOf f.w (s.opA .perm).toNat i else laneOf f.w t.toNat (i - n))
      let r := satInt (halfFmt f).lo (halfFmt f).hi x
      { val := wrapInt (f.w / 2) r.val, ev := r.ev }))

/-- VWIDEN: lane i of t, extended to twice its width; `f` is the wide format (R280). -/
def widenHooks (f : IFmt) (t : Wide) (g : Word) : Hooks :=
  .plain (fun s => s.laneResult .perm 2 f.w g (fun i => Res.pure (wrapInt f.w ((halfFmt f).decode (laneOf (f.w / 2) t.toNat i)))))

/-! ### Ternary packing (R281, R282) -/

/-- The lane width of WD (R281). -/
def wdWidth (c : Nat) : Nat :=
  match bitsOf c 9 2 with
  | 0 => 32
  | 1 => 16
  | _ => 8

/-- The control word of UNPK5 (R281). -/
def unpkOk (a : Wide) : Bool :=
  let c := ctlWord a
  bitsOf c 12 20 = 0 && bitsOf c 9 2 ≠ 3 && bitsOf c 0 9 ≤ 319

/-- The control word of PACK5: E and RAW zero (R282). -/
def packOk (a : Wide) : Bool := unpkOk a && bitsOf (ctlWord a) 0 9 = 0 && bitsOf (ctlWord a) 11 1 = 0

/-- Digit i of a TRN5 byte (R125, R281). -/
def trnDigit (b i : Nat) : Nat := b / 3 ^ i % 3

/-- The value of a digit: 0, +1 or −1 (R125). -/
def trnValue (d : Nat) : Int := match d with
  | 0 => 0
  | 1 => 1
  | _ => -1

/-- UNPK5 (R281). -/
def unpk5Hooks (t : Wide) (g : Word) : Hooks :=
  .checked (needA .perm t unpkOk) (fun s =>
    let c := ctlWord (s.opA .perm)
    let w := wdWidth c
    let e := bitsOf c 0 9
    let byteAt (j : Nat) : Nat := laneOf 8 t.toNat (j / 5)
    let illegal (i : Nat) : Bool := e + i ≤ 319 && 243 ≤ byteAt (e + i)
    let lane (i : Nat) : Nat :=
      if 319 < e + i || illegal i then 0
      else
        let d := trnDigit (byteAt (e + i)) ((e + i) % 5)
        if bitsOf c 11 1 = 1 then d else wrapInt w (trnValue d)
    let on (i : Nat) : Bool := laneOn g (w / 8) i
    let bad := countBelow (fun k => decide (243 ≤ laneOf 8 t.toNat k) &&
      (List.range (512 / w)).any (fun i => on i && e + i ≤ 319 && (e + i) / 5 = k)) 64
    s.timed .perm 3 [(.q, wideOfLanes w lane, laneMask g (w / 8)),
        (.qp, BitVec.ofNat 512 (ofLanes (w / 8) (fun i => if illegal i then 2 ^ (w / 8) - 1 else 0) (512 / w)), laneMaskQp g (w / 8))]
      { EvCount.zero with trn := bad })

/-- PACK5 (R282). -/
def pack5Hooks (t : Wide) (g : Word) : Hooks :=
  .checked (needA .perm t packOk) (fun s =>
    let w := wdWidth (ctlWord (s.opA .perm))
    let n := 512 / w
    let on (i : Nat) : Bool := i < n && laneOn g (w / 8) i
    let v (i : Nat) : Int := if on i then sInt w (laneOf w t.toNat i) else 0
    let d (i : Nat) : Nat := if v i = 0 then 0 else if 0 < v i then 1 else 2
    let byte (k : Nat) : Nat := d (5 * k) + 3 * d (5 * k + 1) + 9 * d (5 * k + 2) + 27 * d (5 * k + 3) + 81 * d (5 * k + 4)
    s.timed .perm 3 [(.q, BitVec.ofNat 512 (ofLanes 8 byte ((n + 4) / 5)), allBits)]
      { EvCount.zero with sat := countBelow (fun i => decide (v i < -1) || decide (1 < v i)) n })

/-! ### Group-scaled packing (R283, R284) -/

/-- Element j of a raw stream of S4G (`four`) or S3G elements (R126). -/
def groupElem (four : Bool) (x : Nat) (j : Nat) : Int :=
  if four then sInt 4 (bitsOf x (4 * j) 4) else sInt 3 (bitsOf x (3 * j) 3)

/-- The value of an integer. -/
def FVal.ofInt (i : Int) : FVal := .fin (i < 0) i.natAbs 0

/-- A 16-bit scale as SFMT gives: FP16 or BF16 (R68, R283). -/
def scaleVal (bf : Bool) (x : Nat) : FVal := if bf then Fmt.bf16.decode x else Fmt.f16.decode x

/-- The control word of UNPKG (R283). -/
def unpkgOk (four : Bool) (a : Wide) : Bool :=
  let c := ctlWord a
  bitsOf c 9 7 = 0 && bitsOf c 0 8 ≤ (if four then 112 else 154)

/-- UNPKG (R283). -/
def unpkgHooks (four : Bool) (t : Wide) (g : Word) : Hooks :=
  .checked (needA .perm t (unpkgOk four)) (fun s =>
    let c := ctlWord (s.opA .perm)
    let scale := scaleVal (bitsOf c 8 1 = 1) (bitsOf c 16 16)
    s.laneResult .perm 3 32 g (fun i => groupDecode (FVal.ofInt (groupElem four t.toNat (bitsOf c 0 8 + i))) scale))

/-- The packed widths and limits of QNTG (R284). -/
def qntgBits : GT3 → Nat
  | .s4g => 4
  | .s3g => 3
  | .s8 => 8

/-- Bits [31:1] of b must be zero (R284). -/
def qntgOk (b : Wide) : Bool := ctlWord b ≤ 1

/-- QNTG: one group of 64 elements and its scale (R284). -/
def qntgHooks (ty : GT3) (t : Wide) (g : Word) : Hooks :=
  .checked (fun s => if qntgOk (s.opB .perm) then none else some (s.illegalOperand .perm t)) (fun s =>
    let bf : Bool := (s.opB .perm).getLsbD 0
    let f : Fmt := if bf then .bf16 else .f16
    let k := qntgBits ty
    let hi : Int := (2 ^ (k - 1) : Nat) - 1
    let lo : Int := -(2 ^ (k - 1) : Nat)
    let x (j : Nat) : Nat := if j < 32 then laneOf 16 (s.opA .perm).toNat j else laneOf 16 t.toNat (j - 32)
    let on (j : Nat) : Bool := laneOn g 2 (j % 32)
    let mag (j : Nat) : Nat := x j % 2 ^ 15
    let amax := (List.range 64).foldl (fun m j => if on j && mag j < f.infBits then max m (mag j) else m) 0
    let s0 : Res := match f.decode amax with
      | .fin _ m e => f.round s.tile.core.rm false false (Mag.ofRat m hi.natAbs e)
      | _ => Res.pure 0
    let q (j : Nat) : IRes := if !on j || amax = 0 then { val := 0, ev := EvCount.zero }
      else quantInt s.tile.core.rm lo hi (f.decode (x j)) (f.decode s0.val)
    let ev := laneEvents (fun _ => true) (fun j => { val := 0, ev := (q j).ev }) 64
    s.timed .perm 4 [(.q, BitVec.ofNat 512 (ofLanes k (fun j => wrapInt k (q j).val) 64), allBits),
        (.q1, BitVec.ofNat 512 s0.val, allBits)] (s0.ev.add ev))

/-! ### Compress, top-k and sort (R140, R141, R285-R287) -/

/-- The rank of a lane by magnitude: every NaN above infinity, the zeros equal (R140). -/
def magKey (ty : ElTy) (x : Nat) : Nat :=
  match ty with
  | .int f => (f.decode x).natAbs
  | .flt f => if (f.decode x).isNan then 2 ^ f.width else x % 2 ^ (f.width - 1)

/-- The rank of a lane by value: every NaN above +∞, the zeros equal (R141). -/
def valKey (ty : ElTy) (x : Nat) : Int :=
  match ty with
  | .int f => f.decode x
  | .flt f =>
    if (f.decode x).isNan then 2 ^ f.width
    else if x.testBit (f.width - 1) then -((x % 2 ^ (f.width - 1) : Nat) : Int) else (x % 2 ^ (f.width - 1) : Nat)

/-- The control word of VCMPR (R285). -/
def vcmprOk (n : Nat) (a : Wide) : Bool :=
  let c := ctlWord a
  let lm := bitsOf c 8 3
  let k := bitsOf c 0 7
  bitsOf c 11 21 = 0 && bitsOf c 7 1 = 0 && 1 ≤ lm && 2 ^ lm ≤ n && 1 ≤ k && k ≤ 2 ^ lm

/-- VCMPR (R285): the n lanes of each block that rank highest, in lane order. -/
def vcmprHooks (ty : ElTy) (t : Wide) (g : Word) : Hooks :=
  .checked (needA .perm t (vcmprOk (512 / ty.width))) (fun s =>
    let w := ty.width
    let c := ctlWord (s.opA .perm)
    let m := 2 ^ bitsOf c 8 3
    let k := bitsOf c 0 7
    let on (i : Nat) : Bool := laneOn g (w / 8) i
    let v (i : Nat) : Nat := if on i then laneOf w t.toNat i else 0
    let key (i : Nat) : Nat := if on i then magKey ty (v i) + 1 else 0
    let above (j i : Nat) : Bool := key i < key j || (key i = key j && j < i)
    let kept := (List.range (512 / w)).filter (fun i =>
      countBelow (fun d => above (i - i % m + d) i) m < k)
    s.timed .perm 4 [(.q, wideOfLanes w (fun i => match kept[i]? with | some j => v j | none => 0), allBits),
        (.q1, wideOfLanes 8 (fun i => match kept[i]? with | some j => j % m | none => 0), allBits)] EvCount.zero)

/-- A sorted list with an element put in; `before x y` when x stands before y. -/
def insertBy {α : Type} (before : α → α → Bool) (x : α) : List α → List α
  | [] => [x]
  | y :: r => if before y x then y :: insertBy before x r else x :: y :: r

/-- A list sorted. -/
def sortBy {α : Type} (before : α → α → Bool) : List α → List α
  | [] => []
  | x :: r => insertBy before x (sortBy before r)

/-- An active lane of a sort: its key, its index, its lane and its bits. -/
structure SortEl where
  key  : Int
  g    : Nat
  lane : Nat
  bits : Nat
  deriving DecidableEq, Repr

/-- The order of R141: higher keys first, equal keys by index, then by lane. -/
def sortBefore (x y : SortEl) : Bool :=
  y.key < x.key || (x.key = y.key && (x.g < y.g || (x.g = y.g && x.lane < y.lane)))

/-- The exact reverse of the order of the keys; ties still by index (R287). -/
def sortBeforeUp (x y : SortEl) : Bool :=
  x.key < y.key || (x.key = y.key && (x.g < y.g || (x.g = y.g && x.lane < y.lane)))

/-- The active lanes with their keys; `gi` gives each lane's index. -/
def sortLanes (ty : ElTy) (t : Wide) (g : Word) (gi : Nat → Nat) : List SortEl :=
  (List.range (512 / ty.width)).filterMap (fun i =>
    if laneOn g (ty.width / 8) i then
      some { key := valKey ty (laneOf ty.width t.toNat i), g := gi i, lane := i, bits := laneOf ty.width t.toNat i }
    else none)

/-- The control word of VTOPK (R286). -/
def vtopkOk (ty : ElTy) (a : Wide) : Bool := ctlWord a < 32 && (ctlWord a < 16 || ty.width = 32)

/-- VTOPK (R286). -/
def vtopkHooks (ty : ElTy) (t : Wide) (g : Word) : Hooks :=
  .checked (needA .perm t (vtopkOk ty)) (fun s =>
    let c := ctlWord (s.opA .perm)
    let b := (s.opB .perm).toNat
    let gi (i : Nat) : Nat := if 16 ≤ c then laneOf 32 b i else (b % 2 ^ 32 + i) % 2 ^ 32
    let l := (sortBy sortBefore (sortLanes ty t g gi)).take (c % 16 + 1)
    s.timed .perm 8 [(.q, wideOfLanes ty.width (fun i => match l[i]? with | some e => e.bits | none => 0), allBits),
        (.q1, wideOfLanes 32 (fun i => match l[i]? with | some e => e.g | none => 0xFFFFFFFF), allBits)] EvCount.zero)

/-- VSORT (R287). -/
def vsortHooks (ty : ElTy) (t : Wide) (g : Word) : Hooks :=
  .checked (needA .perm t (fun a => decide (ctlWord a ≤ 1))) (fun s =>
    let up : Bool := ctlWord (s.opA .perm) = 1
    let l := sortBy (if up then sortBeforeUp else sortBefore) (sortLanes ty t g (fun i => i))
    s.timed .perm 6 [(.q, wideOfLanes ty.width (fun i => match l[i]? with | some e => e.bits | none => 0), allBits),
        (.q1, wideOfLanes ty.width (fun i => match l[i]? with | some e => e.lane | none => 2 ^ ty.width - 1), allBits)]
      EvCount.zero)

/-! ### The operations -/

/-- VSHUF (R279). -/
def hkVshuf (ty : W3) (t : Wide) (g : Word) : Hooks :=
  permHooks (widthW3 ty) t g (shufLane (512 / widthW3 ty))
/-- VSHUF (R279). -/
def execVshuf (ty : W3) (md : SrcMod) (src : Src) (g : Guard) (s : State) : Out :=
  runVector .perm (hkVshuf ty) md src g s
/-- VZIP (R279). -/
def hkVzip (ty : W3) (t : Wide) (g : Word) : Hooks :=
  permHooks (widthW3 ty) t g zipLane
/-- VZIP (R279). -/
def execVzip (ty : W3) (md : SrcMod) (src : Src) (g : Guard) (s : State) : Out :=
  runVector .perm (hkVzip ty) md src g s
/-- VUNZIP (R279). -/
def hkVunzip (ty : W3) (t : Wide) (g : Word) : Hooks :=
  permHooks (widthW3 ty) t g (unzipLane (512 / widthW3 ty))
/-- VUNZIP (R279). -/
def execVunzip (ty : W3) (md : SrcMod) (src : Src) (g : Guard) (s : State) : Out :=
  runVector .perm (hkVunzip ty) md src g s
/-- VPACK (R280). -/
def hkVpack (ty : SN4) (t : Wide) (g : Word) : Hooks :=
  packHooks (tySN4 ty) t g
/-- VPACK (R280). -/
def execVpack (ty : SN4) (md : SrcMod) (src : Src) (g : Guard) (s : State) : Out :=
  runVector .perm (hkVpack ty) md src g s
/-- VWIDEN (R280). -/
def hkVwiden (ty : SN4) (t : Wide) (g : Word) : Hooks :=
  widenHooks (tySN4 ty) t g
/-- VWIDEN (R280). -/
def execVwiden (ty : SN4) (md : SrcMod) (src : Src) (g : Guard) (s : State) : Out :=
  runVector .perm (hkVwiden ty) md src g s
/-- UNPK5 (R281). -/
def hkUnpk5 (t : Wide) (g : Word) : Hooks :=
  unpk5Hooks t g
/-- UNPK5 (R281). -/
def execUnpk5 (md : SrcMod) (src : Src) (g : Guard) (s : State) : Out :=
  runVector .perm hkUnpk5 md src g s
/-- PACK5 (R282). -/
def hkPack5 (t : Wide) (g : Word) : Hooks :=
  pack5Hooks t g
/-- PACK5 (R282). -/
def execPack5 (md : SrcMod) (src : Src) (g : Guard) (s : State) : Out :=
  runVector .perm hkPack5 md src g s
/-- UNPKG (R283). -/
def hkUnpkg (ty : GT2) (t : Wide) (g : Word) : Hooks :=
  unpkgHooks (ty == .s4g) t g
/-- UNPKG (R283). -/
def execUnpkg (ty : GT2) (md : SrcMod) (src : Src) (g : Guard) (s : State) : Out :=
  runVector .perm (hkUnpkg ty) md src g s
/-- QNTG (R284). -/
def hkQntg (ty : GT3) (t : Wide) (g : Word) : Hooks :=
  qntgHooks ty t g
/-- QNTG (R284). -/
def execQntg (ty : GT3) (md : SrcMod) (src : Src) (g : Guard) (s : State) : Out :=
  runVector .perm (hkQntg ty) md src g s
/-- VCMPR (R285). -/
def hkVcmpr (ty : FSN9) (t : Wide) (g : Word) : Hooks :=
  vcmprHooks (tyFSN9 ty) t g
/-- VCMPR (R285). -/
def execVcmpr (ty : FSN9) (md : SrcMod) (src : Src) (g : Guard) (s : State) : Out :=
  runVector .perm (hkVcmpr ty) md src g s
/-- VTOPK (R286). -/
def hkVtopk (ty : FSN9) (t : Wide) (g : Word) : Hooks :=
  vtopkHooks (tyFSN9 ty) t g
/-- VTOPK (R286). -/
def execVtopk (ty : FSN9) (md : SrcMod) (src : Src) (g : Guard) (s : State) : Out :=
  runVector .perm (hkVtopk ty) md src g s
/-- VSORT (R287). -/
def hkVsort (ty : FSN9) (t : Wide) (g : Word) : Hooks :=
  vsortHooks (tyFSN9 ty) t g
/-- VSORT (R287). -/
def execVsort (ty : FSN9) (md : SrcMod) (src : Src) (g : Guard) (s : State) : Out :=
  runVector .perm (hkVsort ty) md src g s
/-- VBCAST (R279). -/
def hkVbcast (ty : W3) (t : Wide) (g : Word) : Hooks :=
  permHooks (widthW3 ty) t g (fun a _ t _ => a (t 0 % (512 / widthW3 ty)))
/-- VBCAST (R279). -/
def execVbcast (ty : W3) (md : SrcMod) (src : Src) (g : Guard) (s : State) : Out :=
  runVector .perm (hkVbcast ty) md src g s
/-- VEXTR (R279). -/
def hkVextr (ty : W3) (t : Wide) (g : Word) : Hooks :=
  permHooks (widthW3 ty) t g (fun a _ t i => if i = 0 then a (t 0 % (512 / widthW3 ty)) else 0)
/-- VEXTR (R279). -/
def execVextr (ty : W3) (md : SrcMod) (src : Src) (g : Guard) (s : State) : Out :=
  runVector .perm (hkVextr ty) md src g s
/-- VINS (R279). -/
def hkVins (ty : W3) (t : Wide) (g : Word) : Hooks :=
  permHooks (widthW3 ty) t g (fun a b t i => if i = t 0 % (512 / widthW3 ty) then b 0 else a i)
/-- VINS (R279). -/
def execVins (ty : W3) (md : SrcMod) (src : Src) (g : Guard) (s : State) : Out :=
  runVector .perm (hkVins ty) md src g s
/-- VIOTA (R279). -/
def hkViota (ty : W3) (t : Wide) (g : Word) : Hooks :=
  permHooks (widthW3 ty) t g (fun _ _ t i => t 0 + i)
/-- VIOTA (R279). -/
def execViota (ty : W3) (md : SrcMod) (src : Src) (g : Guard) (s : State) : Out :=
  runVector .perm (hkViota ty) md src g s
/-- VSLIDE (R279). -/
def hkVslide (ty : W3) (t : Wide) (g : Word) : Hooks :=
  .plain (fun s => s.laneResult .perm 2 (widthW3 ty) g (fun i =>
    Res.pure (slideLane (512 / widthW3 ty) (min (bitsOf (s.opB .perm).toNat 0 8) (512 / widthW3 ty)) (laneOf (widthW3 ty) (s.opA .perm).toNat) (laneOf (widthW3 ty) t.toNat) i)))
/-- VSLIDE (R279). -/
def execVslide (ty : W3) (md : SrcMod) (src : Src) (g : Guard) (s : State) : Out :=
  runVector .perm (hkVslide ty) md src g s

end Sys2Proof.Machine
end

