-- ==== Sys2Proof/Machine/Lsu.lean ====
section
/-! DEFINITION. The operations of lsu0 and lsu1: loads and stores, typed accesses, gathers and scatters, group loads,
cells, atomics and ordered adds (R63-R79, R87-R97, R99-R117, R238-R253). -/

namespace Sys2Proof.Machine

/-! ### What holds back an LS operation (R76, R81, R103, R217) -/

/-- An lsu is occupied by a VLDG (R217). -/
def State.lsuBusy (s : State) (u : Twin) : Bool :=
  match u with
  | .u0 => s.tile.core.seq.busy0 ≠ 0
  | .u1 => s.tile.core.seq.busy1 ≠ 0

/-- The clock from which the ring has a delivery slot for the window accesses of the bundle at issue; where it has not been asked
yet, after a free delay (R76; log 3). -/
def State.ringAt (s : State) : Nat := s.tile.core.seq.ring.getD (s.clock + Config.freeDelay s.free)

/-- A window access waits for its delivery slot (R76). A local atomic takes none (DEDUCED, log 109). -/
def State.ringStall (s : State) (addr : Word) : Bool := addrSpace addr = 1 && decide (s.clock < s.ringAt)

/-- What holds back any LS operation at an address (R76, R81, R103, R217). -/
def State.lsStall (s : State) (u : Twin) (t : Wide) : Bool :=
  s.lsuBusy u || s.handlePending (lowWord t) || s.fenceStall pathLS || s.ringStall (lowWord t)

/-! ### Loads (R243-R246) -/

/-- The trap of an address (R64, R82). -/
def State.placeCause (s : State) (u : Twin) (use : Use) (t : Wide) (align n : Nat) : Option Cause :=
  match s.place use (lowWord t) align n with
  | .ok _ => none
  | .error e => some (s.addrCause (lsuOfTwin u) (lowWord t) e)

/-- A read of a poisoned unit consumes the poison; the tile's committed stores come before it, and one of a whole unit clears it (R101,
R415, R416). -/
def State.poisonCause (s : State) (p : Place) (n : Nat) : Option Cause :=
  match (s.flushLs s.cur).poisonAt s.cur p n with
  | some u => some (s.softError s.cur.die 1 (poisonLoc p u).1 (poisonLoc p u).2)
  | none => none

/-- The trap of a plain load of n bytes: a race in the cluster, or poison (R109, R110, R416). -/
def State.loadCause (s : State) (u : Twin) (addr : Word) (p : Place) (n : Nat) : Option Cause :=
  match s.loadRace p n with
  | some e => some (raceCause s.tile.core.seq.here u s.tile.core.seq.slot addr false e s.tile.core.seq.here)
  | none => s.poisonCause p n

/-- "early read" of a load in debug mode (R74). -/
def State.loadEarly (s : State) (u : Twin) (addr : Word) (p : Place) (n : Nat) : Option Cause :=
  if s.ctx.debug && s.tile.shadowed p n then some (s.cause 0x03 (sockIdx (lsuOfTwin u)).val addr) else none

/-- How a load through a handle is delivered: its memory side may be lost before (R423). -/
def State.loadDelivery (s : State) (addr : Word) : Delivery :=
  match s.place .load addr 1 1 with
  | .ok (.phys pa) => if s.sideLost pa then .lost pa else .load pa
  | _ => .plain

/-- A loaded value on q: timed from a scratchpad, 20 clocks through the window; interlocked through a handle (R18, R72,
R76, R82, R423). -/
def State.loadResult (s : State) (u : Twin) (addr : Word) (lat : Nat) (v : Wide) (ev : EvCount) : State :=
  match addrSpace addr with
  | 0 => s.timed (lsuOfTwin u) lat [(.q, v, allBits)] ev
  | 1 => s.timed (lsuOfTwin u) 20 [(.q, v, allBits)] ev
  | _ => (s.locked (lsuOfTwin u) [(.q, v)]).deliverAs s.nextOp (s.loadDelivery addr)

/-- A load of n bytes with an alignment; `f` makes the value from the bytes (R243-R245). -/
def loadHooks (u : Twin) (align n : Nat) (f : Nat → Wide) (t : Wide) : Hooks :=
  { stall := fun s => s.lsStall u t
    early := fun s => match s.place .load (lowWord t) align n with
      | .ok p => s.loadEarly u (lowWord t) p n
      | .error _ => none
    check := fun s => s.placeCause u .load t align n
    race := fun s => match s.place .load (lowWord t) align n with
      | .ok p => s.loadCause u (lowWord t) p n
      | .error _ => none
    act := fun s => match s.place .load (lowWord t) align n with
      | .error _ => s
      | .ok p =>
        let s := s.flushLs s.cur
        (s.noteLoad p n).loadResult u (lowWord t) 5 (f (s.loadPlace p n)) EvCount.zero }

/-- A scalar load of w bits, sign- or zero-extended to 64 (R244). -/
def ldHooks (u : Twin) (w : Nat) (signed : Bool) (t : Wide) : Hooks :=
  loadHooks u (w / 8) (w / 8) (fun x => wideOfWord (BitVec.ofNat 64 (if signed then wrapInt 64 (sInt w x) else x))) t

/-! ### Stores (R244, R245) -/

/-- A gated store of some bytes, relative to the place that the address names (R57). -/
def storeHooks (u : Twin) (align n : Nat) (bytes : State → List (Nat × Byte × Byte)) (t : Wide) : Hooks :=
  .stalled (fun s => s.lsStall u t) (fun s => s.placeCause u .store t align n) (fun s =>
    match s.place .store (lowWord t) align n with
    | .error _ => s
    | .ok p => s.gate u p (.write (bytes s)) (lowWord t))

/-- ST of w bits of port a (R244). -/
def stHooks (u : Twin) (w : Nat) (t : Wide) : Hooks :=
  storeHooks u (w / 8) (w / 8) (fun s => fullBytes (s.opA (lsuOfTwin u)).toNat (w / 8)) t

/-- The bytes of a masked store of lanes of wb bytes from port a (R239). -/
def maskedBytes (v : Wide) (g : Word) (wb n : Nat) : List (Nat × Byte × Byte) :=
  (List.range n).filterMap (fun i => if laneOn g wb (i / wb) then some (i, byteOf v.toNat i, 0xFF) else none)

/-- The mask recorded with port a of an lsu (R239). -/
def State.maskA (s : State) (u : Twin) : Word := s.tile.core.mask' (lsuOfTwin u) .a

/-- VSTR: the active 4-byte lanes of 64 bytes (R245). -/
def vstrHooks (u : Twin) (t : Wide) : Hooks :=
  storeHooks u 64 64 (fun s => maskedBytes (s.opA (lsuOfTwin u)) (s.maskA u) 4 64) t

/-! ### Typed accesses (R69, R127, R133, R246) -/

/-- FMT of a bank format word (R68). -/
def bfFmt (b : BitVec 32) : Nat := bitsOf b.toNat 0 4
/-- GSZ = 0b01: one scale for each group of 64 (R68). -/
def bfGrouped (b : BitVec 32) : Bool := bitsOf b.toNat 4 2 = 1
/-- ORIENT (R68). -/
def bfOrient (b : BitVec 32) : Bool := b.getLsbD 6
/-- SFMT: BF16 scales (R68). -/
def bfSfmt (b : BitVec 32) : Bool := b.getLsbD 7
/-- SPL: the scale table lies in bank b XOR 1 (R68). -/
def bfSpl (b : BitVec 32) : Bool := b.getLsbD 8
/-- SBASE (R68). -/
def bfSbase (b : BitVec 32) : Nat := bitsOf b.toNat 16 16

/-- An element run: its elements, bits per element, its bytes, its working lane width and the first element's index for a
bank offset (R133, R246). -/
structure Run where
  elems : Nat
  bits  : Nat
  bytes : Nat
  width : Nat
  first : Nat → Nat

/-- The run of a bank format; none for raw and TRN5 (R246). -/
def runOf (fmt : Nat) (grouped : Bool) : Option Run :=
  match fmt with
  | 5 => some { elems := 16, bits := 32, bytes := 64, width := 32, first := fun o => o / 4 }
  | 6 => some { elems := 16, bits := 32, bytes := 64, width := 32, first := fun o => o / 4 }
  | 7 => some { elems := 16, bits := 32, bytes := 64, width := 32, first := fun o => o / 4 }
  | 3 => some { elems := 16, bits := 16, bytes := 32, width := 32, first := fun o => o / 2 }
  | 4 => some { elems := 16, bits := 16, bytes := 32, width := 32, first := fun o => o / 2 }
  | 8 => some { elems := 16, bits := 16, bytes := 32, width := 32, first := fun o => o / 2 }
  | 9 => some { elems := 16, bits := 16, bytes := 32, width := 32, first := fun o => o / 2 }
  | 13 => some { elems := 16, bits := 3, bytes := 6, width := 32, first := fun o => 16 * o / 6 }
  | 14 => some { elems := 16, bits := 4, bytes := 8, width := 32, first := fun o => 2 * o }
  | 0 => none
  | 12 => none
  | 15 => none
  | _ => if grouped then some { elems := 16, bits := 8, bytes := 16, width := 32, first := fun o => o }
         else some { elems := 32, bits := 8, bytes := 32, width := 16, first := fun o => o }

/-- The format word of the bank that a scratchpad address names, of the tile that owns it. A window access reaches its bank in the
clock of its trigger, where the manual gives only the landing: there it reads the format word, and a load its data (R76, R246;
log 68). -/
def State.bankWord (s : State) (addr : Word) : BitVec 32 :=
  let tid := if addrSpace addr = 1 then tidOf (tidCluster s.cur.tid) (addr.extractLsb' 56 4) else s.cur.tid
  (s.tileAt (s.ownerKey tid)).core.bfOf (addrOff addr / bankSize)

/-- Is the access typed: a scratchpad address whose bank has a run (R70, R245)? -/
def State.runAt (s : State) (addr : Word) : Option Run :=
  if addrSpace addr = 8 then none else runOf (bfFmt (s.bankWord addr)) (bfGrouped (s.bankWord addr))

/-- Does the address name a TRN5 bank (R125)? -/
def State.trnBank (s : State) (addr : Word) : Bool := addrSpace addr ≤ 1 && bfFmt (s.bankWord addr) = 12

/-- The group of element e (R246). -/
def groupOf (orient : Bool) (e : Nat) : Nat := if orient then 64 * (e / 4096) + e % 64 else e / 64

/-- The bank-relative offset of a group's scale, and the bank that holds it (R69). -/
def scaleOff (b : BitVec 32) (g : Nat) : Nat := bfSbase b + 2 * g
/-- The bank that holds the scales of a bank (R69). -/
def scaleBank (b : BitVec 32) (bank : Nat) : Nat := if bfSpl b then bank ^^^ 1 else bank

/-- A scale is needed beyond the end of its bank for some element of a run (R69, R246). -/
def scaleBeyond (b : BitVec 32) (r : Run) (off : Nat) (on : Nat → Bool) : Bool :=
  bfGrouped b && (List.range r.elems).any (fun i => on i && decide (bankSize ≤ scaleOff b (groupOf (bfOrient b) (r.first off + i))))

/-- The place of the scale of lane i of a run in a scratchpad (R69). -/
def scalePlace (b : BitVec 32) (r : Run) (tid : BitVec 6) (off i : Nat) : Place :=
  .scratch tid (scaleBank b (off / bankSize) * bankSize + scaleOff b (groupOf (bfOrient b) (r.first (off % bankSize) + i)))

/-- The scale of lane i of a run (R69). -/
def State.runScale (s : State) (p : Place) (b : BitVec 32) (r : Run) (i : Nat) : FVal :=
  match p with
  | .phys _ => .fin false 0 0
  | .scratch tid off => scaleVal (bfSfmt b) (s.loadPlace (scalePlace b r tid off i) 2)

/-- The scales that a typed access reads, each once: they are LS reads of their own lines (R69, R99, R109). -/
def runScales (p : Place) (b : BitVec 32) (r : Run) (on : Nat → Bool) : List Place :=
  match p with
  | .phys _ => []
  | .scratch tid off =>
    if bfGrouped b then (((List.range r.elems).filter on).map (scalePlace b r tid off)).eraseDups else []

/-- "early read" of a scale in debug mode (R74). -/
def State.scalesEarly (s : State) (u : Twin) (addr : Word) (ps : List Place) : Option Cause := ps.findSome? (fun p => s.loadEarly u addr p 2)

/-- The race or the poison of a scale (R109, R110, R416). -/
def State.scalesCause (s : State) (u : Twin) (addr : Word) (ps : List Place) : Option Cause := ps.findSome? (fun p => s.loadCause u addr p 2)

/-- The reads of some scales recorded (R105, R109). -/
def State.noteScales (s : State) (ps : List Place) : State := ps.foldl (fun s p => s.noteLoad p 2) s

/-- The place of a run, or the trap: TRN5, a malformed or misaligned address, a scale beyond its bank (R125, R246). -/
def State.runPlace (s : State) (use : Use) (addr : Word) (r : Run) (on : Nat → Bool) : Except AddrFail Place :=
  match s.place use addr 1 r.bytes with
  | .error e => .error e
  | .ok p =>
    if addrOff addr % bankSize % r.bytes ≠ 0 || scaleBeyond (s.bankWord addr) r (addrOff addr % bankSize) on then .error .fault
    else .ok p

/-- One element decoded into its working lane (R127, R133). -/
def decodeElem (fmt : Nat) (grouped : Bool) (x : Nat) (scale : FVal) : Res :=
  let f32 (v : FVal) : Res := Fmt.f32.ofVal 0 false v
  match fmt with
  | 1 => if grouped then groupDecode (FVal.ofInt (sInt 8 x)) scale else Res.pure (wrapInt 16 (sInt 8 x))
  | 2 => Res.pure x
  | 3 => Res.pure (wrapInt 32 (sInt 16 x))
  | 4 => Res.pure x
  | 8 => f32 (Fmt.f16.decode x)
  | 9 => f32 (Fmt.bf16.decode x)
  | 10 => if grouped then groupDecode (Fmt.e4m3.decode x) scale else Fmt.f16.ofVal 0 false (Fmt.e4m3.decode x)
  | 11 => if grouped then groupDecode (Fmt.e5m2.decode x) scale else Fmt.f16.ofVal 0 false (Fmt.e5m2.decode x)
  | 13 => groupDecode (FVal.ofInt (sInt 3 x)) scale
  | 14 => groupDecode (FVal.ofInt (sInt 4 x)) scale
  | _ => Res.pure x

/-- One working lane encoded into an element (R127, R132, R133). -/
def encodeElem (fmt : Nat) (grouped : Bool) (mode : Nat) (fsat : Bool) (x : Nat) (scale : FVal) : Res :=
  let quant (w : Nat) : Res :=
    let r := quantInt mode (-(2 ^ (w - 1) : Nat)) ((2 ^ (w - 1) : Nat) - 1) (Fmt.f32.decode x) scale
    { val := wrapInt w r.val, ev := r.ev }
  let i (w : Nat) (sg : Bool) : ElTy := .int { w := w, signed := sg }
  match fmt with
  | 1 => if grouped then quant 8 else convert mode fsat (i 16 true) (i 8 true) x
  | 2 => convert mode fsat (i 16 false) (i 8 false) x
  | 3 => convert mode fsat (i 32 true) (i 16 true) x
  | 4 => convert mode fsat (i 32 false) (i 16 false) x
  | 8 => convert mode fsat (.flt .f32) (.flt .f16) x
  | 9 => convert mode fsat (.flt .f32) (.flt .bf16) x
  | 10 => if grouped then quantFlt .e4m3 mode fsat (Fmt.f32.decode x) scale else convert mode fsat (.flt .f16) (.flt .e4m3) x
  | 11 => if grouped then quantFlt .e5m2 mode fsat (Fmt.f32.decode x) scale else convert mode fsat (.flt .f16) (.flt .e5m2) x
  | 13 => quant 3
  | 14 => quant 4
  | _ => Res.pure x

/-- Every lane takes part (R239). -/
def everyLane (_ : Nat) : Bool := true

/-- VLD: decodes one run of the bank; raw, and through a handle, it is VLDR (R70, R245, R246), with the latency of VLD (R211; log 95). An address that names a TRN5 bank
raises "illegal operand" before any "address fault": the manual ranks no two traps of one operation (R64, R125; log 69). -/
def vldHooks (u : Twin) (t : Wide) : Hooks :=
  let addr := lowWord t
  let raw := loadHooks u 64 64 (fun x => BitVec.ofNat 512 x) t
  let at_ {α : Type} (s : State) (dflt : α) (k : Run → Place → α) : α :=
    match s.runAt addr with
    | none => dflt
    | some r => match s.runPlace .load addr r everyLane with
      | .ok p => k r p
      | .error _ => dflt
  { stall := fun s => s.lsStall u t
    early := fun s => if (s.runAt addr).isNone then (if s.trnBank addr then none else raw.early s) else
      at_ s none (fun r p => (s.loadEarly u addr p r.bytes) <|> s.scalesEarly u addr (runScales p (s.bankWord addr) r everyLane))
    check := fun s =>
      match s.runAt addr with
      | none => if s.trnBank addr then some (s.illegalOperand (lsuOfTwin u) t) else raw.check s
      | some r => match s.runPlace .load addr r everyLane with
        | .ok _ => none
        | .error e => some (s.addrCause (lsuOfTwin u) addr e)
    race := fun s => if (s.runAt addr).isNone then raw.race s else at_ s none (fun r p =>
      (s.loadCause u addr p r.bytes) <|> s.scalesCause u addr (runScales p (s.bankWord addr) r everyLane))
    act := fun s =>
      if (s.runAt addr).isNone then
        (match s.place .load addr 64 64 with
        | .error _ => s
        | .ok p =>
          let s := s.flushLs s.cur
          (s.noteLoad p 64).loadResult u addr 7 (BitVec.ofNat 512 (s.loadPlace p 64)) EvCount.zero)
      else
        let s := s.flushLs s.cur
        at_ s s (fun r p =>
          let b := s.bankWord addr
          let x := s.loadPlace p r.bytes
          let f (i : Nat) : Res := if i < r.elems then decodeElem (bfFmt b) (bfGrouped b) (bitsOf x (r.bits * i) r.bits) (s.runScale p b r i)
            else Res.pure 0
          ((s.noteLoad p r.bytes).noteScales (runScales p b r everyLane)).loadResult u addr 7 (wideOfLanes r.width (fun i => (f i).val)) (laneEvents everyLane f r.elems)) }

/-- The bytes that a typed store writes: the bits of the active elements only (R246). -/
def runBytes (r : Run) (on : Nat → Bool) (f : Nat → Nat) : List (Nat × Byte × Byte) :=
  let v := ofLanes r.bits f r.elems
  let m := ofLanes r.bits (fun i => if on i then 2 ^ r.bits - 1 else 0) r.elems
  (List.range r.bytes).filterMap (fun i => if byteOf m i = 0 then none else some (i, byteOf v i, byteOf m i))

/-- VST: encodes the active lanes of port a into one run; raw, and through a handle, it is VSTR (R70, R245, R246). The
events count at the trigger. -/
def vstHooks (u : Twin) (t : Wide) : Hooks :=
  let addr := lowWord t
  let on (s : State) (r : Run) (i : Nat) : Bool := laneOn (s.maskA u) (r.width / 8) i
  let scales (s : State) : List Place := match s.runAt addr with
    | none => []
    | some r => match s.runPlace .store addr r (on s r) with
      | .ok p => runScales p (s.bankWord addr) r (on s r)
      | .error _ => []
  { stall := fun s => s.lsStall u t
    early := fun s => s.scalesEarly u addr (scales s)
    check := fun s => match s.runAt addr with
      | none => if s.trnBank addr then some (s.illegalOperand (lsuOfTwin u) t) else (vstrHooks u t).check s
      | some r => match s.runPlace .store addr r (on s r) with
        | .ok _ => none
        | .error e => some (s.addrCause (lsuOfTwin u) addr e)
    race := fun s => s.scalesCause u addr (scales s)
    act := fun s => match s.runAt addr with
      | none => (vstrHooks u t).act s
      | some r => match s.runPlace .store addr r (on s r) with
        | .error _ => s
        | .ok p =>
          let b := s.bankWord addr
          let f (i : Nat) : Res := encodeElem (bfFmt b) (bfGrouped b) s.tile.core.rm s.tile.core.fsat
            (laneOf r.width (s.opA (lsuOfTwin u)).toNat i) (s.runScale p b r i)
          let s' := (s.noteScales (scales s)).gate u p (.write (runBytes r (on s r) (fun i => (f i).val))) addr
          s'.modTile (fun t => t.mapCore (fun c => c.count (laneEvents (on s r) f r.elems))) }

/-! ### Gather and scatter (R211, R247) -/

/-- The address of lane i of a gather or scatter (R247). -/
def laneAddr (t x : Wide) (i : Nat) : Nat := addrOff (lowWord t) + laneOf 32 x.toNat i

/-- The base of a gather or scatter is a well-formed local address (R63, R247). -/
def gatherBaseOk (a : Word) : Bool := addrSpace a = 0 && (a.extractLsb' 21 39 : BitVec 39) = 0 && addrOff a < spSize

/-- An active lane's address is refused (R247). -/
def gatherBad (tile : Tile) (use : Use) (t x : Wide) (g : Word) : Bool :=
  !gatherBaseOk (lowWord t) ||
    (List.range 16).any (fun i => laneOn g 4 i && (laneAddr t x i % 4 ≠ 0 || spSize ≤ laneAddr t x i || !bankOk tile use (laneAddr t x i)))

/-- The word at a lane's address. -/
def State.gatherPlace (s : State) (t x : Wide) (i : Nat) : Place := .scratch s.cur.tid (laneAddr t x i)

/-- VLDG. Lane i is served at step i of the pipeline, where it meets its bank (R67). The lanes' values are read at the trigger, which no access of a tile can tell (R73, R95,
R109) and other paths leave open (R111, R112); a write of the patrol core during a freeze between the steps reaches the lanes that are
still to be served (R25, R211, R217, R247, R367; log 68). -/
def vldgHooks (u : Twin) (t : Wide) : Hooks :=
  let lanes (s : State) : List Nat := (List.range 16).filter (fun i => laneOn (s.maskA u) 4 i)
  let x (s : State) : Wide := s.opA (lsuOfTwin u)
  { stall := fun s => s.lsStall u t
    early := fun s => (lanes s).findSome? (fun i => s.loadEarly u (lowWord t) (s.gatherPlace t (x s) i) 4)
    check := fun s => if gatherBad s.tile .load t (x s) (s.maskA u) then some (s.addressFault (lsuOfTwin u) (lowWord t)) else none
    race := fun s => (lanes s).findSome? (fun i => s.loadCause u (lowWord t) (s.gatherPlace t (x s) i) 4)
    act := fun s =>
      let s := s.flushLs s.cur
      let v := wideOfLanes 32 (fun i => if laneOn (s.maskA u) 4 i then s.loadPlace (s.gatherPlace t (x s) i) 4 else 0)
      let s' := (lanes s).foldl (fun s' i => s'.noteLanes (s.gatherPlace t (x s) i) 4) s
      let offs := (List.range 16).map (fun i => if laneOn (s.maskA u) 4 i then some (laneAddr t (x s) i) else none)
      let s' := (s'.timed (lsuOfTwin u) 21 [(.q, v, laneMask (s.maskA u) 4)] EvCount.zero).deliverAs s'.nextOp (.gather offs)
      s'.modTile (fun t => t.mapSeq (fun q => match u with
        | .u0 => { q with busy0 := 16, busyFree0 := s.runsFree .lsu0 }
        | .u1 => { q with busy1 := 16, busyFree1 := s.runsFree .lsu1 })) }

/-- VSTS: a gated scatter; where two lanes name one word the higher lane's stays (R247). -/
def vstsHooks (u : Twin) (t : Wide) : Hooks :=
  .stalled (fun s => s.lsStall u t)
    (fun s => if gatherBad s.tile .store t (s.opB (lsuOfTwin u)) (s.maskA u) then some (s.addressFault (lsuOfTwin u) (lowWord t)) else none)
    (fun s =>
      let bs := ((List.range 16).filter (fun i => laneOn (s.maskA u) 4 i)).flatMap (fun i =>
        (fullBytes (laneOf 32 (s.opA (lsuOfTwin u)).toNat i) 4).map (fun b => (b.1 + laneAddr t (s.opB (lsuOfTwin u)) i, b.2)))
      s.gate u (.scratch s.cur.tid 0) (.write bs) (lowWord t))

/-! ### Group loads (R87-R97) -/

/-- A group address (R63, R87). -/
def groupAddrOk (a : Word) : Bool :=
  addrSpace a = 2 && (a.extractLsb' 56 4 : BitVec 4) = 0 && (a.extractLsb' 21 27 : BitVec 27) = 0 && addrOff a < spSize && addrOff a % 64 = 0

/-- The group id of a group address (R63). -/
def groupOfAddr (a : Word) : BitVec 8 := a.extractLsb' 48 8

/-- The reduction word (R88). -/
def reductionOk (a : Wide) : Bool :=
  let w := a.toNat % 2 ^ 64
  bitsOf w 8 56 = 0 && bitsOf w 3 1 = 0 && 1 ≤ bitsOf w 4 4 && bitsOf w 4 4 ≤ 9 && bitsOf w 0 3 ≤ 5

/-- A group of the context on a die (R48). -/
def State.group (s : State) (k : TileKey) (g : BitVec 8) : Group :=
  ((s.ctxAt k.ctx).groups.find? (fun x => x.die = k.die && x.g = g)).getD { die := k.die, g := g, members := [], gen := 0, by_ := [], was := (0, []) }

/-- Members in ascending order: rank by rank (R91). -/
def rankTids (l : List (BitVec 6)) : List (BitVec 6) := ((List.range 64).map (BitVec.ofNat 6)).filter (fun t => t ∈ l)

/-- The members in ascending order: rank by rank (R91). -/
def Group.ranked (g : Group) : List (BitVec 6) := rankTids g.members

/-- The members as a group load that issues in a clock finds them: a JOIN or LEAVE of that clock counts as later (R91). -/
def Group.membersAt (g : Group) (clock : Nat) : List (BitVec 6) := rankTids (if g.was.1 = clock then g.was.2 else g.members)

/-- The line of a member as a leaf reads it; absent when poisoned or out of service (R94, R96, R423). -/
def State.leafLine (s : State) (tid : BitVec 6) (off : Nat) : Option Wide :=
  let k := s.ownerKey tid
  if !(s.dieAt k.die).cs || (s.poisonAt s.cur (.scratch tid off) 64).isSome then none
  else some (BitVec.ofNat 512 ((s.tileAt k).spRead off 64))

/-- A write that has been made to a member's line is in no order with this load. Where there are several, the first of the line's writers
stands for them, and the load reports the member of lowest rank that has one (R95; DESIGN CHOICE, log 80). -/
def State.leafRace (s : State) (tid : BitVec 6) (rank off : Nat) : Option (BitVec 6 × Nat × BitVec 6) :=
  let l := (s.tileAt (s.ownerKey tid)).lineTag (off / 64)
  (l.writes.find? (fun w => !ordered (s.tile.vcOf pathGR) s.cur w.1 pathLS pathGR w.2)).map (fun w => (tid, rank, w.1.tid))

/-- GLD and GLDT (R87-R91): the members and their lines as they stand when the load issues. -/
def gldHooks (u : Twin) (trapping : Bool) (t : Wide) : Hooks :=
  let addr := lowWord t
  let sk := lsuOfTwin u
  .stalled (fun s => s.lsuBusy u || s.fenceStall pathGR || 4 ≤ s.tile.core.inFlight sk .q1)
    (fun s => if !groupAddrOk addr then some (s.addressFault sk addr)
      else if !reductionOk (s.opA sk) then some (s.illegalOperand sk t) else none)
    (fun s =>
      let s := s.flushLs s.cur
      let members := (s.group s.cur (groupOfAddr addr)).membersAt s.clock
      let off := addrOff addr
      let races := (members.zip (List.range members.length)).filterMap (fun x => s.leafRace x.1 x.2 off)
      let gl : GLoad :=
        { id := s.nextOp, u := u, addr := addr, op := BitVec.ofNat 3 (bitsOf (s.opA sk).toNat 0 3),
          ty := BitVec.ofNat 4 (bitsOf (s.opA sk).toNat 4 4), members := members,
          leaves := members.map (fun m => s.leafLine m off), trapping := trapping, here := s.tile.core.seq.here,
          slot := s.tile.core.seq.slot, ep := s.tile.epoch s.cur pathGR, combined := false, absent := 0, trapped := false,
          race := races.head?, seen := false, closed := false }
      let s := members.foldl (fun s m => s.noteFlag s.cur pathGR s.nextOp (.scratch m off) 64) s
      let s := s.pend sk [.q, .qp, .q1]
      (s.modTile (fun t => t.mapCore (fun c => { c with gloads := c.gloads ++ [gl] }))).addLater s.cur .groupLoadCombine)

/-- The reduction of two lanes: sum, min, max, and, or, xor; a sum of F16 or BF16 lanes is held in F32 (R93). -/
def groupNode (op : Nat) (ty : ElTy) (x y : Res) : Res :=
  let ev := x.ev.add y.ev
  match op, ty with
  | 0, .int f => { val := (x.val + y.val) % 2 ^ f.w, ev := ev }
  | 0, .flt _ => let r := f32AddRne x.val y.val; { val := r.val, ev := ev.add r.ev }
  | 1, .int f => { val := if f.decode x.val ≤ f.decode y.val then x.val else y.val, ev := ev }
  | 2, .int f => { val := if f.decode y.val ≤ f.decode x.val then x.val else y.val, ev := ev }
  | 1, .flt f => let r := f.minmax false x.val y.val; { val := r.val, ev := ev.add r.ev }
  | 2, .flt f => let r := f.minmax true x.val y.val; { val := r.val, ev := ev.add r.ev }
  | 3, _ => { val := x.val &&& y.val, ev := ev }
  | 4, _ => { val := x.val ||| y.val, ev := ev }
  | _, _ => { val := x.val ^^^ y.val, ev := ev }

/-- A floating type of 16 bits, whose sums are held in F32 (R93). -/
def narrow (ty : ElTy) : Bool := ty.width < 32

/-- A leaf's lane as the tree takes it: F16 and BF16 lanes of a sum are widened to F32 (R93). -/
def groupLeaf (op : Nat) (ty : ElTy) (x : Nat) : Res :=
  match op, ty with
  | 0, .flt f => if narrow ty then Res.pure (Fmt.f32.ofVal 0 false (f.decode x)).val else Res.pure x
  | _, _ => Res.pure x

/-- finish: a sum of F16 or BF16 lanes is rounded once, which gives a NaN its default; every other result is taken as it stands
(R93). A signalling leaf counts invalid once for its lane, whatever node it meets; a lane counts invalid and NaN-produced at most
once, and the other events once for each node. Bitwise operations count nothing (log 70). -/
def groupFinish (op : Nat) (ty : ElTy) (snan : Bool) (r : Res) : Res :=
  match ty with
  | .int _ => r
  | .flt f =>
    if 3 ≤ op then r
    else
      let x : Res := if op = 0 && narrow ty then f.ofVal 0 false (Fmt.f32.decode r.val) else Res.pure r.val
      { val := x.val, ev := (r.ev.add x.ev).once snan (f.decode x.val).isNan }

/-- One lane of a group load over its leaves (R92, R93). -/
def groupLane (op : Nat) (ty : ElTy) (leaves : List (Option Wide)) (i : Nat) : Res :=
  let lanes := leaves.map (fun l => l.map (fun x => laneOf ty.width x.toNat i))
  let snan := match ty with
    | .flt f => lanes.any (fun l => match l with | some x => (f.decode x).isSnan | none => false)
    | .int _ => false
  match treeRoot (groupNode op ty) (lanes.map (fun l => l.map (groupLeaf op ty))) with
  | none => Res.pure 0
  | some r => groupFinish op ty snan r

/-- The absent mask: bit k for the leaf of rank k (R90). -/
def absentMask (leaves : List (Option Wide)) : Nat := ofLanes 1 (fun k => match leaves[k]? with | some none => 1 | _ => 0) 64

/-- GROUP_LOAD_COMBINE: the routers combine the leaves of the tile's oldest group load and deliver q, qp and q1 (R90-R93);
its events count with the delivery, whose time is open (R90, R143). -/
def execGroupLoadCombine (s : State) : Out :=
  match s.tile.core.gloads.find? (fun g => !g.combined) with
  | none => .next s
  | some g =>
    let ty := codeTy g.ty.toNat
    let f := groupLane g.op.toNat ty g.leaves
    let q : Wide := if g.leaves.all (·.isNone) then 0 else wideOfLanes ty.width (fun i => (f i).val)
    let ev := if g.leaves.all (·.isNone) then EvCount.zero else laneEvents everyLane f (512 / ty.width)
    let mask := absentMask g.leaves
    let due := s.clock + Config.freeDelay s.free
    let s := { s with free := s.free + 1 }
    let s := s.fillAt s.cur g.id due [(.q, q), (.qp, if mask = 0 then 0 else 1), (.q1, BitVec.ofNat 512 mask)]
    let s := s.chargeAt s.cur g.id ev
    let note (c : TileCore) : TileCore :=
      { c with gloads := c.gloads.map (fun x => if x.id = g.id then { x with combined := true, absent := BitVec.ofNat 64 mask } else x) }
    .next (s.modTile (fun t => t.mapBoth note))

/-! ### Cells (R77-R79, R248) -/

/-- The traps of a cell operation: its address (R77). -/
def cellCheck (u : Twin) (t : Wide) (s : State) : Option Cause := s.placeCause u .cell t 8 8

/-- CELLW and CELLWR: gated cell writes of port a (R77, R78). -/
def cellWriteHooks (u : Twin) (kind : Word → GKind) (t : Wide) : Hooks :=
  .stalled (fun s => s.lsStall u t) (cellCheck u t) (fun s =>
    match s.place .cell (lowWord t) 8 8 with
    | .error _ => s
    | .ok p => s.gate u p (kind (lowWord (s.opA (lsuOfTwin u)))) (lowWord t))

/-- A cell can be read: full, and for a CELLR not held by another (R78). -/
def Tile.cellReady (t : Tile) (off : Nat) (consume : Bool) : Bool := t.cellFull off && !(consume && t.cellHeld off)

/-- A pending cell read has its value: the cell is held for a CELLR, and the result is delivered after a free delay (R77,
R78). -/
def State.readCell (s : State) (r : CellRd) : State :=
  let o := s.ownerKey r.tid
  let v := (s.tileAt o).spRead r.off 8
  let s := s.noteRead s.cur r.id (.scratch r.tid r.off) 8
  let s := if r.consume then s.modTileAt o (fun t => { t with held := (r.off, s.cur) :: t.held }) else s
  let s := s.modTile (fun t => t.mapBoth (fun c =>
    { c with cellRds := c.cellRds.map (fun x => if x.id = r.id then { x with done := true } else x) }))
  let due := s.clock + Config.freeDelay s.free
  ({ s with free := s.free + 1 }).fillAt s.cur r.id due [(.q, BitVec.ofNat 512 v)]

/-- A cell read that can be satisfied now. -/
def State.readyCell (s : State) (k : TileKey) : Option CellRd :=
  (s.tileAt k).core.cellRds.find? (fun r => !r.done && (s.tileAt (keyPeer k r.tid)).cellReady r.off r.consume)

/-- CELL_READ_SATISFIED: a waiting cell read of the tile finds its cell full; poison is consumed (R78, R416). -/
def execCellReadSatisfied (s : State) : Out :=
  match s.readyCell s.cur with
  | none => .next s
  | some r =>
    match s.poisonCause (.scratch r.tid r.off) 8 with
    | some c => .next (s.takeTrap c)
    | none => .next (s.readCell r)

/-- A cell read at its trigger finds its cell ready and poisoned: the poison is consumed (R78, R416). -/
def State.cellPoison (s : State) (t : Wide) (consume : Bool) : Option Cause :=
  match s.place .cell (lowWord t) 8 8 with
  | .ok (.scratch tid off) =>
    if (s.tileAt (s.ownerKey tid)).cellReady off consume then s.poisonCause (.scratch tid off) 8 else none
  | _ => none

/-- CELLR and CELLP. A CELLR takes its effect on the cell at the commit; the closing MARK bundle waits until it has read (R78,
R248). -/
def cellReadHooks (u : Twin) (consume : Bool) (t : Wide) : Hooks :=
  { stall := fun s => s.lsStall u t
    early := fun _ => none
    check := cellCheck u t
    race := fun s => s.cellPoison t consume
    act := fun s => match s.place .cell (lowWord t) 8 8 with
    | .ok (.scratch tid off) =>
      let s := s.flushLs s.cur
      let r : CellRd := { id := s.nextOp, u := u, tid := tid, off := off, consume := consume, done := false }
      let s := s.pend (lsuOfTwin u) [.q]
      let s := s.modTile (fun t => t.mapCore (fun c => { c with cellRds := c.cellRds ++ [r] }))
      let s := if consume then s.gate u (.scratch tid off) (.cellr r.id) (lowWord t) else s
      if (s.tileAt (s.ownerKey tid)).cellReady off consume && (s.poisonAt s.cur (.scratch tid off) 8).isNone && !s.goesBehind (.scratch tid off) then s.readCell r else s
    | _ => s }

/-! ### Atomics (R113, R114, R250-R252) -/

/-- "determinism violation" of an AFADD (R114). -/
def State.detViolation (s : State) (u : Twin) (addr : Word) : Cause :=
  { code := 0x0B, tepc := s.tile.core.seq.here, i0 := addrWord s.tile.core.seq.here,
    i1 := BitVec.ofNat 64 (unitSlot u s.tile.core.seq.slot), i2 := addr, i3 := 0 }

/-- An atomic: it joins the tile's committed LS operations, is performed after them and delivers the old value (R250,
R251). -/
def atomHooks (u : Twin) (op : AtomOp) (wide : Bool) (t : Wide) : Hooks :=
  let n := if wide then 8 else 4
  { stall := fun s => s.lsStall u t || s.releaseHolds s.nextOp
    early := fun _ => none
    check := fun s => if op = .fadd && s.detCourse s.cur then some (s.detViolation u (lowWord t)) else s.placeCause u .atomic t n n
    race := fun s => match s.place .atomic (lowWord t) n n with
      | .ok p => s.poisonCause p n
      | .error _ => none
    act := fun s =>
      match s.place .atomic (lowWord t) n n with
      | .error _ => s
      | .ok p =>
        let a : AtomReq :=
          { id := s.nextOp, sk := lsuOfTwin u, op := op, wide := wide, place := p, a := lowWord (s.opA (lsuOfTwin u)),
            b := lowWord (s.opB (lsuOfTwin u)), vc := s.tile.vcOf pathLS, rel := s.tile.rel }
        let s := s.pend (lsuOfTwin u) (if op = .cas then [.q, .qp] else [.q])
        (s.modTile (fun t => { t with lsq := t.lsq ++ [.atom a] })).addLater s.cur .atomicPerform }

/-- How many of some committed operations stand up to the first atomic, that one included; none where there is no atomic. -/
def throughAtom : List LsOp → Nat
  | [] => 0
  | .atom _ :: _ => 1
  | .store _ :: r => match throughAtom r with
    | 0 => 0
    | n + 1 => n + 2

/-- The oldest n committed operations of a tile performed, in program order (R101). -/
def State.performFirst (s : State) (k : TileKey) (n : Nat) : State :=
  let ops := (s.tileAt k).lsq
  (ops.take n).foldl (fun s o => s.performLs k o) (s.modTileAt k (fun t => { t with lsq := ops.drop n }))

/-- STORE_PERFORMED: the tile's oldest committed LS operation is performed, where it is a store; behind an atomic it waits for that
(R101). -/
def execStorePerformed (s : State) : Out :=
  match s.tile.lsq with
  | .store g :: r => .next ((s.modTile (fun t => { t with lsq := r })).performLs s.cur (.store g))
  | .atom _ :: _ => .next (s.addEvent (s.clock + 1) s.cur .storePerformed)
  | [] => .next s

/-- ATOMIC_PERFORM: the tile's oldest atomic is performed, after every LS operation committed before it (R101, R113). -/
def execAtomicPerform (s : State) : Out := .next (s.performFirst s.cur (throughAtom s.tile.lsq))

/-! ### The ordered scatter-add (R115, R253) -/

/-- The running task's key fields: kind, gate, conjunction, position (R115). -/
def Task.osKey (t : Task) : Bool × Nat × BitVec 48 × BitVec 4 :=
  match t.conj with
  | none => (false, t.gate, 0, t.pos)
  | some c => (true, t.gate, c, 0)

/-- The page-relative offset of lane i of an ordered add (R253). -/
def osOffset (t x : Wide) (i : Nat) : Nat := addrPageOff (lowWord t) + laneOf 32 x.toNat i

/-- OSADD (R115, R253): one update for each active lane, on its way to the memory side. -/
def osaddHooks (u : Twin) (isF : Bool) (t : Wide) : Hooks :=
  let sk := lsuOfTwin u
  let lanes (s : State) : List Nat := (List.range 16).filter (fun i => laneOn (s.maskA u) 4 i)
  .stalled (fun s => s.lsStall u t || s.releaseHolds s.nextOp)
    (fun s =>
      if addrSpace (lowWord t) ≠ 8 then some (s.addressFault sk (lowWord t))
      else match s.place .atomic (lowWord t) 4 4 with
        | .error e => some (s.addrCause sk (lowWord t) e)
        | .ok _ =>
          let h := s.tile.core.h.get (addrHandle (lowWord t)).toFin
          if (lanes s).any (fun i => osOffset t (s.opB sk) i % 4 ≠ 0 || pageSize h.sz < osOffset t (s.opB sk) i + 4) then
            some (s.handleMisuse sk (lowWord t))
          else if 2 ^ 28 ≤ s.tile.core.osSeq then some (s.courseViolation sk t)
          else none)
    (fun s =>
      match s.tile.task with
      | none => s
      | some k =>
        let s := s.flushLs s.cur
        let h := s.tile.core.h.get (addrHandle (lowWord t)).toFin
        let key := k.osKey
        let ups := (lanes s).map (fun i =>
          ({ pa := h.frame + osOffset t (s.opB sk) i, val := BitVec.ofNat 32 (laneOf 32 (s.opA sk).toNat i), float := isF,
             conjK := key.1, gate := key.2.1, conj := key.2.2.1, pos := key.2.2.2, seq := s.tile.core.osSeq, lane := i,
             src := s.cur, spilled := false, q := k.q, course := k.course } : OsUpd))
        let s := s.modTile (fun t => t.mapCore (fun c => { c with osSeq := c.osSeq + 1 }))
        let s := s.modCtx s.cur.ctx (fun c => { c with transit := c.transit ++ ups })
        ups.foldl (fun s _ => s.addLater s.cur .osaddUpdateArrival) s)

/-! ### The operations -/

/-- ldS8 (R244). -/
def hkLdS8 (u : Twin) (t : Wide) (_ : Word) : Hooks := ldHooks u 8 true t
/-- ldS8 (R244). -/
def execLdS8 (u : Twin) (src : Src) (g : Guard) (s : State) : Out := runScalar (lsuOfTwin u) (hkLdS8 u) src g s
/-- ldN8 (R244). -/
def hkLdN8 (u : Twin) (t : Wide) (_ : Word) : Hooks := ldHooks u 8 false t
/-- ldN8 (R244). -/
def execLdN8 (u : Twin) (src : Src) (g : Guard) (s : State) : Out := runScalar (lsuOfTwin u) (hkLdN8 u) src g s
/-- ldS16 (R244). -/
def hkLdS16 (u : Twin) (t : Wide) (_ : Word) : Hooks := ldHooks u 16 true t
/-- ldS16 (R244). -/
def execLdS16 (u : Twin) (src : Src) (g : Guard) (s : State) : Out := runScalar (lsuOfTwin u) (hkLdS16 u) src g s
/-- ldN16 (R244). -/
def hkLdN16 (u : Twin) (t : Wide) (_ : Word) : Hooks := ldHooks u 16 false t
/-- ldN16 (R244). -/
def execLdN16 (u : Twin) (src : Src) (g : Guard) (s : State) : Out := runScalar (lsuOfTwin u) (hkLdN16 u) src g s
/-- ldS32 (R244). -/
def hkLdS32 (u : Twin) (t : Wide) (_ : Word) : Hooks := ldHooks u 32 true t
/-- ldS32 (R244). -/
def execLdS32 (u : Twin) (src : Src) (g : Guard) (s : State) : Out := runScalar (lsuOfTwin u) (hkLdS32 u) src g s
/-- ldN32 (R244). -/
def hkLdN32 (u : Twin) (t : Wide) (_ : Word) : Hooks := ldHooks u 32 false t
/-- ldN32 (R244). -/
def execLdN32 (u : Twin) (src : Src) (g : Guard) (s : State) : Out := runScalar (lsuOfTwin u) (hkLdN32 u) src g s
/-- ld64 (R244). -/
def hkLd64 (u : Twin) (t : Wide) (_ : Word) : Hooks := ldHooks u 64 false t
/-- ld64 (R244). -/
def execLd64 (u : Twin) (src : Src) (g : Guard) (s : State) : Out := runScalar (lsuOfTwin u) (hkLd64 u) src g s
/-- ST_8 (R244). -/
def hkSt8 (u : Twin) (t : Wide) (_ : Word) : Hooks := stHooks u 8 t
/-- ST_8 (R244). -/
def execSt8 (u : Twin) (src : Src) (g : Guard) (s : State) : Out := runScalar (lsuOfTwin u) (hkSt8 u) src g s
/-- ST_16 (R244). -/
def hkSt16 (u : Twin) (t : Wide) (_ : Word) : Hooks := stHooks u 16 t
/-- ST_16 (R244). -/
def execSt16 (u : Twin) (src : Src) (g : Guard) (s : State) : Out := runScalar (lsuOfTwin u) (hkSt16 u) src g s
/-- ST_32 (R244). -/
def hkSt32 (u : Twin) (t : Wide) (_ : Word) : Hooks := stHooks u 32 t
/-- ST_32 (R244). -/
def execSt32 (u : Twin) (src : Src) (g : Guard) (s : State) : Out := runScalar (lsuOfTwin u) (hkSt32 u) src g s
/-- ST_64 (R244). -/
def hkSt64 (u : Twin) (t : Wide) (_ : Word) : Hooks := stHooks u 64 t
/-- ST_64 (R244). -/
def execSt64 (u : Twin) (src : Src) (g : Guard) (s : State) : Out := runScalar (lsuOfTwin u) (hkSt64 u) src g s
/-- VLD (R246). -/
def hkVld (u : Twin) (t : Wide) (_ : Word) : Hooks := vldHooks u t
/-- VLD (R246). -/
def execVld (u : Twin) (src : Src) (g : Guard) (s : State) : Out := runScalar (lsuOfTwin u) (hkVld u) src g s
/-- VLDR (R245). -/
def hkVldr (u : Twin) (t : Wide) (_ : Word) : Hooks := loadHooks u 64 64 (fun x => BitVec.ofNat 512 x) t
/-- VLDR (R245). -/
def execVldr (u : Twin) (src : Src) (g : Guard) (s : State) : Out := runScalar (lsuOfTwin u) (hkVldr u) src g s
/-- VST (R246). -/
def hkVst (u : Twin) (t : Wide) (_ : Word) : Hooks := vstHooks u t
/-- VST (R246). -/
def execVst (u : Twin) (src : Src) (g : Guard) (s : State) : Out := runScalar (lsuOfTwin u) (hkVst u) src g s
/-- VSTR (R245). -/
def hkVstr (u : Twin) (t : Wide) (_ : Word) : Hooks := vstrHooks u t
/-- VSTR (R245). -/
def execVstr (u : Twin) (src : Src) (g : Guard) (s : State) : Out := runScalar (lsuOfTwin u) (hkVstr u) src g s
/-- VLDG (R247). -/
def hkVldg (u : Twin) (t : Wide) (_ : Word) : Hooks := vldgHooks u t
/-- VLDG (R247). -/
def execVldg (u : Twin) (src : Src) (g : Guard) (s : State) : Out := runScalar (lsuOfTwin u) (hkVldg u) src g s
/-- VSTS (R247). -/
def hkVsts (u : Twin) (t : Wide) (_ : Word) : Hooks := vstsHooks u t
/-- VSTS (R247). -/
def execVsts (u : Twin) (src : Src) (g : Guard) (s : State) : Out := runScalar (lsuOfTwin u) (hkVsts u) src g s
/-- GLD (R97). -/
def hkGld (u : Twin) (t : Wide) (_ : Word) : Hooks := gldHooks u true t
/-- GLD (R97). -/
def execGld (u : Twin) (src : Src) (g : Guard) (s : State) : Out := runScalar (lsuOfTwin u) (hkGld u) src g s
/-- GLDT (R97). -/
def hkGldt (u : Twin) (t : Wide) (_ : Word) : Hooks := gldHooks u false t
/-- GLDT (R97). -/
def execGldt (u : Twin) (src : Src) (g : Guard) (s : State) : Out := runScalar (lsuOfTwin u) (hkGldt u) src g s
/-- CELLW (R77). -/
def hkCellw (u : Twin) (t : Wide) (_ : Word) : Hooks := cellWriteHooks u (fun v => .cellw v) t
/-- CELLW (R77). -/
def execCellw (u : Twin) (src : Src) (g : Guard) (s : State) : Out := runScalar (lsuOfTwin u) (hkCellw u) src g s
/-- CELLWR (R77). -/
def hkCellwr (u : Twin) (t : Wide) (_ : Word) : Hooks := cellWriteHooks u (fun v => .cellwr v) t
/-- CELLWR (R77). -/
def execCellwr (u : Twin) (src : Src) (g : Guard) (s : State) : Out := runScalar (lsuOfTwin u) (hkCellwr u) src g s
/-- CELLR (R77). -/
def hkCellr (u : Twin) (t : Wide) (_ : Word) : Hooks := cellReadHooks u true t
/-- CELLR (R77). -/
def execCellr (u : Twin) (src : Src) (g : Guard) (s : State) : Out := runScalar (lsuOfTwin u) (hkCellr u) src g s
/-- CELLP (R77). -/
def hkCellp (u : Twin) (t : Wide) (_ : Word) : Hooks := cellReadHooks u false t
/-- CELLP (R77). -/
def execCellp (u : Twin) (src : Src) (g : Guard) (s : State) : Out := runScalar (lsuOfTwin u) (hkCellp u) src g s
/-- AADD (R251). -/
def hkAadd (w : AWidth) (u : Twin) (t : Wide) (_ : Word) : Hooks := atomHooks u .add (w == .w64) t
/-- AADD (R251). -/
def execAadd (w : AWidth) (u : Twin) (src : Src) (g : Guard) (s : State) : Out := runScalar (lsuOfTwin u) (hkAadd w u) src g s
/-- AMINS (R251). -/
def hkAminS (w : AWidth) (u : Twin) (t : Wide) (_ : Word) : Hooks := atomHooks u .minS (w == .w64) t
/-- AMINS (R251). -/
def execAminS (w : AWidth) (u : Twin) (src : Src) (g : Guard) (s : State) : Out := runScalar (lsuOfTwin u) (hkAminS w u) src g s
/-- AMINN (R251). -/
def hkAminN (w : AWidth) (u : Twin) (t : Wide) (_ : Word) : Hooks := atomHooks u .minN (w == .w64) t
/-- AMINN (R251). -/
def execAminN (w : AWidth) (u : Twin) (src : Src) (g : Guard) (s : State) : Out := runScalar (lsuOfTwin u) (hkAminN w u) src g s
/-- AMAXS (R251). -/
def hkAmaxS (w : AWidth) (u : Twin) (t : Wide) (_ : Word) : Hooks := atomHooks u .maxS (w == .w64) t
/-- AMAXS (R251). -/
def execAmaxS (w : AWidth) (u : Twin) (src : Src) (g : Guard) (s : State) : Out := runScalar (lsuOfTwin u) (hkAmaxS w u) src g s
/-- AMAXN (R251). -/
def hkAmaxN (w : AWidth) (u : Twin) (t : Wide) (_ : Word) : Hooks := atomHooks u .maxN (w == .w64) t
/-- AMAXN (R251). -/
def execAmaxN (w : AWidth) (u : Twin) (src : Src) (g : Guard) (s : State) : Out := runScalar (lsuOfTwin u) (hkAmaxN w u) src g s
/-- AAND (R251). -/
def hkAand (w : AWidth) (u : Twin) (t : Wide) (_ : Word) : Hooks := atomHooks u .and (w == .w64) t
/-- AAND (R251). -/
def execAand (w : AWidth) (u : Twin) (src : Src) (g : Guard) (s : State) : Out := runScalar (lsuOfTwin u) (hkAand w u) src g s
/-- AOR (R251). -/
def hkAor (w : AWidth) (u : Twin) (t : Wide) (_ : Word) : Hooks := atomHooks u .or (w == .w64) t
/-- AOR (R251). -/
def execAor (w : AWidth) (u : Twin) (src : Src) (g : Guard) (s : State) : Out := runScalar (lsuOfTwin u) (hkAor w u) src g s
/-- AXOR (R251). -/
def hkAxor (w : AWidth) (u : Twin) (t : Wide) (_ : Word) : Hooks := atomHooks u .xor (w == .w64) t
/-- AXOR (R251). -/
def execAxor (w : AWidth) (u : Twin) (src : Src) (g : Guard) (s : State) : Out := runScalar (lsuOfTwin u) (hkAxor w u) src g s
/-- ASWAP (R251). -/
def hkAswap (w : AWidth) (u : Twin) (t : Wide) (_ : Word) : Hooks := atomHooks u .swap (w == .w64) t
/-- ASWAP (R251). -/
def execAswap (w : AWidth) (u : Twin) (src : Src) (g : Guard) (s : State) : Out := runScalar (lsuOfTwin u) (hkAswap w u) src g s
/-- ACAS (R251). -/
def hkAcas (w : AWidth) (u : Twin) (t : Wide) (_ : Word) : Hooks := atomHooks u .cas (w == .w64) t
/-- ACAS (R251). -/
def execAcas (w : AWidth) (u : Twin) (src : Src) (g : Guard) (s : State) : Out := runScalar (lsuOfTwin u) (hkAcas w u) src g s
/-- AFADD (R251). -/
def hkAfadd (u : Twin) (t : Wide) (_ : Word) : Hooks := atomHooks u .fadd false t
/-- AFADD (R251). -/
def execAfadd (u : Twin) (src : Src) (g : Guard) (s : State) : Out := runScalar (lsuOfTwin u) (hkAfadd u) src g s
/-- OSADD_F32 (R253). -/
def hkOsaddF32 (u : Twin) (t : Wide) (_ : Word) : Hooks := osaddHooks u true t
/-- OSADD_F32 (R253). -/
def execOsaddF32 (u : Twin) (src : Src) (g : Guard) (s : State) : Out := runScalar (lsuOfTwin u) (hkOsaddF32 u) src g s
/-- OSADD_S32 (R253). -/
def hkOsaddS32 (u : Twin) (t : Wide) (_ : Word) : Hooks := osaddHooks u false t
/-- OSADD_S32 (R253). -/
def execOsaddS32 (u : Twin) (src : Src) (g : Guard) (s : State) : Out := runScalar (lsuOfTwin u) (hkOsaddS32 u) src g s

end Sys2Proof.Machine
end

