-- ==== Sys2Proof/Machine/Course.lean ====
section
/-! DEFINITION. Messages to the host, and how tasks and courses end: abandoning a tile, leaving groups, retiring, ending by
a fault (R47, R48, R361, R364, R370, R382-R391, R429). -/

namespace Sys2Proof.Machine

/-! ### Messages to the host (R382-R384, R429) -/

/-- The inbox of an endpoint. -/
def State.inboxOf (s : State) (part : BitVec 4) (ep : BitVec 7) : Option Inbox :=
  s.inboxes.find? (fun i => i.part = part && i.ep = ep)

/-- The physical address of a host bus address (R398; log 21). -/
def hostPa (bus : Nat) : Nat := 2 ^ 49 + bus % 2 ^ 49

/-- Word 0 of a message with the phase of its slot: 1 on even passes around the inbox (R429). -/
def phased (w0 : Word) (idx slots : Nat) : Word :=
  if (idx / slots) % 2 = 0 then w0 ||| (1#64 <<< 55) else w0 &&& ~~~ (1#64 <<< 55)

/-- The bytes of eight words (R5). -/
def wordsBytes (ws : List Word) : List Byte := ws.flatMap (fun w => bytesOf w.toNat 8)

/-- The words of a message in its slot. -/
def slotWords (w : List Word) (idx slots : Nat) : List Word :=
  match w with
  | [] => []
  | w0 :: rest => phased w0 idx slots :: rest

/-- The first held message of an endpoint written into its inbox, where a slot is free (R429). -/
def State.flushOne (s : State) (part : BitVec 4) (ep : BitVec 7) : State :=
  match s.inboxOf part ep, s.outbox.find? (fun m => m.part = part && m.ep = ep) with
  | some i, some m =>
    if i.slots ≤ (i.idx + 2 ^ 32 - i.cons) % 2 ^ 32 then s
    else
      let s := s.memWrite (hostPa (i.base + 64 * (i.idx % i.slots))) (wordsBytes (slotWords m.w i.idx i.slots))
      let bump (x : Inbox) : Inbox := if x.part = part && x.ep = ep then { x with idx := (x.idx + 1) % 2 ^ 32, raised := x.raised + 1 } else x
      { s with outbox := s.outbox.erase m, inboxes := s.inboxes.map bump }
  | _, _ => s

/-- The held messages of an endpoint written as far as its slots go. -/
def State.flushInbox (s : State) (part : BitVec 4) (ep : BitVec 7) : Nat → State
  | 0 => s
  | n + 1 => (s.flushOne part ep).flushInbox part ep n

/-- A message of an endpoint to the host (R383, R429). -/
def State.post (s : State) (part : BitVec 4) (ep : BitVec 7) (ws : List Word) : State :=
  let m : OutMsg := { part := part, ep := ep, w := ws }
  let s := { s with outbox := s.outbox ++ [m] }
  s.flushInbox part ep s.outbox.length

/-- The header of a message (R382). -/
def header (ty : BitVec 8) (ctx : BitVec 16) (tag : BitVec 32) : Word := ty ++ (0 : BitVec 8) ++ ctx ++ tag

/-- The word that names a course: queue and serial (R383). -/
def courseWord (q : BitVec 4) (serial : Nat) : Word := BitVec.ofNat 64 (q.toNat * 2 ^ 48 + serial % 2 ^ 48)

/-- A FAULT message (R383, R364). -/
def State.faultMessage (s : State) (c : Ctx) (q : BitVec 4) (serial : Nat) (info : List Word) : State :=
  s.post c.part 0 ([header 0x42 c.id 0, courseWord q serial] ++ info)

/-- tcause as a word (R361). -/
def Tile.tcause (t : Tile) : Word :=
  (0 : BitVec 48) ++ BitVec.ofBool t.tv ++ BitVec.ofBool t.inh ++ BitVec.ofBool t.nest ++ BitVec.ofBool t.priv ++ (0 : BitVec 4) ++ t.code

/-- What a FAULT reports of a tile: tcause, tepc, tinfo0-tinfo3 (R364). -/
def Tile.report (t : Tile) : List Word := [t.tcause, t.tepc, t.tinfo.get 0, t.tinfo.get 1, t.tinfo.get 2, t.tinfo.get 3]

/-- What a FAULT reports that no tile cause produced (R383). -/
def faultInfo (code : BitVec 8) : List Word := [code.zeroExtend 64, 0, 0, 0, 0, 0]

/-! ### Queues and courses -/

/-- A queue changed. -/
def Ctx.modQueue (c : Ctx) (q : BitVec 4) (f : Queue → Queue) : Ctx := { c with queues := c.queues.modify q.toNat f }

/-- A queue of a context. -/
def Ctx.queue? (c : Ctx) (q : BitVec 4) : Option Queue := c.queues[q.toNat]?

/-- A course of a queue. -/
def Ctx.course? (c : Ctx) (q : BitVec 4) (serial : Nat) : Option Course :=
  match c.queue? q with
  | none => none
  | some x => x.courses.find? (fun y => y.serial = serial)

/-- A course changed. -/
def Ctx.modCourse (c : Ctx) (q : BitVec 4) (serial : Nat) (f : Course → Course) : Ctx :=
  c.modQueue q (fun x => { x with courses := x.courses.map (fun y => if y.serial = serial then f y else y) })

/-- Is a tile running a task of a course? -/
def Tile.ofCourse (t : Tile) (q : BitVec 4) (serial : Nat) : Bool :=
  match t.task with
  | some k => k.q = q && k.course = serial
  | none => false

/-! ### The end of a task -/

/-- The sequencer of a tile whose task has ended (R230, R234). -/
def Seq.idle (q : Seq) : Seq :=
  { Seq.reset with pc := q.pc, here := q.here, slot := q.slot, hdr := q.hdr }

/-- No translation is pending on a handle register. -/
def Handle.settled (h : Handle) : Handle := { h with pend := false }

/-- ABANDON's effect on a tile: the region's gated stores and every result in flight are discarded, the task ends, the tile
is idle (R370). -/
def Tile.abandon (t : Tile) : Tile :=
  let c := { t.core with flight := [], xlats := [], gloads := [], cellRds := [], rlds := [], spin := none, recIdx := 0,
                         h := t.core.h.map Handle.settled, seq := t.core.seq.idle }
  ({ t with core := c, mark := c, gated := [], wrote := [], refused := [], stores := 0, task := none, frozen := false, tv := false, inh := false,
            frame := none, heldCauses := [], posts := [], trace := [], towN := 0, ahead := 0, snap := [], priv := false, user := none, under := none, out := false } : Tile).settleOwed

/-- An arrival of a tile. -/
def Arrival.from (a : Arrival) (k : TileKey) : Bool := a.die = k.die && a.tid = k.tid

/-- A task of a tile ends: what follows its course follows its accesses, those that are still in progress too (R106). -/
def State.closeTask (s : State) (k : TileKey) : State :=
  match (s.tileAt k).task with
  | none => s
  | some x =>
    let s := s.modTileAt k (fun t => t.bumpAll k)
    let t := s.tileAt k
    s.modCtx k.ctx (fun c => c.modCourse x.q x.course (fun y =>
      { y with out := vcJoin y.out t.vcTotal, tails := assocSet y.tails k t.nextId }))

/-- A tile abandoned: it holds no cell and has arrived nowhere (R78, R370). -/
def State.abandonAt (s : State) (k : TileKey) : State :=
  let s := s.closeTask k
  let s := s.mapTiles (fun j t => if j.ctx = k.ctx && j.die = k.die then t.unhold k else t)
  let s := s.modTileAt k Tile.abandon
  let s := { s with turn := s.turn.filter (· ≠ k) }
  s.modCtx k.ctx (fun c => { c with arrivals := c.arrivals.filter (fun a => !a.from k) })

/-! ### The end of a course -/

/-- A member leaves a group; its generation rises (R48). -/
def Group.remove (g : Group) (tid : BitVec 6) : Group :=
  if tid ∈ g.members then { g with members := g.members.filter (· ≠ tid), gen := g.gen + 1, by_ := g.by_.filter (fun x => x.1 ≠ tid) } else g

/-- Every membership that the tasks of a queue's course made is removed (R48). -/
def Group.removeCourse (g : Group) (q : BitVec 4) : Group :=
  ((g.by_.filter (fun x => x.2 = q)).map (·.1)).foldl Group.remove g

/-- The station of a tile off its orbit: banks 18-21 are ordinary again (R161, R173). -/
def Tile.detach (t : Tile) : Tile := { t with station := Station.reset, conjQ := [] }

/-- The orbits of a course end with it (R176, R421). -/
def State.dropOrbits (s : State) (c : CtxId) (q : BitVec 4) (serial : Nat) : State :=
  let gone := (s.ctxAt c).orbits.filter (fun o => o.q = q && o.course = serial)
  let s := s.mapTiles (fun k t => if k.ctx = c && gone.any (fun o => o.cl = keyCluster k) then t.detach else t)
  s.modCtx c (fun x => { x with orbits := x.orbits.filter (fun o => !(o.q = q && o.course = serial)) })

/-- Those of some tiles that still have accesses in progress, of whatever path, below an operation index: transfers, copies, lines, matrix
work, reads (R106). -/
def State.unfinished (s : State) (l : List (TileKey × Nat)) : List (TileKey × Nat) := l.filter (fun x => s.inProgress x.1 0x3F x.2)

/-- What every way out of a course has in common: it leaves its queue and counts as retired, its memberships end, its
tiles' lock lists empty (on every tile of the context, whatever other course runs there: log 74), and what follows it happens after
its accesses (R47, R48, R86, R106, R391). -/
def State.leaveQueue (s : State) (c : CtxId) (q : BitVec 4) (x : Course) : State :=
  let s := s.mapTiles (fun k t => if k.ctx = c then { t with locks := [] } else t)
  s.modCtx c (fun c =>
    let c := c.modQueue q (fun u => { u with courses := u.courses.filter (fun y => y.serial ≠ x.serial), lastRet := some x.serial,
                                             hb := vcJoin u.hb x.out, tails := u.tails ++ s.unfinished x.tails })
    { c with groups := c.groups.map (fun g => g.removeCourse q),
             ordinals := c.ordinals,
             transit := c.transit.filter (fun u => !(u.q = q && u.course = x.serial)) })

/-- The tiles that run a task of a course. -/
def State.courseTiles (s : State) (c : CtxId) (q : BitVec 4) (serial : Nat) : List TileKey :=
  (s.tiles.filter (fun x => x.1.ctx = c && x.2.ofCourse q serial)).map (·.1)

/-- The lodge ends a running course on every die, halts its queue and reports to the host (R364, R391). Its updates are
discarded (R117). -/
def State.endCourse (s : State) (c : CtxId) (q : BitVec 4) (serial : Nat) (info : List Word) : State :=
  match (s.ctxAt c).course? q serial with
  | none => s
  | some x =>
    let s := (s.courseTiles c q serial).foldl State.abandonAt s
    let s := s.dropOrbits c q serial
    let s := s.leaveQueue c q (((s.ctxAt c).course? q serial).getD x)
    let s := s.modCtx c (fun y => y.modQueue q (fun u => { u with halted := true }))
    s.faultMessage (s.ctxAt c) q serial info

/-- Every update of a context's courses that the memory side holds or has spilled. -/
def Ctx.updates (c : Ctx) : List OsUpd := c.queues.flatMap (fun q => q.courses.flatMap (fun x => x.updates))

/-- The bytes of the spill area in use: 32 for each spilled update (R116). -/
def Ctx.spillUsed (c : Ctx) : Nat := 32 * (c.updates.filter (fun u => u.spilled)).length

/-- "ordered add spill exhausted": the course ends (R116). -/
def State.spillExhausted (s : State) (c : CtxId) (q : BitVec 4) (serial : Nat) : State := s.endCourse c q serial (faultInfo 0x40)

/-- COURSE_END_BY_FAULT: the patrol core reports the tile's cause, and the lodge ends the course that the tile runs (R364,
R416). -/
def execCourseEndByFault (s : State) : Out :=
  let t := s.tile
  if !(t.frozen && t.tv) then .next s
  else match t.task with
    | none => .next (s.abandonAt s.cur)
    | some k => .next (s.endCourse s.cur.ctx k.q k.course t.report)

end Sys2Proof.Machine
end

