-- ==== Sys2Proof/Machine/Translate.lean ====
section
/-! DEFINITION. Translation: tables, walks, the dies' caches, handle grants, and the operations of xlt (R80-R84, R240-R242,
R398-R409). -/

namespace Sys2Proof.Machine

/-! ### Physical addresses and tables (R398-R402) -/

/-- Is a physical address populated (R398)? -/
def populated (pa : Nat) : Bool := (pa < 2 ^ 42 && pa % 2 ^ 36 < 0x900000000) || (2 ^ 49 ≤ pa && pa < 2 ^ 50)

/-- The home dies (R400). -/
def homeDies : List Nat := [27, 28, 35, 36]

/-- The partition of a die: none for a home die, and for a die in no partition (R431; log 4). -/
def State.partOf (s : State) (d : DieId) : Option (BitVec 4) := if d.toNat ∈ homeDies then none else assocGet s.parts d

/-- A table may stand in a frame: one of the home dies (R400, R402). -/
def tableFrameOk (pa : Nat) : Bool := populated pa && !isHost pa && (pa / 2 ^ 36) ∈ homeDies

/-- A leaf may map a frame: aligned, and within one die's populated range or the host range; a 64 GiB leaf only host memory
(R402). -/
def leafFrameOk (pa : Nat) (sz : BitVec 2) : Bool :=
  pa % pageSize sz = 0 && populated pa && populated (pa + pageSize sz - 1) && (isHost pa || (sz.toNat ≤ 1))

/-- The bits of an entry that are reserved (R401). -/
def entryReserved : Nat := 0xCFFC000000003F8C

/-- The leaf that an entry holds, for a virtual address (R401). -/
def leafOf (asid : BitVec 16) (va : BitVec 56) (sz : BitVec 2) (e : Nat) : Leaf :=
  { asid := asid, va := BitVec.ofNat 56 (va.toNat / pageSize sz * pageSize sz), sz := sz, frame := bitsOf e 14 36 * 2 ^ 14,
    r := e.testBit 4, w := e.testBit 5, x := e.testBit 6, dup := e.testBit 61, mig := e.testBit 60 }

/-- How a walk ends: at a valid leaf, with the address of its entry, at an entry with V = 0, or malformed (R402). -/
inductive Walk where
  | leaf (l : Leaf) (at_ : Nat)
  | absent
  | malformed
  deriving DecidableEq, Repr

/-- The index of a level (R399). -/
def tableIndex (va : BitVec 56) (level : Nat) : Nat :=
  match level with
  | 3 => bitsOf va.toNat 47 9
  | 2 => bitsOf va.toNat 36 11
  | 1 => bitsOf va.toNat 25 11
  | _ => bitsOf va.toNat 14 11

/-- The walk below a table: `n` is its level plus one (R402). -/
def walkTables (mem : List Host.Cell) (asid : BitVec 16) (va : BitVec 56) : Nat → Nat → Walk
  | 0, _ => .malformed
  | n + 1, table =>
    let pa := table + 8 * tableIndex va n
    let e := ofBytes (cellsRead mem pa 8)
    if !e.testBit 0 then .absent
    else if Nat.land e entryReserved ≠ 0 then .malformed
    else if e.testBit 1 then
      (if 3 ≤ n || !leafFrameOk (bitsOf e 14 36 * 2 ^ 14) (BitVec.ofNat 2 n) then .malformed
       else .leaf (leafOf asid va (BitVec.ofNat 2 n) e) pa)
    else if n = 0 || !tableFrameOk (bitsOf e 14 36 * 2 ^ 14) then .malformed
    else walkTables mem asid va n (bitsOf e 14 36 * 2 ^ 14)

/-- A walk from the root table of an address space (R399, R400). -/
def State.walk (s : State) (asid : BitVec 16) (va : BitVec 56) : Walk :=
  match s.asids.find? (fun a => a.asid = asid) with
  | none => .malformed
  | some a => walkTables s.mem asid va 4 a.root

/-- What a request needs of a leaf (R403). -/
inductive Need where
  | read | write | fetch
  deriving DecidableEq, Repr

/-- Does a leaf give the right (R403)? -/
def Leaf.gives (l : Leaf) : Need → Bool
  | .read => l.r
  | .write => l.w
  | .fetch => l.x

/-- Does a leaf map an address? -/
def Leaf.maps (l : Leaf) (asid : BitVec 16) (va : BitVec 56) : Bool :=
  l.asid = asid && l.va.toNat ≤ va.toNat && va.toNat < l.va.toNat + pageSize l.sz

/-- A hit of a die's translation cache with the needed right (R404). -/
def State.tlbHit (s : State) (d : DieId) (asid : BitVec 16) (va : BitVec 56) (need : Need) : Option Leaf :=
  match (s.dieAt d).tlb.find? (fun l => l.maps asid va) with
  | some l => if l.gives need then some l else none
  | none => none

/-- The leaf of a page, with the address of its entry. -/
def State.pageLeaf (s : State) (pg : PageRef) : Option (Leaf × Nat) :=
  match s.walk pg.asid pg.va with
  | .leaf l a => some (l, a)
  | _ => none

/-- The level at which a walk reads its entry at an address; none where it does not (R402). -/
def entryLevel (mem : List Host.Cell) (va : BitVec 56) (at_ : Nat) : Nat → Nat → Option Nat
  | 0, _ => none
  | n + 1, table =>
    let pa := table + 8 * tableIndex va n
    let e := ofBytes (cellsRead mem pa 8)
    if pa = at_ then some n
    else if !e.testBit 0 || e.testBit 1 || !tableFrameOk (bitsOf e 14 36 * 2 ^ 14) then none
    else entryLevel mem va at_ n (bitsOf e 14 36 * 2 ^ 14)

/-- The walk of an address reads its entry at a place (R402). -/
def State.readsEntry (s : State) (asid : BitVec 16) (va : BitVec 56) (at_ : Nat) : Bool :=
  s.asids.any (fun a => a.asid = asid && (entryLevel s.mem va at_ 4 a.root).isSome)

/-- Is a page request about the page of an address: the page that its leaf maps or mapped, or a 16 KiB page where none does; of a
change of an entry, every page whose walk reads that entry (R413)? -/
def State.concerns (s : State) (r : PageReq) (asid : BitVec 16) (va : BitVec 56) : Bool :=
  match r.work with
  | .change at_ _ => s.readsEntry asid va at_
  | _ => r.pg.asid = asid &&
    match r.old, s.pageLeaf r.pg with
    | some x, _ => r.pg.va.toNat / pageSize x.2 = va.toNat / pageSize x.2
    | none, some (l, _) => l.maps asid va
    | none, none => r.pg.va.toNat / 2 ^ 14 = va.toNat / 2 ^ 14

/-- The first of the requests that concern the page of an address (R413). -/
def State.pageFirst (s : State) (asid : BitVec 16) (va : BitVec 56) : Option PageReq := s.pageReqs.find? (fun r => s.concerns r asid va)

/-- A leaf entered in a die's cache; none that moves or is duplicated is, and none of a page that the lodge revokes (R404, R407). Which
translation makes room is open: the oldest does. -/
def State.tlbFill (s : State) (d : DieId) (l : Leaf) : State :=
  if l.mig || l.dup || s.pageReqs.any (fun r => r.begun && s.concerns r l.asid l.va &&
      match r.work with | .serve _ _ => false | _ => true) then s
  else s.modDie d (fun x => { x with tlb := (l :: x.tlb.filter (fun y => !y.maps l.asid l.va)).take 4096 })

/-! ### Handles and grants (R80, R405) -/

/-- The descriptor of a handle (R80). -/
def Handle.word (h : Handle) : Word :=
  (BitVec.ofBool h.v ++ BitVec.ofBool h.w ++ h.sz ++ h.ldie ++ BitVec.ofBool h.dup ++ BitVec.ofBool h.t ++ (0 : BitVec 10) ++ h.vpn : BitVec 64)

/-- The handle of a descriptor, with the frame that stands behind it. -/
def Handle.ofWord (w : Word) (frame : Nat) : Handle :=
  { v := w.getLsbD 63, w := w.getLsbD 62, sz := w.extractLsb' 60 2, ldie := w.extractLsb' 54 6, dup := w.getLsbD 53,
    t := w.getLsbD 52, vpn := w.extractLsb' 0 42, frame := frame, pend := false }

/-- The virtual address that a handle was made from, at 16 KiB (R80). -/
def Handle.va (h : Handle) : BitVec 56 := h.vpn ++ (0 : BitVec 14)

/-- The copy of a duplicated page that a die is granted: its own, or the home frame (R411). -/
def State.copyFor (s : State) (d : DieId) (l : Leaf) : Nat :=
  if !l.dup then l.frame
  else match s.dups.find? (fun x => l.maps x.pg.asid x.pg.va && x.frame = l.frame) with
    | none => l.frame
    | some x => match x.copies.find? (fun c => c.1 = d) with
      | some c => c.2
      | none => l.frame

/-- The logical die that holds a frame: 0x3F for host memory and dies outside the allotment (R405). -/
def Ctx.ldieOf (c : Ctx) (pa : Nat) : BitVec 6 :=
  if isHost pa || !c.dies.getLsbD (pa / 2 ^ 36) then 0x3F else BitVec.ofNat 6 (c.logical (dieOfPa pa))

/-- The handle that a grant writes; `small` keeps a 16 KiB granule within the leaf (R405, R408). -/
def State.granted (s : State) (k : TileKey) (l : Leaf) (write small : Bool) (va : BitVec 56) : Handle :=
  let home := s.copyFor k.die l
  { v := true, w := write, sz := if small then 0 else l.sz, ldie := (s.ctxAt k.ctx).ldieOf home, dup := l.dup, t := true,
    vpn := va.extractLsb' 14 42,
    frame := if small then home + (va.toNat - l.va.toNat) / 2 ^ 14 * 2 ^ 14 else home, pend := false }

/-- The handle that a translation writes without a grant (R240). -/
def ungranted (write : Bool) (va : BitVec 56) : Handle :=
  { Handle.reset with w := write, t := true, vpn := va.extractLsb' 14 42 }

/-- The memory mask takes in the die of a frame (R11, R405). -/
def State.touchMem (s : State) (c : CtxId) (pa : Nat) : State :=
  if isHost pa then s else s.modCtx c (fun x => { x with mmask := x.mmask ||| (1 <<< (pa / 2 ^ 36)) })

/-- The contexts of an address space count a frame's die in their memory masks (R11). -/
def State.touchSpace (s : State) (asid : BitVec 16) (pa : Nat) : State :=
  if isHost pa then s else s.mapCtxs (fun c => if c.asid = asid then { c with mmask := c.mmask ||| (1 <<< (pa / 2 ^ 36)) } else c)

/-- The handle address word of an address (R240). -/
def handleAddr (n : BitVec 4) (h : Handle) (va : BitVec 56) : Word :=
  BitVec.ofNat 64 (8 * 2 ^ 60 + n.toNat * 2 ^ 56 + va.toNat % pageSize (if h.v then h.sz else 0))

/-! ### The operations of xlt (R240-R242) -/

/-- Operations that write the handle register they name (R240, R241). -/
def XltOp.writes (op : XltOp) : Bool := op = .read || op = .write || op = .release

/-- A register written by an operation of xlt; it stays pending while a later one will write it (R81, R242). -/
def TileCore.endXlat (c : TileCore) (id : Nat) (n : BitVec 4) (h : Handle) : TileCore :=
  if c.xlats.any (fun r => r.id = id) then
    let rest := c.xlats.filter (fun r => r.id ≠ id)
    { c.setH n { h with pend := rest.any (fun r => r.h = n && r.op.writes) } with xlats := rest }
  else c

/-- An operation of xlt leaves the unit and changes no register. -/
def TileCore.dropXlat (c : TileCore) (id : Nat) : TileCore := { c with xlats := c.xlats.filter (fun r => r.id ≠ id) }

/-- An operation of xlt writes its register (R240, R241); it is written since the mark where the operation came after it (R58, R416). -/
def State.writeH (s : State) (k : TileKey) (r : XlatReq) (h : Handle) : State :=
  s.modTileAt k (fun t =>
    { t.mapBoth (fun c => c.endXlat r.id r.h h) with
      wrote := if t.core.xlats.any (fun x => x.id = r.id) then ((3, r.h.toNat) :: t.wrote).eraseDups else t.wrote })

/-- A translation completes: the register and the two results (R240). -/
def State.finishXlat (s : State) (k : TileKey) (r : XlatReq) (h : Handle) (bound : Option Nat) : State :=
  let d := Config.freeDelay s.free
  let due := s.clock + (match bound with | none => d | some b => d % (b + 1))
  let s := { s with free := s.free + 1 }
  let s := s.writeH k r h
  s.fillAt k r.id due [(.q, wideOfWord (handleAddr r.h h r.va)), (.qp, if h.v then 1 else 0)]

/-- A one-register operation of xlt delivers its result: within the 48 cycles of a hit, which a translation behind it must keep
(R81, R241, R242; DEDUCED, log 73). -/
def State.answerXlt (s : State) (k : TileKey) (id : Nat) (v : Word) : State :=
  let due := s.clock + Config.freeDelay s.free % 49
  let s := { s with free := s.free + 1 }
  (s.modTileAt k (fun t => t.mapBoth (fun c => c.dropXlat id))).fillAt k id due [(.q, wideOfWord v)]

/-- The virtual address of a handle's page (R241). -/
def Handle.base (h : Handle) : Word := BitVec.ofNat 64 (h.va.toNat / pageSize h.sz * pageSize h.sz)

/-- One operation of xlt whose turn has come: a hit of the die's cache answers a translation at once, a miss hands it to a
walker (R241, R404). -/
def State.stepXlt (s : State) (k : TileKey) (r : XlatReq) : State :=
  let h := (s.tileAt k).core.h.get r.h.toFin
  match r.op with
  | .release => s.writeH k r Handle.reset
  | .query => s.answerXlt k r.id h.word
  | .base => s.answerXlt k r.id h.base
  | op =>
    let write := op = .write
    match s.tlbHit k.die (s.ctxAt k.ctx).asid r.va (if write then .write else .read) with
    | some l =>
      let h := s.granted k l write false r.va
      (s.touchMem k.ctx h.frame).finishXlat k r h (some 48)
    | none =>
      (s.modTileAt k (fun t => t.mapBoth (fun c =>
        { c with xlats := c.xlats.map (fun x => if x.id = r.id then { x with walk := true } else x) }))).askWalk k .pageTableWalk

/-- The unit takes its operations in trigger order, as far as no translation is waited for (R242). -/
def State.runXlt (s : State) (k : TileKey) : Nat → State
  | 0 => s
  | n + 1 => match (s.tileAt k).core.xlats with
    | [] => s
    | r :: _ => if r.walk then s else (s.stepXlt k r).runXlt k n

/-- An operation of xlt triggered (R240-R242). -/
def State.askXlt (s : State) (op : XltOp) (n : BitVec 4) (va : BitVec 56) : State :=
  let r : XlatReq := { id := s.nextOp, op := op, h := n, va := va, walk := false, got := none }
  let busy := s.tile.core.xlats ≠ []
  let ports : List RPort := match op with
    | .read => [.q, .qp]
    | .write => [.q, .qp]
    | .release => []
    | _ => [.q]
  let s := s.pend .xlt ports
  let s := s.modTile (fun t => t.mapCore (fun c =>
    let h := c.h.get n.toFin
    let c := if op.writes then c.setH n { h with pend := true } else c
    { c with xlats := c.xlats ++ [r] }))
  if busy then s else s.runXlt s.cur 1

/-- XLAT and XLATW (R240). -/
def xlatHooks (op : XltOp) (t : Wide) : Hooks :=
  .checked
    (fun s => if bitsOf (lowWord (s.opA .xlt)).toNat 4 60 ≠ 0 || bitsOf (lowWord t).toNat 56 8 ≠ 0 then some (s.illegalOperand .xlt t) else none)
    (fun s => s.askXlt op ((s.opA .xlt).extractLsb' 0 4) (t.extractLsb' 0 56))

/-- HREL, HQRY and HBASE (R241). -/
def handleHooks (op : XltOp) (t : Wide) : Hooks :=
  .checked (fun s => if bitsOf (lowWord t).toNat 4 60 ≠ 0 then some (s.illegalOperand .xlt t) else none)
    (fun s => s.askXlt op (t.extractLsb' 0 4) 0)

/-- XLAT (R240). -/
def hkXlat (t : Wide) (_ : Word) : Hooks := xlatHooks .read t
/-- XLAT (R240). -/
def execXlat (src : Src) (g : Guard) (s : State) : Out := runScalar .xlt hkXlat src g s
/-- XLATW (R240). -/
def hkXlatw (t : Wide) (_ : Word) : Hooks := xlatHooks .write t
/-- XLATW (R240). -/
def execXlatw (src : Src) (g : Guard) (s : State) : Out := runScalar .xlt hkXlatw src g s
/-- HREL (R241). -/
def hkHrel (t : Wide) (_ : Word) : Hooks := handleHooks .release t
/-- HREL (R241). -/
def execHrel (src : Src) (g : Guard) (s : State) : Out := runScalar .xlt hkHrel src g s
/-- HQRY (R241). -/
def hkHqry (t : Wide) (_ : Word) : Hooks := handleHooks .query t
/-- HQRY (R241). -/
def execHqry (src : Src) (g : Guard) (s : State) : Out := runScalar .xlt hkHqry src g s
/-- HBASE (R241). -/
def hkHbase (t : Wide) (_ : Word) : Hooks := handleHooks .base t
/-- HBASE (R241). -/
def execHbase (src : Src) (g : Guard) (s : State) : Out := runScalar .xlt hkHbase src g s

/-! ### The lodge's page work (R405-R413) -/

/-- The entry of a leaf written by the monitor with other bits (R401). -/
def State.writeEntry (s : State) (at_ : Nat) (f : Nat → Nat) : State :=
  s.memWrite at_ (bytesOf (f (s.memRead at_ 8) % 2 ^ 64) 8)

/-- A bit of a number set or cleared. -/
def setBit (x i : Nat) (b : Bool) : Nat := if x.testBit i = b then x else if b then x + 2 ^ i else x - 2 ^ i

/-- A page's translation leaves the cache of every die (R407). -/
def State.tlbDrop (s : State) (pg : PageRef) : State :=
  { s with dies := s.dies.map (fun x => (x.1, { x.2 with tlb := x.2.tlb.filter (fun l => !l.maps pg.asid pg.va) })) }

/-- Do two ranges of addresses meet? -/
def meets (a n b m : Nat) : Bool := a < b + m && b < a + n

/-- Does a handle name a page of a given size (R406)? -/
def Handle.ofPage (h : Handle) (va : BitVec 56) (sz : BitVec 2) : Bool :=
  h.v && meets h.base.toNat (pageSize h.sz) (va.toNat / pageSize sz * pageSize sz) (pageSize sz)

/-- Which handles of a page a piece of work revokes (R406, R410-R412). -/
def PageWork.takes (w : PageWork) (h : Handle) : Bool :=
  match w with
  | .revoke => true
  | .migrate _ => true
  | .duplicate _ => h.w
  | .endDup => h.dup
  | .change _ _ => false
  | .serve _ _ => false

/-- A handle loses V (R406). -/
def Handle.revoked (h : Handle) : Handle := { h with v := false }

/-- A granted handle that its tile has not taken yet is revoked with those of the registers (R405, R406). -/
def XlatReq.revoke (r : XlatReq) (p : Handle → Bool) : XlatReq := { r with got := r.got.map (fun h => if p h then h.revoked else h) }

/-- A waiting WAITB whose flag was checked through a handle that is revoked no longer holds (R189). -/
def WaitB.revokeBy (w : WaitB) (p : Handle → Bool) : WaitB :=
  match w.hd with
  | some h => if p h then { w with revoked := true } else w
  | none => w

/-- The wait of a sequencer whose flag was checked through a handle that is revoked no longer holds (R189). -/
def Seq.revoke (q : Seq) (p : Handle → Bool) : Seq := { q with waitb := q.waitb.map (fun w => w.revokeBy p) }

/-- The handles of a tile revoked, in its registers and in the copy at its mark (R406). -/
def TileCore.revoke (c : TileCore) (p : Handle → Bool) : TileCore :=
  { c with h := Vector.ofFn (fun i : Fin 16 => if p (c.h.get i) then (c.h.get i).revoked else c.h.get i), seq := c.seq.revoke p,
           xlats := c.xlats.map (fun r => r.revoke p) }

/-- The handles of a tile revoked, and the waits of the sequencers that it keeps beside its own (R189, R406). -/
def Tile.revoke (t : Tile) (p : Handle → Bool) : Tile := (t.mapBoth (fun c => c.revoke p)).mapSide (fun q => q.revoke p)

/-- The handles of a saved block revoked (R406). -/
def SavedBlock.revoke (b : SavedBlock) (p : Handle → Bool) : SavedBlock := { b with core := b.core.revoke p, mark := b.mark.revoke p }

/-- The handles of a tile's save area revoked (R406). -/
def State.revokeSaved (s : State) (base : Nat) (p : Handle → Bool) : State :=
  (List.range 16).foldl (fun s i =>
    let a := base + 0x1300 + 8 * i
    let w := s.memRead a 8
    if p (Handle.ofWord (BitVec.ofNat 64 w) 0) then s.memWrite a (bytesOf (setBit w 63 false) 8) else s) s

/-- The dies that hold a handle of a page (R406). -/
def State.diesHolding (s : State) (asid : BitVec 16) (p : Handle → Bool) : List DieId :=
  (s.tiles.filterMap (fun x =>
    if (s.ctxAt x.1.ctx).asid = asid && ((List.range 16).any (fun i => p (x.2.core.h.get (Fin.ofNat 16 i)) || p (x.2.mark.h.get (Fin.ofNat 16 i))) ||
        x.2.core.xlats.any (fun r => r.got.any p)) then some x.1.die else none)).eraseDups

/-- The frame and the size of the page that a request is about (R406, R407). -/
def State.frameOf (s : State) (r : PageReq) : Option (Nat × BitVec 2) :=
  match r.old with
  | some x => some x
  | none => (s.pageLeaf r.pg).map (fun x => (x.1.frame, x.1.sz))

/-- The frames of the page that a request is about: its own, and those of its copies (R406, R411). -/
def State.framesOf (s : State) (r : PageReq) : List (Nat × BitVec 2) :=
  match s.frameOf r with
  | none => []
  | some (f, sz) => (f, sz) :: ((s.dups.filter (fun d => d.frame = f)).flatMap (fun d => d.copies.map (fun c => (c.2, sz))))

/-- The leaf of a page that starts to move says so (R410). -/
def State.markMoving (s : State) (r : PageReq) : State :=
  match r.work, s.pageLeaf r.pg with
  | .migrate _, some (_, at_) => s.writeEntry at_ (fun e => setBit e 60 true)
  | _, _ => s

/-- A page request begins: the page leaves every cache and its handles lose V; the dies that held one will acknowledge
(R406, R407, R410). -/
def State.beginPage (s : State) (r : PageReq) : State :=
  match s.frameOf r with
  | none => { s with pageReqs := s.pageReqs.map (fun x => if x = r then { x with begun := true } else x) }
  | some (_, sz) =>
    let p (h : Handle) : Bool := h.ofPage r.pg.va sz && r.work.takes h
    let ds := s.diesHolding r.pg.asid p
    let s := (s.markMoving r).tlbDrop r.pg
    let bases := (s.tiles.filter (fun x => (s.ctxAt x.1.ctx).asid = r.pg.asid && x.2.savebase ≠ 0)).map (fun x => x.2.savebase.toNat)
    let s := s.mapTiles (fun k t => if (s.ctxAt k.ctx).asid = r.pg.asid then t.revoke p else t)
    let s := { s with
      saved := s.saved.map (fun (b : SavedBlock) => if b.pa ∈ bases then b.revoke p else b)
      copies := s.copies.map (fun (b : BlockCopy) =>
        if (s.ctxAt b.at_.ctx).asid = r.pg.asid then { b with block := b.block.revoke p } else b) }
    let s := bases.foldl (fun s a => s.revokeSaved a p) s
    let s := { s with pageReqs := s.pageReqs.map (fun x => if x = r then { x with begun := true, waiting := ds } else x) }
    ds.foldl (fun s d => s.addLater s.cur (.revocationAck d r.pg)) s

/-- The step that ends a piece of page work. -/
def PageWork.last : PageWork → Instr
  | .revoke => .revokeHandles
  | .migrate _ => .migratePage
  | .duplicate _ => .duplicatePage
  | .endDup => .duplicationEnd
  | .change _ _ => .revokeHandles
  | .serve _ i => i

/-- A request is about a page of a change that came after it; the monitor's changes are made in their order (R413). -/
def State.precedes (s : State) (x r : PageReq) : Bool :=
  match x.work with
  | .change _ _ => true
  | _ => s.concerns r x.pg.asid x.pg.va

/-- A request is the first of its page; a change of an entry, of every page that it is about (R413). -/
def State.firstOfPage (s : State) (r : PageReq) : Bool :=
  match r.work with
  | .change _ _ => !(s.pageReqs.takeWhile (fun x => x ≠ r)).any (fun x => s.precedes x r)
  | _ => s.pageFirst r.pg.asid r.pg.va = some r

/-- The request of some kind, first of its page, that has something to do: the oldest that every die has acknowledged, or else the oldest
that has not begun (R413). -/
def State.pageWork (s : State) (kind : PageWork → Bool) : Option PageReq :=
  s.pageReqs.find? (fun r => kind r.work && s.firstOfPage r && r.begun && r.waiting = []) <|>
  s.pageReqs.find? (fun r => kind r.work && s.firstOfPage r && !r.begun)

/-- A request leaves the list. -/
def State.endPage (s : State) (r : PageReq) : State := { s with pageReqs := s.pageReqs.erase r }

/-- A die may take a page of an address space: it belongs to the partition, and its stack is in service (R423, R431). -/
def State.dieTakes (s : State) (asid : BitVec 16) (d : DieId) : Bool :=
  (s.dieAt d).ms && s.asids.any (fun a => a.asid = asid && s.partOf d = some a.part)

/-- A frame is that of a proxy page (R433). -/
def State.isProxy (s : State) (f : Nat) : Bool := s.pairings.any (fun p => p.frame = f)

/-- The dies that a duplication gives a copy, at most seven (R411). -/
def dupDies (dies : Word) (home : Nat) : List Nat := ((List.range 64).filter (fun i => dies.getLsbD i && i ≠ home / 2 ^ 36)).take 7

/-- May a request be done: no page of 64 GiB, of host memory or of a pairing moves, none of the latter two is duplicated, and only a
die of the partition takes a page (R410, R411, R433, R436; log 16). -/
def State.workOk (s : State) (r : PageReq) : Bool :=
  match r.work, s.pageLeaf r.pg with
  | .migrate dst, some (l, _) => l.sz ≠ 2 && !isHost l.frame && !s.isProxy l.frame && s.dieTakes r.pg.asid dst
  | .duplicate dies, some (l, _) => !l.dup && !isHost l.frame && !s.isProxy l.frame &&
      (dupDies dies l.frame).all (fun d => s.dieTakes r.pg.asid (BitVec.ofNat 6 d))
  | .endDup, some _ => true
  | .migrate _, none => false
  | .duplicate _, none => false
  | .endDup, none => false
  | .revoke, _ => true
  | .change _ _, _ => true
  | .serve _ _, _ => true

/-- May a request begin while its page moves: not a duplication, and no request of a tile is answered (R410, R413). -/
def State.canBegin (s : State) (r : PageReq) : Bool :=
  match r.work with
  | .duplicate _ => !((s.pageLeaf r.pg).any (fun x => x.1.mig))
  | .serve _ _ => !((s.pageLeaf r.pg).any (fun x => x.1.mig))
  | _ => true

/-- The oldest request that can begin, or else a revocation that is acknowledged. -/
def State.nextPage (s : State) : Option PageReq :=
  match s.pageReqs.find? (fun r => !r.begun && s.firstOfPage r && s.canBegin r) with
  | some r => some r
  | none => s.pageReqs.find? (fun r => r.begun && r.waiting = [] && r.work = .revoke && s.firstOfPage r)

/-- The indices of a table's valid entries: V is bit 0 of the first byte, so that byte is listed (R401). -/
def validEntries (mem : List Host.Cell) (table : Nat) : List Nat :=
  mem.filterMap (fun c => if table ≤ c.1 && c.1 < table + 2 ^ 14 && (c.1 - table) % 8 = 0 && c.2.getLsbD 0 then some ((c.1 - table) / 8) else none)

/-- The number of the lowest bit of a level's index (R399). -/
def levelShift : Nat → Nat
  | 3 => 47
  | 2 => 36
  | 1 => 25
  | _ => 14

/-- The tables at a table and below it, with their levels: `n` is the level plus one (R399, R402). -/
def tablesBelow (mem : List Host.Cell) : Nat → Nat → List (Nat × Nat)
  | 0, _ => []
  | n + 1, table => (table, n) :: (validEntries mem table).flatMap (fun i =>
      let e := ofBytes (cellsRead mem (table + 8 * i) 8)
      if (n = 3 && 512 ≤ i) || e.testBit 1 || n = 0 || !tableFrameOk (bitsOf e 14 36 * 2 ^ 14) then []
      else tablesBelow mem n (bitsOf e 14 36 * 2 ^ 14))

/-- The leaves at a table and below it (R399, R402). -/
def leavesBelow (mem : List Host.Cell) (asid : BitVec 16) : Nat → Nat → Nat → List Leaf
  | 0, _, _ => []
  | n + 1, table, va => (validEntries mem table).flatMap (fun i =>
      let e := ofBytes (cellsRead mem (table + 8 * i) 8)
      let f := bitsOf e 14 36 * 2 ^ 14
      let va := va + i * 2 ^ levelShift n
      if (n = 3 && 512 ≤ i) || Nat.land e entryReserved ≠ 0 then []
      else if e.testBit 1 then
        (if 3 ≤ n || !leafFrameOk f (BitVec.ofNat 2 n) then [] else [leafOf asid (BitVec.ofNat 56 va) (BitVec.ofNat 2 n) e])
      else if n = 0 || !tableFrameOk f then []
      else leavesBelow mem asid n f va)

/-- Every table of the package, with its level. -/
def State.allTables (s : State) : List (Nat × Nat) := s.asids.flatMap (fun a => tablesBelow s.mem 4 a.root)

/-- Every leaf of the package. -/
def State.allLeaves (s : State) : List Leaf := s.asids.flatMap (fun a => leavesBelow s.mem a.asid 4 a.root 0)

/-- The lodge walks for itself, and logs a malformed walk (R402). -/
def State.noteWalk (s : State) (asid : BitVec 16) (va : BitVec 56) : State :=
  match s.asids.find? (fun a => a.asid = asid), s.walk asid va with
  | some a, .malformed =>
    { s with errLog := s.errLog ++ [(a.part, s.cur.die, { tcause := 0, i0 := 0, i1 := va.zeroExtend 64, i2 := 0, i3 := 0 })] }
  | _, _ => s

/-- The leaves that are gone, or have lost a right, a frame or their copies (R407, R411). -/
def lostLeaves (before after : List Leaf) : List Leaf :=
  before.filter (fun l => !after.any (fun x => x.asid = l.asid && x.va = l.va && x.sz = l.sz && x.frame = l.frame &&
    (!l.r || x.r) && (!l.w || x.w) && (!l.x || x.x) && (!l.dup || x.dup)))

/-- The revocation of a leaf that was taken away: steps 2 to 4 of R407. -/
def Leaf.revocation (l : Leaf) : PageReq :=
  { pg := { asid := l.asid, va := l.va }, work := .revoke, old := some (l.frame, l.sz), begun := false, waiting := [] }

/-- An entry is changed: step 1 of R407. The pages that lose a leaf, a right or a frame by it leave the caches, and their revocations,
steps 2 to 4, take the place of the change; new leaves count for the memory masks (R11, R401, R407). -/
def State.changeEntry (s : State) (r : PageReq) (at_ : Nat) (entry : Nat) : State :=
  let before := s.allLeaves
  let s := s.writeEntry at_ (fun _ => entry)
  let after := s.allLeaves
  let lost := lostLeaves before after
  let s := (after.filter (fun l => l ∉ before)).foldl (fun s l => s.touchSpace l.asid l.frame) s
  let s := { s with pageReqs := s.pageReqs.takeWhile (fun x => x ≠ r) ++ lost.map Leaf.revocation ++
    (s.pageReqs.dropWhile (fun x => x ≠ r)).drop 1 }
  lost.foldl (fun s l => s.tlbDrop { asid := l.asid, va := l.va }) s

/-- The monitor's change of an entry: made at once, or in its turn among the requests on the pages below the entry (R407, R413). -/
def State.submitChange (s : State) (r : PageReq) (at_ entry : Nat) : State :=
  let u : State := { s with pageReqs := s.pageReqs ++ [r] }
  if r ∉ s.pageReqs && u.firstOfPage r then u.changeEntry r at_ entry else u

/-- The copies of a page are free once its revocation is acknowledged, unless its leaf still has them (R407, R411). -/
def State.freeCopies (s : State) (r : PageReq) : State :=
  { s with dups := s.dups.filter (fun d =>
      !(d.pg.asid = r.pg.asid && r.old = some (d.frame, d.sz)) || (s.pageLeaf d.pg).any (fun x => x.1.dup && x.1.frame = d.frame)) }

/-- A request that has an effect on the page's handles begins; where no die holds one, its last step follows (R406). -/
def State.startPage (s : State) (r : PageReq) : State :=
  let s := s.beginPage r
  match s.pageFirst r.pg.asid r.pg.va with
  | some x => if x.waiting = [] then (if x.work = .revoke then (s.endPage x).freeCopies x else s.addLater s.cur x.work.last) else s
  | none => s

/-- A request that may not be done ends; a malformed walk is logged (R402). -/
def State.declinePage (s : State) (r : PageReq) : State := (s.noteWalk r.pg.asid r.pg.va).endPage r

/-- REVOKE_HANDLES: the oldest page request that can begin does, and one that may not be done ends; a revocation that every die has
acknowledged ends (R406, R413). -/
def execRevokeHandles (s : State) : Out :=
  match s.nextPage with
  | none => .next s
  | some r =>
    if r.begun then .next ((s.endPage r).freeCopies r)
    else if !s.workOk r then .next (s.declinePage r)
    else match r.work with
      | .serve k i =>
        .next ({ s with pageReqs := s.pageReqs.map (fun (x : PageReq) => if x = r then { x with begun := true } else x) }.askWalk k i)
      | .change at_ entry => .next (s.changeEntry r at_ entry.toNat)
      | _ => .next (s.startPage r)

/-- It is the turn of a tile's request on a page: no other stands before it (R413). -/
def State.pageTurn (s : State) (k : TileKey) (i : Instr) (asid : BitVec 16) (va : BitVec 56) : Bool :=
  match s.pageFirst asid va with
  | none => true
  | some r => r.work = .serve k i

/-- A tile's request on a page is over, or it is about another page now. -/
def State.dropServe (s : State) (k : TileKey) (i : Instr) : State :=
  { s with pageReqs := s.pageReqs.filter (fun r => r.work ≠ .serve k i) }

/-- A tile's request on a page waits for its turn: in the place that it has, or else as the last (R413). -/
def State.queueServe (s : State) (k : TileKey) (i : Instr) (asid : BitVec 16) (va : BitVec 56) : State :=
  if s.pageReqs.any (fun r => r.work = .serve k i && s.concerns r asid va) then
    { s with pageReqs := s.pageReqs.map (fun (r : PageReq) => if r.work = .serve k i then { r with begun := false } else r) }
  else
    let r : PageReq := { pg := { asid := asid, va := va }, work := .serve k i, old := none, begun := false, waiting := [] }
    let s := s.dropServe k i
    { s with pageReqs := s.pageReqs ++ [r] }

/-- A write request on a duplicated page: the end of its duplication goes before it (R412, R413). -/
def State.askEndDup (s : State) (k : TileKey) (i : Instr) (l : Leaf) (va : BitVec 56) : State :=
  let s := s.queueServe k i l.asid va
  let r : PageReq := { pg := { asid := l.asid, va := l.va }, work := .endDup, old := none, begun := false, waiting := [] }
  { s with pageReqs := s.pageReqs.flatMap (fun (x : PageReq) => if x.work = .serve k i then [r, x] else [x]) }

/-- Does a physical place lie in a range? -/
def Place.inRange (p : Place) (lo n : Nat) : Bool :=
  match p with
  | .phys pa => lo ≤ pa && pa < lo + n
  | .scratch _ _ => false

/-- A DMA transfer reads or writes a range of memory. -/
def DmaKind.uses (d : DmaKind) (lo n : Nat) : Bool :=
  match d with
  | .load pa _ len => meets pa len lo n
  | .store _ pa len => meets pa len lo n
  | .copy _ _ _ _ _ _ => false

/-- What a die still has to perform with a page's frame before it acknowledges: checked stores and atomics, DMA transfers,
posted copies and ordered updates (R406). -/
def State.dependent (s : State) (d : DieId) (asid : BitVec 16) (lo n : Nat) : Bool :=
  s.tiles.any (fun x => x.1.die = d && (s.ctxAt x.1.ctx).asid = asid &&
    (x.2.gated.any (fun g => g.place.inRange lo n) ||
     x.2.lsq.any (fun o => match o with | .store g => g.place.inRange lo n | .atom a => a.place.inRange lo n) ||
     x.2.dma.any (fun t => t.done.isNone && t.kind.uses lo n))) ||
  s.ctxs.any (fun c => c.asid = asid &&
    (c.copyQs.any (fun q => q.die = d && q.entries.any (fun e => meets e.src e.len lo n || meets e.dst e.len lo n)) ||
     c.transit.any (fun u => u.src.die = d && lo ≤ u.pa && u.pa < lo + n)))

/-- REVOCATION_ACK: a die acknowledges once what depends on the cleared handles is performed (R406). -/
def execRevocationAck (die : DieId) (pg : PageRef) (s : State) : Out :=
  match s.pageReqs.find? (fun r => r.pg = pg && r.begun && die ∈ r.waiting) with
  | none => .next s
  | some r =>
    let busy := (s.framesOf r).any (fun (x : Nat × BitVec 2) => s.dependent die pg.asid x.1 (pageSize x.2))
    if busy then .next (s.addEvent (s.clock + 1) s.cur (.revocationAck die pg))
    else
      let w := r.waiting.filter (· ≠ die)
      let s := { s with pageReqs := s.pageReqs.map (fun x => if x = r then { x with waiting := w } else x) }
      .next (if w = [] then s.addLater s.cur r.work.last else s)

/-- A range of memory zeroed. -/
def State.zeroRange (s : State) (pa n : Nat) : State :=
  { s with mem := s.mem.filter (fun c => !(pa ≤ c.1 && c.1 < pa + n)), memPoison := s.memPoison.filter (fun u => !(pa ≤ u && u < pa + n)),
           dramTags := s.dramTags.filter (fun x => !(pa ≤ x.1 && x.1 < pa + n)) }

/-- A range of memory copied, poison included: the bytes listed in the source range stand in the destination, and so does what their
reads can acquire (R105, R410). -/
def State.copyRange (s : State) (src dst n : Nat) : State :=
  let cells := s.mem.filter (fun c => src ≤ c.1 && c.1 < src + n)
  let bad := s.memPoison.filter (fun u => src ≤ u && u < src + n)
  let tags := s.dramTags.filter (fun (x : Nat × RelTag) => src ≤ x.1 && x.1 < src + n)
  let s := s.zeroRange dst n
  let s := { s with dramTags := tags.map (fun (x : Nat × RelTag) => (x.1 - src + dst, x.2)) ++ s.dramTags }
  let s := { s with mem := cells.foldl (fun m (c : Host.Cell) => cellsSet m (c.1 - src + dst) c.2) s.mem }
  { s with memPoison := bad.map (fun u => u - src + dst) ++ s.memPoison }

/-- The bytes of a stack below the save areas and images of sixteen contexts (R385, R398; log 16). -/
def pageTop : Nat := 0x878000000

/-- A frame that the lodge takes for a page on a die (R408, R410; log 16). -/
def frameOn (d : Nat) (sz : BitVec 2) (x : Nat) : Nat := d * 2 ^ 36 + (x % (pageTop / pageSize sz)) * pageSize sz

/-- A range holds a frame that is in use: a table, a mapped page, a copy of one, a proxy page, or the old frame of a page whose
revocation is not acknowledged (R400, R407, R410, R411). -/
def State.inUse (s : State) (f n : Nat) : Bool :=
  s.allTables.any (fun t => meets f n t.1 (2 ^ 14)) ||
  s.allLeaves.any (fun l => meets f n l.frame (pageSize l.sz)) ||
  s.dups.any (fun d => d.copies.any (fun c => meets f n c.2 (pageSize d.sz))) ||
  s.pairings.any (fun p => meets f n p.frame (2 ^ 14)) ||
  s.pageReqs.any (fun r => r.old.any (fun x => meets f n x.1 (pageSize x.2)))

/-- The next frame of a die from a place on that is free. -/
def State.nextFree (s : State) (d : Nat) (sz : BitVec 2) : Nat → Nat → Option Nat
  | 0, _ => none
  | n + 1, x => if s.inUse (frameOn d sz x) (pageSize sz) then s.nextFree d sz n (x + 1) else some (frameOn d sz x)

/-- A free choice among the free frames of a die (log 16). -/
def State.takeFrame (s : State) (d : DieId) (sz : BitVec 2) : Option Nat × State :=
  (s.nextFree d.toNat sz (pageTop / pageSize sz) (Config.placePage s.free), { s with free := s.free + 1 })

/-- A free choice among the free frames of a home die, for a table (R400; log 16). -/
def State.takeTable (s : State) : Option Nat × State :=
  s.spend.takeFrame (BitVec.ofNat 6 ((homeDies[Config.placePage s.free % 4]?).getD 27)) 0

/-- An ordered update at a page's old frame moves to the new one, spilled (R410). -/
def OsUpd.moveTo (u : OsUpd) (old new n : Nat) : OsUpd :=
  if old ≤ u.pa && u.pa < old + n then { u with pa := u.pa - old + new, spilled := true } else u

/-- The updates of every course at a page's lines move into the spill area and on to the new frame (R410). -/
def Ctx.moveUpdates (c : Ctx) (old new n : Nat) : Ctx :=
  { c with queues := c.queues.map (fun q => { q with courses := q.courses.map (fun x => { x with updates := x.updates.map (fun u => u.moveTo old new n) }) }) }

/-- The courses of a context with an update at a page (R410). -/
def Ctx.coursesAt (c : Ctx) (lo n : Nat) : List (BitVec 4 × Nat) :=
  ((c.updates.filter (fun u => lo ≤ u.pa && u.pa < lo + n)).map (fun u => (u.q, u.course))).eraseDups

/-- The courses of an address space whose moved updates find the spill area full end (R116, R410). -/
def State.moveSpill (s : State) (asid : BitVec 16) (new n : Nat) : State :=
  (s.ctxs.filter (fun c => c.asid = asid && c.spillSz < c.spillUsed)).foldl (fun s c =>
    (c.coursesAt new n).foldl (fun s x => s.spillExhausted c.id x.1 x.2) s) s

/-- MIGRATE_PAGE: the page moves to its new die once its handles are revoked; before that, the move begins (R410). Where no frame is
free, the page stays. -/
def execMigratePage (s : State) : Out :=
  match s.pageWork (fun w => match w with | .migrate _ => true | _ => false) with
  | none => .next s
  | some r =>
    match r.work, s.pageLeaf r.pg with
    | .migrate dst, some (l, at_) =>
      if !r.begun then .next (if s.workOk r then s.startPage r else s.declinePage r)
      else if r.waiting ≠ [] then .next s
      else match (if s.workOk r then s.takeFrame dst l.sz else (none, s)) with
        | (none, s) => .next ((s.writeEntry at_ (fun e => setBit e 60 false)).endPage r)
        | (some new, s) =>
          let n := pageSize l.sz
          let s := s.mapCtxs (fun c => if c.asid = r.pg.asid then c.moveUpdates l.frame new n else c)
          let s := s.copyRange l.frame new n
          let s := { s with dups := s.dups.map (fun (d : DupPage) => if d.frame = l.frame then { d with frame := new } else d) }
          let s := s.writeEntry at_ (fun e => setBit e 60 false - bitsOf e 14 36 * 2 ^ 14 + new)
          let s := s.touchSpace r.pg.asid new
          .next ((s.moveSpill r.pg.asid new n).endPage r)
    | _, _ => .next (s.declinePage r)

/-- The copies of a page made, each on a free frame of its die (R11, R411). -/
def State.makeCopies (s : State) (l : Leaf) (ds : List Nat) : List (DieId × Nat) × State :=
  ds.foldl (fun (acc : List (DieId × Nat) × State) d =>
    match acc.2.takeFrame (BitVec.ofNat 6 d) l.sz with
    | (none, s) => (acc.1, s)
    | (some f, s) => (acc.1 ++ [(BitVec.ofNat 6 d, f)], (s.copyRange l.frame f (pageSize l.sz)).touchSpace l.asid f)) ([], s)

/-- DUPLICATE_PAGE: the home frame is copied to further dies, at most seven, once no write handle is left (R411). -/
def execDuplicatePage (s : State) : Out :=
  match s.pageWork (fun w => match w with | .duplicate _ => true | _ => false) with
  | none => .next s
  | some r =>
    match r.work, s.pageLeaf r.pg with
    | .duplicate dies, some (l, at_) =>
      if l.mig then .next s
      else if !s.workOk r then .next (s.declinePage r)
      else if !r.begun then .next (s.startPage r)
      else if r.waiting ≠ [] then .next s
      else
        let (copies, s) := s.makeCopies l (dupDies dies l.frame)
        let s := { s with dups := { pg := { asid := l.asid, va := l.va }, frame := l.frame, sz := l.sz, copies := copies } :: s.dups }
        let s := (s.writeEntry at_ (fun e => setBit e 61 true)).tlbDrop r.pg
        .next (s.endPage r)
    | _, _ => .next (s.declinePage r)

/-- DUPLICATION_END: the copies are freed and the write handles that wait are granted on the home frame (R412). -/
def execDuplicationEnd (s : State) : Out :=
  match s.pageWork (fun w => w = .endDup) with
  | none => .next s
  | some r =>
    match s.pageLeaf r.pg with
    | none => .next (s.declinePage r)
    | some (l, at_) =>
      if !r.begun then .next (s.startPage r)
      else if r.waiting ≠ [] then .next s
      else
        let s := { s with dups := s.dups.filter (fun x => !l.maps x.pg.asid x.pg.va) }
        .next ((s.writeEntry at_ (fun e => setBit e 61 false)).endPage r)

/-- A malformed walk is logged in the partition's error record (R402). -/
def State.logWalk (s : State) (k : TileKey) (va : BitVec 56) : State :=
  { s with errLog := s.errLog ++ [((s.ctxAt k.ctx).part, k.die, { tcause := 0, i0 := 0, i1 := va.zeroExtend 64, i2 := 0, i3 := 0 })] }

/-- The walk of a translation ends with a handle: it writes the register and delivers, and what waits behind it in the unit goes on; a tile
that is frozen, switched out or in privileged mode takes the handle when it runs again (R25, R242, R359). -/
def State.takeWalk (s : State) (r : XlatReq) (h : Handle) : State :=
  if s.tile.frozen || s.tile.out || s.tile.priv then
    (s.modTile (fun t => t.mapBoth (fun c => { c with xlats := c.xlats.map (fun x => if x.id = r.id then { x with got := some h } else x) }))).addEvent
      (s.clock + 1) s.cur .pageTableWalk
  else (s.finishXlat s.cur r h none).runXlt s.cur s.tile.core.xlats.length

/-- PAGE_TABLE_WALK: a walker serves the translation at the head of the tile's xlt unit, in its turn among the requests on the page
(R402-R405, R410-R413). -/
def execPageTableWalk (s : State) : Out :=
  let s := s.endWalk s.cur .pageTableWalk
  let rest : State := s.dropServe s.cur .pageTableWalk
  match s.tile.core.xlats with
  | [] => .next rest
  | r :: _ =>
    if !r.walk then .next rest
    else match r.got with
    | some h => .next (rest.takeWalk r h)
    | none =>
      let write := r.op = .write
      if !s.pageTurn s.cur .pageTableWalk s.ctx.asid r.va then .next (s.queueServe s.cur .pageTableWalk s.ctx.asid r.va)
      else match s.walk s.ctx.asid r.va with
        | .absent => .next (rest.takeWalk r (ungranted write r.va))
        | .malformed => .next ((rest.logWalk s.cur r.va).takeWalk r (ungranted write r.va))
        | .leaf l _ =>
          if l.mig then .next (s.queueServe s.cur .pageTableWalk s.ctx.asid r.va)
          else if !l.gives (if write then .write else .read) then .next (rest.takeWalk r (ungranted write r.va))
          else if l.dup && write then .next (s.askEndDup s.cur .pageTableWalk l r.va)
          else
            let h := s.granted s.cur l write false r.va
            .next (((rest.tlbFill s.cur.die l).touchMem s.cur.ctx h.frame).takeWalk r h)

/-! ### Backing a page (R408; log 16) -/

/-- The tables above a page completed: a missing one is placed on a home die, zeroed. -/
def State.makeTables (s : State) (va : BitVec 56) : Nat → Nat → State
  | 0, _ => s
  | 1, _ => s
  | n + 2, table =>
    let pa := table + 8 * tableIndex va (n + 1)
    let e := s.memRead pa 8
    if e.testBit 0 then s.makeTables va (n + 1) (bitsOf e 14 36 * 2 ^ 14)
    else match s.takeTable with
      | (none, s) => s
      | (some f, s) => ((s.zeroRange f (2 ^ 14)).memWrite pa (bytesOf (f + 1) 8)).makeTables va (n + 1) f

/-- The dies of a partition (R431). -/
def State.partDies (s : State) (part : BitVec 4) : List DieId := (s.parts.map (·.1)).filter (fun d => s.partOf d = some part)

/-- A zeroed frame mapped for a 16 KiB page that is absent, with the rights given as bits 4-6 of an entry; the page counts for the
memory mask (R11, R401, R408). -/
def State.mapFrame (s : State) (a : AddrSpace) (va : BitVec 56) (rights f : Nat) : State :=
  let s := s.makeTables va 4 a.root
  match walkTables s.mem a.asid va 4 a.root with
  | .absent =>
    let t1 := bitsOf (s.memRead (a.root + 8 * tableIndex va 3) 8) 14 36 * 2 ^ 14
    let t2 := bitsOf (s.memRead (t1 + 8 * tableIndex va 2) 8) 14 36 * 2 ^ 14
    let t3 := bitsOf (s.memRead (t2 + 8 * tableIndex va 1) 8) 14 36 * 2 ^ 14
    ((s.zeroRange f (2 ^ 14)).memWrite (t3 + 8 * tableIndex va 0) (bytesOf (f + 16 * rights + 3) 8)).touchSpace a.asid f
  | _ => s

/-- A page mapped in a free frame of a die of the partition that the policy chooses (R408, R436; log 16). -/
def State.mapPage (s : State) (a : AddrSpace) (va : BitVec 56) (rights : Nat) : State :=
  let l := (s.partDies a.part).filter (fun d => (s.dieAt d).ms)
  match l[Config.placePage s.free % l.length]? with
  | none => s.spend
  | some d => match s.spend.takeFrame d 0 with
    | (none, s) => s
    | (some f, s) => s.mapFrame a va rights f

/-- The bit of an entry's rights that a request needs (R401, R403). -/
def Need.bit : Need → Nat
  | .read => 1
  | .write => 2
  | .fetch => 4

/-- The bytes that a page is brought in with: the spec gives them no source (R408; log 3). -/
def broughtBytes (n : Nat) : List Byte := (List.range 2048).flatMap (fun i => bytesOf (Config.freeWord (n + i)).toNat 8)

/-- A page backed as the partition's policy says, with the right that is needed and what others the policy gives: a zeroed frame, or the
page brought in (R408; log 16). -/
def State.backPage (s : State) (asid : BitVec 16) (va : BitVec 56) (need : Need) : State :=
  match s.asids.find? (fun a => a.asid = asid) with
  | none => s
  | some a =>
    let w := Config.freeWord s.free
    let s := s.spend.mapPage a va (Nat.lor (w.toNat % 8) need.bit)
    match (if w.getLsbD 3 then s.pageLeaf { asid := asid, va := va } else none) with
    | some (l, _) => { s with free := s.free + 2048 }.memWrite l.frame (broughtBytes s.free)
    | none => s

/-- Does the partition's memory policy back a page (R408; log 16)? A free choice. -/
def State.policyBacks (s : State) : Bool × State := ((Config.freeWord s.free).getLsbD 0, { s with free := s.free + 1 })

/-- A handle register rewritten where it holds the translation that was re-translated: a rollback may have brought back an older one, and
the replay then makes the newer again (R58, R242, R408; log 97). -/
def TileCore.replaceH (c : TileCore) (n : BitVec 4) (old new : Handle) : TileCore :=
  if (c.h.get n.toFin).t && (c.h.get n.toFin).like old then c.setH n { new with pend := (c.h.get n.toFin).pend } else c

/-- HANDLE_FAULT_SERVICE: the lodge re-translates the page that the handle of the tile's fault recorded, which the rollback may have
taken out of the register, and rewrites the handle, in its turn among the requests on the page; the tile replays from its mark
(R82, R408, R410-R413). -/
def execHandleFaultService (s : State) : Out :=
  let s := s.endWalk s.cur .handleFaultService
  let rest : State := s.dropServe s.cur .handleFaultService
  let t := s.tile
  if !(t.frozen && t.tv && t.code = 0x30) then .next rest
  else
    let n : BitVec 4 := (t.tinfo.get 1).extractLsb' 0 4
    let h := t.faultH.getD (t.core.h.get n.toFin)
    let put (s : State) (g : Handle) : State :=
      (s.modTile (fun t => t.mapBoth (fun c => c.replaceH n h g))).thawSet s.cur
    let refuse (s : State) : State := put (s.modTile (fun t => { t with refused := h :: t.refused })) Handle.reset
    let grant (s : State) (l : Leaf) : State :=
      let g := s.granted s.cur l h.w (h.sz = 0) h.va
      put ((s.tlbFill s.cur.die l).touchMem s.cur.ctx g.frame) g
    if !s.pageTurn s.cur .handleFaultService s.ctx.asid h.va then .next (s.queueServe s.cur .handleFaultService s.ctx.asid h.va)
    else match s.walk s.ctx.asid h.va with
      | .leaf l _ =>
        if l.mig then .next (s.queueServe s.cur .handleFaultService s.ctx.asid h.va)
        else if !l.gives (if h.w then .write else .read) then .next (refuse rest)
        else if l.dup && h.w then .next (s.askEndDup s.cur .handleFaultService l h.va)
        else .next (grant rest l)
      | .malformed => .next (refuse (rest.logWalk s.cur h.va))
      | .absent =>
        let (b, s) := rest.policyBacks
        if !b then .next (refuse s)
        else
          let s := s.backPage s.ctx.asid h.va (if h.w then .write else .read)
          match s.walk s.ctx.asid h.va with
          | .leaf l _ => .next (grant s l)
          | _ => .next (refuse s)

end Sys2Proof.Machine
end

