-- ==== Sys2Proof/Machine/Walker.lean ====
section
/-! DEFINITION. Course records, their admission, units, shares of gates, growth, and which contexts are runnable on a cluster (R36-R42,
R386, R392, R393). -/

namespace Sys2Proof.Machine

/-! ### Virtual memory as the lodge reads it (R36, R37) -/

/-- The physical address of a virtual one, where its page is mapped with the right that is needed (R402, R403). -/
def State.virtPa (s : State) (asid : BitVec 16) (va : BitVec 56) (need : Need) : Option Nat :=
  match s.walk asid va with
  | .leaf l _ => if l.gives need then some (l.frame + (va.toNat - l.va.toNat)) else none
  | _ => none

/-! ### The instruction buffer (R84-R86) -/

/-- A bundle enters the instruction buffer of 2,048; the oldest that is not locked makes room (R84, R85). -/
def Tile.bufferBundle (t : Tile) (va : BitVec 56) (b : BitVec 512) : Tile :=
  let locked (a : BitVec 56) : Bool := t.locks.any (fun r => r.1 ≤ a && a.toNat < r.1.toNat + 64 * r.2)
  let old := t.ibuf.filter (fun x => x.1 ≠ va)
  let old := if old.length < 2048 then old
    else match (old.reverse.find? (fun x => !locked x.1)) with
      | some x => old.erase x
      | none => old
  { t with ibuf := (va, b) :: old }

/-- The bundle at an address of the buffer. -/
def Tile.buffered (t : Tile) (va : BitVec 56) : Option (BitVec 512) := assocGet t.ibuf va

/-- A bundle's bits from memory. -/
def State.bundleAt (s : State) (pa : Nat) : BitVec 512 := BitVec.ofNat 512 (s.memRead pa 64)

/-- The bundles of a tile's locked ranges fetched again (R86). -/
def State.replayLocks (s : State) (k : TileKey) : State :=
  let asid := (s.ctxAt k.ctx).asid
  let vas := (s.tileAt k).locks.flatMap (fun r => (List.range r.2).map (fun i => r.1 + BitVec.ofNat 56 (64 * i)))
  vas.foldl (fun s va => match s.virtPa asid va .fetch with
    | some pa => s.modTileAt k (fun t => t.bufferBundle va (s.bundleAt pa))
    | none => s.noteWalk asid va) s

/-! ### Course records (R38) -/

/-- A course record from its words. -/
def CourseRec.ofWords (w : Nat → Nat) : CourseRec :=
  let ctrl := w 2
  { ext := [bitsOf (w 0) 0 32, bitsOf (w 0) 32 32, bitsOf (w 1) 0 32, bitsOf (w 1) 32 32]
    ndim := bitsOf ctrl 28 2
    perm := (List.range 4).map (fun j => bitsOf ctrl (20 + 2 * j) 2)
    wmode := ctrl.testBit 30
    growok := ctrl.testBit 31
    det := ctrl.testBit 32
    orb := ctrl.testBit 33
    nprof := BitVec.ofNat 4 (bitsOf ctrl 34 4)
    shape := BitVec.ofNat 2 (bitsOf ctrl 38 2)
    town := bitsOf ctrl 40 5
    code := BitVec.ofNat 56 (w 3)
    pro := bitsOf (w 4) 0 20
    ker := bitsOf (w 4) 20 20
    epi := bitsOf (w 4) 40 20
    units := bitsOf (w 5) 32 7
    trip := bitsOf (w 5) 0 32
    arg := BitVec.ofNat 64 (w 6)
    wtok := BitVec.ofNat 32 (bitsOf (w 7) 0 32)
    stok := BitVec.ofNat 32 (bitsOf (w 7) 32 32)
    dmask := BitVec.ofNat 64 (w 8) }

/-- The units that a die holds for a shape (R37, R51). -/
def dieUnits (shape : BitVec 2) (town : Nat) : Nat :=
  match shape.toNat with
  | 0 => 64
  | 1 => 4 * (16 / town)
  | _ => 4

/-- The product of the first extents (R37, R39). -/
def prodExt (ext : List Nat) (n : Nat) : Nat := (ext.take n).foldl (· * ·) 1

/-- The dimension at which the running product first reaches 2^48 (R37). -/
def overDim (r : CourseRec) : Option Nat := (List.range (r.ndim + 1)).find? (fun d => 2 ^ 48 ≤ prodExt r.ext (d + 1))

/-- PERM is a permutation of the dimensions, and zero above (R37). -/
def permOk (r : CourseRec) : Bool :=
  (List.range (r.ndim + 1)).all (fun d => d ∈ r.perm.take (r.ndim + 1)) && (r.perm.drop (r.ndim + 1)).all (· = 0)

/-- The control word passes (R37, R38). -/
def ctrlOk (ctrl : Nat) (r : CourseRec) : Bool :=
  bitsOf ctrl 56 8 = 1 && bitsOf ctrl 45 11 = 0 && bitsOf ctrl 0 20 = 0 && permOk r && r.nprof.toNat < 8 &&
  r.shape.toNat ≠ 3 && (if r.shape.toNat = 1 then 2 ≤ r.town && r.town ≤ 16 else r.town = 0) &&
  (!r.orb || r.shape.toNat = 2) && (!r.det || r.wmode)

/-- The byte offset of the first word of a record that fails a check, for a context of D dies (R37). A code address with bits [5:0]
set fails at its own word (DEDUCED, log 99). -/
def recordFail (w : Nat → Nat) (dies : Nat) : Option Nat :=
  let r := CourseRec.ofWords w
  let tooMany (k : Nat) : Bool := match overDim r with
    | some d => d / 2 = k
    | none => false
  let bad (k : Nat) : Bool :=
    match k with
    | 0 => tooMany 0
    | 1 => tooMany 1
    | 2 => !ctrlOk (w 2) r
    | 3 => bitsOf (w 3) 56 8 ≠ 0 || bitsOf (w 3) 0 6 ≠ 0
    | 4 => bitsOf (w 4) 60 4 ≠ 0 || r.ker < r.pro || r.epi < r.ker
    | 5 => bitsOf (w 5) 39 25 ≠ 0 || dieUnits r.shape r.town < r.units
    | 6 => false
    | 7 => false
    | 8 => 2 ^ dies ≤ w 8
    | k => w k ≠ 0
  ((List.range 16).find? bad).map (· * 8)

/-- The gate count (R39). -/
def CourseRec.gates (r : CourseRec) : Nat := prodExt r.ext (r.ndim + 1)

/-- The gates are sliced deterministically (R38, R40). -/
def detWalk (c : Ctx) (r : CourseRec) : Bool := r.wmode || r.det || c.det

/-! ### Dies and units (R40, R51, R390) -/

/-- The dies of a course in ascending logical order (R38, R40). -/
def courseDies (c : Ctx) (r : CourseRec) : List DieId :=
  let all := c.dieList
  if r.dmask = 0 then all
  else (all.zip (List.range all.length)).filterMap (fun x => if r.dmask.getLsbD x.2 then some x.1 else none)

/-- The lowest tids of the units of a die, in ascending order (R40, R51). -/
def unitLeads (r : CourseRec) : List (BitVec 6) :=
  let all : List Nat := match r.shape.toNat with
    | 0 => List.range 64
    | 1 => (List.range 4).flatMap (fun c => (List.range (16 / r.town)).map (fun j => 16 * c + r.town * j))
    | _ => [0, 16, 32, 48]
  (if r.units = 0 then all else all.take r.units).map (BitVec.ofNat 6)

/-- The tiles of a unit, in order of their position in it (R40, R115). -/
def unitTiles (r : CourseRec) (lead : BitVec 6) : List (BitVec 6) :=
  let n := match r.shape.toNat with
    | 0 => 1
    | 1 => r.town
    | _ => 16
  (List.range n).map (fun i => lead + BitVec.ofNat 6 i)

/-! ### Shares of gates (R40, R42) -/

/-- The gates lo … lo + n - 1 divided among some dies; in deterministic mode among the units of each as well. -/
def divide (dies : List DieId) (leads : List (BitVec 6)) (det : Bool) (lo n : Nat) : List Share :=
  (dies.zip (List.range dies.length)).flatMap (fun x =>
    let d := dies.length
    let b := lo + x.2 * n / d
    let e := lo + (x.2 + 1) * n / d
    if det then
      (leads.zip (List.range leads.length)).map (fun y =>
        { die := x.1, lead := some y.1, ranges := [(b + y.2 * (e - b) / leads.length, b + (y.2 + 1) * (e - b) / leads.length)] })
    else [{ die := x.1, lead := none, ranges := [(b, e)] }])

/-- Empty ranges are dropped. -/
def Share.trim (x : Share) : Share := { x with ranges := x.ranges.filter (fun r => r.1 < r.2) }

/-- New ranges behind those that a share still holds (R42). -/
def appendShares (old new : List Share) : List Share :=
  if old = [] then new.map Share.trim
  else old.map (fun x => match new.find? (fun y => y.die = x.die && y.lead = x.lead) with
    | some y => ({ x with ranges := x.ranges ++ y.ranges } : Share).trim
    | none => x)

/-- The gates lo … lo + n - 1 given to a course's walkers. -/
def Course.give (x : Course) (c : Ctx) (lo n : Nat) : Course :=
  { x with shares := appendShares x.shares (divide (courseDies c x.cr) (unitLeads x.cr) (detWalk c x.cr) lo n) }

/-- The walkers of a die, or of every die, still hold a gate (R47, R256). -/
def Course.holds (x : Course) (die : Option DieId) : Bool :=
  x.shares.any (fun y => (die = none || die = some y.die) && y.ranges ≠ [])

/-- A course grows by n gates: at once in dynamic mode, else with its generation's extension (R42). -/
def Course.grow (x : Course) (c : Ctx) (n : Nat) : Course :=
  if detWalk c x.cr then { x with growth := x.growth + n }
  else { (x.give c x.gates n) with gates := x.gates + n }

/-- Would growth by n reach 2^48 (R42)? -/
def Course.tooBig (x : Course) (n : Nat) : Bool := 2 ^ 48 ≤ x.gates + x.growth + n

/-! ### Admission (R36, R37, R84, R331, R386) -/

/-- What the lodge answers to a launch. -/
inductive Admit where
  | serial (n : Nat)
  | bad (off : Nat)
  | full
  deriving DecidableEq, Repr

/-- An address lies in an image's template. -/
def CtxImage.holds (m : CtxImage) (code : BitVec 56) : Bool := m.base.toNat ≤ code.toNat && code.toNat < m.base.toNat + m.size

/-- A course runs translated code: its CODE lies in a template or at a label of a retranslation (R331). -/
def Ctx.translated (c : Ctx) (code : BitVec 56) : Bool :=
  c.imgs.any (fun m => m.holds code || (match m.cur with
    | some b => b.toNat ≤ code.toNat && code.toNat < b.toNat + m.size
    | none => false))

/-- CODE as the record gives it, or moved with a retranslation that has been swapped in (R331). -/
def Ctx.codeBase (c : Ctx) (code : BitVec 56) : BitVec 56 :=
  match c.imgs.find? (fun m => m.holds code) with
  | some m => (match m.cur with
    | some b => code - m.base + b
    | none => code)
  | none => code

/-- A course that has been admitted. -/
def newCourse (serial : Nat) (r : CourseRec) : Course :=
  { serial := serial, cr := r, gates := r.gates, started := false, shares := [], growth := 0, updates := [], tails := [],
    grants := [], hb := [], out := [] }

/-- The instruction buffers of some dies invalidated (R84). -/
def State.flushBuffers (s : State) (dies : List DieId) : State :=
  s.mapTiles (fun k t => if k.die ∈ dies then { t with ibuf := [] } else t)

/-- A course record offered to a queue: read once, checked, and admitted with a serial (R36, R37, R386). A record that fails a check and
finds the queue full is answered as one that fails: R37 gives each of the two results and no order between them (DESIGN CHOICE, log 84). -/
def State.enqueue (s : State) (id : CtxId) (q : BitVec 4) (va : BitVec 56) : Admit × State :=
  let c := s.ctxAt id
  match c.queue? q with
  | none => (.full, s)
  | some x =>
    if va.toNat % 128 ≠ 0 then (.bad 0, s)
    else match s.virtPa c.asid va .read with
      | none => (.bad 0x80, s.noteWalk c.asid va)
      | some pa =>
        let w (i : Nat) : Nat := s.memRead (pa + 8 * i) 8
        match recordFail w c.dieList.length with
        | some off => (.bad off, s)
        | none =>
          if 256 ≤ x.courses.length then (.full, s)
          else
            let r := CourseRec.ofWords w
            let r := { r with code := c.codeBase r.code }
            let s := s.flushBuffers (courseDies c r)
            (.serial x.next, s.modCtx id (fun c => c.modQueue q (fun x =>
              { x with courses := x.courses ++ [newCourse x.next r], lastAdm := some x.next, next := (x.next + 1) % 2 ^ 48 })))

/-! ### Who is runnable on a cluster (R392, R393) -/

/-- A course has a gate that waits for a cluster of a die: in dynamic mode one that a unit of the cluster may run (R392). -/
def Course.waitsOn (x : Course) (cl : ClusterId) : Bool :=
  x.started && x.shares.any (fun y => y.die = cl.die && y.ranges ≠ [] && (match y.lead with
    | some l => tidCluster l = cl.cid
    | none => (unitLeads x.cr).any (fun l => tidCluster l = cl.cid)))

/-- A course runs on a cluster: a task of it, a conjunction that waits, or an orbit of it (R392). -/
def State.courseOn (s : State) (c : Ctx) (cl : ClusterId) (q : BitVec 4) (serial : Nat) : Bool :=
  s.tiles.any (fun x => x.1.ctx = c.id && keyCluster x.1 = cl && x.2.ofCourse q serial) ||
  c.orbits.any (fun o => o.cl = cl && o.q = q && o.course = serial)

/-- The highest class among the courses that make a context runnable on a cluster; none where it is not runnable (R392). -/
def State.topClass (s : State) (c : Ctx) (cl : ClusterId) : Option Nat :=
  (c.queues.zip (List.range c.queues.length)).foldl (fun acc x =>
    if x.1.courses.any (fun y => y.started && (y.waitsOn cl || s.courseOn c cl (BitVec.ofNat 4 x.2) y.serial)) then
      some (match acc with | some n => max n x.1.cls.toNat | none => x.1.cls.toNat)
    else acc) none

/-- The contexts runnable on a cluster, in the order of the list of contexts (R392). -/
def State.runnable (s : State) (cl : ClusterId) : List CtxId :=
  (s.ctxs.filter (fun c => c.dies.getLsbD cl.die.toNat && (s.topClass c cl).isSome)).map Ctx.id

/-- The pass and the debt of a context on a cluster (R393). -/
def Cluster.passOf (c : Cluster) (id : CtxId) : Nat × Nat := (assocGet c.passes id).getD (0, 0)

/-- The least pass among some contexts. -/
def Cluster.leastPass (c : Cluster) (ids : List CtxId) : Nat :=
  match ids.map (fun i => (c.passOf i).1) with
  | [] => 0
  | a :: r => r.foldl min a

/-- The list of runnable contexts brought up to date: one that became runnable takes at least the least pass of those that were
(R393). -/
def Cluster.noteRunnable (c : Cluster) (now : List CtxId) : Cluster :=
  let old := c.ready.filter (· ∈ now)
  let fresh := now.filter (· ∉ c.ready)
  let least := c.leastPass old
  let c := fresh.foldl (fun (c : Cluster) i => { c with passes := assocSet c.passes i (max (c.passOf i).1 least, (c.passOf i).2) }) c
  { c with ready := now }

/-- The four clusters of a die brought up to date. -/
def State.noteDie (s : State) (d : DieId) : State :=
  ([0, 1, 2, 3] : List (BitVec 2)).foldl (fun s i =>
    let cl : ClusterId := { die := d, cid := i }
    let now := s.runnable cl
    if (s.clusterAt cl).ready = now then s else s.modCluster cl (fun c => c.noteRunnable now)) s

/-- The dies of a mask. -/
def maskDies (mask : Word) : List DieId := (List.range 64).filterMap (fun i => if mask.getLsbD i then some (BitVec.ofNat 6 i) else none)

/-- The dies of a context brought up to date. -/
def State.noteCtx (s : State) (id : CtxId) : State := (maskDies (s.ctxAt id).dies).foldl State.noteDie s

end Sys2Proof.Machine
end

