-- ==== Sys2Proof/Machine/Sync.lean ====
section
/-! DEFINITION. The operations of sync: groups, barriers, fences, launches, settings and counters (R48, R98, R103-R106,
R116, R117, R254-R261). -/

namespace Sys2Proof.Machine

/-- "illegal operand" of a sync operation whose trigger operand breaks its limits (R254). -/
def syncOperand (ok : State → Wide → Bool) (t : Wide) (s : State) : Option Cause :=
  if ok s t then none else some (s.illegalOperand .sync t)

/-- The trigger operand of a group operation: 0-255 (R254). -/
def groupIdOk (t : Wide) : Bool := bitsOf (lowWord t).toNat 8 56 = 0

/-- The trigger operand must be zero (R254). -/
def zeroOk (t : Wide) : Bool := lowWord t = 0

/-- The scope of the bundle that issues (R100, R192). -/
def State.scope (s : State) : BitVec 3 := s.tile.core.seq.hdr.extractLsb' 3 3

/-! ### Groups (R48, R255) -/

/-- A group of the tile's die changed; one that was never joined is empty. -/
def State.modGroup (s : State) (k : TileKey) (g : BitVec 8) (f : Group → Group) : State :=
  let old := s.group k g
  s.modCtx k.ctx (fun c => { c with groups := f old :: c.groups.filter (fun x => !(x.die = k.die && x.g = g)) })

/-- A tile joins a group (R48). -/
def Group.join (g : Group) (tid : BitVec 6) (q : BitVec 4) : Group :=
  if tid ∈ g.members then g else { g with members := g.members ++ [tid], gen := g.gen + 1, by_ := g.by_ ++ [(tid, q)] }

/-- A change by a bundle that issues in a clock: the members before the clock's changes are kept for the group loads of that clock
(R91). -/
def Group.changeAt (g : Group) (clock : Nat) (f : Group → Group) : Group :=
  let was := if g.was.1 = clock then g.was else (clock, g.members)
  { f g with was := was }

/-- "group full" (R255). -/
def State.groupFull (s : State) (t : Wide) : Cause :=
  { code := 0x11, tepc := s.tile.core.seq.here, i0 := addrWord s.tile.core.seq.here, i1 := (lowWord t) &&& 0xFF, i2 := 0, i3 := 0 }

/-- The group that a trigger operand names. -/
def groupId (t : Wide) : BitVec 8 := t.extractLsb' 0 8

/-- The queue of the tile's task. -/
def Tile.queueNo (t : Tile) : BitVec 4 := match t.task with
  | some k => k.q
  | none => 0

/-- JOIN (R255). -/
def hkJoin (t : Wide) (_ : Word) : Hooks :=
  .checked
    (fun s =>
      if !groupIdOk t then some (s.illegalOperand .sync t)
      else
        let g := s.group s.cur (groupId t)
        if s.cur.tid ∉ g.members && 64 ≤ g.members.length then some (s.groupFull t) else none)
    (fun s =>
      let s := s.modGroup s.cur (groupId t) (fun g => g.changeAt s.clock (fun g => g.join s.cur.tid s.tile.queueNo))
      s.locked .sync [(.q, (s.group s.cur (groupId t)).gen.zeroExtend 512)])

/-- LEAVE (R48). -/
def hkLeave (t : Wide) (_ : Word) : Hooks :=
  .checked (syncOperand (fun _ t => groupIdOk t) t) (fun s =>
    let s := s.modGroup s.cur (groupId t) (fun g => g.changeAt s.clock (fun g => g.remove s.cur.tid))
    s.locked .sync [(.q, (s.group s.cur (groupId t)).gen.zeroExtend 512)])

/-! ### Barriers (R50, R98, R256) -/

/-- A tile arrives at a barrier object; its next bundle waits for the episode (R256). -/
def State.arrive (s : State) (ob : BarObj) (gather : Option (Nat × Nat)) (close system : Bool) : State :=
  let a : Arrival := { ob := ob, die := s.cur.die, tid := s.cur.tid, gather := gather,
                       evs := (List.range 16).map (fun i => s.tile.core.ev.get (Fin.ofNat 16 i)), close := close, system := system }
  let s := s.modCtx s.cur.ctx (fun c => { c with arrivals := c.arrivals ++ [a] })
  s.modTile (fun t => t.mapSeq (fun q => { q with barrier := some ob }))

/-- The traps of GBAR: its operand, and membership (R254, R256). -/
def gbarCheck (t : Wide) (s : State) : Option Cause :=
  if !groupIdOk t then some (s.illegalOperand .sync t)
  else if s.cur.tid ∉ (s.group s.cur (groupId t)).members then some (s.courseViolation .sync t)
  else none

/-- GBAR (R256). -/
def hkGbar (t : Wide) (_ : Word) : Hooks :=
  .checked (gbarCheck t) (fun s => s.arrive (.group s.cur.die (groupId t)) none false false)

/-- CBAR (R50, R256). -/
def hkCbar (t : Wide) (_ : Word) : Hooks :=
  .checked (fun s =>
      if !zeroOk t then some (s.illegalOperand .sync t)
      else if !s.tile.inCluster then some (s.courseViolation .sync t)
      else none)
    (fun s => s.arrive (.cluster (keyCluster s.cur)) none false false)

/-- DBAR: on the die, or at package and system scope on every die of the course, with the close of R117 (R100, R256). -/
def hkDbar (t : Wide) (_ : Word) : Hooks :=
  .checked (syncOperand (fun _ t => zeroOk t) t) (fun s =>
    let wide := 3 ≤ s.scope.toNat
    s.arrive (.course s.tile.queueNo (if wide then none else some s.cur.die)) none wide (s.scope.toNat = 4))

/-- An EVGATH offset: a multiple of 64 in banks 0-21, outside an attached orbit's buffer (R98). -/
def gatherOffOk (t : Tile) (a : Word) : Bool :=
  a.toNat < spSize && a.toNat % 64 = 0 && bankOk t .store a.toNat

/-- EVGATH: a GBAR whose arrival brings the tile's counters, with the events that its own bundle's VST has counted (log 71); its leaf
reads go on the GR path (R98, R99, R103). -/
def hkEvgath (t : Wide) (_ : Word) : Hooks :=
  .stalled (fun s => s.fenceStall pathGR)
    (fun s => match gbarCheck t s with
      | some c => some c
      | none => if gatherOffOk s.tile (lowWord (s.opA .sync)) then none else some (s.addressFault .sync (lowWord (s.opA .sync))))
    (fun s =>
      let id := s.nextOp
      let s := s.pend .sync [.q, .qp]
      s.arrive (.group s.cur.die (groupId t)) (some ((lowWord (s.opA .sync)).toNat, id)) false false)

/-! #### Episodes -/

/-- The arrivals at an object. -/
def Ctx.arrived (c : Ctx) (ob : BarObj) : List Arrival := c.arrivals.filter (fun a => a.ob = ob)

/-- Has a tile arrived at an object? -/
def Ctx.hasArrived (c : Ctx) (ob : BarObj) (die : DieId) (tid : BitVec 6) : Bool :=
  (c.arrived ob).any (fun a => a.die = die && a.tid = tid)

/-- The walker of a die holds a gate that a unit may get (R40, R256). -/
def Course.holdsFor (x : Course) (die : DieId) (lead : BitVec 6) : Bool :=
  x.shares.any (fun y => y.die = die && y.ranges ≠ [] && (y.lead = none || y.lead = some lead))

/-- A tile of a unit of a course keeps a DBAR episode open: it has not arrived, and runs a task, of whatever course, or a conjunction
of the course or a gate at the walker waits for it (R256). -/
def State.keepsOpen (s : State) (c : Ctx) (ob : BarObj) (q : BitVec 4) (x : Course) (die : DieId) (lead tid : BitVec 6) : Bool :=
  let t := s.tileAt { ctx := c.id, die := die, tid := tid }
  !(c.hasArrived ob die tid) &&
  (t.task.isSome || x.holdsFor die lead || (t.conjQ ≠ [] && c.orbits.any (fun o => o.cl = { die := die, cid := tidCluster tid } && o.q = q && o.course = x.serial)))

/-- The condition of an episode (R256). -/
def State.episodeDone (s : State) (c : Ctx) (ob : BarObj) : Bool :=
  match ob with
  | .group die g => match c.groups.find? (fun x => x.die = die && x.g = g) with
    | none => true
    | some x => x.members.all (fun tid => c.hasArrived ob die tid)
  | .cluster cl => (List.range 16).all (fun i => c.hasArrived ob cl.die (tidOf cl.cid (BitVec.ofNat 4 i)))
  | .course q die => match c.queue? q with
    | none => true
    | some u => match u.courses.find? (fun x => x.started) with
      | none => true
      | some x =>
        let dies := match die with
          | some d => [d]
          | none => courseDies c x.cr
        dies.all (fun d => (unitLeads x.cr).all (fun l => (unitTiles x.cr l).all (fun tid => !s.keepsOpen c ob q x d l tid)))

/-- The object of an episode whose condition holds. -/
def State.readyEpisode (s : State) (c : Ctx) : Option BarObj :=
  (c.arrivals.find? (fun a => s.episodeDone c a.ob)).map (·.ob)

/-! #### The ordered add's close (R115-R117) -/

/-- A key compared field by field (R115). -/
def OsUpd.key (u : OsUpd) : List Nat :=
  [if u.conjK then 1 else 0, u.gate, u.conj.toNat, u.pos.toNat, u.seq, u.lane]

/-- The lexicographic order of two keys. -/
def keyLt : List Nat → List Nat → Bool
  | a :: as, b :: bs => a < b || (a = b && keyLt as bs)
  | _, _ => false

/-- An update put behind every update whose key is not greater (R115, R117). -/
def insertUpd (u : OsUpd) : List OsUpd → List OsUpd
  | [] => [u]
  | v :: vs => if keyLt u.key v.key then u :: v :: vs else v :: insertUpd u vs

/-- Updates in ascending key order; equal keys keep the order in which they came (R115). -/
def sortUpds (l : List OsUpd) : List OsUpd := l.foldl (fun acc u => insertUpd u acc) []

/-- One update applied to the value that stands at its address; its events count into the tile that triggered it; one
whose memory side is lost ends without its write (R117, R143, R423). -/
def State.applyUpd (s : State) (u : OsUpd) : State :=
  if s.sideLost u.pa then s
  else
  let old := s.memRead u.pa 4
  let r := if u.float then f32AddRne old u.val.toNat else Res.pure ((old + u.val.toNat) % 2 ^ 32)
  let s := (s.memWrite u.pa (bytesOf r.val 4)).untag u.src (.phys u.pa) 4
  s.modTileAt u.src (fun t => t.countLate r.ev)

/-- Two updates of one 64-byte line (R116). -/
def OsUpd.sameLine (u v : OsUpd) : Bool := v.pa / 64 = u.pa / 64

/-- The updates of a line that a course holds are spilled (R116). -/
def Course.spillLine (u : OsUpd) (x : Course) : Course :=
  { x with updates := x.updates.map (fun v => if u.sameLine v then { v with spilled := true } else v) }

/-- Every update of a line, of whatever course, is spilled (R116). -/
def State.spillLine (s : State) (u : OsUpd) : State :=
  s.mapCtxs (fun c => { c with queues := c.queues.map (fun q => { q with courses := q.courses.map (Course.spillLine u) }) })

/-- The updates that the memory side holds or has spilled for a line, of every course (R116). -/
def State.lineUpds (s : State) (u : OsUpd) : List OsUpd := (s.ctxs.flatMap Ctx.updates).filter u.sameLine

/-- The first update on its way reaches the memory side: it is held for its line, or spilled, with the line's others where 16 are held
(R116). -/
def State.updateArrives (s : State) (id : CtxId) (u : OsUpd) : State :=
  let s := s.modCtx id (fun c => { c with transit := c.transit.erase u })
  let l := s.lineUpds u
  let out := l.any (fun v => v.spilled) || decide (16 ≤ l.length)
  let s := if out then s.spillLine u else s
  let s := s.modCtx id (fun c => c.modCourse u.q u.course (fun x => { x with updates := x.updates ++ [{ u with spilled := out }] }))
  let c := s.ctxAt id
  if c.spillSz < c.spillUsed then s.spillExhausted id u.q u.course else s

/-- OSADD_UPDATE_ARRIVAL: the oldest update on its way reaches its memory-side unit (R116). -/
def execOsaddUpdateArrival (s : State) : Out :=
  match s.ctx.transit with
  | [] => .next s
  | u :: _ => .next (s.updateArrives s.cur.ctx u)

/-- Every update of a course still on its way arrives (R117). -/
def State.allArrive (s : State) (id : CtxId) (q : BitVec 4) (serial : Nat) : State :=
  ((s.ctxAt id).transit.filter (fun u => u.q = q && u.course = serial)).foldl (fun s u => s.updateArrives id u) s

/-- The close: every update of the course is sorted by key and applied (R117). -/
def State.closeAdds (s : State) (id : CtxId) (q : BitVec 4) (serial : Nat) : State :=
  let s := s.allArrive id q serial
  match (s.ctxAt id).course? q serial with
  | none => s
  | some x =>
    let s := (sortUpds x.updates).foldl State.applyUpd s
    s.modCtx id (fun c => c.modCourse q serial (fun x => { x with updates := [] }))

/-! #### The end of an episode -/

/-- The counters of the participants of an EVGATH, summed with saturation (R98). -/
def gatherSum (as : List Arrival) (i : Nat) : Nat :=
  min ((as.map (fun a => ((a.evs[i]?).getD 0).toNat)).foldl (· + ·) 0) 0xFFFFFFFF

/-- What an EVGATH gathered is written at the lowest-rank member, and its results are delivered (R98, R256). The record is tagged as a
plain LS write of that member and takes part in no check of its own (log 72). -/
def State.gatherRecord (s : State) (id : CtxId) (die : DieId) (g : BitVec 8) (as : List Arrival) : State :=
  let grp := s.group { ctx := id, die := die, tid := 0 } g
  let ranked := grp.ranked
  let ofTid (tid : BitVec 6) : Option Arrival := as.find? (fun a => a.tid = tid && a.gather.isSome)
  let alive := (s.dieAt die).cs
  let present := ranked.filterMap (fun tid => if alive then ofTid tid else none)
  if as.all (fun a => a.gather.isNone) then s
  else
    let mask := ofLanes 1 (fun k => match ranked[k]? with
      | some tid => if alive && (ofTid tid).isSome then 0 else 1
      | none => 0) 64
    let s := match ranked.head? with
      | some tid => match ofTid tid with
        | some a =>
          let k : TileKey := { ctx := id, die := die, tid := tid }
          let off := (a.gather.getD (0, 0)).1
          let v := ofLanes 32 (fun i => gatherSum present i) 16
          let s := s.writeBytesAt k (.scratch tid off) (fullBytes v 64)
          s.noteWrite k (.scratch tid off) (List.range 64) ((s.tileAt k).vcOf pathLS) [] true false
        | none => s
      | none => s
    let low := (ranked.filter (fun tid => (ofTid tid).isSome)).head?
    as.foldl (fun s a => match a.gather with
      | none => s
      | some x =>
        let k : TileKey := { ctx := id, die := a.die, tid := a.tid }
        let due := s.clock + Config.freeDelay s.free
        let s := s.spend
        if low = some a.tid then s.fillAt k x.2 due [(.q, BitVec.ofNat 512 mask), (.qp, if mask = 0 then 0 else 1)]
        else s.fillAt k x.2 due [(.q, 0), (.qp, 0)]) s

/-- A DBAR at system scope is a RELEASE at that scope (R100, R105). -/
def Tile.releaseSystem (t : Tile) : Tile :=
  { t with rel := assocSet t.rel 4 (vcJoin ((assocGet t.rel 4).getD []) (t.vcOf pathLS)) }

/-- A sequencer goes on behind a barrier at an object. -/
def Seq.leaveBarrier (q : Seq) (ob : BarObj) (f : Fence) : Seq :=
  { q with barrier := if q.barrier = some ob then none else q.barrier, fences := q.fences ++ [f] }

/-- A participant goes on: its accesses from now on follow everything that the participants did (R106), `system` after a DBAR at
system scope (R100). The mark point of the barrier bundle stands behind all this; a handler that the tile has entered meanwhile goes on as
it is. -/
def Tile.leaveBarrier (t : Tile) (k : TileKey) (ob : BarObj) (all : VClock) (f : Fence) (system : Bool) : Tile :=
  let t := t.joinAll all
  let t := if system then t.releaseSystem else t
  let t := t.bumpAll k
  ({ t with markHb := { vcs := t.vcs, rel := t.rel, acq := t.acq } } : Tile).mapSeqs (fun q => q.leaveBarrier ob f)

/-- An episode completes: the adds close where it is a DBAR at package scope, the counters are gathered, the participants
are ordered and go on (R98, R106, R117, R256). -/
def State.endEpisode (s : State) (id : CtxId) (ob : BarObj) : State :=
  let as := (s.ctxAt id).arrived ob
  let keys := as.map (fun a => ({ ctx := id, die := a.die, tid := a.tid } : TileKey))
  let s := keys.foldl (fun s k => s.flushLs k) s
  let s := match ob with
    | .group die g => s.gatherRecord id die g as
    | .course q none => match (s.ctxAt id).queue? q with
      | some u => match u.courses.find? (fun x => x.started) with
        | some x => s.closeAdds id q x.serial
        | none => s
      | none => s
    | _ => s
  if !((s.ctxAt id).arrivals.any (fun a => a.ob = ob)) then s
  else
    let total := keys.foldl (fun v k => vcJoin v (((s.tileAt k).bumpAll k).vcTotal)) []
    let f : Fence := { early := 0x3F, late := 0x3F, who := keys.map (fun k => (k, (s.tileAt k).nextId)), acq := false, scope := 0, region := false, rel := false }
    let wide (k : TileKey) : Bool := as.any (fun a => a.die = k.die && a.tid = k.tid && a.system)
    let s := keys.foldl (fun s k => s.modTileAt k (fun t => t.leaveBarrier k ob total f (wide k))) s
    s.modCtx id (fun c => { c with arrivals := c.arrivals.filter (fun a => a.ob ≠ ob) })

/-- BARRIER_EPISODE_COMPLETE: an episode of the context whose condition holds completes (R256). -/
def execBarrierEpisodeComplete (s : State) : Out :=
  match s.readyEpisode s.ctx with
  | none => .next s
  | some ob => .next (s.endEpisode s.cur.ctx ob)

/-! ### Fences (R103-R105) -/

/-- Fences that still hold, or whose region has not committed, with one more. -/
def State.addFence (s : State) (f : Fence) : State :=
  let live := (s.heldFences [] s.tile.core.seq.fences).filterMap (fun x => if x.2 || x.1.region then some x.1 else none)
  s.modTile (fun t => t.mapSeq (fun q => { q with fences := live ++ [f] }))

/-- RELEASE: what happens-before it is what the tile's later LS writes publish, also what an ACQUIRE before it has still to take in (R104,
R105, R107). -/
def hkRelease (t : Wide) (_ : Word) : Hooks :=
  .checked (syncOperand (fun _ t => zeroOk t) t) (fun s =>
    let s := s.addFence { early := 1, late := 0, who := [(s.cur, s.nextOp)], acq := false, scope := s.scope, region := false, rel := true }
    s.modTile (fun x =>
      let x := x.bump s.cur pathLS
      { x with rel := assocSet x.rel s.scope (vcJoin ((assocGet x.rel s.scope).getD []) (x.vcOf pathLS)) }))

/-- ACQUIRE (R104, R105). -/
def hkAcquire (t : Wide) (_ : Word) : Hooks :=
  .checked (syncOperand (fun _ t => zeroOk t) t) (fun s =>
    let v := acquired s.cur s.scope s.tile.acq
    let s := s.modTile (fun x => x.setVc pathLS (vcJoin (x.vcOf pathLS) v))
    s.addFence { early := 1, late := 1, who := [(s.cur, s.nextOp)], acq := true, scope := s.scope, region := false, rel := false })

/-- A path word: LATER and EARLIER not empty, the other bits zero (R103). -/
def pathWordOk (t : Wide) : Bool :=
  let w := (lowWord t).toNat
  bitsOf w 14 50 = 0 && bitsOf w 6 2 = 0 && bitsOf w 8 6 ≠ 0 && bitsOf w 0 6 ≠ 0

/-- XFENCE: later accesses on the paths of LATER follow the earlier ones on the paths of EARLIER, and from the commit of its region
on the region's stores (R103, R107). -/
def hkXfence (t : Wide) (_ : Word) : Hooks :=
  .checked (syncOperand (fun _ t => pathWordOk t) t) (fun s =>
    let early : BitVec 6 := t.extractLsb' 0 6
    let late : BitVec 6 := t.extractLsb' 8 6
    let s := s.addFence { early := early, late := late, who := [(s.cur, s.nextOp)], acq := false, scope := s.scope, region := true, rel := false }
    s.modTile (fun x =>
      let x := (pathsOf early).foldl (fun x p => x.bump s.cur p) x
      let v := (pathsOf early).foldl (fun v p => vcJoin v (x.vcOf p)) []
      (pathsOf late).foldl (fun x p => x.setVc p (vcJoin (x.vcOf p) v)) x))

/-! ### Launches (R257, R258) -/

/-- SPAWN (R257). -/
def hkSpawn (t : Wide) (_ : Word) : Hooks :=
  .checked
    (fun s =>
      let a := (lowWord (s.opA .sync)).toNat
      if bitsOf a 4 60 ≠ 0 || s.ctx.queues.length ≤ a || bitsOf (lowWord t).toNat 56 8 ≠ 0 then some (s.illegalOperand .sync t) else none)
    (fun s =>
      let s := s.flushLs s.cur
      let (r, s) := s.enqueue s.cur.ctx ((s.opA .sync).extractLsb' 0 4) (t.extractLsb' 0 56)
      match r with
      | .serial n => s.locked .sync [(.q, BitVec.ofNat 512 n), (.qp, 1)]
      | .bad off => s.locked .sync [(.q, BitVec.ofNat 512 off), (.qp, 0)]
      | .full => s.locked .sync [(.q, BitVec.ofNat 512 (2 ^ 64 - 1)), (.qp, 0)])

/-- GROW; the gates that it adds may make the context runnable on a cluster (R42, R258, R393). -/
def hkGrow (t : Wide) (_ : Word) : Hooks :=
  .checked
    (fun s =>
      let n := (lowWord t).toNat
      if n = 0 || 2 ^ 32 ≤ n then some (s.illegalOperand .sync t)
      else match s.courseAt s.cur with
        | none => some (s.courseViolation .sync t)
        | some x => if x.cr.growok then none else some (s.courseViolation .sync t))
    (fun s =>
      let n := (lowWord t).toNat
      match s.courseAt s.cur with
      | none => s
      | some x =>
        if x.tooBig n then s.locked .sync [(.qp, 0)]
        else
          let c := s.ctx
          let s := (s.noteCtx s.cur.ctx).modCtx s.cur.ctx (fun y => y.modCourse s.tile.queueNo x.serial (fun z => z.grow c n))
          (s.noteCtx s.cur.ctx).locked .sync [(.qp, 1)])

/-! ### Settings and counters (R259-R261) -/

/-- The bits of lockmask that MODE may set (R26). -/
def lockmaskBits : Word := 0x7EDE

/-- MODE (R259). -/
def hkMode (t : Wide) (_ : Word) : Hooks :=
  .checked (syncOperand (fun _ t => lowWord t &&& ~~~ lockmaskBits = 0) t)
    (fun s => s.modTile (fun x => x.mapCore (fun c => { c with lockmask := lowWord t })))

/-- A value that frm accepts (R129). -/
def frmOk (w : Word) : Bool := w.toNat < 16 && w.toNat % 8 ≤ 4

/-- FRMSET (R260). -/
def hkFrmset (t : Wide) (_ : Word) : Hooks :=
  .plain (fun s =>
    if frmOk (lowWord t) then
      (s.modTile (fun x => x.mapCore (fun c => { c with frm := lowWord t }))).locked .sync [(.qp, 1)]
    else s.locked .sync [(.qp, 0)])

/-- A value that a bank format register accepts (R68, R69, R260); one with bits [63:32] set is refused with qp 0 (DEDUCED, log 108). -/
def bfOk (w : Word) : Bool :=
  let x := w.toNat
  let fmt := x % 16
  let gsz := bitsOf x 4 2
  x < 2 ^ 32 && bitsOf x 9 8 = 0 && fmt ≠ 15 &&
  (if fmt = 13 || fmt = 14 then gsz = 1 else if fmt = 1 || fmt = 10 || fmt = 11 then gsz ≤ 1 else gsz = 0)

/-- A bank number in bits [4:0] of a word, 0-23, the other bits zero (R254, R260). -/
def bankNoOk (w : Word) : Bool := w.toNat < 24

/-- A bank format register written. -/
def TileCore.setBf (c : TileCore) (b : Nat) (v : BitVec 32) : TileCore := if h : b < 24 then { c with bf := c.bf.set b v h } else c

/-- BFSET (R260). -/
def hkBfset (t : Wide) (_ : Word) : Hooks :=
  .checked (fun s => if bankNoOk (lowWord (s.opA .sync)) then none else some (s.illegalOperand .sync t)) (fun s =>
    if bfOk (lowWord t) then
      (s.modTile (fun x => x.mapCore (fun c => c.setBf (lowWord (s.opA .sync)).toNat (t.extractLsb' 0 32)))).locked .sync [(.qp, 1)]
    else s.locked .sync [(.qp, 0)])

/-- BFGET (R260). -/
def hkBfget (t : Wide) (_ : Word) : Hooks :=
  .checked (syncOperand (fun _ t => bankNoOk (lowWord t)) t)
    (fun s => s.locked .sync [(.q, (s.tile.core.bfOf (lowWord t).toNat).zeroExtend 512)])

/-- EVRD (R261). -/
def hkEvrd (t : Wide) (_ : Word) : Hooks :=
  .checked (syncOperand (fun _ t => (lowWord t).toNat < 16) t)
    (fun s => s.locked .sync [(.q, (s.tile.core.ev.get (Fin.ofNat 16 (lowWord t).toNat)).zeroExtend 512)])

/-- EVCLR (R261). -/
def hkEvclr (t : Wide) (_ : Word) : Hooks :=
  .checked (syncOperand (fun _ t => (lowWord t).toNat < 2 ^ 16) t)
    (fun s => s.modTile (fun x => x.mapCore (fun c =>
      { c with ev := Vector.ofFn (fun i : Fin 16 => if t.getLsbD i.val then 0 else c.ev.get i) })))

/-! ### The operations -/

/-- JOIN (R255). -/
def execJoin (src : Src) (g : Guard) (s : State) : Out := runScalar .sync hkJoin src g s
/-- LEAVE (R48). -/
def execLeave (src : Src) (g : Guard) (s : State) : Out := runScalar .sync hkLeave src g s
/-- GBAR (R256). -/
def execGbar (src : Src) (g : Guard) (s : State) : Out := runScalar .sync hkGbar src g s
/-- CBAR (R256). -/
def execCbar (src : Src) (g : Guard) (s : State) : Out := runScalar .sync hkCbar src g s
/-- DBAR (R256). -/
def execDbar (src : Src) (g : Guard) (s : State) : Out := runScalar .sync hkDbar src g s
/-- RELEASE (R104). -/
def execRelease (src : Src) (g : Guard) (s : State) : Out := runScalar .sync hkRelease src g s
/-- ACQUIRE (R104). -/
def execAcquire (src : Src) (g : Guard) (s : State) : Out := runScalar .sync hkAcquire src g s
/-- XFENCE (R103). -/
def execXfence (src : Src) (g : Guard) (s : State) : Out := runScalar .sync hkXfence src g s
/-- SPAWN (R257). -/
def execSpawn (src : Src) (g : Guard) (s : State) : Out := runScalar .sync hkSpawn src g s
/-- GROW (R258). -/
def execGrow (src : Src) (g : Guard) (s : State) : Out := runScalar .sync hkGrow src g s
/-- MODE (R259). -/
def execMode (src : Src) (g : Guard) (s : State) : Out := runScalar .sync hkMode src g s
/-- FRMSET (R260). -/
def execFrmset (src : Src) (g : Guard) (s : State) : Out := runScalar .sync hkFrmset src g s
/-- BFSET (R260). -/
def execBfset (src : Src) (g : Guard) (s : State) : Out := runScalar .sync hkBfset src g s
/-- BFGET (R260). -/
def execBfget (src : Src) (g : Guard) (s : State) : Out := runScalar .sync hkBfget src g s
/-- EVRD (R261). -/
def execEvrd (src : Src) (g : Guard) (s : State) : Out := runScalar .sync hkEvrd src g s
/-- EVCLR (R261). -/
def execEvclr (src : Src) (g : Guard) (s : State) : Out := runScalar .sync hkEvclr src g s
/-- EVGATH (R98). -/
def execEvgath (src : Src) (g : Guard) (s : State) : Out := runScalar .sync hkEvgath src g s

end Sys2Proof.Machine
end

