-- ==== Sys2Proof/Machine/Matrix.lean ====
section
/-! DEFINITION. The operations of mx and the steps of the matrix engine (R134-R138, R144-R158, R288-R295, R418, R419). -/

namespace Sys2Proof.Machine

/-! ### Formats of the cells (R147) -/

/-- Neff and the source row bytes of a resident format (R147). -/
def resident (fmt : Nat) : Option (Nat × Nat) :=
  match fmt with
  | 12 => some (128, 26)
  | 13 => some (64, 24)
  | 14 => some (64, 32)
  | 1 => some (32, 32)
  | 10 => some (32, 32)
  | 11 => some (32, 32)
  | 9 => some (21, 42)
  | _ => none

/-- Neff of a resident format (R147). -/
def neffOf (fmt : Nat) : Nat := match resident fmt with
  | some x => x.1
  | none => 0

/-- The GSZ rule of R69: S3G and S4G are grouped; S8, E4M3 and E5M2 may be; no other format is. -/
def gszOk (fmt gsz : Nat) : Bool :=
  match fmt with
  | 13 => gsz = 1
  | 14 => gsz = 1
  | 1 => gsz ≤ 1
  | 10 => gsz ≤ 1
  | 11 => gsz ≤ 1
  | _ => gsz = 0

/-- The floating format of a resident code, with its width W (R128). -/
def residentFloat (fmt : Nat) : Option (Fmt × Nat) :=
  match fmt with
  | 10 => some (.e4m3, 8)
  | 11 => some (.e5m2, 8)
  | 9 => some (.bf16, 12)
  | _ => none

/-- floor(log2 |x|) of a finite non-zero value (R128). -/
def FVal.binade : FVal → Option Int
  | .fin _ m e => if m = 0 then none else some ((bitLen m : Int) - 1 + e)
  | _ => none

/-- The exponent E of a block (R128). -/
def blockExp (xs : List FVal) : Int :=
  match xs.filterMap FVal.binade with
  | [] => 0
  | b :: bs => bs.foldl max b

/-- The signed aligned magnitude of an element at width w and block exponent e (R128). -/
def alignOne (w : Nat) (e : Int) (x : FVal) : Int :=
  match x with
  | .fin neg m g =>
    let sh : Int := g + (w : Int) - 2 - e
    let mag : Nat := if 0 ≤ sh then m * 2 ^ sh.toNat else m / 2 ^ (-sh).toNat
    if neg then -(mag : Int) else mag
  | _ => 0

/-- A block in the block-aligned form: the exponent of its factor, and its integers (R128, R134). -/
def alignBlock (w : Nat) (xs : List FVal) : Int × List Int :=
  let e := blockExp xs
  (e - ((w : Int) - 2), xs.map (alignOne w e))

/-- Is a value finite? -/
def FVal.finite : FVal → Bool
  | .fin _ _ _ => true
  | _ => false

/-- A list cut into runs of n elements. -/
def chunks {α : Type} (n : Nat) (l : List α) : Nat → List (List α)
  | 0 => []
  | k + 1 => if l = [] then [] else l.take n :: chunks n (l.drop n) k

/-! ### Settings (R145, R292) -/

/-- The trigger operand of an mx operation: 64 bits from a scalar slot, 32 from a vector slot (R289). -/
def mxWord (vec : Bool) (t : Wide) : Word := if vec then (t.truncate 32 : BitVec 32).zeroExtend 64 else lowWord t

/-- The matrix state of a tile changed. -/
def TileCore.mapMx (c : TileCore) (f : MxCore → MxCore) : TileCore := { c with mx := f c.mx }

/-- The matrix state of the tile of the step changed. -/
def State.modMx (s : State) (f : MxCore → MxCore) : State := s.modTile (fun t => t.mapCore (fun c => c.mapMx f))

/-- The matrix state of the tile of the step. -/
def State.mx (s : State) : MxCore := s.tile.core.mx

/-- mxcfg.MODE (R145). -/
def MxCore.mode (m : MxCore) : BitVec 2 := m.mxcfg.extractLsb' 0 2

/-- The active page of a macro (R145). -/
def MxCore.active (m : MxCore) (mac : Nat) : BitVec 3 := m.mxcfg.extractLsb' (16 + 3 * mac) 3

/-- mxcfg with MODE written (R145). -/
def cfgMode (c : Word) (v : BitVec 2) : Word := (c &&& ~~~ 3) ||| v.zeroExtend 64

/-- mxcfg with a page field written (R145). -/
def cfgPage (c : Word) (mac : Nat) (p : BitVec 3) : Word :=
  (c &&& ~~~ ((7 : Word) <<< (16 + 3 * mac))) ||| (p.zeroExtend 64 <<< (16 + 3 * mac))

/-- "illegal operand" unless a condition on the state holds. -/
def State.legal (s : State) (sk : Sock) (t : Word) (ok : Bool) : Option Cause :=
  if ok then none else some (s.illegalOperand sk (wideOfWord t))

/-- MXCFG (R145, R292). -/
def mxcfgHooks (t : Word) : Hooks :=
  .checked (fun s => s.legal .mx t (t.toNat ≤ 2)) (fun s => s.modMx (fun m => { m with mxcfg := cfgMode m.mxcfg (t.truncate 2) }))

/-- WPAGE (R145, R292). -/
def wpageHooks (t : Word) : Hooks :=
  .checked (fun s => s.legal .mx t (t.toNat ≤ 63)) (fun s => s.modMx (fun m =>
    let p : BitVec 3 := t.truncate 3
    let all := t.getLsbD 5
    { m with mxcfg := if all then cfgPage (cfgPage (cfgPage (cfgPage m.mxcfg 0 p) 1 p) 2 p) 3 p
                      else cfgPage m.mxcfg (bitsOf t.toNat 3 2) p }))

/-! ### The queues (R152, R157) -/

/-- The index of a queued operation. -/
def MxOp.id : MxOp → Nat
  | .wld i _ _ _ _ _ _ _ => i
  | .pass i _ _ _ _ _ _ _ _ _ => i
  | .clr i _ _ => i
  | .drainst i _ _ _ _ _ _ _ _ => i
  | .stat i => i

/-- The clock of an operation's event. -/
def MxOp.due : MxOp → Nat
  | .wld _ d _ _ _ _ _ _ => d
  | .pass _ d _ _ _ _ _ _ _ _ => d
  | .clr _ d _ => d
  | .drainst _ d _ _ _ _ _ _ _ => d
  | .stat _ => 0

/-- The operation belongs to the load queue (R152). -/
def MxOp.isLoad : MxOp → Bool
  | .wld _ _ _ _ _ _ _ _ => true
  | _ => false

/-- The operation belongs to the stream queue (R152). -/
def MxOp.isStream : MxOp → Bool
  | .wld _ _ _ _ _ _ _ _ => false
  | .stat _ => false
  | _ => true

/-- The first operation of the load queue (R152). -/
def MxCore.loadHead (m : MxCore) : Option MxOp := m.queue.find? MxOp.isLoad

/-- The first operation of the stream queue (R152). -/
def MxCore.streamHead (m : MxCore) : Option MxOp := m.queue.find? MxOp.isStream

/-- A queued operation removed. -/
def MxCore.remove (m : MxCore) (o : MxOp) : MxCore := { m with queue := m.queue.erase o }

/-- The PV bits of the loaded pages (R146). -/
def MxCore.pv (m : MxCore) : Nat :=
  ofLanes 1 (fun i => if m.pages.any (fun p => p.gone.isNone && 8 * p.mac.toNat + p.page.toNat = i) then 1 else 0) 32

/-- mxstat (R146). -/
def MxCore.mxstat (m : MxCore) : Nat := m.pv * 256 + (if m.cim then 1 else 0)

/-- The entry of an MXSTAT that clears CIM stands in the handler's frame: it is delivered there on its arrival (R295, R371). -/
def Tile.clearsInFrame (t : Tile) (id : Nat) : Bool :=
  match t.frame with
  | some f => f.flight.any (fun e => e.id = id && e.live = .mxstat true)
  | none => false

/-- CIM cleared where an MXSTAT of the frame asks for it. -/
def MxCore.clearCim (m : MxCore) (clear : Bool) : MxCore := { m with cim := m.cim && !clear }

/-- The copy of a tile at its mark when an MXSTAT is delivered: where it holds mx operations before that one, which a rollback brings
back, its MXSTAT is delivered behind them (R58, R146). -/
def TileCore.markStat (c : TileCore) (id : Nat) (clear : Bool) : TileCore :=
  match c.mx.queue with
  | .stat i :: r =>
    if i = id then c.mapMx (fun m => { m.clearCim clear with queue := r })
    else { c with flight := c.flight.map (fun f => if f.id = id then { f with ready := false } else f) }
  | _ => { c with flight := c.flight.map (fun f => if f.id = id then { f with ready := false } else f) }

/-- An MXSTAT that no earlier mx operation precedes any more may be delivered, and so may each that follows it at once; its value is
mxstat as it stands at the delivery, which clears CIM where it asks for that; one whose entry stands in a frame is delivered into it now
(R146, R295, R371). -/
def State.settleStats (s : State) (k : TileKey) : Nat → State
  | 0 => s
  | n + 1 =>
    match (s.tileAt k).core.mx.queue with
    | .stat id :: r =>
      let s := s.fillAt k id s.clock [(.q, BitVec.ofNat 512 (s.tileAt k).core.mx.mxstat)]
      let s := s.modTileAt k (fun t =>
        { t.mapCore (fun c => c.mapMx (fun m => { m.clearCim (t.clearsInFrame id) with queue := r })) with
          mark := t.mark.markStat id (t.clearsInFrame id) })
      s.settleStats k n
    | _ => s

/-- Every MXSTAT that may be answered is answered. -/
def State.settleMx (s : State) : State := s.settleStats s.cur s.mx.queue.length

/-- An operation without a result put at the end of the engine's queues; it receives the tile's next index. -/
def State.pushMx (s : State) (f : MxCore → MxCore) (o : Nat → MxOp) : State :=
  let s := s.flushLs s.cur
  let id := s.nextOp
  let s := s.modTile (fun t => { t with nextId := t.nextId + 1 })
  s.modMx (fun m => { f m with queue := m.queue ++ [o id] })

/-- MXSTAT (R146, R295). -/
def mxstatHooks (t : Word) : Hooks :=
  .checked (fun s => s.legal .mx t (t.toNat ≤ 1)) (fun s =>
    let id := s.nextOp
    let s := (s.pend .mx [.q]).deliverAs id (.mxstat (t.getLsbD 0))
    (s.modMx (fun m => { m with queue := m.queue ++ [.stat id] })).settleMx)

/-! ### Loading a page (R147, R148) -/

/-- The fields of the load word (R148). -/
def wldWordOk (a : Word) : Bool := bitsOf a.toNat 48 16 = 0 && bitsOf a.toNat 6 15 = 0 && bitsOf a.toNat 3 1 = 0
/-- STRIDE (R148). -/
def wldStride (a : Word) : Nat := bitsOf a.toNat 36 12
/-- SIDX (R148). -/
def wldSidx (a : Word) : Nat := bitsOf a.toNat 21 15
/-- MACRO (R148). -/
def wldMac (a : Word) : BitVec 2 := a.extractLsb' 4 2
/-- PAGE (R148). -/
def wldPage (a : Word) : BitVec 3 := a.extractLsb' 0 3

/-- A local address and its offset (R63). -/
def localOff (t : Word) : Option Nat :=
  if addrSpace t = 0 && (t.extractLsb' 21 39 : BitVec 39) = 0 && decide (addrOff t < spSize) then some (addrOff t) else none

/-- Is the resident image group-scaled? -/
def grouped (bf : BitVec 32) : Bool := bitsOf bf.toNat 4 2 = 1

/-- The check of WLD (R148, R291). A WLD with both an illegal word or format and a bad address: R206 and R291 rank no two traps of one
operation; "address fault" goes first for an address that is not local, "illegal operand" before the fault of a bank (DESIGN CHOICE,
log 87). -/
def State.wldCause (s : State) (t : Word) : Option Cause :=
  let a := lowWord (s.opA .mx)
  let off := addrOff t
  let bf := s.tile.core.bfOf (off / bankSize)
  let bad : Option Cause := some (s.illegalOperand .mx (wideOfWord t))
  match localOff t with
  | none => some (s.addressFault .mx t)
  | some _ =>
    match resident (bfFmt bf) with
    | none => bad
    | some (neff, rb) =>
      if !wldWordOk a || !gszOk (bfFmt bf) (bitsOf bf.toNat 4 2) || wldStride a < rb then bad
      else if grouped bf && decide (bankSize < scaleOff bf (wldSidx a + 4 * (neff - 1) + 3) + 2) then bad
      else if (off + 255 * wldStride a + rb - 1) / bankSize ≠ off / bankSize then some (s.addressFault .mx t)
      else none

/-- The lines that a WLD reads: each row's separately, scale lines once (R157). -/
def wldLines (off stride rb neff sidx : Nat) (bf : BitVec 32) : Nat :=
  let rows := ((List.range 256).map (fun k => (linesOf (off + k * stride) rb).length)).foldl (· + ·) 0
  rows + (if grouped bf then ((List.range (4 * neff)).map (fun i => scaleOff bf (sidx + i) / 64)).eraseDups.length else 0)

/-- When a page falls free of the passes before (R152, R157). -/
def MxCore.pageFree (m : MxCore) (mac : BitVec 2) (page : BitVec 3) : Nat :=
  (m.queue.filterMap (fun o => match o with
    | .pass _ _ stop _ _ _ _ _ pages _ => if pages[mac.toNat]? = some page then some stop else none
    | _ => none)).foldl max 0

/-- When a page's loads are done (R152). -/
def MxCore.pageReady (m : MxCore) (mac : Nat) (page : BitVec 3) : Nat :=
  (m.queue.filterMap (fun o => match o with
    | .wld _ due a p _ _ _ _ => if a.toNat = mac && p = page then some due else none
    | _ => none)).foldl max 0

/-- WLD (R148, R152, R157). -/
def wldHooks (t : Word) : Hooks :=
  .stalled (fun s => s.fenceStall pathMX) (fun s => s.wldCause t) (fun s =>
    let a := lowWord (s.opA .mx)
    let off := addrOff t
    let bf := s.tile.core.bfOf (off / bankSize)
    match resident (bfFmt bf) with
    | none => s
    | some (neff, rb) =>
      let mac := wldMac a
      let page := wldPage a
      let m := s.mx
      let due := max (max m.clk m.loadFree) (m.pageFree mac page) + 8 + wldLines off (wldStride a) rb neff (wldSidx a) bf
      let d : PageDesc := { mac := mac, page := page, fmt := BitVec.ofNat 4 (bfFmt bf), gsz := grouped bf }
      s.pushMx (fun m => { m with loadFree := due, desc := d :: m.desc.filter (fun x => !(x.mac = mac && x.page = page)) })
        (fun id => .wld id due mac page off (wldStride a) (wldSidx a) bf))

/-- An element of a source row that holds integers (R125, R126, R147). -/
def residentInt (fmt : Nat) (row n : Nat) : Int :=
  match fmt with
  | 12 => let b := laneOf 8 row (n / 5); if 243 ≤ b then 0 else trnValue (trnDigit b (n % 5))
  | 13 => groupElem false row n
  | 14 => groupElem true row n
  | _ => sInt 8 (laneOf 8 row n)

/-- The exponent and the integers of the four groups of a column (R128, R147). -/
def residentColumn (fmt : Nat) (rows : List Nat) (n : Nat) : List (Int × List Int) :=
  (chunks 64 rows 4).map (fun g =>
    match residentFloat fmt with
    | none => (0, g.map (fun r => residentInt fmt r n))
    | some (f, w) => alignBlock w (g.map (fun r => f.decode (laneOf f.width r n))))

/-- What the load of a page finds: illegal TRN5 bytes, and NaNs and infinities among elements and scales (R125, R134). -/
def residentBad (fmt neff rb : Nat) (rows : List Nat) (scales : List FVal) : Nat × Nat :=
  let sum (f : Nat → Nat) : Nat := (rows.map f).foldl (· + ·) 0
  ((if fmt = 12 then sum (fun r => countBelow (fun i => 243 ≤ laneOf 8 r i) rb) else 0),
   (match residentFloat fmt with
    | none => 0
    | some (f, _) => sum (fun r => countBelow (fun n => !(f.decode (laneOf f.width r n)).finite) neff)) +
   (scales.filter (fun x => !x.finite)).length)

/-- fB of a group from its exponent and its scale; a NaN or infinite scale gives 0 (R134, R147). -/
def groupFactor (e : Int) (scale : FVal) : Dyadic :=
  if scale.finite then Dyadic.mul { m := 1, e := e } scale.dyadic else { m := 0, e := 0 }

/-- A page as WLD fills it, with its counts (R147, R148). -/
def fillPage (mac : BitVec 2) (page : BitVec 3) (fmt neff rb : Nat) (rows : List Nat) (scales : List FVal) : PageImage × Nat × Nat :=
  let cols := (List.range neff).map (residentColumn fmt rows)
  let one : FVal := .fin false 1 0
  let scaleOf (i : Nat) : FVal := (scales[i]?).getD one
  ({ mac := mac, page := page, ver := 0, gone := none, cols := cols.map (fun c => c.flatMap (·.2)),
     factors := cols.mapIdx (fun n c => c.mapIdx (fun g x => groupFactor x.1 (scaleOf (4 * n + g)))) },
   residentBad fmt neff rb rows scales)

/-- The first poisoned unit among some byte ranges of the tile's scratchpad (R415). -/
def Tile.poisonIn (t : Tile) (spans : List (Nat × Nat)) : Option Nat :=
  if t.poison = [] then none
  else spans.findSome? (fun x => t.poison.find? (fun u => u < x.1 + x.2 && x.1 < u + 8))

/-- A tile consumes poison of its scratchpad (R416). -/
def State.consumePoison (s : State) (u : Nat) : State := s.takeTrap (s.softError s.cur.die 1 0x01 (BitVec.ofNat 64 u))

/-- A pass that was triggered before the WLD of index `id` and uses its page is still queued: it keeps the image before (R152). -/
def MxCore.earlierPass (m : MxCore) (id : Nat) (mac : BitVec 2) (page : BitVec 3) : Bool :=
  m.queue.any (fun o => match o with
    | .pass i _ _ _ _ _ _ _ pages _ => decide (i < id) && decide (pages[mac.toNat]? = some page)
    | _ => false)

/-- WLD_PAGE_WRITTEN: the oldest WLD of the tile's load queue has read its image and writes the page (R148, R157). -/
def execWldPageWritten (s : State) : Out :=
  match s.mx.loadHead with
  | some (.wld id due mac page src stride sidx bf) =>
    if s.tile.frozen || s.mx.clk < due then .next s
    else match resident (bfFmt bf) with
      | none => .next s
      | some (neff, rb) =>
        let so (i : Nat) : Nat := scaleBank bf (src / bankSize) * bankSize + scaleOff bf (sidx + i)
        let spans := (List.range 256).map (fun k => (src + k * stride, rb)) ++
          (if grouped bf then (List.range (4 * neff)).map (fun i => (so i, 2)) else [])
        match s.tile.poisonIn spans with
        | some u => .next (s.consumePoison u)
        | none =>
          let rows := (List.range 256).map (fun k => s.tile.spRead (src + k * stride) rb)
          let scales := if grouped bf then (List.range (4 * neff)).map (fun i => scaleVal (bfSfmt bf) (s.tile.spRead (so i) 2)) else []
          let r := fillPage mac page (bfFmt bf) neff rb rows scales
          let ev : EvCount := { EvCount.zero with trn := r.2.1, inv := r.2.2, wld := r.2.2 }
          let s := s.modMx (fun m =>
            let m := m.remove (.wld id due mac page src stride sidx bf)
            { m with pages := { r.1 with ver := id } :: m.pages.filter (fun x => !(x.mac = mac && x.page = page) || m.earlierPass id mac page),
                     cim := m.cim || decide (r.2.1 ≠ 0) || decide (r.2.2 ≠ 0) })
          .next ((s.modTile (fun t => t.mapCore (fun c => c.count ev))).settleMx)
  | _ => .next s

/-! ### Passes (R134-R138, R149-R151) -/

/-- STRIDE (R149). -/
def astrStride (a : Word) : Nat := bitsOf a.toNat 24 20
/-- The number of rows (R149). -/
def astrRows (a : Word) : Nat := bitsOf a.toNat 16 8 + 1
/-- ACC (R149). -/
def astrAcc (a : Word) : Nat := bitsOf a.toNat 12 4
/-- SF (R149). -/
def astrSf (a : Word) : BitVec 3 := a.extractLsb' 9 3

/-- Bits of a streamed element (R149). -/
def sfBits (sf : Nat) : Nat :=
  match sf with
  | 2 => 4
  | 5 => 16
  | 6 => 16
  | _ => 8

/-- The floating format of a streamed element (R149). -/
def sfFloat (sf : Nat) : Option Fmt :=
  match sf with
  | 3 => some .e4m3
  | 4 => some .e5m2
  | 5 => some .f16
  | 6 => some .bf16
  | _ => none

/-- An integer streamed element (R149). -/
def sfInt (sf x : Nat) : Int :=
  match sf with
  | 0 => sInt 8 x
  | 1 => (x : Int)
  | _ => sInt 4 x

/-- The published WA of a profile (R137). -/
def profileWa (n : Nat) : Nat :=
  match n with
  | 0 => 8
  | 1 => 12
  | 2 => 16
  | 3 => 24
  | 4 => 16
  | 5 => 8
  | 6 => 16
  | _ => 24

/-- WA of a stream: the native width of an integer, the profile's of a float (R151). -/
def streamWa (sf nprof : Nat) : Nat := if sf ≤ 2 then sfBits sf else profileWa nprof

/-- The elements of a row (R149). -/
def rowElems (mode neff : Nat) : Nat :=
  match mode with
  | 0 => 1024
  | 1 => 256
  | _ => neff

/-- The bytes of a row (R149). -/
def rowBytes (sf elems : Nat) : Nat := (elems * sfBits sf + 7) / 8

/-- The descriptor of a page (R144). -/
def MxCore.descOf (m : MxCore) (mac : Nat) (page : BitVec 3) : Option PageDesc :=
  m.desc.find? (fun d => d.mac.toNat = mac && d.page = page)

/-- The four active pages (R145). -/
def MxCore.actives (m : MxCore) : List (BitVec 3) := [m.active 0, m.active 1, m.active 2, m.active 3]

/-- The format and GSZ that the four active pages share, where none is empty (R150). -/
def MxCore.activeFmt (m : MxCore) : Option (Nat × Bool) :=
  match m.descOf 0 (m.active 0), m.descOf 1 (m.active 1), m.descOf 2 (m.active 2), m.descOf 3 (m.active 3) with
  | some a, some b, some c, some d =>
    if [b, c, d].all (fun x => x.fmt = a.fmt && x.gsz = a.gsz) then some (a.fmt.toNat, a.gsz) else none
  | _, _, _, _ => none

/-- A run of n bytes of a scratchpad lies in one bank. -/
def inOneBank (off n : Nat) : Bool := off + n ≤ spSize && off / bankSize = (off + n - 1) / bankSize

/-- The check of ASTR (R150, R291). With both an illegal word, page or mode and a bad row address, "illegal operand" goes first: R206 and
R291 rank no two traps of one operation (DESIGN CHOICE, log 87). -/
def State.astrCause (s : State) (t : Word) : Option Cause :=
  let a := lowWord (s.opA .mx)
  let bad : Option Cause := some (s.illegalOperand .mx (wideOfWord t))
  if bitsOf a.toNat 44 20 ≠ 0 || bitsOf a.toNat 0 9 ≠ 0 || astrSf a = 7 then bad
  else match s.mx.activeFmt with
    | none => bad
    | some (fmt, gsz) =>
      if s.mx.mode = 2 && !(fmt = 12 || (fmt = 1 && !gsz)) then bad
      else match localOff t with
        | none => some (s.addressFault .mx t)
        | some off =>
          let rb := rowBytes (astrSf a).toNat (rowElems s.mx.mode.toNat (neffOf fmt))
          if (List.range (astrRows a)).all (fun j => inOneBank (off + j * astrStride a) rb) then none else some (s.addressFault .mx t)

/-- The profile of the bundle that issues (R136). -/
def State.nprof (s : State) : BitVec 4 := s.tile.core.seq.hdr.extractLsb' 6 4

/-- The passes of an ASTR, from pass j on: each streams for P clocks and is entered three clocks later, and no earlier than the last
event of the operation before it, an MXCLR or a DRAINST too (R157; DEDUCED, log 103). -/
def astrPasses (id off stride acc : Nat) (sf : BitVec 3) (mode : BitVec 2) (fmt : BitVec 4) (pages : List (BitVec 3))
    (np : BitVec 4) (s0 p last : Nat) (j : Nat) : Nat → List MxOp
  | 0 => []
  | n + 1 =>
    .pass id (max (s0 + j * p + p + 3) last) (s0 + j * p + p) ((acc + j) % 16) (off + j * stride) sf mode fmt pages np ::
      astrPasses id off stride acc sf mode fmt pages np s0 p last (j + 1) n

/-- ASTR (R149, R152, R157). Where the rows touch different numbers of lines, F is that of row 0 for every pass: R157 speaks of one row
(DESIGN CHOICE, log 88). -/
def astrHooks (t : Word) : Hooks :=
  .stalled (fun s => s.fenceStall pathMX) (fun s => s.astrCause t) (fun s =>
    match s.mx.activeFmt with
    | none => s
    | some (fmt, _) =>
      let a := lowWord (s.opA .mx)
      let off := addrOff t
      let m := s.mx
      let sf := (astrSf a).toNat
      let f := (linesOf off (rowBytes sf (rowElems m.mode.toNat (neffOf fmt)))).length
      let p := max (streamWa sf s.nprof.toNat) f
      let ready := ([0, 1, 2, 3].map (fun i => m.pageReady i (m.active i))).foldl max 0
      let s0 := max (max (m.clk + 3 + f) m.streamFree) ready
      let n := astrRows a
      let s := s.flushLs s.cur
      let id := s.nextOp
      let s := s.modTile (fun t => { t with nextId := t.nextId + 1 })
      s.modMx (fun m => { m with
        queue := m.queue ++ astrPasses id off (astrStride a) (astrAcc a) (astrSf a) m.mode (BitVec.ofNat 4 fmt) m.actives s.nprof
                              s0 p m.lastEvent 0 n,
        streamFree := s0 + n * p, lastEvent := max (s0 + n * p + 3) m.lastEvent }))

/-- The stripes of a streamed row: the exponent of fA and the integers; none for a row with a NaN or infinity (R134, R149,
R151). -/
def rowStripes (sf wa elems row : Nat) : Option (List (Int × List Int)) :=
  let xs := (List.range elems).map (fun i => laneOf (sfBits sf) row i)
  match sfFloat sf with
  | none => some ((chunks 64 xs 16).map (fun c => (0, c.map (sfInt sf))))
  | some f =>
    let vs := xs.map f.decode
    if vs.all FVal.finite then some ((chunks 64 vs 16).map (alignBlock wa)) else none

/-- The exact sum of products of two runs of integers (R135). -/
def dotInt : List Int → List Int → Int
  | a :: as, b :: bs => a * b + dotInt as bs
  | _, _ => 0

/-- y = p × fA × fB (R135, R151). -/
def scaled (stripe : Int × List Int) (res : List Int) (fb : Dyadic) : Dyadic :=
  Dyadic.mul { m := dotInt stripe.2 res, e := stripe.1 } fb

/-- The scaled partials of one macro for a resident column, its groups fed by the stripes from `first` on (R135, R149). -/
def macroYs (stripes : List (Int × List Int)) (first : Nat) (col : List Int) (fbs : List Dyadic) : List Dyadic :=
  (chunks 64 col 4).mapIdx (fun g c =>
    scaled ((stripes[first + g]?).getD (0, [])) c ((fbs[g]?).getD { m := 0, e := 0 }))

/-- The scaled partials of a macro row in transposed mode (R149). -/
def rowYs (stripes : List (Int × List Int)) (cols : List (List Int)) (k : Nat) : List Dyadic :=
  let r := cols.map (fun x => (x[k]?).getD 0)
  (List.range 4).map (fun i => scaled ((stripes[i]?).getD (0, [])) ((r.drop (64 * i)).take 64) { m := 1, e := 0 })

/-- What a pass adds to each column that it writes: the scaled partials of each contributing macro, in order (R138, R149). -/
def passColumns (mode neff : Nat) (pages : List PageImage) (stripes : List (Int × List Int)) : List (Nat × List (List Dyadic)) :=
  let colOf (p : PageImage) (n : Nat) : List Int := (p.cols[n]?).getD []
  let fbOf (p : PageImage) (n : Nat) : List Dyadic := (p.factors[n]?).getD []
  match mode with
  | 0 => (List.range neff).map (fun n => (n, pages.mapIdx (fun m p => macroYs stripes (4 * m) (colOf p n) (fbOf p n))))
  | 1 => (pages.mapIdx (fun m p => (List.range neff).map (fun n => (m * neff + n, [macroYs stripes 0 (colOf p n) (fbOf p n)])))).flatten
  | _ => (pages.mapIdx (fun m p => (List.range 256).map (fun k => (256 * m + k, [rowYs stripes p.cols k])))).flatten

/-- The columns that a pass writes (R149). -/
def passTargets (mode neff : Nat) : List Nat :=
  match mode with
  | 0 => List.range neff
  | 1 => List.range (4 * neff)
  | _ => List.range 1024

/-- Each event at most once: one output column (R138, R143). -/
def EvCount.each (e : EvCount) : EvCount :=
  { inv := min e.inv 1, ovf := min e.ovf 1, unf := min e.unf 1, inx := min e.inx 1, sat := min e.sat 1, trn := min e.trn 1,
    nan := min e.nan 1, wld := min e.wld 1, div := min e.div 1 }

/-- f32_add_rne with the events so far. -/
def addF32 (x y : Res) : Res :=
  let r := f32AddRne x.val y.val
  { val := r.val, ev := (x.ev.add y.ev).add r.ev }

/-- round(y, F32, mode) (R138). -/
def convF32 (mode : Nat) (y : Dyadic) : Res := Fmt.f32.ofDyadic mode false false y

/-- A macro's sum under the pairwise profiles (R138). -/
def pairMacro (mode : Nat) (ys : List Dyadic) : Res :=
  let y (i : Nat) : Res := convF32 mode ((ys[i]?).getD { m := 0, e := 0 })
  addF32 (addF32 (y 0) (y 1)) (addF32 (y 2) (y 3))

/-- The new accumulator of a rounded pass (R138). -/
def roundedPass (nprof : Nat) (acc : Nat) (ys : List (List Dyadic)) : Res :=
  if nprof = 6 then ys.flatten.foldl (fun a y => addF32 a (convF32 0 y)) (Res.pure acc)
  else
    let mode := if nprof = 5 then 1 else 0
    match ys with
    | [a] => addF32 (Res.pure acc) (pairMacro mode a)
    | [a, b, c, d] => addF32 (Res.pure acc)
        (addF32 (addF32 (pairMacro mode a) (pairMacro mode b)) (addF32 (pairMacro mode c) (pairMacro mode d)))
    | _ => Res.pure acc

/-- Is the profile one of the exact ones (R137)? -/
def exactProfile (nprof : Nat) : Bool := nprof = 4 || nprof = 7

/-- The kind that a pass sets (R151). -/
def passKind (nprof : Nat) : AccKind := if exactProfile nprof then .exact else .rounded

/-- A pass entered into one column (R138, R151). A pass of the column's own kind leaves a poisoned column as it is, rounds nothing and
counts nothing (log 22). -/
def enterColumn (nprof : Nat) (c : AccCol) (ys : List (List Dyadic)) : AccCol × EvCount :=
  let kind := passKind nprof
  if c.kind ≠ .none && c.kind ≠ kind then ({ c with kind := kind, poison := true }, evInv)
  else if c.poison then ({ c with kind := kind }, EvCount.zero)
  else if exactProfile nprof then
    if 65536 ≤ c.passes then ({ c with poison := true }, evInv)
    else ({ c with kind := kind, x := ys.flatten.foldl Dyadic.add c.x, passes := c.passes + 1 }, EvCount.zero)
  else
    let r := roundedPass nprof c.acc.toNat ys
    ({ c with kind := kind, acc := BitVec.ofNat 32 r.val }, r.ev.each)

/-- A clear column (R144, R153). -/
def AccCol.clear (row col : Nat) : AccCol :=
  { row := row, col := col, acc := 0, x := { m := 0, e := 0 }, passes := 0, kind := .none, poison := false }

/-- A column of the accumulator file; one that is not listed is clear (R144). -/
def MxCore.colAt (m : MxCore) (row col : Nat) : AccCol :=
  (m.acc.find? (fun c => c.row = row && c.col = col)).getD (AccCol.clear row col)

/-- A column replaced. -/
def MxCore.setCol (m : MxCore) (c : AccCol) : MxCore :=
  { m with acc := c :: m.acc.filter (fun x => !(x.row = c.row && x.col = c.col)) }

/-- A pass entered column by column: the engine's state and the events (R138, R143). -/
def MxCore.enter (m : MxCore) (nprof row : Nat) : List (Nat × List (List Dyadic)) → MxCore × EvCount
  | [] => (m, EvCount.zero)
  | (col, ys) :: r =>
    let c := enterColumn nprof (m.colAt row col) ys
    let x := (m.setCol c.1).enter nprof row r
    (x.1, c.2.add x.2)

/-- Columns poisoned by a NaN or infinity in a streamed row; the pass sets their kind (R134, R151). -/
def MxCore.poisonCols (m : MxCore) (nprof row : Nat) (cols : List Nat) : MxCore :=
  cols.foldl (fun m c => m.setCol { m.colAt row c with kind := passKind nprof, poison := true }) m

/-- A pass entered into one column with partials that the manual does not state: the value and its events are free, the kind and the
poison follow the rules of every pass (R138, R151, R419; log 22). -/
def freeColumn (nprof free : Nat) (c : AccCol) : AccCol × EvCount :=
  let w (i : Nat) : Word := Config.freeWord (free + i)
  let kind := passKind nprof
  if c.kind ≠ .none && c.kind ≠ kind then ({ c with kind := kind, poison := true }, evInv)
  else if c.poison then ({ c with kind := kind }, EvCount.zero)
  else if exactProfile nprof then
    if 65536 ≤ c.passes then ({ c with poison := true }, evInv)
    else ({ c with kind := kind, x := { m := (w 0).toInt, e := (w 1).toInt }, passes := c.passes + 1 }, EvCount.zero)
  else
    let b (i : Nat) : Nat := if (w 1).getLsbD i then 1 else 0
    ({ c with kind := kind, acc := (w 0).truncate 32 }, { EvCount.zero with inv := b 0, ovf := b 1, unf := b 2, inx := b 3, nan := b 4 })

/-- A pass that met a page emptied after its trigger and before the end of its streaming: the images are not stated (R419; log 22). -/
def MxCore.enterFree (m : MxCore) (nprof row free : Nat) : List Nat → MxCore × EvCount
  | [] => (m, EvCount.zero)
  | col :: r =>
    let c := freeColumn nprof (free + 2 * col) (m.colAt row col)
    let x := (m.setCol c.1).enterFree nprof row free r
    (x.1, c.2.add x.2)

/-- A page's image could still be read by a pass that streamed until `stop` (R151, R419). -/
def PageImage.keptTo (p : PageImage) (stop : Nat) : Bool := p.gone.all (fun c => stop ≤ c)

/-- The images of the pages of a pass of index `id` that streams until `stop`, in the order of the macros, where all were loaded while it
streamed: the latest that an earlier-triggered WLD has written (R151, R152). -/
def MxCore.images (m : MxCore) (id stop : Nat) (pages : List (BitVec 3)) : Option (List PageImage) :=
  let get (i : Nat) : Option PageImage :=
    (m.pages.find? (fun p => p.mac.toNat = i && some p.page = pages[i]? && p.ver < id)).filter (fun p => p.keptTo stop)
  match get 0, get 1, get 2, get 3 with
  | some a, some b, some c, some d => some [a, b, c, d]
  | _, _, _, _ => none

/-- ASTR_PASS_ENTERED: the oldest operation of the tile's stream queue is a pass, and it is entered into its accumulator row
(R151, R157). -/
def execAstrPassEntered (s : State) : Out :=
  match s.mx.streamHead with
  | some (.pass id due stop row src sf mode fmt pages np) =>
    if s.tile.frozen || s.mx.clk < due then .next s
    else
      let o : MxOp := .pass id due stop row src sf mode fmt pages np
      let neff := neffOf fmt.toNat
      let elems := rowElems mode.toNat neff
      let rb := rowBytes sf.toNat elems
      match s.tile.poisonIn [(src, rb)] with
      | some u => .next (s.consumePoison u)
      | none =>
        match rowStripes sf.toNat (streamWa sf.toNat np.toNat) elems (s.tile.spRead src rb) with
        | none =>
          let cols := passTargets mode.toNat neff
          let s := s.modMx (fun m => (m.remove o).poisonCols np.toNat row cols)
          .next ((s.modTile (fun t => t.mapCore (fun c => c.count { EvCount.zero with inv := cols.length }))).settleMx)
        | some st =>
          match s.mx.images id stop pages with
          | none =>
            let r := (s.mx.remove o).enterFree np.toNat row s.free (passTargets mode.toNat neff)
            let s := ({ s with free := s.free + 2048 } : State).modMx (fun _ => r.1)
            .next ((s.modTile (fun t => t.mapCore (fun c => c.count r.2))).settleMx)
          | some im =>
            let r := (s.mx.remove o).enter np.toNat row (passColumns mode.toNat neff im st)
            let s := s.modMx (fun _ => r.1)
            .next ((s.modTile (fun t => t.mapCore (fun c => c.count r.2))).settleMx)
  | _ => .next s

/-! ### Clearing and draining (R153-R155, R294) -/

/-- MXCLR (R153). -/
def mxclrHooks (t : Word) : Hooks :=
  .checked (fun s => s.legal .mx t (t.toNat < 65536)) (fun s =>
    let due := max s.mx.clk s.mx.lastEvent + 1
    s.pushMx (fun m => { m with lastEvent := due }) (fun id => .clr id due (t.truncate 16)))

/-- MXCLR_TAKES_EFFECT: the oldest operation of the tile's stream queue is an MXCLR, and its rows are cleared (R153). -/
def execMxclrTakesEffect (s : State) : Out :=
  match s.mx.streamHead with
  | some (.clr id due rows) =>
    if s.tile.frozen || s.mx.clk < due then .next s
    else .next ((s.modMx (fun m =>
      let m := m.remove (.clr id due rows)
      { m with acc := m.acc.filter (fun c => !rows.getLsbD c.row) })).settleMx)
  | _ => .next s

/-- A column as a drain reads it; every NaN that it delivers counts, that of a poisoned column and that of a rounded sum (R124, R154). -/
def AccCol.read (c : AccCol) : Res :=
  if c.poison then { val := 0x7FC00000, ev := evNan }
  else match c.kind with
    | .exact => convF32 0 c.x
    | _ => { val := c.acc.toNat, ev := if (Fmt.f32.decode c.acc.toNat).isNan then evNan else EvCount.zero }

/-- A DRAIN stalls behind passes into its row, and behind every MXCLR and every DRAINST with CLR (R154, R294). -/
def MxCore.drainWaits (m : MxCore) (row : Nat) : Bool :=
  m.queue.any (fun o => match o with
    | .pass _ _ _ r _ _ _ _ _ _ => r = row
    | .clr _ _ _ => true
    | .drainst _ _ _ _ _ _ clear _ _ => clear
    | _ => false)

/-- The lanes of a slice cleared (R154). -/
def MxCore.clearSlice (m : MxCore) (row slice : Nat) (on : Nat → Bool) : MxCore :=
  { m with acc := m.acc.filter (fun c => !(c.row = row && c.col / 16 = slice && on (c.col % 16))) }

/-- DRAIN (R154, R294): `g` is the lane mask. -/
def drainHooks (t : Word) (g : Word) : Hooks :=
  let w := t.toNat
  let row := bitsOf w 6 4
  let slice := bitsOf w 0 6
  .stalled (fun s => s.mx.drainWaits row) (fun s => s.legal .mx t (w < 2048)) (fun s =>
    let f (i : Nat) : Res := (s.mx.colAt row (16 * slice + i)).read
    let on (i : Nat) : Bool := laneOn g 4 i
    let isNan (i : Nat) : Bool := on i && (Fmt.f32.decode (f i).val).isNan
    let s' := s.timed .mx 4 [(.q, wideOfLanes 32 (fun i => (f i).val), laneMask g 4), (.qp, if (List.range 16).any isNan then 1 else 0, allBits)]
      (laneEvents on f 16)
    if t.getLsbD 10 then s'.modMx (fun m => m.clearSlice row slice on) else s')

/-- The element type that DRAINST encodes into (R155). -/
def drainTy (fmt : Nat) : Option ElTy :=
  match fmt with
  | 0 => some (.flt .f32)
  | 7 => some (.flt .f32)
  | 8 => some (.flt .f16)
  | 9 => some (.flt .bf16)
  | 10 => some (.flt .e4m3)
  | 11 => some (.flt .e5m2)
  | _ => none

/-- Bytes of an element that DRAINST writes. -/
def drainSize (fmt : Nat) : Nat := match drainTy fmt with
  | some ty => ty.width / 8
  | none => 0

/-- The check of DRAINST (R155, R291). With both faults, "address fault" goes first for an address that is not local or not aligned, and
"illegal operand" before the faults of a bank: R206 and R291 rank no two traps of one operation (DESIGN CHOICE, log 87). -/
def State.drainstCause (s : State) (t : Word) : Option Cause :=
  let a := (lowWord (s.opA .mx)).toNat
  let bf := s.tile.core.bfOf (addrOff t / bankSize)
  let bad : Option Cause := some (s.illegalOperand .mx (wideOfWord t))
  let fault : Option Cause := some (s.addressFault .mx t)
  match localOff t with
  | none => fault
  | some off =>
    if off % 64 ≠ 0 then fault
    else
      let gsz := bitsOf bf.toNat 4 2
      let fmt := bfFmt bf
      let count := bitsOf a 11 6 + 1
      let n := count * 16 * drainSize fmt
      if 2 ^ 17 ≤ a || (drainTy fmt).isNone || !(gsz = 0 || (gsz = 1 && (fmt = 10 || fmt = 11))) || 64 < bitsOf a 0 6 + count then bad
      else if !inOneBank off n || !bankOk s.tile .store off then fault
      else if gsz = 1 && (List.range n).any (fun i => decide (bankSize ≤ scaleOff bf (groupOf (bfOrient bf) (off % bankSize + i)))) then fault
      else none

/-- DRAINST (R155, R157). Behind an operation of the stream queue that has not ended, it counts from that one's last event (DEDUCED,
log 102). -/
def drainstHooks (t : Word) : Hooks :=
  .stalled (fun s => s.fenceStall pathMX) (fun s => s.drainstCause t) (fun s =>
    let a := (lowWord (s.opA .mx)).toNat
    let bf := s.tile.core.bfOf (addrOff t / bankSize)
    let count := bitsOf a 11 6 + 1
    let due := max s.mx.clk s.mx.lastEvent + 4 + (count * 16 * drainSize (bfFmt bf) + 63) / 64
    s.pushMx (fun m => { m with lastEvent := due })
      (fun id => .drainst id due (addrOff t) (bitsOf a 6 4) (bitsOf a 0 6) count (decide (bitsOf a 10 1 = 1)) bf
        (s.tile.core.frm.truncate 4)))

/-- A drained column encoded into its bank (R132, R155). -/
def drainEncode (bf : BitVec 32) (frm : BitVec 4) (x : Nat) (scale : FVal) : Res :=
  let mode := (frm.extractLsb' 0 3 : BitVec 3).toNat
  let fsat := frm.getLsbD 3
  match drainTy (bfFmt bf) with
  | some (.flt .f32) => Res.pure x
  | some (.flt f) => if grouped bf then quantFlt f mode fsat (Fmt.f32.decode x) scale else convert mode fsat (.flt .f32) (.flt f) x
  | _ => Res.pure x

/-- DRAINST_COMPLETE: the oldest operation of the tile's stream queue is a DRAINST, and its slices are written (R155, R157). -/
def execDrainstComplete (s : State) : Out :=
  match s.mx.streamHead with
  | some (.drainst id due dst row slice count clear bf frm) =>
    if s.tile.frozen || s.mx.clk < due then .next s
    else
      let n := 16 * count
      let sz := drainSize (bfFmt bf)
      let bank := dst / bankSize
      let scale (i : Nat) : FVal :=
        scaleVal (bfSfmt bf) (s.tile.spRead (scaleBank bf bank * bankSize + scaleOff bf (groupOf (bfOrient bf) (dst % bankSize + i))) 2)
      let rd (i : Nat) : Res := (s.mx.colAt row (16 * slice + i)).read
      let enc (i : Nat) : Res :=
        let e := drainEncode bf frm (rd i).val (if grouped bf then scale i else .fin false 1 0)
        { val := e.val, ev := ((rd i).ev.add e.ev).each }
      let s' := s.writeBytesAt s.cur (.scratch s.cur.tid dst) (fullBytes (ofLanes (8 * sz) (fun i => (enc i).val) n) (n * sz))
      let s' := s'.untag s.cur (.scratch s.cur.tid dst) (n * sz)
      let s' := s'.modMx (fun m =>
        let m := m.remove (.drainst id due dst row slice count clear bf frm)
        if clear then (List.range count).foldl (fun m i => m.clearSlice row (slice + i) (fun _ => true)) m else m)
      .next ((s'.modTile (fun t => t.mapCore (fun c => c.count (laneEvents (fun _ => true) enc n)))).settleMx)
  | _ => .next s

/-! ### The scrubber (R418, R419) -/

/-- A WLD of the page has been triggered and has not written it yet: the page's descriptor is that WLD's (R150, R152). -/
def MxCore.loading (m : MxCore) (mac : BitVec 2) (page : BitVec 3) : Bool :=
  m.queue.any (fun o => match o with
    | .wld _ _ a p _ _ _ _ => a = mac && p = page
    | _ => false)

/-- A page emptied: its image, its descriptor and its PV bit are gone, in the live state and at the mark; a pass that has streamed keeps
the image until it is entered, and a page that is being loaded keeps the descriptor of its load (R146, R150, R151, R418, R419). -/
def Tile.emptyPage (t : Tile) (mac : BitVec 2) (page : BitVec 3) : Tile :=
  t.mapBoth (fun c => c.mapMx (fun m =>
    { m with pages := m.pages.map (fun x => if x.mac = mac && x.page = page && x.gone.isNone then { x with gone := some m.clk } else x),
             desc := m.desc.filter (fun x => !(x.mac = mac && x.page = page) || m.loading mac page) }))

/-- The location word of a macro row (R417). -/
def macroLoc (mac : BitVec 2) (page : BitVec 3) (row : BitVec 8) : Word :=
  BitVec.ofNat 64 (mac.toNat * 65536 + page.toNat * 256 + row.toNat)

/-- SCRUB_ROW: the scrubber reads a row of a loaded page; one that fails parity empties its page and is logged (R419). It stops with the
engine while the tile is frozen or switched out (R25, R144). -/
def execScrubRow (mac : BitVec 2) (page : BitVec 3) (row : BitVec 8) (parityFails : Bool) (s : State) : Out :=
  if s.tile.frozen || s.tile.out then .next (s.addEvent (s.clock + 1) s.cur (.scrubRow mac page row parityFails))
  else if !parityFails || !s.mx.pages.any (fun p => p.mac = mac && p.page = page && p.gone.isNone) then .next s
  else
    let s := s.modTile (fun t => t.emptyPage mac page)
    .next (s.logError s.ctx.part s.cur.die (errRec (s.cycle s.cur.die) 0 0x05 (macroLoc mac page row) 0))

/-! ### The operations -/

/-- MXCFG (R292). -/
def hkMxcfg (vec : Bool) (t : Wide) (_ : Word) : Hooks := mxcfgHooks (mxWord vec t)
/-- MXCFG (R292). -/
def execMxcfg (md : Option SrcMod) (src : Src) (g : Guard) (s : State) : Out := runEither .mx (hkMxcfg md.isSome) md src g s
/-- WLD (R148). -/
def hkWld (vec : Bool) (t : Wide) (_ : Word) : Hooks := wldHooks (mxWord vec t)
/-- WLD (R148). -/
def execWld (md : Option SrcMod) (src : Src) (g : Guard) (s : State) : Out := runEither .mx (hkWld md.isSome) md src g s
/-- WPAGE (R145). -/
def hkWpage (vec : Bool) (t : Wide) (_ : Word) : Hooks := wpageHooks (mxWord vec t)
/-- WPAGE (R145). -/
def execWpage (md : Option SrcMod) (src : Src) (g : Guard) (s : State) : Out := runEither .mx (hkWpage md.isSome) md src g s
/-- ASTR (R149). -/
def hkAstr (vec : Bool) (t : Wide) (_ : Word) : Hooks := astrHooks (mxWord vec t)
/-- ASTR (R149). -/
def execAstr (md : Option SrcMod) (src : Src) (g : Guard) (s : State) : Out := runEither .mx (hkAstr md.isSome) md src g s
/-- DRAIN (R154). -/
def hkDrain (t : Wide) (g : Word) : Hooks := drainHooks (mxWord false t) g
/-- DRAIN (R154). -/
def execDrain (src : Src) (g : Guard) (s : State) : Out := runScalar .mx hkDrain src g s
/-- DRAIN_VECTOR (R294). -/
def hkDrainVector (t : Wide) (g : Word) : Hooks := drainHooks (mxWord true t) g
/-- DRAIN_VECTOR (R294). -/
def execDrainVector (md : SrcMod) (src : Src) (g : Guard) (s : State) : Out := runVector .mx hkDrainVector md src g s
/-- DRAINST (R155). -/
def hkDrainst (vec : Bool) (t : Wide) (_ : Word) : Hooks := drainstHooks (mxWord vec t)
/-- DRAINST (R155). -/
def execDrainst (md : Option SrcMod) (src : Src) (g : Guard) (s : State) : Out := runEither .mx (hkDrainst md.isSome) md src g s
/-- MXCLR (R153). -/
def hkMxclr (vec : Bool) (t : Wide) (_ : Word) : Hooks := mxclrHooks (mxWord vec t)
/-- MXCLR (R153). -/
def execMxclr (md : Option SrcMod) (src : Src) (g : Guard) (s : State) : Out := runEither .mx (hkMxclr md.isSome) md src g s
/-- MXSTAT (R146). -/
def hkMxstat (vec : Bool) (t : Wide) (_ : Word) : Hooks := mxstatHooks (mxWord vec t)
/-- MXSTAT (R146). -/
def execMxstat (md : Option SrcMod) (src : Src) (g : Guard) (s : State) : Out := runEither .mx (hkMxstat md.isSome) md src g s

end Sys2Proof.Machine
end

