-- ==== Sys2Proof/Machine/Orbit.lean ====
section
/-! DEFINITION. The operations of orb and the steps of orbits (R46, R159-R176, R296-R303). -/

namespace Sys2Proof.Machine

/-! ### The attach word and the orbit (R159) -/

/-- AUTO (R159). -/
def attachAuto (w : Word) : Bool := w.getLsbD 2
/-- PASS (R159). -/
def attachPass (w : Word) : Bool := w.getLsbD 1
/-- BSZ (R159). -/
def attachBsz (w : Word) : Nat := bitsOf w.toNat 4 4
/-- The slot size S (R159). -/
def slotSize (w : Word) : Nat := 2 ^ (12 + attachBsz w)
/-- PER (R159). -/
def attachPer (w : Word) : Nat := bitsOf w.toNat 32 32

/-- The attach word has no reserved value (R159, R160). -/
def attachOk (w : Word) : Bool :=
  bitsOf w.toNat 8 24 = 0 && !w.getLsbD 3 && !w.getLsbD 0 && attachBsz w ≤ 4 &&
    (if attachPass w then attachBsz w ≤ 2 else attachPer w = 0)

/-- The first local offset of the station buffer (R161). -/
def stationBase : Nat := 0x120000
/-- The size of the station buffer (R161). -/
def stationSize : Nat := 0x40000

/-- The orbit of a cluster of a context. -/
def Ctx.orbit? (c : Ctx) (cl : ClusterId) : Option Orbit := c.orbits.find? (fun o => o.cl = cl)

/-- The orbit that the tile of the step belongs to. -/
def State.orbit? (s : State) : Option Orbit := s.ctx.orbit? (keyCluster s.cur)

/-- That orbit changed. -/
def State.modOrbit (s : State) (f : Orbit → Orbit) : State :=
  s.modCtx s.cur.ctx (fun c => { c with orbits := c.orbits.map (fun o => if o.cl = keyCluster s.cur then f o else o) })

/-- The station of a tile changed. -/
def Tile.mapStation (t : Tile) (f : Station → Station) : Tile := { t with station := f t.station }

/-- The 16 tiles of the cluster, by ring position (R13, R159). -/
def State.clusterTiles (s : State) : List TileKey :=
  (List.range 16).map (fun r => keyPeer s.cur (tidOf (tidCluster s.cur.tid) (BitVec.ofNat 4 r)))

/-- Every station of the cluster changed. -/
def State.modStations (s : State) (f : TileKey → Station → Station) : State :=
  s.clusterTiles.foldl (fun s k => s.modTileAt k (fun t => t.mapStation (f k))) s

/-- The miss records of all stations, by ring position (R172). -/
def State.allMisses (s : State) : List Miss := s.clusterTiles.flatMap (fun k => (s.tileAt k).station.misses)

/-- "orbit fault" unless a condition holds (R160). -/
def State.orbitNeeds (s : State) (t : Wide) (ok : Bool) : Option Cause := if ok then none else some (s.orbitFault .orb t)

/-- The word that opens the next orbit of a cluster has been offered by position 0 (R297). -/
def State.orbitOffered (s : State) : Bool := s.orbit?.isSome

/-- The course of the running task may attach an orbit (R38, R50). -/
def State.mayAttach (s : State) : Bool := match s.courseAt s.cur with
  | some c => c.cr.orb
  | none => false

/-- An OATT with a legal word waits for position 0's; a reserved one faults at once (R160, R297). -/
def State.oattWaits (s : State) (w : Word) : Bool :=
  tidRing s.cur.tid ≠ 0 && !s.tile.station.attached && s.mayAttach && attachOk w && !s.orbitOffered

/-- The traps of OATT (R50, R160, R297). -/
def State.oattCause (s : State) (t : Wide) : Option Cause :=
  let w := lowWord t
  if !s.mayAttach then some (s.courseViolation .orb t)
  else if s.tile.station.attached || !attachOk w then some (s.orbitFault .orb t)
  else match s.orbit? with
    | some o => s.orbitNeeds t (tidRing s.cur.tid ≠ 0 && o.word = w)
    | none => none

/-- The number of attachments that the gate on a cluster has made (R159). -/
def Ctx.ordinalOf (c : Ctx) (cl : ClusterId) : Nat :=
  match c.ordinals.find? (fun x => x.1 = cl) with
  | some x => x.2.2
  | none => 0

/-- The attachment counted (R159). -/
def Ctx.countOrbit (c : Ctx) (cl : ClusterId) (gate : Nat) : Ctx :=
  { c with ordinals := (cl, gate, c.ordinalOf cl + 1) :: c.ordinals.filter (fun x => x.1 ≠ cl) }

/-- A new orbit of the running gate (R159, R174). -/
def State.newOrbit (s : State) (w : Word) : Orbit :=
  let k := s.tile.task
  { cl := keyCluster s.cur, q := (k.map Task.q).getD 0, course := (k.map Task.course).getD 0, gate := (k.map Task.gate).getD 0,
    word := w, ordinal := s.ctx.ordinalOf (keyCluster s.cur), attachedN := 0, lap := 1, step := 0, total := 0, clk := 0,
    lapAt := 0, after := 0, doneAt := 0, stepDue := none, yieldAt := none, lapOver := false, olap := [], odet := [], want := false,
    leave := false, count := 0 }

/-- The lost contents of the station buffer: values that the manual does not give (R161; log 23). -/
def lostBytes (free : Nat) : List Byte := (List.range (stationSize / 8)).flatMap (fun i => bytesOf (Config.freeWord (free + i)).toNat 8)

/-- The station of a tile as its own OATT leaves it: both families vacant, in the first two slots (R161, R162; log 23). -/
def Station.fresh (w : Word) : Station :=
  { Station.reset with attached := true, pro := { id := 0xFFFF, slot := stationBase },
                       ret := { id := 0xFFFF, slot := stationBase + slotSize w } }

/-- OATT (R159, R161, R297). -/
def oattHooks (t : Wide) : Hooks :=
  .stalled (fun s => s.oattWaits (lowWord t)) (fun s => s.oattCause t) (fun s =>
    let w := lowWord t
    let s := s.flushLs s.cur
    let s := if s.orbitOffered then s else
      s.modCtx s.cur.ctx (fun c => { c.countOrbit (keyCluster s.cur) (s.newOrbit w).gate with orbits := c.orbits ++ [s.newOrbit w] })
    let s := s.modOrbit (fun o => { o with attachedN := o.attachedN + 1 })
    let f := s.free
    let s := (s.modTile (fun t => { t.spWrite stationBase (lostBytes f) with station := Station.fresh w })).untag s.cur
      (.scratch s.cur.tid stationBase) stationSize
    { s with free := f + stationSize / 8 })

/-! ### Ephemeris, injection, arming (R162, R163, R167, R298-R300) -/

/-- An orb operation before arming is refused on a station that is not attached, or has been told to arm (R160). -/
def State.beforeArming (s : State) : Bool := s.tile.station.attached && !s.tile.station.stepped

/-- The step that the head of a station's operations takes. -/
def OrbOp.event : OrbOp → Instr
  | .oeph _ _ _ => .oephTableLoaded
  | .oinj _ _ _ _ => .oinjCopyComplete
  | .ostep _ => .stationArmed

/-- The station's oldest operation goes on, after a free delay (log 3). -/
def State.orbNext (s : State) (k : TileKey) : State :=
  match (s.tileAt k).station.ops with
  | o :: _ => s.addLater k o.event
  | [] => s

/-- An operation put behind the station's others (R296). -/
def State.orbPush (s : State) (o : OrbOp) : State :=
  let first := s.tile.station.ops.isEmpty
  let s := s.modTile (fun t => t.mapStation (fun x => { x with ops := x.ops ++ [o] }))
  if first then s.orbNext s.cur else s

/-- The station's oldest operation is done. -/
def State.orbPop (s : State) : State :=
  (s.modTile (fun t => t.mapStation (fun x => { x with ops := x.ops.drop 1 }))).orbNext s.cur

/-- A local range of n bytes within banks 0-17, aligned (R162, R167). -/
def lowRange (t : Word) (align n : Nat) : Bool :=
  match localOff t with
  | some off => off % align = 0 && off + n ≤ stationBase
  | none => false

/-- OEPH (R167, R298). -/
def oephHooks (t : Wide) : Hooks :=
  .stalled (fun s => s.fenceStall pathOB)
    (fun s =>
      let n := (lowWord (s.opA .orb)).toNat
      if !s.beforeArming then some (s.orbitFault .orb t)
      else if n = 0 || 256 < n then some (s.illegalOperand .orb t)
      else if !lowRange (lowWord t) 16 (16 * n) then some (s.addressFault .orb (lowWord t))
      else none)
    (fun s =>
      let s := s.flushLs s.cur
      let id := s.nextOp
      (s.pend .orb [.qp]).orbPush (.oeph id (addrOff (lowWord t)) (lowWord (s.opA .orb)).toNat))

/-- OINJ (R162, R299). -/
def oinjHooks (t : Wide) : Hooks :=
  .stalled (fun s => s.fenceStall pathOB)
    (fun s =>
      let a := lowWord (s.opA .orb)
      if !s.beforeArming then some (s.orbitFault .orb t)
      else if 2 ^ 17 ≤ a.toNat then some (s.illegalOperand .orb t)
      else match s.orbit? with
        | none => some (s.orbitFault .orb t)
        | some o => if lowRange (lowWord t) 64 (slotSize o.word) then none else some (s.addressFault .orb (lowWord t)))
    (fun s =>
      let a := lowWord (s.opA .orb)
      let s := s.flushLs s.cur
      let id := s.nextOp
      (s.modTile (fun t => { t with nextId := t.nextId + 1 })).orbPush (.oinj id (addrOff (lowWord t)) (a.getLsbD 16) (a.truncate 16)))

/-- OSTEP (R163, R300). -/
def ostepHooks (t : Wide) : Hooks :=
  .checked (fun s =>
      if !s.beforeArming then some (s.orbitFault .orb t)
      else s.legal .orb (lowWord t) (lowWord t = 0))
    (fun s =>
      let id := s.nextOp
      let s := (s.pend .orb [.q]).modTile (fun t => t.mapStation (fun x => { x with stepped := true }))
      s.orbPush (.ostep id))

/-- Entry i of a table of ephemeris entries at an offset: its two words (R167). -/
def Tile.ephWords (t : Tile) (src i : Nat) : Nat × Nat := (t.spRead (src + 16 * i) 8, t.spRead (src + 16 * i + 8) 8)

/-- An entry is well formed (R167). -/
def ephOk (w : Nat × Nat) : Bool := bitsOf w.1 32 32 < 2 ^ 20 && bitsOf w.2 35 29 = 0

/-- An ephemeris entry from its words (R167). -/
def ephOf (w : Nat × Nat) : EphEntry :=
  { pid := BitVec.ofNat 16 w.1, rid := BitVec.ofNat 16 (w.1 / 2 ^ 16), task := bitsOf w.1 32 32, arg := BitVec.ofNat 32 w.2,
    v := w.2.testBit 32, pw := w.2.testBit 33, rw := w.2.testBit 34 }

/-- A station's operation consumes poison of its scratchpad; it is irrevocable (R59, R416). -/
def State.consumeFinal (s : State) (u : Nat) : State :=
  s.takeTrap { s.softError s.cur.die 1 0x01 (BitVec.ofNat 64 u) with final := true }

/-- OEPH_TABLE_LOADED: the station's oldest operation is an OEPH, whose whole table has been read and checked; it waits while the tile is
frozen or switched out (R25, R167, R298, R416). -/
def execOephTableLoaded (s : State) : Out :=
  if s.tile.frozen || s.tile.out then .next (s.addEvent (s.clock + 1) s.cur .oephTableLoaded)
  else match s.tile.station.ops with
  | .oeph id src n :: _ =>
    match s.tile.poisonIn [(src, 16 * n)] with
    | some u => .next (s.consumeFinal u)
    | none =>
      let ws := (List.range n).map (fun i => s.tile.ephWords src i)
      let ok := ws.all ephOk
      let s := if ok then s.modTile (fun t => t.mapStation (fun x => { x with eph := ws.map ephOf })) else s
      .next ((s.fillAt s.cur id s.clock [(.qp, if ok then 1 else 0)]).orbPop)
  | _ => .next s

/-- A body of n bytes copied from one local offset to another. -/
def Tile.copyBody (t : Tile) (src dst n : Nat) : Tile := t.spWrite dst (cellsRead t.scratch src n)

/-- OINJ_COPY_COMPLETE: the station's oldest operation is an OINJ, and its body stands in the station's slot; it waits while the tile is
frozen or switched out (R25, R105, R162, R299, R416). -/
def execOinjCopyComplete (s : State) : Out :=
  if s.tile.frozen || s.tile.out then .next (s.addEvent (s.clock + 1) s.cur .oinjCopyComplete)
  else match s.tile.station.ops, s.orbit? with
  | .oinj _ src retro bid :: _, some o =>
    match s.tile.poisonIn [(src, slotSize o.word)] with
    | some u => .next (s.consumeFinal u)
    | none =>
      let slot := if retro then s.tile.station.ret.slot else s.tile.station.pro.slot
      let s := s.modTile (fun t => (t.copyBody src slot (slotSize o.word)).mapStation (fun x =>
          if retro then { x with ret := { x.ret with id := bid } } else { x with pro := { x.pro with id := bid } }))
      .next (s.untag s.cur (.scratch s.cur.tid slot) (slotSize o.word)).orbPop
  | _, _ => .next s

/-- STATION_ARMED: the station's oldest operation is its OSTEP; the station arms, and q delivers the orbit ordinal; it waits while the
tile is frozen or switched out (R25, R163, R300). -/
def execStationArmed (s : State) : Out :=
  if s.tile.frozen || s.tile.out then .next (s.addEvent (s.clock + 1) s.cur .stationArmed)
  else match s.tile.station.ops, s.orbit? with
  | .ostep id :: _, some o =>
    let s := s.modTile (fun t => t.mapStation (fun x => { x with armed := true }))
    let s := s.modOrbit (fun o => { o with after := o.clk, lapAt := o.clk })
    .next ((s.fillAt s.cur id s.clock [(.q, BitVec.ofNat 512 (o.ordinal % 2 ^ 16))]).orbPop)
  | _, _ => .next s

/-! ### Steps (R164-R166) -/

/-- The step may begin now (R163, R166, R171). -/
def State.stepReady (s : State) (o : Orbit) : Bool :=
  o.attachedN = 16 && o.stepDue.isNone && o.step < 8 && !o.lapOver && s.residentAt s.cur &&
    s.clusterTiles.all (fun k => (s.tileAt k).station.armed && (s.tileAt k).station.holding.isEmpty) &&
    (if attachPass o.word && o.total ≠ 0 then o.lapAt + (o.step + 1) * attachPer o.word ≤ o.clk && o.doneAt < o.clk
     else if attachPass o.word then o.lapAt + attachPer o.word ≤ o.clk
     else o.after < o.clk && s.clusterTiles.all (fun k => (s.tileAt k).station.released))

/-- ORBIT_STEP_BEGIN: the next step of the orbit of the tile's cluster begins; each clock in which a body transfer yields to an access of
a station buffer will add one to its time (R67, R166). -/
def execOrbitStepBegin (s : State) : Out :=
  match s.orbit? with
  | none => .next s
  | some o =>
    if !s.stepReady o then .next s
    else
      let s := s.modStations (fun _ x => { x with released := false })
      .next (s.modOrbit (fun o => { o with stepDue := some (o.clk + 16 + slotSize o.word / 64), yieldAt := none }))

/-- The local offsets of the slots that a station's tasks pin (R169). -/
def Tile.pinned (t : Tile) : List Nat :=
  (match t.task with | some k => k.pins | none => []) ++ (t.conjQ ++ t.station.holding).flatMap (fun c => [c.pro, c.ret])

/-- The lowest slot of a station that is not in use (log 23). -/
def freeSlot (w : Word) (used : List Nat) : Nat :=
  match (List.range (stationSize / slotSize w)).find? (fun i => stationBase + i * slotSize w ∉ used) with
  | some i => stationBase + i * slotSize w
  | none => stationBase

/-- A body received into a slot of a tile. -/
def Tile.receive (t : Tile) (slot : Nat) (bytes : List Byte) : Tile := t.spWrite slot bytes

/-- The station after a step: the prograde body of its lower neighbour, the retrograde body of its upper one, and its own
old retrograde body held (R164). `pro` and `ret` are the arriving ids with their bytes; poison stays with the slots of
the scratchpad (DEDUCED, log 105). -/
def Tile.stepBodies (t : Tile) (w : Word) (pro ret : BitVec 16 × List Byte) : Tile :=
  let st := t.station
  let ps := freeSlot w (st.ret.slot :: t.pinned)
  let rs := freeSlot w (ps :: st.ret.slot :: t.pinned)
  ((t.receive ps pro.2).receive rs ret.2).mapStation (fun x =>
    { x with pro := { id := pro.1, slot := ps }, ret := { id := ret.1, slot := rs }, held := some x.ret })

/-- The bodies that leave a station: its prograde and its retrograde body with their bytes. -/
def Tile.bodies (t : Tile) (w : Word) : (BitVec 16 × List Byte) × (BitVec 16 × List Byte) :=
  ((t.station.pro.id, cellsRead t.scratch t.station.pro.slot (slotSize w)),
   (t.station.ret.id, cellsRead t.scratch t.station.ret.slot (slotSize w)))

/-- A conjunction's serial (R168). -/
def conjSerial (ordinal : Nat) (pid rid : BitVec 16) : BitVec 48 :=
  BitVec.ofNat 48 (ordinal % 2 ^ 16 * 2 ^ 32 + pid.toNat * 2 ^ 16 + rid.toNat)

/-- An entry matches a pair (R168). -/
def EphEntry.matches (e : EphEntry) (pid rid : BitVec 16) : Bool :=
  e.v && (e.pw || e.pid = pid) && (e.rw || e.rid = rid) && pid ≠ 0xFFFF && rid ≠ 0xFFFF

/-- The record of the recovery table that a pair fires: of its ids and kind (R171, R172). -/
def Station.recovered (st : Station) (wake : Bool) (pid rid : BitVec 16) : Option Miss :=
  st.recov.find? (fun m => m.pid = pid && m.rid = rid && m.wake = wake)

/-- What a pair fires at a station: by its ephemeris in lap 1, by the recovery table afterwards (R168, R172). -/
def Station.lookup (st : Station) (lap : Nat) (wake : Bool) (pid rid : BitVec 16) : Option (Nat × BitVec 32) :=
  if lap ≤ 1 then (st.eph.find? (fun e => e.matches pid rid)).map (fun e => (e.task, e.arg))
  else (st.recovered wake pid rid).map (fun m => (m.task, m.arg))

/-- The records that the two checks of a station fire in a recovery lap (R164, R172). -/
def Station.fires (st : Station) (lap : Nat) : List Miss :=
  if lap ≤ 1 then []
  else (st.recovered false st.pro.id st.ret.id).toList ++ (match st.held with
    | some h => (st.recovered true st.pro.id h.id).toList
    | none => [])

/-- Records that have fired leave the recovery table, of which every station has a copy; another one of the same ids stays (R162, R172). -/
def Station.dropFired (st : Station) (ms : List Miss) : Station := { st with recov := ms.foldl List.erase st.recov }

/-- A conjunction enters the queue, the miss list, or holds the station (R169-R171). -/
def Tile.fire (t : Tile) (pass wake : Bool) (pid rid : BitVec 16) (c : Conj) : Tile :=
  if t.conjQ.length < 4 && t.station.holding.isEmpty then { t with conjQ := t.conjQ ++ [c] }
  else if pass && t.station.misses.length < 32 && t.station.holding.isEmpty then
    t.mapStation (fun x => { x with misses := x.misses ++ [{ pid := pid, rid := rid, wake := wake, task := c.task, arg := c.arg }] })
  else t.mapStation (fun x => { x with holding := x.holding ++ [c] })

/-- One check of a station: the current prograde body and another body (R164, R168). -/
def Tile.checkPair (t : Tile) (o : Orbit) (u : Nat) (wake : Bool) (other : Body) : Tile :=
  let p := t.station.pro
  match t.station.lookup o.lap wake p.id other.id with
  | none => t
  | some (task, arg) =>
    let c : Conj := { serial := conjSerial o.ordinal p.id other.id, task := task, arg := arg, pro := p.slot, ret := other.slot, step := u }
    t.fire (attachPass o.word) wake p.id other.id c

/-- Both checks of a station: head-on, then wake; a station without a match releases at once (R164, R170). -/
def Tile.checks (t : Tile) (o : Orbit) (u : Nat) : Tile :=
  let t := t.checkPair o u false t.station.ret
  let t := match t.station.held with
    | some h => t.checkPair o u true h
    | none => t
  let free := t.conjQ.isEmpty && t.station.holding.isEmpty && (match t.task with | some k => k.conj.isNone | none => true)
  t.mapStation (fun x => { x with released := free || attachPass o.word })

/-- The bodies of a step arrive at a station (R105, R164). -/
def State.moveBodies (s : State) (o : Orbit) (k : TileKey) (pro ret : BitVec 16 × List Byte) : State :=
  let s := s.modTileAt k (fun t => t.stepBodies o.word pro ret)
  let st := (s.tileAt k).station
  (s.untag k (.scratch k.tid st.pro.slot) (slotSize o.word)).untag k (.scratch k.tid st.ret.slot) (slotSize o.word)

/-- The checks of a station after a step; what it fires from the recovery table leaves the table of every station (R164, R172). -/
def State.checkStation (s : State) (o : Orbit) (k : TileKey) : State :=
  let ms := (s.tileAt k).station.fires o.lap
  let s := s.modTileAt k (fun t => t.checks o (o.total + 1))
  if ms = [] then s else s.modStations (fun _ x => x.dropFired ms)

/-- ORBIT_STEP_COMPLETE: the step in progress of the orbit of the tile's cluster completes (R164, R166). -/
def execOrbitStepComplete (s : State) : Out :=
  match s.orbit? with
  | none => .next s
  | some o =>
    match o.stepDue with
    | none => .next s
    | some d =>
      if o.clk < d || !s.residentAt s.cur then .next s
      else
        let ks := s.clusterTiles
        let bs := ks.map (fun k => (s.tileAt k).bodies o.word)
        let body (i : Nat) : (BitVec 16 × List Byte) × (BitVec 16 × List Byte) := (bs[i % 16]?).getD ((0xFFFF, []), (0xFFFF, []))
        let moved := (ks.zip (List.range 16)).foldl (fun s x => s.moveBodies o x.1 (body (x.2 + 15)).1 (body (x.2 + 1)).2) s
        let checked := ks.foldl (fun s k => s.checkStation o k) moved
        .next (checked.modOrbit (fun o => { o with stepDue := none, step := o.step + 1, total := o.total + 1, doneAt := o.clk, after := o.clk }))

/-- STATION_RELEASE: in hold mode, the tile's station has no task of the step left, and releases (R170). -/
def execStationRelease (s : State) : Out :=
  match s.orbit? with
  | none => .next s
  | some o =>
    let t := s.tile
    if t.station.released || o.stepDue.isSome || !t.conjQ.isEmpty || !t.station.holding.isEmpty ||
        (match t.task with | some k => k.conj.isSome | none => false) then .next s
    else
      let s := s.modTile (fun t => t.mapStation (fun x => { x with released := true }))
      .next (s.modOrbit (fun o => { o with after := o.clk }))

/-! ### Conjunction tasks (R45, R46, R169) -/

/-- A queue entry fell free: a conjunction that holds the station enters the queue (R171). -/
def Tile.admitHeld (t : Tile) : Tile :=
  match t.station.holding with
  | c :: r => if t.conjQ.length < 4 then { t with conjQ := t.conjQ ++ [c], station := { t.station with holding := r } } else t
  | [] => t

/-- The sequencer of a task that starts at an address; everything else carries over (R29, R41, R46). -/
def Seq.start (q : Seq) (pc : BitVec 56) : Seq :=
  { q with pc := pc, loops := [], kernelDone := false, skew := 0, waitLeft := 0, drain := false, ending := false, waitu := none,
           waitb := none, barrier := none, target := none, ring := none, owe := 0, safe := false,
           chose := false, diverged := none }

/-- A task starts: its registers are preloaded, its first mark point is taken, its spin index and counters begin anew (R41,
R46, R56, R60, R115, R231). -/
def Tile.startTask (t : Tile) (k : Task) (pc : BitVec 56) (pre : List (BitVec 6 × Word)) : Tile :=
  let c := pre.foldl (fun (c : TileCore) x => c.setM x.1 (wideOfWord x.2)) t.core
  let c := { c with seq := c.seq.start pc, recIdx := 0, spin := none, spinBuf := Vector.replicate 16 SpinEntry.empty, osSeq := 0 }
  { t with core := c, mark := c, task := some k, gated := [], wrote := [], refused := [], stores := 0, posts := [], trace := [], towN := 0, ahead := 0, markAt := (t.issue, 0),
           markHb := { vcs := t.vcs, rel := t.rel, acq := t.acq }, towAt := none }

/-- The preloads of a conjunction task (R46). -/
def Conj.preloads (c : Conj) : List (BitVec 6 × Word) :=
  [(56, BitVec.ofNat 64 c.pro), (57, BitVec.ofNat 64 c.ret), (58, c.arg.zeroExtend 64), (59, c.serial.zeroExtend 64)]

/-- A conjunction task of the tile may start; a hot die starts none (R45, R49, R166, R169, R441). -/
def State.conjReady (s : State) (k : TileKey) : Bool :=
  let t := s.tileAt k
  match t.conjQ, (s.ctxAt k.ctx).orbit? (keyCluster k) with
  | c :: _, some o => t.task.isNone && t.core.drained && !t.frozen && s.activeAt k && !(s.dieAt k.die).hot && (c.step < o.total || o.doneAt < o.clk)
  | _, _ => false

/-- CONJUNCTION_TASK_START: the free tile starts the oldest conjunction of its station (R45, R46, R169). -/
def execConjunctionTaskStart (s : State) : Out :=
  if !s.conjReady s.cur then .next s
  else match s.tile.conjQ, s.orbit? with
    | c :: r, some o =>
      let x := (s.ctx.course? o.q o.course)
      let code := match x with | some x => x.cr.code | none => 0
      let k : Task :=
        { conj := some c.serial, q := o.q, course := o.course, gate := o.gate, pos := tidRing s.cur.tid, code := code,
          pro := 0, ker := 0, epi := 0, trip := 0, cluster := true, tow := 0, dist := 0, pins := [c.pro, c.ret], step := c.step }
      .next (s.modTile (fun t => (({ t with conjQ := r }).admitHeld).startTask k (code + BitVec.ofNat 56 (64 * c.task)) c.preloads))
    | _, _ => .next s

/-! ### Laps (R172, R173) -/

/-- Every task fired in the lap has ended (R172). -/
def State.lapDone (s : State) (o : Orbit) : Bool :=
  o.step = 8 && o.stepDue.isNone && s.clusterTiles.all (fun k =>
    let t := s.tileAt k
    t.conjQ.isEmpty && t.station.holding.isEmpty && (match t.task with | some k => k.conj.isNone | none => true))

/-- Results that waited for a lap's end or the detachment are delivered. -/
def State.answerAll (s : State) (v : Nat) : List (TileKey × Nat) → State
  | [] => s
  | (k, id) :: r => (s.fillAt k id s.clock [(.q, BitVec.ofNat 512 v)]).answerAll v r

/-- A recovery lap starts (R172). -/
def State.recoveryLap (s : State) : State :=
  let table := (s.allMisses).take 512
  let s := s.modStations (fun _ x => { x with recov := table, misses := [], released := true })
  s.modOrbit (fun o => { o with lap := o.lap + 1, step := 0, lapAt := o.clk, after := o.clk, lapOver := false, want := false, olap := [] })

/-- A waiting WAITB on the orbit count goes on with the last value (R189). -/
def WaitB.keep (n : BitVec 32) (w : WaitB) : WaitB := if w.kind = 4 then { w with last := some (w.last.getD n) } else w

/-- The orbit count kept for a WAITB that waits on it (R189). -/
def Tile.keepCount (t : Tile) (n : BitVec 32) : Tile :=
  t.mapSeqs (fun q => { q with waitb := q.waitb.map (WaitB.keep n) })

/-- The orbit detaches (R161, R173). -/
def State.detachOrbit (s : State) : State :=
  let n := match s.orbit? with | some o => o.count | none => 0
  let s := s.clusterTiles.foldl (fun s k => s.modTileAt k (fun t => (t.keepCount n).detach)) s
  s.modCtx s.cur.ctx (fun c => { c with orbits := c.orbits.filter (fun o => o.cl ≠ keyCluster s.cur) })

/-- An OLAP is pending (R172). -/
def Orbit.wantsLap (o : Orbit) : Bool := o.want || !o.olap.isEmpty
/-- An ODET is pending (R173). -/
def Orbit.wantsEnd (o : Orbit) : Bool := o.leave || !o.odet.isEmpty

/-- LAP_END is due for an orbit: its lap ended just now, or the orbit waits and has been asked to go on (R172, R173). -/
def State.lapReady (s : State) (o : Orbit) : Bool := s.lapDone o && (!o.lapOver || o.wantsLap || o.wantsEnd)

/-- LAP_END: a lap of the orbit of the tile's cluster ends; a recovery lap follows, the orbit detaches, or it waits (R172,
R173, R303). -/
def execLapEnd (s : State) : Out :=
  match s.orbit? with
  | none => .next s
  | some o =>
    if !s.lapReady o then .next s
    else
      let n := s.allMisses.length
      if attachAuto o.word then .next (if n = 0 then s.detachOrbit else s.recoveryLap)
      else
        let s := s.answerAll n o.olap
        if o.wantsLap && n ≠ 0 then .next s.recoveryLap
        else if o.wantsEnd then .next ((s.answerAll n o.odet).detachOrbit)
        else .next (s.modOrbit (fun o => { o with lapOver := true, want := false, olap := [] }))

/-! ### Reads and requests (R301-R303) -/

/-- OSLOT (R301). -/
def oslotHooks (t : Wide) : Hooks :=
  .checked (fun s => if !s.tile.station.attached then some (s.orbitFault .orb t) else s.legal .orb (lowWord t) ((lowWord t).toNat ≤ 2)) (fun s =>
    let st := s.tile.station
    let v := match (lowWord t).toNat with
      | 0 => st.pro.slot
      | 1 => st.ret.slot
      | _ => match st.held with
        | some b => b.slot
        | none => 0
    s.timed .orb 2 [(.q, BitVec.ofNat 512 v, allBits)] EvCount.zero)

/-- The value that OCNT or OMISS delivers now (R174, R302): 0 of an orbit that has detached since the trigger (DESIGN CHOICE, log 104). -/
def State.orbitRead (s : State) (k : TileKey) (miss : Bool) : Nat :=
  if miss then (s.tileAt k).station.misses.length
  else match (s.ctxAt k.ctx).orbit? (keyCluster k) with
    | some o => o.count.toNat
    | none => 0

/-- OCNT and OMISS: the value is read at delivery (R302). -/
def orbitReadHooks (miss : Bool) (t : Wide) : Hooks :=
  .checked (fun s => if !s.tile.station.attached then some (s.orbitFault .orb t) else s.legal .orb (lowWord t) (lowWord t = 0)) (fun s =>
    let id := s.nextOp
    (s.lockedBy .orb (some 8) [(.q, 0)]).deliverAs id (if miss then .omiss else .ocnt))

/-- The check of OLAP and ODET (R160, R303). -/
def State.lapCause (s : State) (t : Wide) : Option Cause :=
  match s.orbit? with
  | none => some (s.orbitFault .orb t)
  | some o =>
    if !s.tile.station.attached || attachAuto o.word then some (s.orbitFault .orb t)
    else s.legal .orb (lowWord t) ((lowWord t).toNat ≤ 1)

/-- OLAP (R172, R303). -/
def olapHooks (t : Wide) : Hooks :=
  .checked (fun s => s.lapCause t) (fun s =>
    let id := s.nextOp
    if (lowWord t).getLsbD 0 then
      (s.lockedBy .orb (some 8) [(.q, BitVec.ofNat 512 s.allMisses.length)]).modOrbit (fun o => { o with want := true })
    else (s.pend .orb [.q]).modOrbit (fun o => { o with olap := o.olap ++ [(s.cur, id)] }))

/-- ODET (R173, R303). -/
def odetHooks (t : Wide) : Hooks :=
  .checked (fun s => s.lapCause t) (fun s =>
    let id := s.nextOp
    if (lowWord t).getLsbD 0 then (s.lockedBy .orb (some 8) [(.q, 0)]).modOrbit (fun o => { o with leave := true })
    else (s.pend .orb [.q]).modOrbit (fun o => { o with odet := o.odet ++ [(s.cur, id)] }))

/-! ### The operations -/

/-- OATT (R297). -/
def hkOatt (t : Wide) (_ : Word) : Hooks := oattHooks t
/-- OATT (R297). -/
def execOatt (src : Src) (g : Guard) (s : State) : Out := runScalar .orb hkOatt src g s
/-- OEPH (R298). -/
def hkOeph (t : Wide) (_ : Word) : Hooks := oephHooks t
/-- OEPH (R298). -/
def execOeph (src : Src) (g : Guard) (s : State) : Out := runScalar .orb hkOeph src g s
/-- OINJ (R299). -/
def hkOinj (t : Wide) (_ : Word) : Hooks := oinjHooks t
/-- OINJ (R299). -/
def execOinj (src : Src) (g : Guard) (s : State) : Out := runScalar .orb hkOinj src g s
/-- OSTEP (R300). -/
def hkOstep (t : Wide) (_ : Word) : Hooks := ostepHooks t
/-- OSTEP (R300). -/
def execOstep (src : Src) (g : Guard) (s : State) : Out := runScalar .orb hkOstep src g s
/-- OSLOT (R301). -/
def hkOslot (t : Wide) (_ : Word) : Hooks := oslotHooks t
/-- OSLOT (R301). -/
def execOslot (src : Src) (g : Guard) (s : State) : Out := runScalar .orb hkOslot src g s
/-- OCNT (R302). -/
def hkOcnt (t : Wide) (_ : Word) : Hooks := orbitReadHooks false t
/-- OCNT (R302). -/
def execOcnt (src : Src) (g : Guard) (s : State) : Out := runScalar .orb hkOcnt src g s
/-- OMISS (R302). -/
def hkOmiss (t : Wide) (_ : Word) : Hooks := orbitReadHooks true t
/-- OMISS (R302). -/
def execOmiss (src : Src) (g : Guard) (s : State) : Out := runScalar .orb hkOmiss src g s
/-- OLAP (R303). -/
def hkOlap (t : Wide) (_ : Word) : Hooks := olapHooks t
/-- OLAP (R303). -/
def execOlap (src : Src) (g : Guard) (s : State) : Out := runScalar .orb hkOlap src g s
/-- ODET (R303). -/
def hkOdet (t : Wide) (_ : Word) : Hooks := odetHooks t
/-- ODET (R303). -/
def execOdet (src : Src) (g : Guard) (s : State) : Out := runScalar .orb hkOdet src g s

end Sys2Proof.Machine
end

