-- ==== Sys2Proof/Machine/Engines.lean ====
section
/-! DEFINITION. DMA transfers and their promises, the copy queues, NSEND and remote loads (R177-R188, R304-R313). -/

namespace Sys2Proof.Machine

/-! ### Copying memory (R112, R305, R415) -/

/-- Bytes at a place of a context on a die. -/
def State.bytesAt (s : State) (k : TileKey) (p : Place) (n : Nat) : List Byte :=
  match p with
  | .scratch tid off => cellsRead (s.tileAt (keyPeer k tid)).scratch off n
  | .phys pa => cellsRead s.mem pa n

/-- Bytes written at a place of a context on a die. -/
def State.putBytes (s : State) (k : TileKey) (p : Place) (bs : List Byte) : State :=
  match p with
  | .scratch tid off => s.modTileAt (keyPeer k tid) (fun t => t.spWrite off bs)
  | .phys pa => s.memWrite pa bs

/-- The first byte address of a place in its own memory. -/
def Place.start : Place → Nat
  | .scratch _ off => off
  | .phys pa => pa

/-- The poisoned units that n bytes at a place touch (R415). -/
def State.poisonUnits (s : State) (k : TileKey) (p : Place) (n : Nat) : List Nat :=
  (match p with
  | .scratch tid _ => (s.tileAt (keyPeer k tid)).poison
  | .phys _ => s.memPoison).filter (fun u => u < p.start + n && p.start < u + 8)

/-- The poisoned units of the memory that a place lies in replaced. -/
def State.setPoison (s : State) (k : TileKey) (p : Place) (l : List Nat) : State :=
  match p with
  | .scratch tid _ => s.modTileAt (keyPeer k tid) (fun t => { t with poison := l })
  | .phys _ => { s with memPoison := l }

/-- All poisoned units of the memory that a place lies in. -/
def State.poisonOf (s : State) (k : TileKey) (p : Place) : List Nat :=
  match p with
  | .scratch tid _ => (s.tileAt (keyPeer k tid)).poison
  | .phys _ => s.memPoison

/-- The poison of a destination after a copy: units that received a poisoned unit's bytes are poisoned, other units written
whole are not (R305, R415). -/
def movedPoison (old bad : List Nat) (src dst n : Nat) : List Nat :=
  let hit := (bad.flatMap (fun u => (List.range 8).filterMap (fun j =>
    if src ≤ u + j && u + j < src + n then some ((dst + (u + j - src)) / 8 * 8) else none))).eraseDups
  hit ++ old.filter (fun u => u ∉ hit && !(dst ≤ u && u + 8 ≤ dst + n))

/-- n bytes copied by an engine, poison with them; the answer says whether a poisoned unit was written (R305, R307, R415). -/
def State.moveBytes (s : State) (k : TileKey) (src : Place) (kd : TileKey) (dst : Place) (n : Nat) : State × Bool :=
  let bs := s.bytesAt k src n
  let bad := s.poisonUnits k src n
  let old := s.poisonOf kd dst
  let s := (s.putBytes kd dst bs).untag kd dst n
  let s := if bad = [] && old = [] then s else s.setPoison kd dst (movedPoison old bad src.start dst.start n)
  (s, !bad.isEmpty)

/-! ### Transfers (R177, R178, R304-R308) -/

/-- Transfers outstanding on a tile (R177). -/
def Tile.outstanding (t : Tile) : Nat := (t.dma.filter (fun d => d.done.isNone)).length

/-- The distance of a TAG (R177). -/
def tagDist (next tag : BitVec 16) : Nat := (next - tag).toNat

/-- The transfers that the tile tracks: the outstanding ones and the 16 latest (R177). -/
def tracked (next : BitVec 16) (l : List Transfer) : List Transfer :=
  l.filter (fun d => d.done.isNone || (1 ≤ tagDist next d.tag && tagDist next d.tag ≤ 16))

/-- A tracked transfer by its TAG: the latest of that TAG (R177). -/
def Tile.transfer? (t : Tile) (tag : BitVec 16) : Option Transfer := (t.dma.filter (fun d => d.tag = tag)).getLast?

/-- The promise word of a transfer (R177). -/
def promiseWord (tag : BitVec 16) (p : Nat) : Nat := tag.toNat * 2 ^ 48 + p % 2 ^ 48

/-- A length of a DMA transfer in bytes (R304). -/
def dmaLenOk (b : Word) : Bool := b.toNat < 2 ^ 21 && b.toNat % 64 = 0 && 64 ≤ b.toNat && b.toNat ≤ 0x180000

/-- A local range of n bytes, aligned to 64 (R304). -/
def dmaLocalOk (a : Word) (n : Nat) : Bool := addrSpace a = 0 && (a.extractLsb' 21 39 : BitVec 39) = 0 && addrOff a % 64 = 0 && addrOff a + n ≤ spSize

/-- A local range that a transfer may write: neither in banks 22-23 nor in a station buffer in use (R304). -/
def dmaDestOk (t : Tile) (a : Word) (n : Nat) : Bool :=
  dmaLocalOk a n && addrOff a + n ≤ 0x160000 && !(t.station.attached && decide (stationBase < addrOff a + n))

/-- The cause of a handle range, if it is refused (R82, R304). -/
def State.handleCause (s : State) (sk : Sock) (use : Use) (a : Word) (align n : Nat) : Option Cause :=
  if addrSpace a ≠ 8 then some (s.addressFault sk a)
  else match s.place use a align n with
    | .ok _ => none
    | .error e => some (s.addrCause sk a e)

/-- The physical address of a handle address that was accepted. -/
def State.physOf (s : State) (use : Use) (a : Word) (n : Nat) : Nat :=
  match s.place use a 1 n with
  | .ok (.phys pa) => pa
  | _ => 0

/-- A DMA trigger: the next TAG, a promise, a completion that comes when it comes (R177; log 3). -/
def State.startTransfer (s : State) (kind : DmaKind) : State :=
  let s := s.flushLs s.cur
  let id := s.nextOp
  let tag := s.tile.nextTag
  let p := s.cycle s.cur.die + Config.freeDelay s.free % 2 ^ 46
  let s := s.spend
  let d : Transfer := { tag := tag, kind := kind, promise := p, done := none, fail := false, id := id }
  let s := s.modTile (fun t => { t with dma := tracked (tag + 1) (t.dma ++ [d]), nextTag := tag + 1 })
  (s.lockedBy .dma (some 4) [(.q, BitVec.ofNat 512 (promiseWord tag p)), (.qp, 1)]).addLater s.cur (.dmaTransferComplete tag)

/-- What holds back a DMA trigger (R81, R103, R177). -/
def State.dmaStall (s : State) (addrs : List Word) : Bool :=
  decide (16 ≤ s.tile.outstanding) || s.fenceStall pathDM || addrs.any s.handlePending

/-- The first cause of a list. -/
def firstCause (l : List (Option Cause)) : Option Cause := l.findSome? id

/-- DLD (R304, R305). -/
def dldHooks (t : Wide) : Hooks :=
  let d := lowWord t
  .stalled (fun s => s.dmaStall [lowWord (s.opA .dma)])
    (fun s =>
      let a := lowWord (s.opA .dma)
      let b := lowWord (s.opB .dma)
      if !dmaLenOk b then some (s.illegalOperand .dma t)
      else firstCause [if dmaDestOk s.tile d b.toNat then none else some (s.addressFault .dma d), s.handleCause .dma .load a 64 b.toNat])
    (fun s =>
      let n := (lowWord (s.opB .dma)).toNat
      s.startTransfer (.load (s.physOf .load (lowWord (s.opA .dma)) n) (addrOff d) n))

/-- DST (R304, R305). -/
def dstHooks (t : Wide) : Hooks :=
  let d := lowWord t
  .stalled (fun s => s.dmaStall [d])
    (fun s =>
      let a := lowWord (s.opA .dma)
      let b := lowWord (s.opB .dma)
      if !dmaLenOk b then some (s.illegalOperand .dma t)
      else firstCause [if dmaLocalOk a b.toNat then none else some (s.addressFault .dma a), s.handleCause .dma .store d 64 b.toNat])
    (fun s =>
      let n := (lowWord (s.opB .dma)).toNat
      s.startTransfer (.store (addrOff (lowWord (s.opA .dma))) (s.physOf .store d n) n))

/-- The element type of a DCPY bank: none for raw (R306). -/
def copyTy (bf : BitVec 32) : Option ElTy := if bitsOf bf.toNat 4 2 = 0 then ElTy.ofCode (bfFmt bf) else none

/-- The formats of a DCPY: both typed and not grouped, or both raw (R306). -/
def copyFmtOk (a b : BitVec 32) : Bool :=
  ((copyTy a).isSome && (copyTy b).isSome) || (bfFmt a = 0 && bfFmt b = 0 && bitsOf a.toNat 4 2 = 0 && bitsOf b.toNat 4 2 = 0)

/-- Bytes of an element of a DCPY (R306). -/
def copyWidth (bf : BitVec 32) : Nat := match copyTy bf with
  | some ty => ty.width / 8
  | none => 1

/-- DCPY (R304, R306). -/
def dcpyHooks (t : Wide) : Hooks :=
  let d := lowWord t
  let bfAt (s : State) (a : Word) : BitVec 32 := s.tile.core.bfOf (addrOff a / bankSize)
  .stalled (fun s => s.dmaStall [])
    (fun s =>
      let a := lowWord (s.opA .dma)
      let n := (lowWord (s.opB .dma)).toNat
      if n = 0 || 65536 < n then some (s.illegalOperand .dma t)
      else if !dmaLocalOk a 1 then some (s.addressFault .dma a)
      else if !dmaLocalOk d 1 || addrOff a / bankSize = addrOff d / bankSize then some (s.addressFault .dma d)
      else if !copyFmtOk (bfAt s a) (bfAt s d) then some (s.illegalOperand .dma t)
      else if !inOneBank (addrOff a) (n * copyWidth (bfAt s a)) then some (s.addressFault .dma a)
      else if !inOneBank (addrOff d) (n * copyWidth (bfAt s d)) || !dmaDestOk s.tile d (n * copyWidth (bfAt s d)) then some (s.addressFault .dma d)
      else none)
    (fun s =>
      let a := lowWord (s.opA .dma)
      s.startTransfer (.copy (addrOff a) (addrOff d) (lowWord (s.opB .dma)).toNat (bfAt s a) (bfAt s d) (s.tile.core.frm.truncate 4)))

/-- A DCPY performed: the bytes written at the destination and the events (R306). -/
def copyResult (src : Nat) (bfs bfd : BitVec 32) (frm : BitVec 4) (n : Nat) : Nat × EvCount :=
  match copyTy bfs, copyTy bfd with
  | some a, some b =>
    let f (i : Nat) : Res := convert (frm.extractLsb' 0 3 : BitVec 3).toNat (frm.getLsbD 3) a b (laneOf a.width src i)
    (ofLanes b.width (fun i => (f i).val) n, laneEvents (fun _ => true) f n)
  | _, _ => (src, EvCount.zero)

/-- A transfer performed: the state, and whether it fails (R305-R308, R423). -/
def State.performTransfer (s : State) (k : TileKey) (d : DmaKind) : State × Bool :=
  let cs := (s.dieAt k.die).cs
  match d with
  | .load pa dst n =>
    if s.sideLost pa || !cs then (s, true) else s.moveBytes k (.phys pa) k (.scratch k.tid dst) n
  | .store src pa n =>
    if s.sideLost pa || !cs then (s, true) else s.moveBytes k (.scratch k.tid src) k (.phys pa) n
  | .copy src dst n bfs bfd frm =>
    if !cs then (s, true)
    else
      let ws := copyWidth bfs
      let wd := copyWidth bfd
      let r := copyResult ((s.tileAt k).spRead src (n * ws)) bfs bfd frm n
      let bad := s.poisonUnits k (.scratch k.tid src) (n * ws)
      let hurt := (List.range n).flatMap (fun i =>
        if bad.any (fun u => u < src + (i + 1) * ws && src + i * ws < u + 8) then [(dst + i * wd) / 8 * 8] else [])
      let old := (s.tileAt k).poison
      let s := (s.putBytes k (.scratch k.tid dst) (bytesOf r.1 (n * wd))).untag k (.scratch k.tid dst) (n * wd)
      let s := s.modTileAt k (fun t => t.countLate r.2)
      let s := if old = [] then s
        else s.setPoison k (.scratch k.tid dst)
          (hurt.eraseDups ++ old.filter (fun u => u ∉ hurt && !(dst ≤ u && decide (u + 8 ≤ dst + n * wd))))
      (s, !hurt.isEmpty)

/-- What a transfer of a tile reads (R305-R307). -/
def DmaKind.source (d : DmaKind) (tid : BitVec 6) : Place × Nat :=
  match d with
  | .load pa _ n => (.phys pa, n)
  | .store src _ n => (.scratch tid src, n)
  | .copy src _ n bfs _ _ => (.scratch tid src, n * copyWidth bfs)

/-- A promise that was missed is dealt with once its transfer is complete; tinfo3 holds the cycle of the completion (R180). -/
def State.promiseKept (s : State) (k : TileKey) (tag : BitVec 16) (done : Option Nat) : State :=
  let t := s.tileAt k
  match (if t.frozen && t.code = 0x21 && t.tinfo.get 1 = tag.zeroExtend 64 then done else none) with
  | none => s
  | some c =>
    let s := s.modTileAt k (fun t => { t with tinfo := t.tinfo.set 3 (BitVec.ofNat 64 c) })
    match trapService (s.ctxAt k.ctx) (s.tileAt k) 0x21 with
    | some i => s.addLater k i
    | none => s

/-- A WAITU on a transfer learns of its completion, though the tile may track the transfer no longer (R177, R180). -/
def Seq.noteDone (q : Seq) (tag : BitVec 16) (c : Nat) : Seq :=
  { q with waitu := q.waitu.map (fun w => if w.tag = tag && w.done.isNone then { w with done := some c } else w) }

/-- DMA_TRANSFER_COMPLETE: a transfer of the tile completes; every write it makes has been performed (R178, R305-R308). -/
def execDmaTransferComplete (tag : BitVec 16) (s : State) : Out :=
  match s.tile.dma.find? (fun d => d.tag = tag && d.done.isNone) with
  | none => .next s
  | some d =>
    let x := d.kind.source s.cur.tid
    let r := (s.noteFlag s.cur pathDM d.id x.1 x.2).performTransfer s.cur d.kind
    let at_ := s.cycle s.cur.die
    let s := r.1.modTile (fun t =>
      { t with dma := tracked t.nextTag (t.dma.map (fun x => if x.id = d.id then { x with done := some at_, fail := r.2 } else x)) })
    .next ((s.modTile (fun t => t.mapSeqs (fun q => q.noteDone tag at_))).promiseKept s.cur tag (some at_))

/-- DPROM (R307), delivered within the four cycles that a transfer's promise behind it must keep (R21, R177; DEDUCED, log 75). -/
def dpromHooks (t : Wide) : Hooks :=
  .checked (fun s => s.legal .dma (lowWord t) ((lowWord t).toNat < 65536)) (fun s =>
    let tag : BitVec 16 := t.truncate 16
    let p := match s.tile.transfer? tag with
      | some d => d.promise
      | none => 0
    s.lockedBy .dma (some 4) [(.q, BitVec.ofNat 512 (promiseWord tag p))])

/-- The status word of a transfer (R307). -/
def Tile.dstat (t : Tile) (tag : BitVec 16) : Nat :=
  let r := match t.transfer? tag with
    | some d => (if d.fail then 2 else 0) + (if d.done.isSome then 1 else 0)
    | none => 1
  tag.toNat * 2 ^ 48 + t.outstanding * 2 ^ 8 + r

/-- DSTAT (R307), within four cycles as DPROM (log 75). -/
def dstatHooks (t : Wide) : Hooks :=
  .checked (fun s => s.legal .dma (lowWord t) ((lowWord t).toNat < 65536)) (fun s =>
    s.lockedBy .dma (some 4) [(.q, BitVec.ofNat 512 (s.tile.dstat (t.truncate 16)))])

/-! ### NSEND (R187, R188, R309) -/

/-- The target word of NSEND (R187). -/
def sendWordOk (w : Word) : Bool :=
  bitsOf w.toNat 48 16 ≠ 0 && bitsOf w.toNat 21 25 = 0 && addrOff w % 64 = 0 && 0x160000 ≤ addrOff w && addrOff w < spSize

/-- NSEND (R187, R188, R309). -/
def nsendHooks (t : Wide) : Hooks :=
  let w := lowWord t
  .stalled (fun s => 4 ≤ s.tile.sends.length || s.fenceStall pathNT) (fun s => s.legal .net w (sendWordOk w)) (fun s =>
    let s := s.flushLs s.cur
    let d := Config.freeDelay s.free
    let x : Send := { id := s.nextOp, mask := w.extractLsb' 48 16, cl := w.extractLsb' 46 2, off := addrOff w, line := s.opB .net,
                      due := s.clock + d }
    s.spend.modTile (fun t => { t with sends := t.sends ++ [x], nextId := t.nextId + 1 }))

/-- The send of a tile that is next at a ring position of a cluster (R188). -/
def Tile.nextSend (t : Tile) (cl : BitVec 2) (rp : BitVec 4) : Option Send :=
  t.sends.find? (fun x => x.cl = cl && x.mask.getLsbD rp.toNat)

/-- A delivery of a tile at a ring position that can be performed now: its line has arrived and its head cell is empty (R187,
R188). -/
def State.readySend (s : State) (k : TileKey) (rp : BitVec 4) : Option Send :=
  ([0, 1, 2, 3] : List (BitVec 2)).findSome? (fun cl =>
    match (s.tileAt k).nextSend cl rp with
    | some x => if x.due ≤ s.clock && !(s.tileAt (keyPeer k (tidOf cl rp))).cellFull x.off then some x else none
    | none => none)

/-- A line delivered (R187). -/
def State.deliverSend (s : State) (k : TileKey) (rp : BitVec 4) (x : Send) : State :=
  let tid := tidOf x.cl rp
  let s := s.writeBytesAt k (.scratch tid x.off) (fullBytes x.line.toNat 64)
  let s := s.untag k (.scratch tid x.off) 64
  let s := s.modTileAt (keyPeer k tid) (fun t => t.setFull x.off)
  s.modTileAt k (fun t => { t with sends := (t.sends.map (fun y =>
    if y.id = x.id then { y with mask := y.mask &&& ~~~ (1#16 <<< rp.toNat) } else y)).filter (fun y => y.mask ≠ 0) })

/-- NSEND_DELIVERY: a line that the tile sent is delivered at a ring position (R187, R188). -/
def execNsendDelivery (rp : BitVec 4) (s : State) : Out :=
  match s.readySend s.cur rp with
  | some x => .next (s.deliverSend s.cur rp x)
  | none => .next s

/-! ### RLD (R185, R186, R310) -/

/-- RLD (R185, R186). -/
def rldHooks (t : Wide) : Hooks :=
  let w := lowWord t
  .stalled (fun s => 8 ≤ s.tile.core.rlds.length || s.fenceStall pathNT)
    (fun s =>
      let a := lowWord (s.opA .net)
      if a.toNat < 64 && addrSpace w = 0 && (w.extractLsb' 21 39 : BitVec 39) = 0 && addrOff w % 64 = 0 && decide (addrOff w < spSize) then none
      else some (s.addressFault .net w))
    (fun s =>
      let s := s.flushLs s.cur
      let r : RldReq := { id := s.nextOp, tid := (lowWord (s.opA .net)).truncate 6, off := addrOff w }
      let s := s.pend .net [.q, .qp]
      (s.modTile (fun t => t.mapCore (fun c => { c with rlds := c.rlds ++ [r] }))).addLater s.cur .rldServe)

/-- RLD_SERVE: the target serves the tile's oldest remote load from its image of the context; a full cell of a completion flag that it
reads orders it after the flag's transfer (R106, R185, R186). -/
def execRldServe (s : State) : Out :=
  match s.tile.core.rlds with
  | [] => .next s
  | r :: _ =>
    let o := keyPeer s.cur r.tid
    let bad := !(s.dieAt s.cur.die).cs || (s.poisonAt s.cur (.scratch r.tid r.off) 64).isSome
    let q : Wide := if bad then 0 else BitVec.ofNat 512 ((s.tileAt o).spRead r.off 64)
    let s := (s.noteFlag s.cur pathNT r.id (.scratch r.tid r.off) 64).fillAt s.cur r.id s.clock [(.q, q), (.qp, if bad then 1 else 0)]
    .next (s.modTile (fun t => t.mapBoth (fun c => { c with rlds := c.rlds.filter (fun x => x.id ≠ r.id) })))

/-! ### The copy queues (R181-R184, R311-R313) -/

/-- A copy queue of a context on a die; empty before its first use (R181). -/
def Ctx.copyQ (c : Ctx) (die : DieId) (q : Bool) : CopyQ :=
  (c.copyQs.find? (fun x => x.die = die && x.q = q)).getD
    { die := die, q := q, entries := [], prod := 0, cons := 0, fovw := false, ferr := false, retired := [] }

/-- A copy queue replaced. -/
def Ctx.setCopyQ (c : Ctx) (x : CopyQ) : Ctx :=
  { c with copyQs := x :: c.copyQs.filter (fun y => !(y.die = x.die && y.q = x.q)) }

/-- The free entries of a copy queue (R181). -/
def CopyQ.space (x : CopyQ) : Nat := 64 - (x.prod - x.cons).toNat

/-- Word i of the descriptor (R182). -/
def descWord (b : Wide) (i : Nat) : Word := b.extractLsb' (64 * i) 64
/-- LEN (R182). -/
def descLen (b : Wide) : Nat := bitsOf b.toNat 128 32

/-- The flag word (R182). -/
def flagOk (f : Word) : Bool :=
  bitsOf f.toNat 30 33 = 0 && bitsOf f.toNat 21 3 = 0 && (!f.getLsbD 63 || (0x160000 ≤ addrOff f && addrOff f < spSize && addrOff f % 8 = 0))

/-- The descriptor's reserved bits, length and flag (R182, R183). -/
def descOk (b : Wide) : Bool :=
  bitsOf b.toNat 160 32 = 0 && bitsOf b.toNat 320 192 = 0 && descLen b % 8 = 0 && 8 ≤ descLen b && descLen b ≤ 0x4000000 && flagOk (descWord b 3)

/-- The traps of CQPOST: its operand and descriptor, then the handle of SRC, then that of DST (R183; DESIGN CHOICE, log 107). -/
def State.cqpostCause (s : State) (t : Wide) : Option Cause :=
  let b := s.opB .net
  if 2 ≤ (lowWord t).toNat || !descOk b then some (s.illegalOperand .net t)
  else firstCause [s.handleCause .net .load (descWord b 0) 1 (descLen b), s.handleCause .net .store (descWord b 1) 1 (descLen b)]

/-- The flag die of a destination: its page's die where the context has it, else the posting tile's (R183). -/
def State.flagDie (s : State) (pa : Nat) : DieId :=
  if !isHost pa && s.ctx.dies.getLsbD (dieOfPa pa).toNat then dieOfPa pa else s.cur.die

/-- The port of a proxy page that a physical address lies in (R433). -/
def State.proxyPort (s : State) (pa : Nat) : Option (BitVec 4) :=
  (s.pairings.find? (fun p => p.active && p.ctx = s.cur.ctx && p.frame ≤ pa && pa < p.frame + 2 ^ 14)).map Pairing.port

/-- CQPOST (R181-R184, R311). -/
def cqpostHooks (t : Wide) : Hooks :=
  .stalled (fun s => s.fenceStall pathDM || s.handlePending (descWord (s.opB .net) 0) || s.handlePending (descWord (s.opB .net) 1))
    (fun s => s.cqpostCause t)
    (fun s =>
      let s := s.flushLs s.cur
      let b := s.opB .net
      let x := s.ctx.copyQ s.cur.die (t.getLsbD 0)
      if x.space = 0 then s.locked .net [(.q, 0), (.qp, 0)]
      else
        let n := descLen b
        let dst := s.physOf .store (descWord b 1) n
        let f := descWord b 3
        let e : CopyEntry :=
          { idx := x.prod, src := s.physOf .load (descWord b 0) n, dst := dst, len := n, fv := f.getLsbD 63, fdie := s.flagDie dst,
            ftid := f.extractLsb' 24 6, foff := addrOff f, fval := descWord b 4, started := false, copied := false, failed := false,
            port := s.proxyPort dst, hb := s.tile.vcOf pathDM, poster := s.cur, op := s.nextOp }
        let s := s.modCtx s.cur.ctx (fun c => c.setCopyQ { x with entries := x.entries ++ [e], prod := x.prod + 1 })
        (s.locked .net [(.q, BitVec.ofNat 512 e.idx.toNat), (.qp, 1)]).addLater s.cur .copyEntryStart)

/-- The copy queues of the die of the tile of the step, queue 0 first. -/
def State.dieQueues (s : State) : List CopyQ := [s.ctx.copyQ s.cur.die false, s.ctx.copyQ s.cur.die true]

/-- The link of a remote copy's pairing has failed, or the pairing has ended (R434, R438). -/
def State.linkDown (s : State) (e : CopyEntry) : Bool :=
  match e.port with
  | none => false
  | some p => !s.pairings.any (fun x => x.port = p && x.active && x.up && x.frame ≤ e.dst && e.dst < x.frame + 2 ^ 14)

/-- The entry data transferred: local frame and, for a proxy page, the peer; a lost memory side or a failed link fails the entry
(R184, R423, R433, R434). -/
def State.copyData (s : State) (e : CopyEntry) : State × Bool :=
  if s.sideLost e.src || s.sideLost e.dst then (s, true)
  else ((s.moveBytes e.poster (.phys e.src) e.poster (.phys e.dst) e.len).1, s.linkDown e)

/-- An entry of a queue changed, by its index. -/
def CopyQ.modEntry (x : CopyQ) (idx : BitVec 32) (f : CopyEntry → CopyEntry) : CopyQ :=
  { x with entries := x.entries.map (fun e => if e.idx = idx then f e else e) }

/-- COPY_ENTRY_START: the engine starts the oldest entry of a copy queue of the die that has not started; its data is copied
(R184). -/
def execCopyEntryStart (s : State) : Out :=
  match s.dieQueues.findSome? (fun x => (x.entries.find? (fun e => !e.started)).map (fun e => (x, e))) with
  | none => .next s
  | some (x, e) =>
    let r := s.copyData e
    let s := r.1.modCtx s.cur.ctx (fun c => c.setCopyQ (x.modEntry e.idx (fun y => { y with started := true, copied := !r.2, failed := y.failed || r.2 })))
    .next (s.addLater s.cur .copyEntryRetire)

/-- The flag of an entry written as CELLWR: the state, and whether a full cell was replaced (R77, R106, R184). -/
def State.writeFlag (s : State) (e : CopyEntry) : State × Bool :=
  let k : TileKey := { e.poster with die := e.fdie, tid := e.ftid }
  let p : Place := .scratch e.ftid e.foff
  let full := (s.tileAt k).cellFull e.foff
  let s := s.writeBytesAt k p (fullBytes e.fval.toNat 8)
  let s := s.tagBytes k p false { owner := e.poster, rel := [(3, e.hb)], whole := true } (List.range 8)
  (s.modTileAt k (fun t => t.setFull e.foff), full)

/-- COPY_ENTRY_RETIRE: the oldest entry of a copy queue of the die, started before, retires: its flag is written, or FERR is
set, and the consumer index rises (R184, R423). -/
def execCopyEntryRetire (s : State) : Out :=
  match s.dieQueues.findSome? (fun x => match x.entries with
      | e :: r => if e.started then some (x, e, r) else none
      | [] => none) with
  | none => .next s
  | some (x, e, r) =>
    let lost := e.failed || (e.fv && !(s.dieAt e.fdie).cs)
    let w := if e.fv && !lost then s.writeFlag e else (s, false)
    let code : BitVec 2 := if lost then 2 else if e.fv then 1 else 3
    let x := { x with entries := r, cons := x.cons + 1, fovw := x.fovw || w.2, ferr := x.ferr || lost,
                      retired := (x.retired ++ [(e.idx, code)]).drop (x.retired.length - 63) }
    .next (w.1.modCtx s.cur.ctx (fun c => c.setCopyQ x))

/-- CQSTAT (R312). -/
def cqstatHooks (t : Wide) : Hooks :=
  .checked (fun s => s.legal .net (lowWord t) ((lowWord t).toNat < 4)) (fun s =>
    let x := s.ctx.copyQ s.cur.die (t.getLsbD 0)
    let v := x.prod.toNat + x.cons.toNat * 2 ^ 32 + (if x.fovw then 2 ^ 64 else 0) + (if x.ferr then 2 ^ 65 else 0)
    let s := s.locked .net [(.q, BitVec.ofNat 512 v)]
    if t.getLsbD 1 then s.gate .u0 (.phys 0) (.cqclear (t.getLsbD 0)) 0 else s)

/-- The code of NFLAG (R313). -/
def CopyQ.flagCode (x : CopyQ) (i : BitVec 32) : Nat :=
  let d := (x.cons - i).toNat
  if 1 ≤ d && d ≤ 2 ^ 31 then
    (match x.retired.find? (fun r => r.1 = i) with
    | some r => r.2.toNat
    | none => 3)
  else if 1 ≤ (x.prod - i).toNat && (x.prod - i).toNat ≤ 64 then 0
  else 0xFFFFFFFFFFFFFFFF

/-- NFLAG (R313). -/
def nflagHooks (t : Wide) : Hooks :=
  .checked (fun s => s.legal .net (lowWord t) ((lowWord t).toNat < 2 ^ 33)) (fun s =>
    s.locked .net [(.q, BitVec.ofNat 512 ((s.ctx.copyQ s.cur.die (t.getLsbD 32)).flagCode (t.truncate 32)))])

/-! ### The operations -/

/-- DLD (R305). -/
def hkDld (t : Wide) (_ : Word) : Hooks := dldHooks t
/-- DLD (R305). -/
def execDld (src : Src) (g : Guard) (s : State) : Out := runScalar .dma hkDld src g s
/-- DST (R305). -/
def hkDst (t : Wide) (_ : Word) : Hooks := dstHooks t
/-- DST (R305). -/
def execDst (src : Src) (g : Guard) (s : State) : Out := runScalar .dma hkDst src g s
/-- DCPY (R306). -/
def hkDcpy (t : Wide) (_ : Word) : Hooks := dcpyHooks t
/-- DCPY (R306). -/
def execDcpy (src : Src) (g : Guard) (s : State) : Out := runScalar .dma hkDcpy src g s
/-- DPROM (R307). -/
def hkDprom (t : Wide) (_ : Word) : Hooks := dpromHooks t
/-- DPROM (R307). -/
def execDprom (src : Src) (g : Guard) (s : State) : Out := runScalar .dma hkDprom src g s
/-- DSTAT (R307). -/
def hkDstat (t : Wide) (_ : Word) : Hooks := dstatHooks t
/-- DSTAT (R307). -/
def execDstat (src : Src) (g : Guard) (s : State) : Out := runScalar .dma hkDstat src g s
/-- NSEND (R187). -/
def hkNsend (t : Wide) (_ : Word) : Hooks := nsendHooks t
/-- NSEND (R187). -/
def execNsend (src : Src) (g : Guard) (s : State) : Out := runScalar .net hkNsend src g s
/-- RLD (R185). -/
def hkRld (t : Wide) (_ : Word) : Hooks := rldHooks t
/-- RLD (R185). -/
def execRld (src : Src) (g : Guard) (s : State) : Out := runScalar .net hkRld src g s
/-- CQPOST (R183). -/
def hkCqpost (t : Wide) (_ : Word) : Hooks := cqpostHooks t
/-- CQPOST (R183). -/
def execCqpost (src : Src) (g : Guard) (s : State) : Out := runScalar .net hkCqpost src g s
/-- CQSTAT (R312). -/
def hkCqstat (t : Wide) (_ : Word) : Hooks := cqstatHooks t
/-- CQSTAT (R312). -/
def execCqstat (src : Src) (g : Guard) (s : State) : Out := runScalar .net hkCqstat src g s
/-- NFLAG (R313). -/
def hkNflag (t : Wide) (_ : Word) : Hooks := nflagHooks t
/-- NFLAG (R313). -/
def execNflag (src : Src) (g : Guard) (s : State) : Out := runScalar .net hkNflag src g s

end Sys2Proof.Machine
end

