-- ==== Sys2Proof/Machine/System.lean ====
section
/-! DEFINITION. Privileged state: the system registers and the sys operations, the patrol core's window and commands, the
handler and the stubs (R358-R381). -/

namespace Sys2Proof.Machine

/-! ### System registers (R360-R362) -/

/-- The numbers of R360 are these; every other is reserved. -/
def sysNumber (n : Nat) : Bool := n ≤ 7 || (0x20 ≤ n && n ≤ 0x23)

/-- The context that is resident on a tile's cluster (R360). -/
def State.residentId (s : State) (k : TileKey) : CtxId := ((s.clusterAt (keyCluster k)).resident).getD 0xFFFF

/-- A system register of a tile (R360). -/
def State.sysGet (s : State) (k : TileKey) (n : Nat) : Word :=
  let t := s.tileAt k
  match n with
  | 0 => t.tcause
  | 1 => t.tepc
  | 2 => t.tinfo.get 0
  | 3 => t.tinfo.get 1
  | 4 => t.tinfo.get 2
  | 5 => t.tinfo.get 3
  | 6 => (s.ctxAt k.ctx).tvec
  | 0x20 => t.savebase
  | 0x21 => t.stubbase
  | 0x22 => (s.residentId k).zeroExtend 64
  | 0x23 => if (s.ctxAt k.ctx).debug then 1 else 0
  | _ => 0

/-- The bits of tvec that exist (R34). -/
def tvecBits : Word := 0x00FFFFFFFFFFFFC1

/-- tcause written: V, INH, NEST and CODE (R361). -/
def Tile.setTcause (t : Tile) (v : Word) : Tile :=
  { t with tv := v.getLsbD 15, inh := v.getLsbD 14, nest := v.getLsbD 13, code := v.extractLsb' 0 8 }

/-- A system register written in privileged mode, or through the window; a read-only one keeps its value (R6, R360, R380). A window write
of savebase or stubbase whose low bits are set stores the value whole: R380 gives a fate only for SYSWR (DESIGN CHOICE, log 85). -/
def State.sysPut (s : State) (k : TileKey) (n : Nat) (v : Word) : State :=
  match n with
  | 0 => s.modTileAt k (fun t => t.setTcause v)
  | 1 => s.modTileAt k (fun t => { t with tepc := v &&& 0x00FFFFFFFFFFFFC0 })
  | 2 => s.modTileAt k (fun t => { t with tinfo := t.tinfo.set 0 v })
  | 3 => s.modTileAt k (fun t => { t with tinfo := t.tinfo.set 1 v })
  | 4 => s.modTileAt k (fun t => { t with tinfo := t.tinfo.set 2 v })
  | 5 => s.modTileAt k (fun t => { t with tinfo := t.tinfo.set 3 v })
  | 6 => s.modCtx k.ctx (fun c => { c with tvec := v &&& tvecBits })
  | 0x20 => s.modTileAt k (fun t => { t with savebase := v })
  | 0x21 => s.modTileAt k (fun t => { t with stubbase := v })
  | 0x23 => s.modCtx k.ctx (fun c => { c with debug := v.getLsbD 0 })
  | _ => s

/-! ### The save area (R374, R375) -/

/-- The bytes of a list of 512-bit items. -/
def widesBytes (l : List Wide) : List Byte := l.flatMap (fun v => bytesOf v.toNat 64)

/-- Bytes of the opaque sequencer block: values that the manual does not give (R374; log 13). -/
def opaqueBytes (free : Nat) : List Byte := (List.range 1024).flatMap (fun i => bytesOf (Config.freeWord (free + i)).toNat 8)

/-- The user's ports as a save sees them: the sys ports as they stood when the stub began (log 24). -/
def Tile.userCore (t : Tile) : TileCore :=
  match t.user with
  | none => t.core
  | some u => (({ t.core with seq := u.seq }).setOpnd .sys .a u.a u.mask).setRes .sys .q u.q

/-- The 8-byte items at offset 0x1380 (R374). -/
def Tile.saveWords (t : Tile) (tvec : Word) : List Word :=
  [t.core.lockmask, t.core.frm, t.core.mx.mxcfg, BitVec.ofNat 64 t.core.mx.mxstat, t.tcause, t.tepc, t.tinfo.get 0, t.tinfo.get 1,
   t.tinfo.get 2, t.tinfo.get 3, t.cfill.zeroExtend 64, t.cdrain.zeroExtend 64, tvec]

/-- RFSV: the items from 0x0_0000 to 0x0_6FFF and the snapshot buffer written to the save area (R374, R377). -/
def State.saveTile (s : State) (k : TileKey) : State :=
  let t := s.tileAt k
  let c := t.userCore
  let a := t.area
  let f := s.free
  let s := s.memWrite a (widesBytes (c.m.toList ++ c.o.toList))
  let s := s.memWrite (a + 0x1200) (wordsBytes ((List.range 32).map (fun i => c.pred (BitVec.ofNat 5 i)) ++ c.h.toList.map Handle.word))
  let s := s.memWrite (a + 0x1380) (wordsBytes (t.saveWords (s.ctxAt k.ctx).tvec))
  let s := s.memWrite (a + 0x1400) (wordsBytes (c.bf.toList.map (fun x => x.zeroExtend 64)))
  let s := s.memWrite (a + 0x14C0) (c.ev.toList.flatMap (fun x => bytesOf x.toNat 4))
  let s := s.memWrite (a + 0x2000) (opaqueBytes f)
  let s := s.memWrite (a + 0x4000) (widesBytes c.opnd.toList)
  let s := s.memWrite (a + 0x5000) (widesBytes c.res.toList)
  let s := s.memWrite (a + 0x7000) (snapEntries (sortSnap t.snap) 48)
  let b : SavedBlock := { pa := a, core := c, mark := t.mark, snap := t.snap, gated := t.gated, stores := t.stores }
  { s with free := f + 1024, saved := b :: s.saved.filter (fun x => x.pa ≠ a) }

/-- A vector of n values read from memory. -/
def memVec {α : Type} (n : Nat) (f : Nat → α) : Vector α n := Vector.ofFn (fun i : Fin n => f i.val)

/-- The bits of a bank format register that exist (R68). -/
def bfBits : BitVec 32 := 0xFFFF01FF

/-- The counters that exist; ev9-ev15 read 0 (R142). -/
def evExists (i : Nat) : Bool := i < 9

/-- The bits of mxcfg that exist (R145). -/
def mxcfgBits : Word := 0x0FFF0003

/-- The core as RFLD reads it back: the architected items from memory, the reserved bits of each 0, the opaque block and the handles'
frames from what RFSV kept (R7, R374, R377; log 12, log 13). -/
def State.loadCore (s : State) (a : Nat) (c : TileCore) : TileCore :=
  let wide (off : Nat) : Wide := BitVec.ofNat 512 (s.memRead (a + off) 64)
  let word (off : Nat) : Word := BitVec.ofNat 64 (s.memRead (a + off) 8)
  { c with
    m := memVec 64 (fun i => wide (64 * i)), o := memVec 8 (fun i => wide (0x1000 + 64 * i)),
    p := memVec 32 (fun i => if i = 0 then 0 else word (0x1200 + 8 * i)),
    h := Vector.ofFn (fun i : Fin 16 => { Handle.ofWord (word (0x1300 + 8 * i.val)) (c.h.get i).frame with pend := (c.h.get i).pend }),
    lockmask := word 0x1380 &&& lockmaskBits, frm := word 0x1388 &&& 0xF,
    mx := { c.mx with mxcfg := word 0x1390 &&& mxcfgBits, cim := (word 0x1398).getLsbD 0 },
    bf := memVec 24 (fun i => BitVec.ofNat 32 (s.memRead (a + 0x1400 + 8 * i) 8) &&& bfBits),
    ev := memVec 16 (fun i => if evExists i then BitVec.ofNat 32 (s.memRead (a + 0x14C0 + 4 * i) 4) else 0),
    opnd := memVec 36 (fun i => wide (0x4000 + 64 * i)), res := memVec 72 (fun i => wide (0x5000 + 64 * i)) }

/-- The socket of an index (R14). -/
def sockOf (n : Nat) : Option Sock := allSocks.find? (fun x => (sockIdx x).val = n)

/-- The port of a field of a snapshot's tag (R375). -/
def portOf (n : Nat) : RPort :=
  match n with
  | 0 => .q
  | 1 => .qp
  | _ => .q1

/-- A result of no operation: what a snapshot entry does not give is as in it. -/
def InFlight.none : InFlight :=
  { sk := .sys, port := .q, value := 0, mask := BitVec.allOnes 512, rem := 0, free := false, locked := false, ready := false, due := 0,
    id := 0, evs := EvCount.zero, live := .plain }

/-- Entry i of a save area's snapshot, where it is live; its operation, its lanes and its events are those of the entry that was
written (R375; log 13). -/
def State.snapAt (s : State) (a i : Nat) (old : Option InFlight) : Option InFlight :=
  let tag := s.memRead (a + 0x7000 + 128 * i + 64) 8
  let f := old.getD InFlight.none
  if !tag.testBit 19 then none
  else some { f with
    sk := (sockOf (bitsOf tag 8 6)).getD f.sk, port := portOf (bitsOf tag 14 2), locked := tag.testBit 17, free := tag.testBit 16,
    ready := tag.testBit 18, rem := bitsOf tag 0 8, value := BitVec.ofNat 512 (s.memRead (a + 0x7000 + 128 * i) 64) }

/-- The live entries of a save area: the 48 of the buffer, and those behind them that SNAPSV wrote (R376-R378). -/
def State.snapFrom (s : State) (a : Nat) (old : List InFlight) : List InFlight :=
  let l := sortSnap old
  (List.range (max 48 l.length)).filterMap (fun i => s.snapAt a i l[i]?)

/-- RFLD: the items read back and the buffer refilled from the entries of the save area; the matrix state is no item of it and stays on
the tile, but for mxcfg and what mxstat holds (R374, R377). The stub goes on with its own
sequencer and sys results; requests that have not been answered go on. -/
def State.loadTile (s : State) (k : TileKey) : State :=
  let t := s.tileAt k
  let a := t.area
  let old := (s.saved.find? (fun x => x.pa = a)).getD { pa := a, core := t.userCore, mark := t.mark, snap := t.snap, gated := t.gated, stores := t.stores }
  let c := { s.loadCore a { old.core with mx := t.core.mx } with xlats := t.core.xlats, gloads := t.core.gloads, cellRds := t.core.cellRds, rlds := t.core.rlds }
  let word (off : Nat) : Word := BitVec.ofNat 64 (s.memRead (a + 0x1380 + off) 8)
  let own := t.core.flight.filter (fun f => t.stubFrom ≤ f.id)
  let keep : UserKeep := { seq := c.seq, a := c.opnd' .sys .a, mask := c.mask' .sys .a, q := c.res' .sys .q }
  let live := ({ c with seq := t.core.seq, flight := own } : TileCore).setOpnd .sys .a (t.core.opnd' .sys .a) (t.core.mask' .sys .a)
  let live := live.setRes .sys .q (t.core.res' .sys .q)
  let t := { t with core := live, mark := { old.mark with mx := t.mark.mx }, snap := s.snapFrom a old.snap, gated := old.gated, stores := old.stores, user := some keep,
                    tepc := word 0x28 &&& 0x00FFFFFFFFFFFFC0, tinfo := #v[word 0x30, word 0x38, word 0x40, word 0x48],
                    cfill := (word 0x50).truncate 32, cdrain := (word 0x58).truncate 32 }
  (s.setTileAt k (t.setTcause (word 0x20))).modCtx k.ctx (fun x => { x with tvec := word 0x60 &&& tvecBits })

/-! ### Snapshots (R376, R378) -/

/-- The user's results in the pipelines: what the stub did not trigger. -/
def Tile.parked (t : Tile) : List InFlight := t.core.flight.filter (fun f => f.id < t.stubFrom)

/-- A parked result that has landed already by the next user bundle (R376). -/
def InFlight.landed (f : InFlight) : Bool := !f.locked && f.rem = 0

/-- SNAPSV: the parked results leave the pipelines as entries (R376). -/
def Tile.takeSnap (t : Tile) (qmode : Bool) : Tile :=
  let c := t.core.landAll qmode (t.parked.filter InFlight.landed)
  { t with core := { c with flight := c.flight.filter (fun f => t.stubFrom ≤ f.id) },
           snap := t.parked.filter (fun f => !f.landed) }

/-- An interlocked entry whose value is there is delivered at once (R378). -/
def InFlight.atOnce (f : InFlight) : InFlight := if f.locked && f.ready then { f with due := 0 } else f

/-- SNAPLD: every entry is parked again in its unit's pipeline (R378). -/
def Tile.giveSnap (t : Tile) : Tile := { t with core := { t.core with flight := t.snap.map InFlight.atOnce ++ t.core.flight }, snap := [] }

/-- SNAPSV on a tile: the entries from 48 on go to the save area directly (R376). -/
def State.snapOut (s : State) (k : TileKey) : State :=
  let s := s.modTileAt k (fun x => x.takeSnap (s.ctxAt k.ctx).qmode)
  let l := sortSnap (s.tileAt k).snap
  if 48 < l.length then s.memWrite ((s.tileAt k).area + 0x7000 + 48 * 128) (snapEntries (l.drop 48) (l.length - 48)) else s

/-! ### The return (R373) -/

/-- The events of results that are discarded: their operations have run (R143, R373; log 77). -/
def TileCore.countDropped (c : TileCore) : TileCore := c.count (c.flight.foldl (fun e f => e.add f.evs) EvCount.zero)

/-- An entry of the frame whose value arrived during the handler holds it (R146, R371); one that has not comes as it would have. -/
def InFlight.fromFrame (f : InFlight) : InFlight :=
  match f.live with
  | .mxstat _ => if f.ready then { f.atOnce with live := .plain } else f
  | _ => f.atOnce

/-- The return from a handler: everything the frame holds comes back. The handler's results are discarded; the requests of its
operations, and those of the interrupted task, go on (R371, R373). -/
def Tile.restoreFrame (t : Tile) : Tile :=
  match t.frame with
  | none => { t with inh := false, tv := false }
  | some f =>
    let c := { t.core.countDropped with
      opnd := f.opnd, opMask := f.opMask, res := f.res, queues := f.queues, owners := f.owners, lockmask := f.lockmask, frm := f.frm,
      seq := { f.seq with pc := t.tepc.truncate 56, skew := 0 }, spin := f.spin, flight := f.flight.map InFlight.fromFrame,
      gloads := t.core.gloads ++ f.gloads }
    ({ t with core := c, frame := none, inh := false, tv := false } : Tile).takeMark

/-- The return from a stub: the user's sequencer and sys ports come back, the parked pipelines go on (R373; log 24). -/
def Tile.leaveStub (t : Tile) : Tile :=
  let t := ({ t with core := t.userCore, user := none, priv := false, tv := false } : Tile).settleOwed
  (t.mapCore (fun c => { c with flight := c.flight.filter (fun f => f.id < t.stubFrom), seq := { c.seq with pc := t.tepc.truncate 56 } })).uncover

/-- A write of tret (R373). -/
def State.doTret (s : State) : State :=
  if s.tile.priv then (s.modTile Tile.leaveStub).takeHeld s.cur
  else if s.tile.inh then (s.commitRegion.modTile Tile.restoreFrame).takeHeld s.cur
  else s

/-- TRET: the tile returns from its handler or its stub; where neither runs, nothing happens (R373). -/
def execTret (s : State) : Out := if s.tile.frozen then .next s else .next s.doTret

/-! ### The sys operations (R359, R380) -/

/-- The sources that a privileged bundle may read (R359). -/
def privSrcOk : Src → Bool
  | .imm8 _ => true
  | .limmS _ => true
  | .limmZ _ => true
  | .limmHi _ => true
  | .port .sys .q => true
  | _ => false

/-- A trigger of sys: in privileged mode only some sources may be read (R359). -/
def runSys (hk : Wide → Word → Hooks) (src : Src) (g : Guard) (s : State) : Out :=
  if s.tile.priv && !s.tile.frozen && !privSrcOk src then .next (s.takeTrap (s.privViolation (sockIdx .sys).val (s.scalarSrc src)))
  else runScalar .sys hk src g s

/-- "privilege violation" of a sys trigger (R358, R365). -/
def State.sysDenied (s : State) (t : Wide) : Option Cause := some (s.privViolation (sockIdx .sys).val (lowWord t))

/-- The check of an operation that only privileged mode may run (R358, R380). -/
def privOnly (ok : State → Wide → Bool) (t : Wide) (s : State) : Option Cause :=
  if !s.tile.priv then s.sysDenied t else if ok s t then none else some (s.illegalOperand .sys t)

/-- The check of SYSRD (R380). -/
def State.sysrdCause (s : State) (t : Wide) : Option Cause :=
  let w := (lowWord t).toNat
  if !s.tile.priv && 7 ≤ w % 4096 then s.sysDenied t
  else if 4096 ≤ w || !sysNumber (w % 4096) then some (s.illegalOperand .sys t)
  else none

/-- SYSRD (R360, R380). -/
def hkSysrd (t : Wide) (_ : Word) : Hooks :=
  .checked (fun s => s.sysrdCause t) (fun s => s.locked .sys [(.q, wideOfWord (s.sysGet s.cur ((lowWord t).toNat % 4096)))])

/-- The value is legal for the register (R360, R373, R380). -/
def sysValueOk (t : Tile) (n : Nat) (v : Word) : Bool :=
  match n with
  | 7 => v = 0 && (t.priv || t.inh)
  | 0x20 => bitsOf v.toNat 0 17 = 0
  | 0x21 => bitsOf v.toNat 0 16 = 0
  | _ => true

/-- The check of SYSWR (R358, R380). -/
def State.syswrCause (s : State) (t : Wide) : Option Cause :=
  let n := (lowWord (s.opA .sys)).toNat
  if !s.tile.priv && n % 4096 ≠ 7 then s.sysDenied t
  else if 4096 ≤ n || !sysNumber (n % 4096) || !sysValueOk s.tile (n % 4096) (lowWord t) then some (s.illegalOperand .sys t)
  else none

/-- SYSWR; a write of tret returns (R360, R373, R380). -/
def hkSyswr (t : Wide) (_ : Word) : Hooks :=
  .checked (fun s => s.syswrCause t) (fun s =>
    let n := (lowWord (s.opA .sys)).toNat % 4096
    if n = 7 then s.doTret
    else (s.locked .sys [(.q, wideOfWord (s.sysGet s.cur n))]).sysPut s.cur n (lowWord t))

/-- A zero operand. -/
def sysZero (_ : State) (t : Wide) : Bool := lowWord t = 0

/-- SNAPSV (R376). -/
def hkSnapsv (t : Wide) (_ : Word) : Hooks :=
  .checked (privOnly sysZero t) (fun s =>
    let s := s.snapOut s.cur
    s.locked .sys [(.q, BitVec.ofNat 512 s.tile.snap.length)])

/-- SNAPLD (R378). -/
def hkSnapld (t : Wide) (_ : Word) : Hooks :=
  .checked (privOnly sysZero t) (fun s =>
    let n := s.tile.snap.length
    (s.modTile Tile.giveSnap).locked .sys [(.q, BitVec.ofNat 512 n)])

/-- RFSV (R377). -/
def hkRfsv (t : Wide) (_ : Word) : Hooks :=
  .checked (privOnly sysZero t) (fun s => (s.saveTile s.cur).locked .sys [(.q, 0)])

/-- RFLD (R377). -/
def hkRfld (t : Wide) (_ : Word) : Hooks :=
  .checked (privOnly sysZero t) (fun s => (s.loadTile s.cur).locked .sys [(.q, 0)])

/-- The V bits of the handle registers (R381). -/
def TileCore.vBits (c : TileCore) : Nat := ofLanes 1 (fun i => if h : i < 16 then (if (c.h.get ⟨i, h⟩).v then 1 else 0) else 0) 16

/-- V cleared in some handle registers (R381). -/
def TileCore.invalidate (c : TileCore) (mask : Word) : TileCore :=
  { c with h := Vector.ofFn (fun i : Fin 16 => if mask.getLsbD i.val then { c.h.get i with v := false } else c.h.get i) }

/-- HINV (R381). -/
def hkHinv (t : Wide) (_ : Word) : Hooks :=
  .checked (privOnly (fun _ t => (lowWord t).toNat < 65536) t) (fun s =>
    let v := s.tile.core.vBits
    (s.modTile (fun x => x.mapBoth (fun c => c.invalidate (lowWord t)))).locked .sys [(.q, BitVec.ofNat 512 v)])

/-- IFLUSH: the buffer is emptied, and the locked ranges are fetched again (R86, R381). -/
def hkIflush (t : Wide) (_ : Word) : Hooks :=
  .checked (privOnly sysZero t) (fun s => ((s.modTile (fun x => { x with ibuf := [] })).replayLocks s.cur).locked .sys [(.q, 0)])

/-- SYSRD (R380). -/
def execSysrd (src : Src) (g : Guard) (s : State) : Out := runSys hkSysrd src g s
/-- SYSWR (R380). -/
def execSyswr (src : Src) (g : Guard) (s : State) : Out := runSys hkSyswr src g s
/-- SNAPLD (R378). -/
def execSnapld (src : Src) (g : Guard) (s : State) : Out := runSys hkSnapld src g s
/-- The save area lies in the populated ranges (R398). -/
def State.areaOkAt (s : State) (k : TileKey) : Bool := populated (s.tileAt k).area && populated ((s.tileAt k).area + 0x1FFFF)
/-- That of the tile of the step (R398). -/
def State.areaOk (s : State) : Bool := s.areaOkAt s.cur
/-- A privileged save or restore runs: the trigger is not cancelled, not refused and not held (R359, R377). -/
def State.savesNow (s : State) (src : Src) (g : Guard) : Bool :=
  s.tile.priv && !s.tile.frozen && s.tile.core.guardOn g && privSrcOk src && !(srcPorts src).any (fun x => s.portWait x) &&
    s.scalarSrc src = 0
/-- SNAPSV has entries for the save area itself (R376). -/
def State.snapSpills (s : State) : Bool := 48 < (s.tile.takeSnap s.ctx.qmode).snap.length
/-- SNAPSV; entries for a save area outside the populated ranges are refused (R376, R398). -/
def execSnapsv (src : Src) (g : Guard) (s : State) : Out :=
  if s.savesNow src g && s.snapSpills && !s.areaOk then .fault (.unpopulatedPhysical s.tile.area) else runSys hkSnapsv src g s
/-- RFSV; a save area outside the populated ranges is refused (R377, R398). -/
def execRfsv (src : Src) (g : Guard) (s : State) : Out :=
  if s.savesNow src g && !s.areaOk then .fault (.unpopulatedPhysical s.tile.area) else runSys hkRfsv src g s
/-- RFLD; a save area outside the populated ranges is refused (R377, R398). -/
def execRfld (src : Src) (g : Guard) (s : State) : Out :=
  if s.savesNow src g && !s.areaOk then .fault (.unpopulatedPhysical s.tile.area) else runSys hkRfld src g s
/-- HINV (R381). -/
def execHinv (src : Src) (g : Guard) (s : State) : Out := runSys hkHinv src g s
/-- IFLUSH (R381). -/
def execIflush (src : Src) (g : Guard) (s : State) : Out := runSys hkIflush src g s

/-! ### The handler (R371, R372) -/

/-- The frame of a tile (R371). -/
def Tile.toFrame (t : Tile) (keep : List GLoad) : Frame :=
  let c := t.core
  { opnd := c.opnd, opMask := c.opMask, res := c.res, queues := c.queues, owners := c.owners, lockmask := c.lockmask, frm := c.frm, seq := c.seq,
    spin := c.spin, flight := c.flight, gloads := keep }

/-- The frame block of the save area written (R371, R374). -/
def State.writeFrame (s : State) (k : TileKey) : State :=
  let t := s.tileAt k
  let a := t.area + 0x10000
  let f := s.free
  let s := s.memWrite a (opaqueBytes f)
  let s := s.memWrite (a + 0x2000) (widesBytes t.core.opnd.toList)
  let s := s.memWrite (a + 0x3000) (widesBytes t.core.res.toList)
  let s := s.memWrite (a + 0x5000) (snapEntries (sortSnap t.core.flight) (min 160 t.core.flight.length))
  { s with free := f + 1024 }

/-- A tile enters the handler: no result in flight, no loop, no spin; a new mark point. Requests that have not been answered go on, and
their results land in the frame, which also keeps the group loads `keep` (R97, R371, R372). -/
def Tile.enter (t : Tile) (va : BitVec 56) (tepc : Word) (skew : Nat) (keep : List GLoad) : Tile :=
  let t := t.settleOwed
  let c := t.core
  let q : Seq := { Seq.reset with pc := va, skew := skew, fences := c.seq.fences, hdr := c.seq.hdr, here := c.seq.here }
  let c := { c with seq := q, spin := none, flight := [] }
  ({ t with frame := some (t.toFrame keep), core := c, inh := true, tepc := tepc, frozen := false } : Tile).takeMark

/-- Results that the freeze point has passed land before the frame is written (R376). -/
def Tile.settleFlight (t : Tile) (qmode : Bool) : Tile :=
  let c := t.core.landAll qmode (t.core.flight.filter InFlight.landed)
  { t with core := { c with flight := c.flight.filter (fun f => !f.landed) } }

/-- A tile of a tow set stands where its leader does: before bundle n of the task (R372). -/
def Tile.joinLeader (t : Tile) (n : Nat) : Tile := { t with towN := n, posts := [], trace := [], ahead := 0 }

/-- The group loads of a region whose own "group partial" has not been taken: it is raised when the checks of their next bundle come
again (R97, R206). -/
def TileCore.untaken (c : TileCore) : List GLoad :=
  (c.gloads.filter (fun g => g.trapping && g.absent ≠ 0 && !g.trapped)).map (fun g => { g with race := none, closed := true })

/-- One tile of a set delivered into the handler, at its leader's bundle n and tepc; before its first bundle it takes its held causes
(R366, R371, R372). -/
def State.enterAt (s : State) (k : TileKey) (n : Nat) (tepc : Word) : State :=
  let s0 := s.cur
  let s := { s with cur := k }
  let keep := s.tile.core.untaken
  let s := s.commitRegion
  let s := s.modTile (fun t => t.settleFlight s.ctx.qmode)
  let s := s.writeFrame k
  let skew := match s.tile.task with | some x => x.dist | none => 0
  let va : BitVec 56 := (s.ctx.tvec &&& 0x00FFFFFFFFFFFFC0).truncate 56
  { (s.modTile (fun t => (t.joinLeader n).enter va tepc skew keep)).takeHeld k with cur := s0 }

/-- A patrol core's exception (R368, R370). -/
def State.patrolExc (s : State) (k : TileKey) (e : PatrolExc) : State := s.modCluster (keyCluster k) (fun c => { c with exc := some e })

/-- The handler may be entered (R364, R370, R371). -/
def Tile.deliverable (t : Tile) : Bool := t.frozen && !t.inh && isRecoverable t.code

/-- DELIVER's step 1 in a tile: the region waits for its CELLRs and group loads (R371). -/
def State.deliverWaits (s : State) (k : TileKey) : Bool := (s.towSet k).any (fun j => ({ s with cur := j } : State).closeStall)

/-- The trap that DELIVER's step 1 finds; the group partials of the region are what the handler is for (R97, R371). -/
def State.deliverCause (s : State) (k : TileKey) : Option Cause :=
  (s.towSet k).findSome? (fun j =>
    (({ s with cur := j } : State).modTileAt j (fun t => t.mapCore (fun c => { c with gloads := c.gloads.map (fun g => { g with trapped := true }) }))).closeCause)

/-- A trap that DELIVER's step 1 finds is recorded in place of the cause, after a rollback where the trap asks for one (R58, R371). -/
def State.deliverTrap (s : State) (k : TileKey) (c : Cause) : State :=
  let s := if isRollbackCause c.code then s.rollbackAt k else s
  let c := s.atMark k c
  let s := (s.modTileAt k (fun t => t.recordCause c)).logTaken k c
  match causeService (s.ctxAt k.ctx) (s.tileAt k) c.code c.i0 with
  | some i => s.addLater k i
  | none => s

/-- A CELLR of a region that DELIVER closes reads its cell once it can (R78, R371, R416). -/
def State.deliverCells (s : State) (k : TileKey) : State :=
  match s.readyCell k with
  | none => s
  | some r =>
    let v : State := { s with cur := k }
    match v.poisonCause (.scratch r.tid r.off) 8 with
    | some c => s.deliverTrap k c
    | none => { v.readCell r with cur := s.cur }

/-- The cells that the regions of a tow set wait for are read; DELIVER comes again, unless a read has put a cause of its own in place of
the one that it was for (R371). -/
def State.deliverAgain (s : State) (k : TileKey) : State :=
  let set := s.towSet k
  let v := set.foldl State.deliverCells s
  if set.all (fun j => (v.tileAt j).code = (s.tileAt j).code) then v.addEvent (s.clock + 1) k .deliver else v

/-- DELIVER on a tile (R371): the region closes first, which may wait, also while the tile is switched out, or trap instead. -/
def State.deliverTo (s : State) (k : TileKey) : State :=
  if !(s.tileAt k).deliverable then s.patrolExc k .illegalInstruction
  else
    let set := s.towSet k
    let lead := s.tileAt (set.head?.getD k)
    if (s.tileAt k).out then s.addEvent (s.clock + 1) k .deliver
    else if s.deliverWaits k then s.deliverAgain k
    else match s.deliverCause k with
      | some c => s.deliverTrap k c
      | none => set.foldl (fun s j => s.enterAt j lead.towN lead.tepc) s

/-- The save area of a tile that DELIVER would write its frame into lies outside the populated ranges (R398). -/
def State.frameRefused (s : State) (k : TileKey) : Option Nat :=
  if (s.tileAt k).deliverable && !(s.tileAt k).out && !s.deliverWaits k && (s.deliverCause k).isNone then
    (s.towSet k).findSome? (fun j => if s.areaOkAt j then none else some (s.tileAt j).area)
  else none

/-- DELIVER: the patrol core enters the context's handler on the tile; a frame outside the populated ranges is refused (R371,
R398). -/
def execDeliver (s : State) : Out :=
  match s.frameRefused s.cur with
  | some a => .fault (.unpopulatedPhysical a)
  | none => .next (s.deliverTo s.cur)

/-! ### The patrol core's commands (R370) -/

/-- RESUME on a tile (R370). -/
def State.resumeTo (s : State) (k : TileKey) : State :=
  if !(s.tileAt k).frozen then s.patrolExc k .illegalInstruction else s.thawSet k

/-- RESUME: the patrol core thaws the tile (R370). -/
def execResume (s : State) : Out := .next (s.resumeTo s.cur)

/-- A tile enters a stub; its held causes wait for the return (R358, R359, R366, R370; log 24, log 82). -/
def Tile.enterStub (t : Tile) (e : BitVec 6) : Tile :=
  let c := t.core
  let keep : UserKeep := { seq := c.seq, a := c.opnd' .sys .a, mask := c.mask' .sys .a, q := c.res' .sys .q }
  let pc : BitVec 56 := (t.stubbase.truncate 56) + BitVec.ofNat 56 (0x400 * e.toNat)
  { t with priv := true, frozen := false, stubFrom := t.nextId, user := some (t.user.getD keep),
           core := { c with seq := { Seq.reset with pc := pc } } }

/-- STUB on a tile (R370). -/
def State.stubTo (s : State) (k : TileKey) (e : BitVec 6) : State :=
  if !(s.tileAt k).frozen then s.patrolExc k .illegalInstruction
  else (s.towSet k).foldl (fun s j => s.modTileAt j (fun t => t.enterStub e)) s

/-- STUB: the patrol core thaws the tile into stub entry e (R370). -/
def execStub (e : BitVec 6) (s : State) : Out := .next (s.stubTo s.cur e)

/-- ACK on a tile (R370). -/
def State.ackTo (s : State) (k : TileKey) : State :=
  (s.towSet k).foldl (fun s j => s.modTileAt j (fun t => { t with tv := false })) s

/-- ACK: the patrol core clears V; the tile stays as it is (R370). -/
def execAck (s : State) : Out := .next (s.ackTo s.cur)

/-- ABANDON: the patrol core ends the tile's task (R370). -/
def execAbandon (s : State) : Out := .next ((s.towSet s.cur).foldl State.abandonAt s)

/-! ### The window (R368, R369) -/

/-- The tile that the patrol core of the step's cluster has selected (R368). -/
def State.selected (s : State) : TileKey :=
  let c := keyCluster s.cur
  { ctx := s.residentId s.cur, die := c.die, tid := tidOf c.cid ((s.clusterAt c).ptsel.truncate 4) }

/-- The items of the window (R369). -/
inductive WinItem where
  | m (i : Fin 64) (w : Nat)
  | o (i : Fin 8) (w : Nat)
  | p (i : BitVec 5)
  | h (i : Fin 16)
  | opnd (i : Fin 36) (w : Nat)
  | res (i : Fin 72) (w : Nat)
  | sys (n : Nat)
  | lockmask | frm
  | bf (i : Fin 24)
  | ev (i : Fin 16)
  | mxcfg | mxstat | cfill | cdrain
  | opaqueBlock (i : Nat)

/-- The 64-bit words of an operand port by its index; 0 where there is none (R14, R369). -/
def opndWords (i : Nat) : Nat :=
  if i = 11 || i = 23 then 0
  else if (12 ≤ i && i < 16) || (18 ≤ i && i < 28) || i = 33 then 8
  else 1

/-- The 64-bit words of a result port by its index; 0 where there is none (R14, R369). -/
def resWords (i : Nat) : Nat :=
  let k := i / 4
  match i % 4 with
  | 0 => if k = 6 || k = 7 || (9 ≤ k && k < 14) || k = 16 then 8 else 1
  | 1 => if k = 3 || k = 17 then 0 else 1
  | 2 => if k = 12 then 8 else if k = 6 || k = 7 || k = 13 then 1 else 0
  | _ => 0

/-- A window address's item; none for a reserved address (R369). -/
def winItem (a : BitVec 32) : Option WinItem :=
  let x := a.toNat
  let i := bitsOf x 3 13
  let w := bitsOf x 0 3
  if bitsOf x 24 8 ≠ 0 then none
  else match bitsOf x 16 8 with
    | 0 => if h : i < 64 then some (.m ⟨i, h⟩ w) else none
    | 1 => if h : i < 8 then some (.o ⟨i, h⟩ w) else none
    | 2 => if i < 32 && w = 0 then some (.p (BitVec.ofNat 5 i)) else none
    | 3 => if h : i < 16 then (if w = 0 then some (.h ⟨i, h⟩) else none) else none
    | 4 => if h : i < 36 then (if 2 ≤ i && w < opndWords i then some (.opnd ⟨i, h⟩ w) else none) else none
    | 5 => if h : i < 72 then (if 4 ≤ i && w < resWords i then some (.res ⟨i, h⟩ w) else none) else none
    | 6 => if sysNumber i && w = 0 then some (.sys i) else none
    | 7 =>
      if w ≠ 0 then none
      else if i = 0 then some .lockmask
      else if i = 1 then some .frm
      else if h : 2 ≤ i ∧ i < 26 then some (.bf ⟨i - 2, by omega⟩)
      else if h : 32 ≤ i ∧ i < 48 then some (.ev ⟨i - 32, by omega⟩)
      else if i = 48 then some .mxcfg
      else if i = 49 then some .mxstat
      else if i = 50 then some .cfill
      else if i = 51 then some .cdrain
      else none
    | 8 => if i < 1024 && w = 0 then some (.opaqueBlock i) else none
    | _ => none

/-- Word w of a 512-bit item. -/
def wordOf (v : Wide) (w : Nat) : Word := v.extractLsb' (64 * w) 64

/-- Word w of a 512-bit item replaced. -/
def putWord (v : Wide) (w : Nat) (x : Word) : Wide :=
  mergeBits (BitVec.ofNat 512 ((2 ^ 64 - 1) * 2 ^ (64 * w))) v (BitVec.ofNat 512 (x.toNat * 2 ^ (64 * w)))

/-- The sequencer and region block of a tile, as a copy of it holds it (R369). -/
def State.blockOf (s : State) (k : TileKey) : SavedBlock :=
  let t := s.tileAt k
  { pa := t.area, core := t.core, mark := t.mark, snap := t.snap, gated := t.gated, stores := t.stores }

/-- The copy of a tile's block as it stands: where none has been begun, one begins (R369; log 13). -/
def State.copyBlock (s : State) (k : TileKey) : State :=
  if s.copies.any (fun c => c.at_ = k && c.block = s.blockOf k) then s
  else { s with free := s.free + 1024, copies := { at_ := k, base := s.free, block := s.blockOf k } :: s.copies }

/-- The block of a tile restored from a copy (R369). -/
def Tile.restoreBlock (t : Tile) (b : SavedBlock) : Tile :=
  { t with core := { t.core with seq := b.core.seq, spin := b.core.spin, spinBuf := b.core.spinBuf, recIdx := b.core.recIdx, osSeq := b.core.osSeq },
           mark := b.mark, gated := b.gated, stores := b.stores }

/-- A write of the opaque block: the last word of an earlier copy restores it. Any other write lies outside the manual and changes
nothing here (R369; log 13). -/
def State.writeBlock (s : State) (k : TileKey) (i : Nat) (v : Word) : State :=
  match s.copies.find? (fun c => c.at_ = k && i = 1023 && v = Config.freeWord (c.base + i)) with
  | some c => s.modTileAt k (fun t => t.restoreBlock c.block)
  | none => s

/-- A frozen tile as the window sees it: what has run its latency by the freeze point has landed (R368, R376). -/
def State.atFreeze (s : State) (k : TileKey) : TileCore := ((s.tileAt k).settleFlight (s.ctxAt k.ctx).qmode).core

/-- A word of the window read; a word of the opaque block is a value that the manual does not give (R369; log 13). -/
def State.winRead (s : State) (k : TileKey) (it : WinItem) : Word :=
  let c := s.atFreeze k
  match it with
  | .m i w => wordOf (c.m.get i) w
  | .o i w => wordOf (c.o.get i) w
  | .p i => c.pred i
  | .h i => (c.h.get i).word
  | .opnd i w => wordOf (c.opnd.get i) w
  | .res i w => wordOf (c.res.get i) w
  | .sys n => s.sysGet k n
  | .lockmask => c.lockmask
  | .frm => c.frm
  | .bf i => (c.bf.get i).zeroExtend 64
  | .ev i => (c.ev.get i).zeroExtend 64
  | .mxcfg => c.mx.mxcfg
  | .mxstat => BitVec.ofNat 64 c.mx.mxstat
  | .cfill => (s.tileAt k).cfill.zeroExtend 64
  | .cdrain => (s.tileAt k).cdrain.zeroExtend 64
  | .opaqueBlock i => match s.copies.find? (fun c => c.at_ = k && c.block = s.blockOf k) with
    | some c => Config.freeWord (c.base + i)
    | none => 0

/-- A word of the window written; reserved bits stay 0, and the items that are read only keep their value (R6, R7, R80, R142, R146; log
76). A reserved value of a field (FMT 0xF, GSZ 0b1x and bit 16 of SBASE in bf, RM 5-7 in frm, MODE 0b11 in mxcfg) is stored as it is:
the manual gives a fate only for BFSET, FRMSET and MXCFG (DESIGN CHOICE, log 86). -/
def State.winWrite (s : State) (k : TileKey) (it : WinItem) (v : Word) : State :=
  let mod (f : TileCore → TileCore) : State := s.modTileAt k (fun t => t.mapCore f)
  match it with
  | .m i w => mod (fun c => { c with m := c.m.set i.val (putWord (c.m.get i) w v) i.isLt })
  | .o i w => mod (fun c => { c with o := c.o.set i.val (putWord (c.o.get i) w v) i.isLt })
  | .p i => mod (fun c => c.setPred i v)
  | .h _ => s
  | .opnd i w => mod (fun c => { c with opnd := c.opnd.set i.val (putWord (c.opnd.get i) w v) i.isLt })
  | .res i w => mod (fun c => { c with res := c.res.set i.val (putWord (c.res.get i) w v) i.isLt })
  | .sys n => s.sysPut k n v
  | .lockmask => mod (fun c => { c with lockmask := v &&& lockmaskBits })
  | .frm => mod (fun c => { c with frm := v &&& 0xF })
  | .bf i => mod (fun c => { c with bf := c.bf.set i.val (v.truncate 32 &&& bfBits) i.isLt })
  | .ev _ => s
  | .mxcfg => mod (fun c => c.mapMx (fun m => { m with mxcfg := v &&& mxcfgBits }))
  | .mxstat => s
  | .cfill => s.modTileAt k (fun t => { t with cfill := v.truncate 32 })
  | .cdrain => s.modTileAt k (fun t => { t with cdrain := v.truncate 32 })
  | .opaqueBlock i => s.writeBlock k i v

/-- The window word that the patrol core addresses, where it may: the tile is frozen, and its context is on it (R368, R379). -/
def State.winNow (s : State) : Option WinItem :=
  let t := s.tileAt s.selected
  if !t.frozen || t.out then none else winItem (s.clusterAt (keyCluster s.cur)).ptwa

/-- PTWDL_READ: a read of ptwdl reads the window word and latches its upper half into ptwdh (R368). -/
def execPtwdlRead (s : State) : Out :=
  match s.winNow with
  | none => .next (s.patrolExc s.cur .illegalInstruction)
  | some it =>
    let s := match it with | .opaqueBlock _ => s.copyBlock s.selected | _ => s
    let v := s.winRead s.selected it
    .next (s.modCluster (keyCluster s.cur) (fun c =>
      { c with ptwdl := v.truncate 32, ptwdh := v.extractLsb' 32 32, rdata := v.truncate 32 }))

/-- PTWDL_WRITE: a write of ptwdl writes ptwdh and ptwdl together (R368). -/
def execPtwdlWrite (v : BitVec 32) (s : State) : Out :=
  match s.winNow with
  | none => .next (s.patrolExc s.cur .illegalInstruction)
  | some it =>
    let hi := (s.clusterAt (keyCluster s.cur)).ptwdh
    let s := s.modCluster (keyCluster s.cur) (fun c => { c with ptwdl := v })
    let s := s.modTileAt s.selected (fun t => t.settleFlight (s.ctxAt s.selected.ctx).qmode)
    .next (s.winWrite s.selected it (hi ++ v))

/-- A command to the selected tile (R370). -/
def State.command (s : State) (v : BitVec 32) : State :=
  let k := s.selected
  if (v &&& 0xFFFFC0F0) ≠ 0 then s.patrolExc s.cur .illegalInstruction
  else match (v.extractLsb' 0 4 : BitVec 4).toNat with
    | 1 => s.resumeTo k
    | 2 => s.deliverTo k
    | 3 => s.stubTo k (v.extractLsb' 8 6)
    | 4 => s.ackTo k
    | 5 => (s.towSet k).foldl State.abandonAt s
    | _ => s.patrolExc s.cur .illegalInstruction

/-- The tile of a ring position of the step's cluster in the resident context. -/
def State.patrolTile (s : State) (rp : Nat) : Tile :=
  let c := keyCluster s.cur
  s.tileAt { ctx := s.residentId s.cur, die := c.die, tid := tidOf c.cid (BitVec.ofNat 4 rp) }

/-- ptpend: the tiles with V = 1, and the frozen ones (R368). -/
def State.ptpend (s : State) : BitVec 32 :=
  BitVec.ofNat 32 (ofLanes 1 (fun i => if (s.patrolTile i).tv then 1 else 0) 16 + 2 ^ 16 * ofLanes 1 (fun i => if (s.patrolTile i).frozen then 1 else 0) 16)

/-- ptcause (R368). -/
def State.ptcause (s : State) : BitVec 32 := (s.tileAt s.selected).tcause.truncate 32

/-- The machine external interrupt of the patrol core is pending (R367). -/
def State.patrolInterrupt (s : State) : Bool := (List.range 16).any (fun i => (s.patrolTile i).tv)

/-- What a custom register of the patrol core reads as; a write-only one reads 0 (R6, R368). ptwdl is read by PTWDL_READ. -/
def State.csrValue (s : State) (csr : BitVec 12) : BitVec 32 :=
  let c := s.clusterAt (keyCluster s.cur)
  match csr.toNat with
  | 0x7C0 => c.ptsel
  | 0x7C1 => c.ptwa
  | 0x7C3 => c.ptwdh
  | 0xFC0 => s.ptpend
  | 0xFC1 => s.ptcause
  | _ => 0

/-- A custom register of the patrol core replaced; the writing instruction reads its old value (R368; log 25). -/
def State.csrSet (s : State) (csr : BitVec 12) (f : Cluster → Cluster) : Out :=
  .next (s.modCluster (keyCluster s.cur) (fun c => { f c with rdata := s.csrValue csr }))

/-- A command that runs: any other raises an exception (R370). -/
def State.runsCommand (s : State) (v : BitVec 32) : Bool :=
  (v &&& 0xFFFFC0F0) = 0 &&
  match (v.extractLsb' 0 4 : BitVec 4).toNat with
  | 1 => (s.tileAt s.selected).frozen
  | 2 => (s.tileAt s.selected).deliverable
  | 3 => (s.tileAt s.selected).frozen
  | 4 => true
  | 5 => true
  | _ => false

/-- The save area that a command would write and that lies outside the populated ranges (R370, R398). -/
def State.commandRefused (s : State) (v : BitVec 32) : Option Nat :=
  if (v &&& 0xFFFFC0F0) = 0 && (v.extractLsb' 0 4 : BitVec 4).toNat = 2 then s.frameRefused s.selected else none

/-- CSR_WRITE: the patrol core writes one of its custom registers; a write of a read-only one is ignored, and the write-only ptcmd reads as
0 (R6, R368, R370; log 25). -/
def execCsrWrite (csr : BitVec 12) (v : BitVec 32) (s : State) : Out :=
  match csr.toNat with
  | 0x7C0 => s.csrSet csr (fun c => { c with ptsel := v &&& 0xF })
  | 0x7C1 => s.csrSet csr (fun c => { c with ptwa := v })
  | 0x7C2 => execPtwdlWrite v s
  | 0x7C3 => if s.winNow.isSome then s.csrSet csr (fun c => { c with ptwdh := v }) else .next (s.patrolExc s.cur .illegalInstruction)
  | 0x7C4 => (match s.commandRefused v with
    | some a => .fault (.unpopulatedPhysical a)
    | none => .next (if s.runsCommand v then (s.command v).modCluster (keyCluster s.cur) (fun c => { c with rdata := 0 }) else s.command v))
  | 0xFC0 => s.csrSet csr (fun c => c)
  | 0xFC1 => s.csrSet csr (fun c => c)
  | _ => .next s

/-- A byte of a scratchpad replaced in the lanes of a gather that are served from `from_` on (R211). -/
def gatherByte (offs : List (Option Nat)) (from_ off : Nat) (b : Byte) (v : Wide) : Wide :=
  (List.range 16).foldl (fun v i => match (offs[i]?).getD none with
    | some a => if from_ ≤ i && a ≤ off && off < a + 4 then
        mergeBits (BitVec.ofNat 512 (255 * 2 ^ (32 * i + 8 * (off - a)))) v (BitVec.ofNat 512 (b.toNat * 2 ^ (32 * i + 8 * (off - a))))
      else v
    | none => v) v

/-- The gathers in progress of a core take in bytes written at an offset during a freeze: their lanes from the next step on (R25, R211,
R367). -/
def TileCore.patchGathers (c : TileCore) (off : Nat) (bs : List Byte) : TileCore :=
  let later (f : InFlight) : Bool := c.flight.any (fun g => g.sk = f.sk && f.id < g.id && match g.live with | .gather _ => true | _ => false)
  let next (f : InFlight) : Nat := if later f then 16 else 16 - (if f.sk = .lsu0 then c.seq.busy0 else c.seq.busy1)
  { c with flight := c.flight.map (fun f => match f.live with
      | .gather offs => { f with value := (bs.zip (List.range bs.length)).foldl (fun v x => gatherByte offs (next f) (off + x.2) x.1 v) f.value }
      | _ => f) }

/-- PATROL_SCRATCHPAD_ACCESS: the patrol core reads or writes 1, 2 or 4 bytes of the scratchpad of a frozen tile of its
cluster (R367). -/
def execPatrolScratchpadAccess (rp : BitVec 4) (off : BitVec 21) (size : BitVec 3) (write : Bool) (data : BitVec 32) (s : State) : Out :=
  let cl := keyCluster s.cur
  let k : TileKey := { ctx := s.residentId s.cur, die := cl.die, tid := tidOf cl.cid rp }
  let n := size.toNat
  if !(s.tileAt k).frozen || !(n = 1 || n = 2 || n = 4) || off.toNat % n ≠ 0 || spSize < off.toNat + n then
    .next (s.patrolExc s.cur .accessFault)
  else if write then .next (s.modTileAt k (fun t =>
    (t.spWrite off.toNat (bytesOf data.toNat n)).mapBoth (fun c => c.patchGathers off.toNat (bytesOf data.toNat n))))
  else .next (s.modCluster cl (fun c => { c with rdata := BitVec.ofNat 32 ((s.tileAt k).spRead off.toNat n) }))

end Sys2Proof.Machine
end

