-- ==== Sys2Proof/Machine/Control.lean ====
section
/-! DEFINITION. The control slot: branches, loops, spins, waits, the end of a task, traps by the user, locks, and the steps
that end waits (R43, R44, R55, R61, R85, R179, R180, R189, R190, R225-R237). -/

namespace Sys2Proof.Machine

/-- What a control operation does. The first state of `stall`, `check` and `act` is the state before the bundle, from which
operand registers and predicates are read (R225); `after` follows the sequencer's decision on the next bundle, and every move of the
bundle (R236). -/
structure Ctl where
  stall : State → State → Bool
  check : State → State → Option Cause
  act   : State → State → State
  after : State → State → State

/-- A control operation that only acts. -/
def Ctl.plain (act : State → State → State) : Ctl :=
  { stall := fun _ _ => false, check := fun _ _ => none, act := act, after := fun _ s => s }

/-- The state with the control slot's index for trap information (R191). -/
def State.atSlot (s : State) (i : Nat) : State := s.modTile (fun t => t.mapSeq (fun q => { q with slot := i }))

/-- The guard that always holds (R201). -/
def alwaysGuard : Guard := { inv := false, p := 0 }

/-- A control operation alone on the tile of the step: a frozen tile issues nothing (R25), a false guard makes it a NOP
(R225), and privileged mode runs only some (R359). -/
def runControl (privOk : Bool) (hk : Ctl) (g : Guard) (s : State) : Out :=
  if s.tile.frozen then .next s
  else if s.tile.priv && !privOk then .next ((s.atSlot 10).takeTrap ((s.atSlot 10).privViolation 0 0))
  else if !s.tile.core.guardOn g then .next s
  else
    let s := s.atSlot 10
    if hk.stall s s then .next s
    else match hk.check s s with
      | some c => .next (s.takeTrap c)
      | none => .next (hk.after s (hk.act s s))

/-- An operand register (R225). -/
def State.oreg (s : State) (n : BitVec 3) : Wide := s.tile.core.o.get n.toFin

/-! ### Branches (R226-R228, R230) -/

/-- The target of a relative branch of the bundle that issues (R193, R226). -/
def State.relTarget (s : State) (off : BitVec 19) : BitVec 56 := s.tile.core.seq.here + 64 * off.signExtend 56

/-- A loop entry's body holds an address (R229). -/
def LoopEntry.holds (e : LoopEntry) (a : BitVec 56) : Bool := decide (e.start ≤ a) && decide (a < e.stop)

/-- The entries that a taken branch leaves are popped, from the innermost outwards (R230). -/
def popOutside (a : BitVec 56) : List LoopEntry → List LoopEntry
  | [] => []
  | e :: r => if e.holds a then e :: r else popOutside a r

/-- A branch taken: the target is the next bundle (R226); `pop` for the branches that leave loops (R230). -/
def Seq.branch (q : Seq) (a : BitVec 56) (pop : Bool) : Seq :=
  { q with pc := a, target := some a, loops := if pop then popOutside a q.loops else q.loops }

/-- A branch taken by the tile of the step. -/
def State.branch (s : State) (a : BitVec 56) (pop : Bool) : State := s.modTile (fun t => t.mapSeq (fun q => q.branch a pop))

/-- NOP (R193). -/
def ctlNop : Ctl := .plain (fun _ s => s)

/-- BR (R226, R227). -/
def ctlBr (off : BitVec 19) : Ctl := .plain (fun _ s => s.branch (s.relTarget off) true)

/-- The tested bits of a branch predicate: every 32-bit or every 16-bit lane (R227). -/
def laneBits (half : Bool) (p : Word) : List Bool :=
  if half then (List.range 32).map (fun i => p.getLsbD (2 * i)) else (List.range 16).map (fun i => p.getLsbD (4 * i))

/-- "non-uniform branch" (R227). -/
def State.nonUniform (s : State) (half : Bool) (p : Word) : Cause :=
  { code := 0x0E, tepc := s.tile.core.seq.here, i0 := addrWord s.tile.core.seq.here, i1 := p, i2 := if half then 1 else 0, i3 := 0 }

/-- BRP and BRN, whose guard is the branch predicate (R227). -/
def ctlLaneBranch (half : Bool) (off : BitVec 19) (g : Guard) : Ctl :=
  { stall := fun _ _ => false
    check := fun p s =>
      let w := p.tile.core.guardWord g
      if (laneBits half w).all (· = true) || (laneBits half w).all (· = false) then none else some (s.nonUniform half w)
    act := fun p s =>
      if (laneBits half (p.tile.core.guardWord g)).all (· = true) then s.branch (s.relTarget off) true else s
    after := fun _ s => s }

/-- CALL: o7 receives the address of the bundle after it (R228). -/
def ctlCall (off : BitVec 19) : Ctl := .plain (fun _ s =>
  let back : Word := (s.tile.core.seq.here + 64).zeroExtend 64
  (s.modTile (fun t => t.mapCore (fun c => c.setO 7 (wideOfWord back)))).branch (s.relTarget off) false)

/-- The address in bits [55:6] of a word (R228). -/
def lineAddr (w : Word) : BitVec 56 := (w &&& 0x00FFFFFFFFFFFFC0).truncate 56

/-- RET (R228). -/
def ctlRet (n : BitVec 3) : Ctl := .plain (fun p s => s.branch (lineAddr (lowWord (p.oreg n))) false)

/-! ### Loops (R43, R229, R230) -/

/-- The count of a LOOP (R229). -/
def loopCount (v : Wide) : Nat := (v.extractLsb' 0 32 : BitVec 32).toNat

/-- The end of a LOOP's body; `len` holds LEN - 1 (R225, R229). -/
def loopStop (here : BitVec 56) (len : BitVec 11) : BitVec 56 := here + 64 * (len.zeroExtend 56 + 2)

/-- "loop overflow" (R230). -/
def State.loopOverflow (s : State) : Cause :=
  { code := 0x10, tepc := s.tile.core.seq.here, i0 := addrWord s.tile.core.seq.here, i1 := 0, i2 := 0, i3 := 0 }

/-- LOOP (R229, R230). -/
def ctlLoop (n : BitVec 3) (len : BitVec 11) : Ctl :=
  { stall := fun _ _ => false
    check := fun p s => if loopCount (p.oreg n) ≠ 0 && 4 ≤ s.tile.core.seq.loops.length then some s.loopOverflow else none
    act := fun p s =>
      let c := loopCount (p.oreg n)
      s.modTile (fun t => t.mapSeq (fun q =>
        if c = 0 then { q with pc := loopStop q.here len }
        else { q with loops := { start := q.here + 64, stop := loopStop q.here len, left := c, implicit := false } :: q.loops }))
    after := fun _ s => s }

/-- The loop decision at the address that would follow: the entry whose body ends there repeats or is popped, and so on
outwards. The flag says that the implicit kernel loop repeats, which is a safe point (R44, R229). -/
def loopNext (pc : BitVec 56) : List LoopEntry → BitVec 56 × List LoopEntry × Bool
  | [] => (pc, [], false)
  | e :: r =>
    if pc ≠ e.stop then (pc, e :: r, false)
    else if 1 < e.left then (e.start, { e with left := e.left - 1 } :: r, e.implicit)
    else loopNext pc r

/-- The address of a bundle of a task by its index (R43). -/
def Task.bundle (k : Task) (i : Nat) : BitVec 56 := k.code + BitVec.ofNat 56 (64 * i)

/-- Issue stands at KER for the first time in a gate task (R43). -/
def Tile.atKernel (t : Tile) (k : Task) : Bool := k.conj.isNone && !t.core.seq.kernelDone && t.core.seq.pc = k.bundle k.ker

/-- The implicit loop would find the loop stack full: the model raises "loop overflow" at the bundle at KER (R230; DEDUCED, log 52). -/
def Tile.kernelFull (t : Tile) : Bool := match t.task with
  | some k => t.atKernel k && decide (k.trip ≠ 0) && decide (k.ker ≠ k.epi) && decide (4 ≤ t.core.seq.loops.length)
  | none => false

/-- Issue reaches KER for the first time in a gate task: the implicit loop starts, or an empty kernel is passed (R43). -/
def Tile.reachKernel (t : Tile) : Tile :=
  match t.task with
  | none => t
  | some k =>
    if !t.atKernel k || t.kernelFull then t
    else t.mapSeq (fun q =>
      if k.trip = 0 || k.ker = k.epi then { q with kernelDone := true, pc := k.bundle k.epi }
      else { q with kernelDone := true,
                    loops := { start := k.bundle k.ker, stop := k.bundle k.epi, left := k.trip, implicit := true } :: q.loops })

/-- The sequencer's decision on the next bundle after the control operation has acted; a task that ends has none (R43, R229, R234,
R236). -/
def Tile.sequence (t : Tile) : Tile :=
  if t.core.seq.ending then t
  else
    let t := t.mapSeq (fun q =>
      match q.target with
      | some _ => q
      | none =>
        let r := loopNext q.pc q.loops
        { q with pc := r.1, loops := r.2.1, safe := q.safe || r.2.2 })
    t.reachKernel

/-! ### Spins and empty bundles (R61, R231, R232) -/

/-- SPIN (R61, R231). The fields hold N - 1, STEP and K - 1 (R225). -/
def ctlSpin (n : BitVec 9) (step : BitVec 6) (k : BitVec 4) : Ctl := .plain (fun _ s =>
  s.modTile (fun t => t.mapCore (fun c =>
    { c with spin := some { k := k.toNat + 1, n := n.toNat + 1, step := step.toNat, done := 0, first := (c.recIdx.toNat + 15 - k.toNat) % 16 } })))

/-- WAIT (R232). -/
def ctlWait (count : BitVec 19) : Ctl := .plain (fun _ s =>
  s.modTile (fun t => t.mapSeq (fun q => { q with waitLeft := count.toNat })))

/-! ### WAITU (R179, R180) -/

/-- The LS path takes in a clock through a wait: in the mark's copy too, where the wait was begun by the bundle before the mark point
(R58). -/
def Tile.waitJoin (t : Tile) (both : Bool) (v : VClock) : Tile := if both then t.joinLsBoth v else t.joinLs v

/-- The wait for a promise is over: the tile's LS loads see the transfer's writes, as after XFENCE DM,LS (R179). -/
def Tile.clearWaitu (t : Tile) (k : TileKey) : Tile :=
  let w := t.core.seq.waitu
  let both := t.mark.seq.waitu = w
  let t := (t.mapSeqs (fun q => if q.waitu = w then { q with waitu := none } else q)).bump k pathDM
  t.waitJoin both (t.vcOf pathDM)

/-- That of the tile of the step. -/
def State.clearWaitu (s : State) : State := s.modTile (fun t => t.clearWaitu s.cur)

/-- The transfer of a WAITU was complete at the later of its issue and the promised cycle (R177, R179). -/
def WaitU.inTime (w : WaitU) : Bool := match w.done with
  | some c => c ≤ max w.start w.p
  | none => false

/-- "promise missed" at the WAITU bundle (R180). -/
def State.missedCause (s : State) (w : WaitU) : Cause :=
  { code := 0x21, tepc := s.tile.core.seq.pc, i0 := addrWord s.tile.core.seq.here, i1 := w.tag.zeroExtend 64,
    i2 := BitVec.ofNat 64 w.p, i3 := 0 }

/-- The promised cycle has come (R179). -/
def State.promiseDue (s : State) (w : WaitU) : Bool := w.p ≤ s.cycle s.cur.die

/-- A WAITU ends where its transfer is complete at the promised cycle (R179). -/
def State.endWaitu (s : State) : State :=
  match s.tile.core.seq.waitu with
  | none => s
  | some w => if s.promiseDue w && w.inTime then s.clearWaitu else s

/-- A promise that is not kept at its cycle is a trap; a transfer that has been completed since is dealt with at once (R180). -/
def State.missWaitu (s : State) : State :=
  match s.tile.core.seq.waitu with
  | none => s
  | some w => if s.promiseDue w && !w.inTime then ((s.clearWaitu).takeTrap (s.missedCause w)).promiseKept s.cur w.tag w.done else s

/-- WAITU (R179, R233). -/
def ctlWaitu (n : BitVec 3) : Ctl :=
  { stall := fun _ _ => false
    check := fun _ _ => none
    act := fun p s =>
      let tag : BitVec 16 := (p.oreg n).extractLsb' 48 16
      match s.tile.transfer? tag with
      | none => s
      | some d => s.modTile (fun t => t.mapSeq (fun q => { q with waitu := some { start := s.cycle s.cur.die, p := d.promise, tag := tag, done := d.done } }))
    after := fun _ s => s.endWaitu.missWaitu }

/-- The clock in which a wait ends is still a stall clock of its tile, unless its turn comes yet; a tile that is frozen or switched out has
none (R23, R25, R179). -/
def State.endClock (s : State) (q : Seq) : State :=
  if s.tile.core.seq = q || s.tile.out || s.tile.frozen || s.cur ∈ s.turn then s else s.modTile (fun t => t.clockTick false false)

/-- WAITU_END: the tile's WAITU ends at the promised cycle (R179). -/
def execWaituEnd (s : State) : Out := .next (s.endWaitu.endClock s.tile.core.seq)

/-- PROMISE_MISSED: the transfer is not complete at the promised cycle (R180). -/
def execPromiseMissed (s : State) : Out := .next s.missWaitu

/-! ### WAITB (R189, R190) -/

/-- Word j of a WAITB (R233). -/
def waitWord (v : Wide) (j : Nat) : Word := v.extractLsb' (64 * j) 64

/-- The kind of a WAITB (R189). -/
def waitKind (w0 : Word) : BitVec 3 := w0.extractLsb' 32 3

/-- A trap of the control slot on account of an address (R64, R82, R365). -/
def State.waitAddrCause (s : State) (addr : Word) : AddrFail → Cause
  | .fault => s.cause 0x07 0 addr
  | .misuse => s.cause 0x08 0 addr
  | .hfault h => s.handleFault h

/-- The place that a cell or a flag names. -/
def State.waitPlace (s : State) (kind : BitVec 3) (obj : Word) : Except AddrFail Place :=
  s.place (if kind = 2 then .load else .cell) obj 8 8

/-- The traps of a WAITB; its orbit fault comes before every other check (R160, R189, R296). -/
def State.waitbCause (s : State) (v : Wide) : Option Cause :=
  let w0 := waitWord v 0
  let kind := waitKind w0
  let obj := waitWord v 1
  let value := (waitWord v 2).toNat
  let bad := some (s.cause 0x06 0 w0)
  if kind = 4 && !s.tile.station.attached then some (s.cause 0x0A 0 w0)
  else if bitsOf w0.toNat 35 29 ≠ 0 || 4 < kind.toNat then bad
  else if kind.toNat ≤ 2 then
    (if addrSpace obj = 2 then bad
    else match s.waitPlace kind obj with
      | .ok _ => none
      | .error e => some (s.waitAddrCause obj e))
  else if kind = 3 && (1 < obj.toNat || value = 0 || 64 < value) then bad
  else none

/-- The wait that a WAITB starts (R189). -/
def State.newWait (s : State) (v : Wide) : WaitB :=
  let kind := waitKind (waitWord v 0)
  { start := s.cycle s.cur.die, kind := kind, limit := ((waitWord v 0).extractLsb' 0 32 : BitVec 32).toNat, obj := waitWord v 1,
    value := waitWord v 2, mask := waitWord v 3,
    pa := if kind = 2 then (match s.waitPlace kind (waitWord v 1) with | .ok (.phys pa) => some pa | _ => none) else none,
    hd := if kind = 2 && addrSpace (waitWord v 1) = 8 then some (s.tile.core.h.get ((waitWord v 1).extractLsb' 56 4 : BitVec 4).toFin) else none,
    revoked := false, last := none }

/-- The tile and the offset of a cell or of a flag in a scratchpad. -/
def waitTile (k : TileKey) (obj : Word) : TileKey :=
  if addrSpace obj = 1 then keyPeer k (tidOf (tidCluster k.tid) (obj.extractLsb' 56 4)) else k

/-- The word that a flag wait reads. -/
def State.waitFlag (s : State) (k : TileKey) (w : WaitB) : Word :=
  BitVec.ofNat 64 (match w.pa with
    | some pa => s.memRead pa 8
    | none => (s.tileAt (waitTile k w.obj)).spRead (addrOff w.obj) 8)

/-- The orbit count that a wait compares (R189). -/
def State.waitCount (s : State) (k : TileKey) (w : WaitB) : Nat := match w.last with
  | some n => n.toNat
  | none => s.orbitRead k false

/-- The copy queue that a wait names. -/
def State.waitQueue (s : State) (k : TileKey) (w : WaitB) : CopyQ := (s.ctxAt k.ctx).copyQ k.die (w.obj.getLsbD 0)

/-- The condition of a wait holds now (R189). -/
def State.waitHolds (s : State) (k : TileKey) (w : WaitB) : Bool :=
  match w.kind.toNat with
  | 0 => (s.tileAt (waitTile k w.obj)).cellFull (addrOff w.obj)
  | 1 => !(s.tileAt (waitTile k w.obj)).cellFull (addrOff w.obj)
  | 2 => !w.revoked && (s.waitFlag k w &&& w.mask) = w.value
  | 3 => w.value.toNat ≤ (s.waitQueue k w).space
  | _ => w.value.toNat ≤ s.waitCount k w

/-- The wait's last clock (R189). -/
def WaitB.stop (w : WaitB) : Nat := w.start + w.limit

/-- "wait expired" (R190). -/
def State.expiredCause (s : State) (k : TileKey) (w : WaitB) : Cause :=
  let q := (s.tileAt k).core.seq
  let o := s.tileAt (waitTile k w.obj)
  let info : Word × Word := match w.kind.toNat with
    | 0 => (o.cfill.zeroExtend 64, o.cdrain.zeroExtend 64)
    | 1 => (o.cfill.zeroExtend 64, o.cdrain.zeroExtend 64)
    | 2 => (s.waitFlag k w, w.value)
    | 3 => ((s.waitQueue k w).prod.zeroExtend 64, (s.waitQueue k w).cons.zeroExtend 64)
    | _ => (BitVec.ofNat 64 (s.waitCount k w), w.value)
  { code := 0x22, tepc := q.pc, i0 := addrWord q.here ||| w.kind.zeroExtend 64, i1 := w.obj, i2 := info.1, i3 := info.2 }

/-- A wait of the tile is over, wherever a sequencer holds it. -/
def State.clearWaitb (s : State) (w : WaitB) : State :=
  s.modTile (fun t => t.mapSeqs (fun q => if q.waitb = some w then { q with waitb := none } else q))

/-- A wait that found a cell full, or a flag's word, is a read of the word as far as a copy engine's flag goes: the transfer's data
writes happen before it (R106; log 28). -/
def State.seeFlag (s : State) (w : WaitB) : State :=
  if (w.kind ≠ 0 && w.kind ≠ 2) || w.pa.isSome then s
  else
    let k := waitTile s.cur w.obj
    let v := wholeClock (s.tagsAt k (.scratch k.tid (addrOff w.obj)))
    s.modTile (fun t => t.waitJoin (t.mark.seq.waitb = some w) v)

/-- The condition of a wait of a tile holds, no later than its last clock (R189). -/
def State.waitOver (s : State) (k : TileKey) (w : WaitB) : Bool := s.cycle k.die ≤ w.stop && s.waitHolds k w

/-- A wait of the tile ends where its condition holds no later than its last clock (R189). -/
def State.endWait (s : State) (w : WaitB) : State := if s.waitOver s.cur w then (s.seeFlag w).clearWaitb w else s

/-- The sequencer's own wait. -/
def State.endWaitb (s : State) : State :=
  match s.tile.core.seq.waitb with
  | none => s
  | some w => s.endWait w

/-- The waits that go on beside the tile's own sequencer: of the user under a stub, and of the frame (R189, R359, R371). -/
def Tile.sideWaits (t : Tile) : List WaitB :=
  (match t.user with | some u => u.seq.waitb.toList | none => []) ++ (match t.frame with | some f => f.seq.waitb.toList | none => [])

/-- Those end as the tile's own does (R189). -/
def State.endSideWaits (s : State) : State := s.tile.sideWaits.foldl State.endWait s

/-- A wait whose last clock has come without its condition is a trap (R190). Where that clock passed while the tile was frozen or
switched out, the trap and the values that it reports are those of the resume (DEDUCED, log 106). -/
def State.expireWaitb (s : State) : State :=
  match s.tile.core.seq.waitb with
  | none => s
  | some w =>
    if s.cycle s.cur.die < w.stop || (s.cycle s.cur.die = w.stop && s.waitHolds s.cur w) then s
    else (s.clearWaitb w).takeTrap (s.expiredCause s.cur w)

/-- WAITB (R189, R233). -/
def ctlWaitb (n : BitVec 3) : Ctl :=
  { stall := fun p s => waitKind (waitWord (p.oreg n) 0) = 2 && s.handlePending (waitWord (p.oreg n) 1)
    check := fun p s => s.waitbCause (p.oreg n)
    act := fun p s => let w := p.newWait (p.oreg n); s.modTile (fun t => t.mapSeq (fun q => { q with waitb := some w }))
    after := fun _ s => s.endWaitb.expireWaitb }

/-- WAITB_SATISFIED: the condition of the tile's WAITB holds (R189). -/
def execWaitbSatisfied (s : State) : Out := .next (s.endSideWaits.endWaitb.endClock s.tile.core.seq)

/-- WAIT_EXPIRED: the tile's WAITB has reached its limit (R190). -/
def execWaitExpired (s : State) : Out := .next s.expireWaitb

/-- No operation is in flight; in privileged mode the user's are parked (R55, R359). -/
def Tile.emptied (t : Tile) : Bool := t.core.flight.all (fun f => t.priv && f.id < t.stubFrom) && (t.priv || t.core.xlats.isEmpty)

/-- DRAIN_BIT_WAIT_END: every operation has landed or been delivered, and the next bundle may issue (R55). -/
def execDrainBitWaitEnd (s : State) : Out :=
  if s.tile.core.seq.drain && s.tile.emptied then .next (s.modTile (fun t => t.mapSeq (fun q => { q with drain := false })))
  else .next s

/-! ### The end of a task, safe points, traps by the user (R234-R236) -/

/-- The task of a tile ends: in a handler the frame is discarded (R372); a conjunction task counts (R174); what follows its
course follows its accesses (R106). -/
def State.endTask (s : State) : State :=
  match s.tile.task with
  | none => s
  | some k =>
    let s := s.closeTask s.cur
    let s := if k.conj.isSome then s.modOrbit (fun o => { o with count := o.count + 1 }) else s
    s.modTile (fun t => { t with task := none, frame := none, inh := false })

/-- The sequencer of a task that ends (R44, R234). -/
def TileCore.endSeq (c : TileCore) : TileCore := { c with recIdx := 0, seq := { c.seq with loops := [], ending := true, safe := true } }

/-- TASKEND (R234); it waits for the end of a spin (R231). A return in the same bundle comes before the end of the task. -/
def ctlTaskend : Ctl :=
  { stall := fun _ s => s.tile.core.spin.isSome
    check := fun _ _ => none
    act := fun _ s => s.modTile (fun t => t.mapCore TileCore.endSeq)
    after := fun _ s => (s.modTile (fun t => t.mapCore TileCore.endSeq)).endTask }

/-- SAFE (R235). -/
def ctlSafe : Ctl := .plain (fun _ s => s.modTile (fun t => t.mapSeq (fun q => { q with safe := true })))

/-- "user trap", or "stub stop" of a bundle that issued in privileged mode (R236, R359; the words that it does not name: log 50). -/
def State.userTrap (s : State) (priv : Bool) (here : BitVec 56) (code : BitVec 16) : Cause :=
  let q := s.tile.core.seq
  if priv then { code := 0x33, tepc := q.pc, i0 := Config.freeInfo s.free 0, i1 := code.zeroExtend 64,
                          i2 := Config.freeInfo s.free 2, i3 := Config.freeInfo s.free 3 }
  else { code := 0x23, tepc := q.pc, i0 := addrWord here, i1 := code.zeroExtend 64, i2 := 0, i3 := 0 }

/-- TRAPU, in the mode and with the address of its bundle, which a return in the same bundle changes before the trap is taken (R236). -/
def ctlTrapu (code : BitVec 16) : Ctl :=
  { stall := fun _ _ => false
    check := fun _ _ => none
    act := fun _ s => s
    after := fun p s => s.takeTrap (s.userTrap p.tile.priv p.tile.core.seq.here code) }

/-! ### Locks (R85, R237) -/

/-- The range of a lock word: start and length in bundles; none if it is malformed (R237). -/
def lockRange (v : Wide) : Option (BitVec 56 × Nat) :=
  let w := lowWord v
  let len : Nat := (v.extractLsb' 64 11 : BitVec 11).toNat
  if bitsOf w.toNat 56 8 ≠ 0 || bitsOf w.toNat 0 6 ≠ 0 || len = 0 || 1024 < len then none else some (w.truncate 56, len)

/-- The result predicate of a lock operation (R237). -/
def State.lockFlag (s : State) (pk : BitVec 5) (ok : Bool) : State :=
  s.modTile (fun t => t.mapCore (fun c => c.setPred pk (if ok then BitVec.allOnes 64 else 0)))

/-- The lengths of a lock list, summed (R85). -/
def lockTotal (l : List (BitVec 56 × Nat)) : Nat := (l.map (·.2)).foldl (· + ·) 0

/-- ILOCK (R85, R237). -/
def ctlIlock (pk : BitVec 5) (n : BitVec 3) : Ctl := .plain (fun p s =>
  match lockRange (p.oreg n) with
  | none => s.lockFlag pk false
  | some r =>
    if 8 ≤ s.tile.locks.length || 1024 < lockTotal s.tile.locks + r.2 then s.lockFlag pk false
    else (s.modTile (fun t => { t with locks := t.locks ++ [r] })).lockFlag pk true)

/-- IUNLOCK (R85, R237). -/
def ctlIunlock (pk : BitVec 5) (n : BitVec 3) : Ctl := .plain (fun p s =>
  match lockRange (p.oreg n) with
  | none => s.lockFlag pk false
  | some r =>
    if r ∈ s.tile.locks then (s.modTile (fun t => { t with locks := t.locks.erase r })).lockFlag pk true
    else s.lockFlag pk false)

/-! ### The operations -/

/-- NOP (R193). -/
def execNop (g : Guard) (s : State) : Out := runControl true ctlNop g s
/-- BR (R226). -/
def execBr (off : BitVec 19) (g : Guard) (s : State) : Out := runControl true (ctlBr off) g s
/-- BRP (R227). -/
def execBrp (off : BitVec 19) (g : Guard) (s : State) : Out := runControl false (ctlLaneBranch false off g) alwaysGuard s
/-- BRN (R227). -/
def execBrn (off : BitVec 19) (g : Guard) (s : State) : Out := runControl false (ctlLaneBranch true off g) alwaysGuard s
/-- CALL (R228). -/
def execCall (off : BitVec 19) (g : Guard) (s : State) : Out := runControl false (ctlCall off) g s
/-- RET (R228). -/
def execRet (n : BitVec 3) (g : Guard) (s : State) : Out := runControl false (ctlRet n) g s
/-- LOOP (R229). -/
def execLoop (n : BitVec 3) (len : BitVec 11) (g : Guard) (s : State) : Out := runControl false (ctlLoop n len) g s
/-- SPIN (R231). -/
def execSpin (n : BitVec 9) (step : BitVec 6) (k : BitVec 4) (g : Guard) (s : State) : Out := runControl false (ctlSpin n step k) g s
/-- WAIT (R232). -/
def execWait (count : BitVec 19) (g : Guard) (s : State) : Out := runControl true (ctlWait count) g s
/-- WAITU (R179). -/
def execWaitu (n : BitVec 3) (g : Guard) (s : State) : Out := runControl false (ctlWaitu n) g s
/-- WAITB (R189). -/
def execWaitb (n : BitVec 3) (g : Guard) (s : State) : Out := runControl false (ctlWaitb n) g s
/-- TASKEND (R234). -/
def execTaskend (g : Guard) (s : State) : Out := runControl false ctlTaskend g s
/-- SAFE (R235). -/
def execSafe (g : Guard) (s : State) : Out := runControl false ctlSafe g s
/-- TRAPU (R236). -/
def execTrapu (code : BitVec 16) (g : Guard) (s : State) : Out := runControl true (ctlTrapu code) g s
/-- ILOCK (R237). -/
def execIlock (pk : BitVec 5) (n : BitVec 3) (g : Guard) (s : State) : Out := runControl false (ctlIlock pk n) g s
/-- IUNLOCK (R237). -/
def execIunlock (pk : BitVec 5) (n : BitVec 3) (g : Guard) (s : State) : Out := runControl false (ctlIunlock pk n) g s

end Sys2Proof.Machine
end

