-- ==== Sys2Proof/Machine/Scalar.lean ====
section
/-! DEFINITION. The scalar operations of alu0, alu1, mul and prd (R219-R224). -/

namespace Sys2Proof.Machine

/-- The alu of a twin. -/
def aluOfTwin : Twin → Sock
  | .u0 => .alu0
  | .u1 => .alu1

/-- A scalar result on q (R219). -/
def State.scalarResult (s : State) (sk : Sock) (lat : Nat) (v : Word) (ev : EvCount) : State :=
  s.timed sk lat [(.q, wideOfWord v, allBits)] ev

/-- A flag on q and qp (R220). -/
def State.flagResult (s : State) (sk : Sock) (lat : Nat) (b : Bool) : State :=
  s.timed sk lat [(.q, flagQ b, allBits), (.qp, flagQp b, allBits)] EvCount.zero

/-- A one-result scalar operation on the bits [63:0] of a, b and t (R219). -/
def scalarHooks (sk : Sock) (lat : Nat) (t : Wide) (f : Word → Word → Word → Word) : Hooks :=
  .plain (fun s => s.scalarResult sk lat (f (lowWord (s.opA sk)) (lowWord (s.opB sk)) (lowWord t)) EvCount.zero)

/-- A compare of a and t (R220). -/
def flagHooks (sk : Sock) (t : Wide) (f : Word → Word → Bool) : Hooks :=
  .plain (fun s => s.flagResult sk 1 (f (lowWord (s.opA sk)) (lowWord t)))

/-- A division: by zero it counts ev8 (R223). -/
def divHooks (t : Wide) (f : Word → Word → Word) : Hooks :=
  .plain (fun s => s.scalarResult .mul 34 (f (lowWord (s.opA .mul)) (lowWord t))
    (if lowWord t = 0 then { EvCount.zero with div := 1 } else EvCount.zero))

/-- A shift count: bits [5:0] (R221). -/
def shCount (t : Word) : Nat := t.toNat % 64

/-- The number of trailing zero bits, 64 for 0 (R221). -/
def lowestSet (t : Word) : Nat := (findFrom (fun i => t.getLsbD i) 0 64).getD 64

/-- SEXT from width w (R221). -/
def sextField (a : Word) (w : Nat) : Word :=
  if w = 0 then 0 else if 64 ≤ w then a else (a <<< (64 - w)).sshiftRight (64 - w)

/-- ZEXT from width w (R221). -/
def zextField (a : Word) (w : Nat) : Word := if 64 ≤ w then a else BitVec.ofNat 64 (a.toNat % 2 ^ w)

/-- The position of a field: bits [5:0] (R221). -/
def fieldPos (t : Word) : Nat := t.toNat % 64
/-- The length of a field: bits [14:8], at most 64 (R221). -/
def fieldLen (t : Word) : Nat := min (bitsOf t.toNat 8 7) 64

/-- EXTR (R221). -/
def extrField (a t : Word) : Word := BitVec.ofNat 64 (bitsOf a.toNat (fieldPos t) (fieldLen t))

/-- INS (R221). -/
def insField (a b t : Word) : Word :=
  let m : Word := BitVec.ofNat 64 ((2 ^ fieldLen t - 1) * 2 ^ fieldPos t)
  (a &&& ~~~ m) ||| ((b <<< fieldPos t) &&& m)

/-! ### alu -/

/-- Add (R221). -/
def hkAluAdd (u : Twin) (t : Wide) (_ : Word) : Hooks :=
  scalarHooks (aluOfTwin u) 1 t (fun a _ t => a + t)
/-- Add (R221). -/
def execAluAdd (u : Twin) (src : Src) (g : Guard) (s : State) : Out :=
  runScalar (aluOfTwin u) (hkAluAdd u) src g s
/-- Sub (R221). -/
def hkAluSub (u : Twin) (t : Wide) (_ : Word) : Hooks :=
  scalarHooks (aluOfTwin u) 1 t (fun a _ t => a - t)
/-- Sub (R221). -/
def execAluSub (u : Twin) (src : Src) (g : Guard) (s : State) : Out :=
  runScalar (aluOfTwin u) (hkAluSub u) src g s
/-- And (R221). -/
def hkAluAnd (u : Twin) (t : Wide) (_ : Word) : Hooks :=
  scalarHooks (aluOfTwin u) 1 t (fun a _ t => a &&& t)
/-- And (R221). -/
def execAluAnd (u : Twin) (src : Src) (g : Guard) (s : State) : Out :=
  runScalar (aluOfTwin u) (hkAluAnd u) src g s
/-- Or (R221). -/
def hkAluOr (u : Twin) (t : Wide) (_ : Word) : Hooks :=
  scalarHooks (aluOfTwin u) 1 t (fun a _ t => a ||| t)
/-- Or (R221). -/
def execAluOr (u : Twin) (src : Src) (g : Guard) (s : State) : Out :=
  runScalar (aluOfTwin u) (hkAluOr u) src g s
/-- Xor (R221). -/
def hkAluXor (u : Twin) (t : Wide) (_ : Word) : Hooks :=
  scalarHooks (aluOfTwin u) 1 t (fun a _ t => a ^^^ t)
/-- Xor (R221). -/
def execAluXor (u : Twin) (src : Src) (g : Guard) (s : State) : Out :=
  runScalar (aluOfTwin u) (hkAluXor u) src g s
/-- Andn (R221). -/
def hkAluAndn (u : Twin) (t : Wide) (_ : Word) : Hooks :=
  scalarHooks (aluOfTwin u) 1 t (fun a _ t => a &&& ~~~ t)
/-- Andn (R221). -/
def execAluAndn (u : Twin) (src : Src) (g : Guard) (s : State) : Out :=
  runScalar (aluOfTwin u) (hkAluAndn u) src g s
/-- Shl (R221). -/
def hkAluShl (u : Twin) (t : Wide) (_ : Word) : Hooks :=
  scalarHooks (aluOfTwin u) 1 t (fun a _ t => a <<< shCount t)
/-- Shl (R221). -/
def execAluShl (u : Twin) (src : Src) (g : Guard) (s : State) : Out :=
  runScalar (aluOfTwin u) (hkAluShl u) src g s
/-- Shr (R221). -/
def hkAluShr (u : Twin) (t : Wide) (_ : Word) : Hooks :=
  scalarHooks (aluOfTwin u) 1 t (fun a _ t => a >>> shCount t)
/-- Shr (R221). -/
def execAluShr (u : Twin) (src : Src) (g : Guard) (s : State) : Out :=
  runScalar (aluOfTwin u) (hkAluShr u) src g s
/-- Sar (R221). -/
def hkAluSar (u : Twin) (t : Wide) (_ : Word) : Hooks :=
  scalarHooks (aluOfTwin u) 1 t (fun a _ t => a.sshiftRight (shCount t))
/-- Sar (R221). -/
def execAluSar (u : Twin) (src : Src) (g : Guard) (s : State) : Out :=
  runScalar (aluOfTwin u) (hkAluSar u) src g s
/-- Rol (R221). -/
def hkAluRol (u : Twin) (t : Wide) (_ : Word) : Hooks :=
  scalarHooks (aluOfTwin u) 1 t (fun a _ t => a.rotateLeft (shCount t))
/-- Rol (R221). -/
def execAluRol (u : Twin) (src : Src) (g : Guard) (s : State) : Out :=
  runScalar (aluOfTwin u) (hkAluRol u) src g s
/-- MinS (R221). -/
def hkAluMinS (u : Twin) (t : Wide) (_ : Word) : Hooks :=
  scalarHooks (aluOfTwin u) 1 t (fun a _ t => if a.sle t then a else t)
/-- MinS (R221). -/
def execAluMinS (u : Twin) (src : Src) (g : Guard) (s : State) : Out :=
  runScalar (aluOfTwin u) (hkAluMinS u) src g s
/-- MinN (R221). -/
def hkAluMinN (u : Twin) (t : Wide) (_ : Word) : Hooks :=
  scalarHooks (aluOfTwin u) 1 t (fun a _ t => if a.ule t then a else t)
/-- MinN (R221). -/
def execAluMinN (u : Twin) (src : Src) (g : Guard) (s : State) : Out :=
  runScalar (aluOfTwin u) (hkAluMinN u) src g s
/-- MaxS (R221). -/
def hkAluMaxS (u : Twin) (t : Wide) (_ : Word) : Hooks :=
  scalarHooks (aluOfTwin u) 1 t (fun a _ t => if t.sle a then a else t)
/-- MaxS (R221). -/
def execAluMaxS (u : Twin) (src : Src) (g : Guard) (s : State) : Out :=
  runScalar (aluOfTwin u) (hkAluMaxS u) src g s
/-- MaxN (R221). -/
def hkAluMaxN (u : Twin) (t : Wide) (_ : Word) : Hooks :=
  scalarHooks (aluOfTwin u) 1 t (fun a _ t => if t.ule a then a else t)
/-- MaxN (R221). -/
def execAluMaxN (u : Twin) (src : Src) (g : Guard) (s : State) : Out :=
  runScalar (aluOfTwin u) (hkAluMaxN u) src g s
/-- Eq (R221). -/
def hkAluEq (u : Twin) (t : Wide) (_ : Word) : Hooks := flagHooks (aluOfTwin u) t (fun a t => decide (a = t))
/-- Eq (R221). -/
def execAluEq (u : Twin) (src : Src) (g : Guard) (s : State) : Out :=
  runScalar (aluOfTwin u) (hkAluEq u) src g s
/-- Ne (R221). -/
def hkAluNe (u : Twin) (t : Wide) (_ : Word) : Hooks := flagHooks (aluOfTwin u) t (fun a t => decide (a ≠ t))
/-- Ne (R221). -/
def execAluNe (u : Twin) (src : Src) (g : Guard) (s : State) : Out :=
  runScalar (aluOfTwin u) (hkAluNe u) src g s
/-- LtS (R221). -/
def hkAluLtS (u : Twin) (t : Wide) (_ : Word) : Hooks := flagHooks (aluOfTwin u) t (fun a t => a.slt t)
/-- LtS (R221). -/
def execAluLtS (u : Twin) (src : Src) (g : Guard) (s : State) : Out :=
  runScalar (aluOfTwin u) (hkAluLtS u) src g s
/-- LtN (R221). -/
def hkAluLtN (u : Twin) (t : Wide) (_ : Word) : Hooks := flagHooks (aluOfTwin u) t (fun a t => a.ult t)
/-- LtN (R221). -/
def execAluLtN (u : Twin) (src : Src) (g : Guard) (s : State) : Out :=
  runScalar (aluOfTwin u) (hkAluLtN u) src g s
/-- LeS (R221). -/
def hkAluLeS (u : Twin) (t : Wide) (_ : Word) : Hooks := flagHooks (aluOfTwin u) t (fun a t => a.sle t)
/-- LeS (R221). -/
def execAluLeS (u : Twin) (src : Src) (g : Guard) (s : State) : Out :=
  runScalar (aluOfTwin u) (hkAluLeS u) src g s
/-- LeN (R221). -/
def hkAluLeN (u : Twin) (t : Wide) (_ : Word) : Hooks := flagHooks (aluOfTwin u) t (fun a t => a.ule t)
/-- LeN (R221). -/
def execAluLeN (u : Twin) (src : Src) (g : Guard) (s : State) : Out :=
  runScalar (aluOfTwin u) (hkAluLeN u) src g s
/-- Sel (R221). -/
def hkAluSel (u : Twin) (t : Wide) (_ : Word) : Hooks :=
  scalarHooks (aluOfTwin u) 1 t (fun a b t => if t.getLsbD 0 then a else b)
/-- Sel (R221). -/
def execAluSel (u : Twin) (src : Src) (g : Guard) (s : State) : Out :=
  runScalar (aluOfTwin u) (hkAluSel u) src g s
/-- Clz (R221). -/
def hkAluClz (u : Twin) (t : Wide) (_ : Word) : Hooks :=
  scalarHooks (aluOfTwin u) 1 t (fun _ _ t => BitVec.ofNat 64 (64 - bitLen t.toNat))
/-- Clz (R221). -/
def execAluClz (u : Twin) (src : Src) (g : Guard) (s : State) : Out :=
  runScalar (aluOfTwin u) (hkAluClz u) src g s
/-- Ctz (R221). -/
def hkAluCtz (u : Twin) (t : Wide) (_ : Word) : Hooks :=
  scalarHooks (aluOfTwin u) 1 t (fun _ _ t => BitVec.ofNat 64 (lowestSet t))
/-- Ctz (R221). -/
def execAluCtz (u : Twin) (src : Src) (g : Guard) (s : State) : Out :=
  runScalar (aluOfTwin u) (hkAluCtz u) src g s
/-- Popc (R221). -/
def hkAluPopc (u : Twin) (t : Wide) (_ : Word) : Hooks :=
  scalarHooks (aluOfTwin u) 1 t (fun _ _ t => BitVec.ofNat 64 (countBelow (fun i => t.getLsbD i) 64))
/-- Popc (R221). -/
def execAluPopc (u : Twin) (src : Src) (g : Guard) (s : State) : Out :=
  runScalar (aluOfTwin u) (hkAluPopc u) src g s
/-- Sext (R221). -/
def hkAluSext (u : Twin) (t : Wide) (_ : Word) : Hooks :=
  scalarHooks (aluOfTwin u) 1 t (fun a _ t => sextField a (t.toNat % 128))
/-- Sext (R221). -/
def execAluSext (u : Twin) (src : Src) (g : Guard) (s : State) : Out :=
  runScalar (aluOfTwin u) (hkAluSext u) src g s
/-- Zext (R221). -/
def hkAluZext (u : Twin) (t : Wide) (_ : Word) : Hooks :=
  scalarHooks (aluOfTwin u) 1 t (fun a _ t => zextField a (t.toNat % 128))
/-- Zext (R221). -/
def execAluZext (u : Twin) (src : Src) (g : Guard) (s : State) : Out :=
  runScalar (aluOfTwin u) (hkAluZext u) src g s
/-- Extr (R221). -/
def hkAluExtr (u : Twin) (t : Wide) (_ : Word) : Hooks :=
  scalarHooks (aluOfTwin u) 1 t (fun a _ t => extrField a t)
/-- Extr (R221). -/
def execAluExtr (u : Twin) (src : Src) (g : Guard) (s : State) : Out :=
  runScalar (aluOfTwin u) (hkAluExtr u) src g s
/-- Ins (R221). -/
def hkAluIns (u : Twin) (t : Wide) (_ : Word) : Hooks :=
  scalarHooks (aluOfTwin u) 1 t (fun a b t => insField a b t)
/-- Ins (R221). -/
def execAluIns (u : Twin) (src : Src) (g : Guard) (s : State) : Out :=
  runScalar (aluOfTwin u) (hkAluIns u) src g s
/-- Pass (R221). -/
def hkAluPass (u : Twin) (t : Wide) (_ : Word) : Hooks :=
  scalarHooks (aluOfTwin u) 1 t (fun _ _ t => t)
/-- Pass (R221). -/
def execAluPass (u : Twin) (src : Src) (g : Guard) (s : State) : Out :=
  runScalar (aluOfTwin u) (hkAluPass u) src g s
/-- Cat32 (R221). -/
def hkAluCat32 (u : Twin) (t : Wide) (_ : Word) : Hooks :=
  scalarHooks (aluOfTwin u) 1 t (fun a _ t => BitVec.ofNat 64 ((a.toNat % 2 ^ 32) * 2 ^ 32 + t.toNat % 2 ^ 32))
/-- Cat32 (R221). -/
def execAluCat32 (u : Twin) (src : Src) (g : Guard) (s : State) : Out :=
  runScalar (aluOfTwin u) (hkAluCat32 u) src g s
/-- Addsh (R221). -/
def hkAluAddsh (u : Twin) (t : Wide) (_ : Word) : Hooks :=
  scalarHooks (aluOfTwin u) 1 t (fun a b t => a + (t <<< shCount b))
/-- Addsh (R221). -/
def execAluAddsh (u : Twin) (src : Src) (g : Guard) (s : State) : Out :=
  runScalar (aluOfTwin u) (hkAluAddsh u) src g s

/-! ### mul -/

/-- The quotient truncated towards zero; all ones by zero (R222, R223). -/
def divS (a t : Word) : Word := if t = 0 then BitVec.allOnes 64 else a.sdiv t
/-- The natural quotient; all ones by zero (R222, R223). -/
def divN (a t : Word) : Word := if t = 0 then BitVec.allOnes 64 else a / t
/-- The signed remainder; a by zero (R222, R223). -/
def remS (a t : Word) : Word := if t = 0 then a else a.srem t
/-- The natural remainder; a by zero (R222, R223). -/
def remN (a t : Word) : Word := if t = 0 then a else a % t

/-- Mul (R222). -/
def hkMulMul (t : Wide) (_ : Word) : Hooks := scalarHooks .mul 3 t (fun a _ t => a * t)
/-- Mul (R222). -/
def execMulMul (src : Src) (g : Guard) (s : State) : Out := runScalar .mul hkMulMul src g s
/-- MulhS (R222). -/
def hkMulMulhS (t : Wide) (_ : Word) : Hooks := scalarHooks .mul 3 t (fun a _ t => BitVec.ofInt 64 (a.toInt * t.toInt / 2 ^ 64))
/-- MulhS (R222). -/
def execMulMulhS (src : Src) (g : Guard) (s : State) : Out := runScalar .mul hkMulMulhS src g s
/-- MulhN (R222). -/
def hkMulMulhN (t : Wide) (_ : Word) : Hooks := scalarHooks .mul 3 t (fun a _ t => BitVec.ofNat 64 (a.toNat * t.toNat / 2 ^ 64))
/-- MulhN (R222). -/
def execMulMulhN (src : Src) (g : Guard) (s : State) : Out := runScalar .mul hkMulMulhN src g s
/-- Mac (R222). -/
def hkMulMac (t : Wide) (_ : Word) : Hooks := scalarHooks .mul 4 t (fun a b t => a * b + t)
/-- Mac (R222). -/
def execMulMac (src : Src) (g : Guard) (s : State) : Out := runScalar .mul hkMulMac src g s
/-- DivS (R222, R223). -/
def hkMulDivS (t : Wide) (_ : Word) : Hooks := divHooks t divS
/-- DivS (R222, R223). -/
def execMulDivS (src : Src) (g : Guard) (s : State) : Out := runScalar .mul hkMulDivS src g s
/-- DivN (R222, R223). -/
def hkMulDivN (t : Wide) (_ : Word) : Hooks := divHooks t divN
/-- DivN (R222, R223). -/
def execMulDivN (src : Src) (g : Guard) (s : State) : Out := runScalar .mul hkMulDivN src g s
/-- RemS (R222, R223). -/
def hkMulRemS (t : Wide) (_ : Word) : Hooks := divHooks t remS
/-- RemS (R222, R223). -/
def execMulRemS (src : Src) (g : Guard) (s : State) : Out := runScalar .mul hkMulRemS src g s
/-- RemN (R222, R223). -/
def hkMulRemN (t : Wide) (_ : Word) : Hooks := divHooks t remN
/-- RemN (R222, R223). -/
def execMulRemN (src : Src) (g : Guard) (s : State) : Out := runScalar .mul hkMulRemN src g s

/-! ### prd -/

/-- A prd operation on a and t (R224). -/
def prdHooks (t : Wide) (f : Word → Word → Word) : Hooks := scalarHooks .prd 1 t (fun a _ t => f a t)

/-- The lane bytes of a width code: bits [1:0] of a (R224). -/
def prdBytes (c : Nat) : Nat := 2 ^ (c % 4)

/-- The 64 bits given by f (R224). -/
def bitsBy (f : Nat → Bool) : Word := BitVec.ofNat 64 (ofLanes 1 (fun i => if f i then 1 else 0) 64)

/-- Pand (R224). -/
def hkPand (t : Wide) (_ : Word) : Hooks := prdHooks t (fun a t => a &&& t)
/-- Pand (R224). -/
def execPand (src : Src) (g : Guard) (s : State) : Out := runScalar .prd hkPand src g s
/-- Por (R224). -/
def hkPor (t : Wide) (_ : Word) : Hooks := prdHooks t (fun a t => a ||| t)
/-- Por (R224). -/
def execPor (src : Src) (g : Guard) (s : State) : Out := runScalar .prd hkPor src g s
/-- Pxor (R224). -/
def hkPxor (t : Wide) (_ : Word) : Hooks := prdHooks t (fun a t => a ^^^ t)
/-- Pxor (R224). -/
def execPxor (src : Src) (g : Guard) (s : State) : Out := runScalar .prd hkPxor src g s
/-- Pandn (R224). -/
def hkPandn (t : Wide) (_ : Word) : Hooks := prdHooks t (fun a t => a &&& ~~~ t)
/-- Pandn (R224). -/
def execPandn (src : Src) (g : Guard) (s : State) : Out := runScalar .prd hkPandn src g s
/-- Pnot (R224). -/
def hkPnot (t : Wide) (_ : Word) : Hooks := prdHooks t (fun _ t => ~~~ t)
/-- Pnot (R224). -/
def execPnot (src : Src) (g : Guard) (s : State) : Out := runScalar .prd hkPnot src g s
/-- Pall (R224). -/
def hkPall (t : Wide) (_ : Word) : Hooks := flagHooks .prd t (fun a t => decide ((a &&& t) = a))
/-- Pall (R224). -/
def execPall (src : Src) (g : Guard) (s : State) : Out := runScalar .prd hkPall src g s
/-- Pany (R224). -/
def hkPany (t : Wide) (_ : Word) : Hooks := flagHooks .prd t (fun a t => decide ((a &&& t) ≠ 0))
/-- Pany (R224). -/
def execPany (src : Src) (g : Guard) (s : State) : Out := runScalar .prd hkPany src g s
/-- Pcnt (R224). -/
def hkPcnt (t : Wide) (_ : Word) : Hooks := prdHooks t (fun a t => BitVec.ofNat 64 (countBelow (fun i => (a &&& t).getLsbD i) 64))
/-- Pcnt (R224). -/
def execPcnt (src : Src) (g : Guard) (s : State) : Out := runScalar .prd hkPcnt src g s
/-- Pfirst (R224). -/
def hkPfirst (t : Wide) (_ : Word) : Hooks := prdHooks t (fun a t => BitVec.ofNat 64 (lowestSet (a &&& t)))
/-- Pfirst (R224). -/
def execPfirst (src : Src) (g : Guard) (s : State) : Out := runScalar .prd hkPfirst src g s
/-- Pmask (R224). -/
def hkPmask (t : Wide) (_ : Word) : Hooks := prdHooks t (fun _ t => bitsBy (fun j => j < min 64 (t.toNat % 128 * prdBytes (bitsOf t.toNat 8 2))))
/-- Pmask (R224). -/
def execPmask (src : Src) (g : Guard) (s : State) : Out := runScalar .prd hkPmask src g s
/-- Pfrom (R224). -/
def hkPfrom (t : Wide) (_ : Word) : Hooks := prdHooks t (fun a t => bitsBy (fun j => t.getLsbD (j / prdBytes a.toNat)))
/-- Pfrom (R224). -/
def execPfrom (src : Src) (g : Guard) (s : State) : Out := runScalar .prd hkPfrom src g s
/-- Pto (R224). -/
def hkPto (t : Wide) (_ : Word) : Hooks := prdHooks t (fun a t => bitsBy (fun i => decide (i < 64 / prdBytes a.toNat) && t.getLsbD (prdBytes a.toNat * i)))
/-- Pto (R224). -/
def execPto (src : Src) (g : Guard) (s : State) : Out := runScalar .prd hkPto src g s

end Sys2Proof.Machine
end

