-- ==== Sys2Proof/Machine/Issue.lean ====
section
/-! DEFINITION. The issue of a bundle: its checks in their order, its stalls, its moves and operations, the sequencer, spins
and tow sets (R19-R31, R51-R61, R67, R84, R191-R206, R231, R232, R409). -/

namespace Sys2Proof.Machine

/-! ### What each slot's operation is -/

/-- A trigger: its unit, its slot's kind, its source and guard, and what the operation does. -/
structure Trig where
  sk  : Sock
  vec : Bool
  md  : SrcMod
  src : Src
  g   : Guard
  hk  : Wide → Word → Hooks

/-- The trigger that an instruction is, if it is one. -/
def trigOf (i : Instr) : Option Trig :=
  match i with
  | .aluAdd u s g => some { sk := (aluOfTwin u), vec := false, md := SrcMod.id, src := s, g := g, hk := (hkAluAdd u) }
  | .aluSub u s g => some { sk := (aluOfTwin u), vec := false, md := SrcMod.id, src := s, g := g, hk := (hkAluSub u) }
  | .aluAnd u s g => some { sk := (aluOfTwin u), vec := false, md := SrcMod.id, src := s, g := g, hk := (hkAluAnd u) }
  | .aluOr u s g => some { sk := (aluOfTwin u), vec := false, md := SrcMod.id, src := s, g := g, hk := (hkAluOr u) }
  | .aluXor u s g => some { sk := (aluOfTwin u), vec := false, md := SrcMod.id, src := s, g := g, hk := (hkAluXor u) }
  | .aluAndn u s g => some { sk := (aluOfTwin u), vec := false, md := SrcMod.id, src := s, g := g, hk := (hkAluAndn u) }
  | .aluShl u s g => some { sk := (aluOfTwin u), vec := false, md := SrcMod.id, src := s, g := g, hk := (hkAluShl u) }
  | .aluShr u s g => some { sk := (aluOfTwin u), vec := false, md := SrcMod.id, src := s, g := g, hk := (hkAluShr u) }
  | .aluSar u s g => some { sk := (aluOfTwin u), vec := false, md := SrcMod.id, src := s, g := g, hk := (hkAluSar u) }
  | .aluRol u s g => some { sk := (aluOfTwin u), vec := false, md := SrcMod.id, src := s, g := g, hk := (hkAluRol u) }
  | .aluMinS u s g => some { sk := (aluOfTwin u), vec := false, md := SrcMod.id, src := s, g := g, hk := (hkAluMinS u) }
  | .aluMinN u s g => some { sk := (aluOfTwin u), vec := false, md := SrcMod.id, src := s, g := g, hk := (hkAluMinN u) }
  | .aluMaxS u s g => some { sk := (aluOfTwin u), vec := false, md := SrcMod.id, src := s, g := g, hk := (hkAluMaxS u) }
  | .aluMaxN u s g => some { sk := (aluOfTwin u), vec := false, md := SrcMod.id, src := s, g := g, hk := (hkAluMaxN u) }
  | .aluEq u s g => some { sk := (aluOfTwin u), vec := false, md := SrcMod.id, src := s, g := g, hk := (hkAluEq u) }
  | .aluNe u s g => some { sk := (aluOfTwin u), vec := false, md := SrcMod.id, src := s, g := g, hk := (hkAluNe u) }
  | .aluLtS u s g => some { sk := (aluOfTwin u), vec := false, md := SrcMod.id, src := s, g := g, hk := (hkAluLtS u) }
  | .aluLtN u s g => some { sk := (aluOfTwin u), vec := false, md := SrcMod.id, src := s, g := g, hk := (hkAluLtN u) }
  | .aluLeS u s g => some { sk := (aluOfTwin u), vec := false, md := SrcMod.id, src := s, g := g, hk := (hkAluLeS u) }
  | .aluLeN u s g => some { sk := (aluOfTwin u), vec := false, md := SrcMod.id, src := s, g := g, hk := (hkAluLeN u) }
  | .aluSel u s g => some { sk := (aluOfTwin u), vec := false, md := SrcMod.id, src := s, g := g, hk := (hkAluSel u) }
  | .aluClz u s g => some { sk := (aluOfTwin u), vec := false, md := SrcMod.id, src := s, g := g, hk := (hkAluClz u) }
  | .aluCtz u s g => some { sk := (aluOfTwin u), vec := false, md := SrcMod.id, src := s, g := g, hk := (hkAluCtz u) }
  | .aluPopc u s g => some { sk := (aluOfTwin u), vec := false, md := SrcMod.id, src := s, g := g, hk := (hkAluPopc u) }
  | .aluSext u s g => some { sk := (aluOfTwin u), vec := false, md := SrcMod.id, src := s, g := g, hk := (hkAluSext u) }
  | .aluZext u s g => some { sk := (aluOfTwin u), vec := false, md := SrcMod.id, src := s, g := g, hk := (hkAluZext u) }
  | .aluExtr u s g => some { sk := (aluOfTwin u), vec := false, md := SrcMod.id, src := s, g := g, hk := (hkAluExtr u) }
  | .aluIns u s g => some { sk := (aluOfTwin u), vec := false, md := SrcMod.id, src := s, g := g, hk := (hkAluIns u) }
  | .aluPass u s g => some { sk := (aluOfTwin u), vec := false, md := SrcMod.id, src := s, g := g, hk := (hkAluPass u) }
  | .aluCat32 u s g => some { sk := (aluOfTwin u), vec := false, md := SrcMod.id, src := s, g := g, hk := (hkAluCat32 u) }
  | .aluAddsh u s g => some { sk := (aluOfTwin u), vec := false, md := SrcMod.id, src := s, g := g, hk := (hkAluAddsh u) }
  | .mulMul s g => some { sk := .mul, vec := false, md := SrcMod.id, src := s, g := g, hk := hkMulMul }
  | .mulMulhS s g => some { sk := .mul, vec := false, md := SrcMod.id, src := s, g := g, hk := hkMulMulhS }
  | .mulMulhN s g => some { sk := .mul, vec := false, md := SrcMod.id, src := s, g := g, hk := hkMulMulhN }
  | .mulMac s g => some { sk := .mul, vec := false, md := SrcMod.id, src := s, g := g, hk := hkMulMac }
  | .mulDivS s g => some { sk := .mul, vec := false, md := SrcMod.id, src := s, g := g, hk := hkMulDivS }
  | .mulDivN s g => some { sk := .mul, vec := false, md := SrcMod.id, src := s, g := g, hk := hkMulDivN }
  | .mulRemS s g => some { sk := .mul, vec := false, md := SrcMod.id, src := s, g := g, hk := hkMulRemS }
  | .mulRemN s g => some { sk := .mul, vec := false, md := SrcMod.id, src := s, g := g, hk := hkMulRemN }
  | .pand s g => some { sk := .prd, vec := false, md := SrcMod.id, src := s, g := g, hk := hkPand }
  | .por s g => some { sk := .prd, vec := false, md := SrcMod.id, src := s, g := g, hk := hkPor }
  | .pxor s g => some { sk := .prd, vec := false, md := SrcMod.id, src := s, g := g, hk := hkPxor }
  | .pandn s g => some { sk := .prd, vec := false, md := SrcMod.id, src := s, g := g, hk := hkPandn }
  | .pnot s g => some { sk := .prd, vec := false, md := SrcMod.id, src := s, g := g, hk := hkPnot }
  | .pall s g => some { sk := .prd, vec := false, md := SrcMod.id, src := s, g := g, hk := hkPall }
  | .pany s g => some { sk := .prd, vec := false, md := SrcMod.id, src := s, g := g, hk := hkPany }
  | .pcnt s g => some { sk := .prd, vec := false, md := SrcMod.id, src := s, g := g, hk := hkPcnt }
  | .pfirst s g => some { sk := .prd, vec := false, md := SrcMod.id, src := s, g := g, hk := hkPfirst }
  | .pmask s g => some { sk := .prd, vec := false, md := SrcMod.id, src := s, g := g, hk := hkPmask }
  | .pfrom s g => some { sk := .prd, vec := false, md := SrcMod.id, src := s, g := g, hk := hkPfrom }
  | .pto s g => some { sk := .prd, vec := false, md := SrcMod.id, src := s, g := g, hk := hkPto }
  | .xlat s g => some { sk := .xlt, vec := false, md := SrcMod.id, src := s, g := g, hk := hkXlat }
  | .xlatw s g => some { sk := .xlt, vec := false, md := SrcMod.id, src := s, g := g, hk := hkXlatw }
  | .hrel s g => some { sk := .xlt, vec := false, md := SrcMod.id, src := s, g := g, hk := hkHrel }
  | .hqry s g => some { sk := .xlt, vec := false, md := SrcMod.id, src := s, g := g, hk := hkHqry }
  | .hbase s g => some { sk := .xlt, vec := false, md := SrcMod.id, src := s, g := g, hk := hkHbase }
  | .ldS8 u s g => some { sk := (lsuOfTwin u), vec := false, md := SrcMod.id, src := s, g := g, hk := (hkLdS8 u) }
  | .ldN8 u s g => some { sk := (lsuOfTwin u), vec := false, md := SrcMod.id, src := s, g := g, hk := (hkLdN8 u) }
  | .ldS16 u s g => some { sk := (lsuOfTwin u), vec := false, md := SrcMod.id, src := s, g := g, hk := (hkLdS16 u) }
  | .ldN16 u s g => some { sk := (lsuOfTwin u), vec := false, md := SrcMod.id, src := s, g := g, hk := (hkLdN16 u) }
  | .ldS32 u s g => some { sk := (lsuOfTwin u), vec := false, md := SrcMod.id, src := s, g := g, hk := (hkLdS32 u) }
  | .ldN32 u s g => some { sk := (lsuOfTwin u), vec := false, md := SrcMod.id, src := s, g := g, hk := (hkLdN32 u) }
  | .ld64 u s g => some { sk := (lsuOfTwin u), vec := false, md := SrcMod.id, src := s, g := g, hk := (hkLd64 u) }
  | .st8 u s g => some { sk := (lsuOfTwin u), vec := false, md := SrcMod.id, src := s, g := g, hk := (hkSt8 u) }
  | .st16 u s g => some { sk := (lsuOfTwin u), vec := false, md := SrcMod.id, src := s, g := g, hk := (hkSt16 u) }
  | .st32 u s g => some { sk := (lsuOfTwin u), vec := false, md := SrcMod.id, src := s, g := g, hk := (hkSt32 u) }
  | .st64 u s g => some { sk := (lsuOfTwin u), vec := false, md := SrcMod.id, src := s, g := g, hk := (hkSt64 u) }
  | .vld u s g => some { sk := (lsuOfTwin u), vec := false, md := SrcMod.id, src := s, g := g, hk := (hkVld u) }
  | .vldr u s g => some { sk := (lsuOfTwin u), vec := false, md := SrcMod.id, src := s, g := g, hk := (hkVldr u) }
  | .vst u s g => some { sk := (lsuOfTwin u), vec := false, md := SrcMod.id, src := s, g := g, hk := (hkVst u) }
  | .vstr u s g => some { sk := (lsuOfTwin u), vec := false, md := SrcMod.id, src := s, g := g, hk := (hkVstr u) }
  | .vldg u s g => some { sk := (lsuOfTwin u), vec := false, md := SrcMod.id, src := s, g := g, hk := (hkVldg u) }
  | .vsts u s g => some { sk := (lsuOfTwin u), vec := false, md := SrcMod.id, src := s, g := g, hk := (hkVsts u) }
  | .gld u s g => some { sk := (lsuOfTwin u), vec := false, md := SrcMod.id, src := s, g := g, hk := (hkGld u) }
  | .gldt u s g => some { sk := (lsuOfTwin u), vec := false, md := SrcMod.id, src := s, g := g, hk := (hkGldt u) }
  | .cellw u s g => some { sk := (lsuOfTwin u), vec := false, md := SrcMod.id, src := s, g := g, hk := (hkCellw u) }
  | .cellwr u s g => some { sk := (lsuOfTwin u), vec := false, md := SrcMod.id, src := s, g := g, hk := (hkCellwr u) }
  | .cellr u s g => some { sk := (lsuOfTwin u), vec := false, md := SrcMod.id, src := s, g := g, hk := (hkCellr u) }
  | .cellp u s g => some { sk := (lsuOfTwin u), vec := false, md := SrcMod.id, src := s, g := g, hk := (hkCellp u) }
  | .aadd w u s g => some { sk := (lsuOfTwin u), vec := false, md := SrcMod.id, src := s, g := g, hk := (hkAadd w u) }
  | .aminS w u s g => some { sk := (lsuOfTwin u), vec := false, md := SrcMod.id, src := s, g := g, hk := (hkAminS w u) }
  | .aminN w u s g => some { sk := (lsuOfTwin u), vec := false, md := SrcMod.id, src := s, g := g, hk := (hkAminN w u) }
  | .amaxS w u s g => some { sk := (lsuOfTwin u), vec := false, md := SrcMod.id, src := s, g := g, hk := (hkAmaxS w u) }
  | .amaxN w u s g => some { sk := (lsuOfTwin u), vec := false, md := SrcMod.id, src := s, g := g, hk := (hkAmaxN w u) }
  | .aand w u s g => some { sk := (lsuOfTwin u), vec := false, md := SrcMod.id, src := s, g := g, hk := (hkAand w u) }
  | .aor w u s g => some { sk := (lsuOfTwin u), vec := false, md := SrcMod.id, src := s, g := g, hk := (hkAor w u) }
  | .axor w u s g => some { sk := (lsuOfTwin u), vec := false, md := SrcMod.id, src := s, g := g, hk := (hkAxor w u) }
  | .aswap w u s g => some { sk := (lsuOfTwin u), vec := false, md := SrcMod.id, src := s, g := g, hk := (hkAswap w u) }
  | .acas w u s g => some { sk := (lsuOfTwin u), vec := false, md := SrcMod.id, src := s, g := g, hk := (hkAcas w u) }
  | .afadd u s g => some { sk := (lsuOfTwin u), vec := false, md := SrcMod.id, src := s, g := g, hk := (hkAfadd u) }
  | .osaddF32 u s g => some { sk := (lsuOfTwin u), vec := false, md := SrcMod.id, src := s, g := g, hk := (hkOsaddF32 u) }
  | .osaddS32 u s g => some { sk := (lsuOfTwin u), vec := false, md := SrcMod.id, src := s, g := g, hk := (hkOsaddS32 u) }
  | .join s g => some { sk := .sync, vec := false, md := SrcMod.id, src := s, g := g, hk := hkJoin }
  | .leave s g => some { sk := .sync, vec := false, md := SrcMod.id, src := s, g := g, hk := hkLeave }
  | .gbar s g => some { sk := .sync, vec := false, md := SrcMod.id, src := s, g := g, hk := hkGbar }
  | .cbar s g => some { sk := .sync, vec := false, md := SrcMod.id, src := s, g := g, hk := hkCbar }
  | .dbar s g => some { sk := .sync, vec := false, md := SrcMod.id, src := s, g := g, hk := hkDbar }
  | .release s g => some { sk := .sync, vec := false, md := SrcMod.id, src := s, g := g, hk := hkRelease }
  | .acquire s g => some { sk := .sync, vec := false, md := SrcMod.id, src := s, g := g, hk := hkAcquire }
  | .xfence s g => some { sk := .sync, vec := false, md := SrcMod.id, src := s, g := g, hk := hkXfence }
  | .spawn s g => some { sk := .sync, vec := false, md := SrcMod.id, src := s, g := g, hk := hkSpawn }
  | .grow s g => some { sk := .sync, vec := false, md := SrcMod.id, src := s, g := g, hk := hkGrow }
  | .mode s g => some { sk := .sync, vec := false, md := SrcMod.id, src := s, g := g, hk := hkMode }
  | .frmset s g => some { sk := .sync, vec := false, md := SrcMod.id, src := s, g := g, hk := hkFrmset }
  | .bfset s g => some { sk := .sync, vec := false, md := SrcMod.id, src := s, g := g, hk := hkBfset }
  | .bfget s g => some { sk := .sync, vec := false, md := SrcMod.id, src := s, g := g, hk := hkBfget }
  | .evrd s g => some { sk := .sync, vec := false, md := SrcMod.id, src := s, g := g, hk := hkEvrd }
  | .evclr s g => some { sk := .sync, vec := false, md := SrcMod.id, src := s, g := g, hk := hkEvclr }
  | .evgath s g => some { sk := .sync, vec := false, md := SrcMod.id, src := s, g := g, hk := hkEvgath }
  | .vadd u ty md s g => some { sk := u.valu, vec := true, md := md, src := s, g := g, hk := (hkVadd u ty) }
  | .vsub u ty md s g => some { sk := u.valu, vec := true, md := md, src := s, g := g, hk := (hkVsub u ty) }
  | .vmul u ty md s g => some { sk := u.valu, vec := true, md := md, src := s, g := g, hk := (hkVmul u ty) }
  | .vfma u ty md s g => some { sk := u.valu, vec := true, md := md, src := s, g := g, hk := (hkVfma u ty) }
  | .vfms u ty md s g => some { sk := u.valu, vec := true, md := md, src := s, g := g, hk := (hkVfms u ty) }
  | .vfnma u ty md s g => some { sk := u.valu, vec := true, md := md, src := s, g := g, hk := (hkVfnma u ty) }
  | .vmin u ty md s g => some { sk := u.valu, vec := true, md := md, src := s, g := g, hk := (hkVmin u ty) }
  | .vmax u ty md s g => some { sk := u.valu, vec := true, md := md, src := s, g := g, hk := (hkVmax u ty) }
  | .vclamp u ty md s g => some { sk := u.valu, vec := true, md := md, src := s, g := g, hk := (hkVclamp u ty) }
  | .veq u ty md s g => some { sk := u.valu, vec := true, md := md, src := s, g := g, hk := (hkVeq u ty) }
  | .vne u ty md s g => some { sk := u.valu, vec := true, md := md, src := s, g := g, hk := (hkVne u ty) }
  | .vlt u ty md s g => some { sk := u.valu, vec := true, md := md, src := s, g := g, hk := (hkVlt u ty) }
  | .vle u ty md s g => some { sk := u.valu, vec := true, md := md, src := s, g := g, hk := (hkVle u ty) }
  | .vsel u ty md s g => some { sk := u.valu, vec := true, md := md, src := s, g := g, hk := (hkVsel u ty) }
  | .vand u md s g => some { sk := u.valu, vec := true, md := md, src := s, g := g, hk := (hkVand u) }
  | .vor u md s g => some { sk := u.valu, vec := true, md := md, src := s, g := g, hk := (hkVor u) }
  | .vxor u md s g => some { sk := u.valu, vec := true, md := md, src := s, g := g, hk := (hkVxor u) }
  | .vshl u ty md s g => some { sk := u.valu, vec := true, md := md, src := s, g := g, hk := (hkVshl u ty) }
  | .vshr u ty md s g => some { sk := u.valu, vec := true, md := md, src := s, g := g, hk := (hkVshr u ty) }
  | .vsar u ty md s g => some { sk := u.valu, vec := true, md := md, src := s, g := g, hk := (hkVsar u ty) }
  | .vadds u ty md s g => some { sk := u.valu, vec := true, md := md, src := s, g := g, hk := (hkVadds u ty) }
  | .vsubs u ty md s g => some { sk := u.valu, vec := true, md := md, src := s, g := g, hk := (hkVsubs u ty) }
  | .vdot4 u md s g => some { sk := u.valu, vec := true, md := md, src := s, g := g, hk := (hkVdot4 u) }
  | .vscale u ty md s g => some { sk := u.valu, vec := true, md := md, src := s, g := g, hk := (hkVscale u ty) }
  | .vabs u md s g => some { sk := u.valu, vec := true, md := md, src := s, g := g, hk := (hkVabs u) }
  | .vneg u md s g => some { sk := u.valu, vec := true, md := md, src := s, g := g, hk := (hkVneg u) }
  | .vcvt u md s g => some { sk := u.valu, vec := true, md := md, src := s, g := g, hk := (hkVcvt u) }
  | .vrsum u md s g => some { sk := u.valu, vec := true, md := md, src := s, g := g, hk := (hkVrsum u) }
  | .vrmax u md s g => some { sk := u.valu, vec := true, md := md, src := s, g := g, hk := (hkVrmax u) }
  | .vrmin u md s g => some { sk := u.valu, vec := true, md := md, src := s, g := g, hk := (hkVrmin u) }
  | .vexp2 ty md s g => some { sk := .vsfu, vec := true, md := md, src := s, g := g, hk := (hkVexp2 ty) }
  | .vlog2 ty md s g => some { sk := .vsfu, vec := true, md := md, src := s, g := g, hk := (hkVlog2 ty) }
  | .vrcp ty md s g => some { sk := .vsfu, vec := true, md := md, src := s, g := g, hk := (hkVrcp ty) }
  | .vrsqrt ty md s g => some { sk := .vsfu, vec := true, md := md, src := s, g := g, hk := (hkVrsqrt ty) }
  | .vsqrt ty md s g => some { sk := .vsfu, vec := true, md := md, src := s, g := g, hk := (hkVsqrt ty) }
  | .vtanh ty md s g => some { sk := .vsfu, vec := true, md := md, src := s, g := g, hk := (hkVtanh ty) }
  | .vsigm ty md s g => some { sk := .vsfu, vec := true, md := md, src := s, g := g, hk := (hkVsigm ty) }
  | .vshuf ty md s g => some { sk := .perm, vec := true, md := md, src := s, g := g, hk := (hkVshuf ty) }
  | .vzip ty md s g => some { sk := .perm, vec := true, md := md, src := s, g := g, hk := (hkVzip ty) }
  | .vunzip ty md s g => some { sk := .perm, vec := true, md := md, src := s, g := g, hk := (hkVunzip ty) }
  | .vpack ty md s g => some { sk := .perm, vec := true, md := md, src := s, g := g, hk := (hkVpack ty) }
  | .vwiden ty md s g => some { sk := .perm, vec := true, md := md, src := s, g := g, hk := (hkVwiden ty) }
  | .unpk5 md s g => some { sk := .perm, vec := true, md := md, src := s, g := g, hk := hkUnpk5 }
  | .pack5 md s g => some { sk := .perm, vec := true, md := md, src := s, g := g, hk := hkPack5 }
  | .unpkg ty md s g => some { sk := .perm, vec := true, md := md, src := s, g := g, hk := (hkUnpkg ty) }
  | .qntg ty md s g => some { sk := .perm, vec := true, md := md, src := s, g := g, hk := (hkQntg ty) }
  | .vcmpr ty md s g => some { sk := .perm, vec := true, md := md, src := s, g := g, hk := (hkVcmpr ty) }
  | .vtopk ty md s g => some { sk := .perm, vec := true, md := md, src := s, g := g, hk := (hkVtopk ty) }
  | .vsort ty md s g => some { sk := .perm, vec := true, md := md, src := s, g := g, hk := (hkVsort ty) }
  | .vbcast ty md s g => some { sk := .perm, vec := true, md := md, src := s, g := g, hk := (hkVbcast ty) }
  | .vextr ty md s g => some { sk := .perm, vec := true, md := md, src := s, g := g, hk := (hkVextr ty) }
  | .vins ty md s g => some { sk := .perm, vec := true, md := md, src := s, g := g, hk := (hkVins ty) }
  | .viota ty md s g => some { sk := .perm, vec := true, md := md, src := s, g := g, hk := (hkViota ty) }
  | .vslide ty md s g => some { sk := .perm, vec := true, md := md, src := s, g := g, hk := (hkVslide ty) }
  | .mxcfg md s g => some { sk := .mx, vec := md.isSome, md := md.getD SrcMod.id, src := s, g := g, hk := hkMxcfg md.isSome }
  | .wld md s g => some { sk := .mx, vec := md.isSome, md := md.getD SrcMod.id, src := s, g := g, hk := hkWld md.isSome }
  | .wpage md s g => some { sk := .mx, vec := md.isSome, md := md.getD SrcMod.id, src := s, g := g, hk := hkWpage md.isSome }
  | .astr md s g => some { sk := .mx, vec := md.isSome, md := md.getD SrcMod.id, src := s, g := g, hk := hkAstr md.isSome }
  | .drain s g => some { sk := .mx, vec := false, md := SrcMod.id, src := s, g := g, hk := hkDrain }
  | .drainVector md s g => some { sk := .mx, vec := true, md := md, src := s, g := g, hk := hkDrainVector }
  | .drainst md s g => some { sk := .mx, vec := md.isSome, md := md.getD SrcMod.id, src := s, g := g, hk := hkDrainst md.isSome }
  | .mxclr md s g => some { sk := .mx, vec := md.isSome, md := md.getD SrcMod.id, src := s, g := g, hk := hkMxclr md.isSome }
  | .mxstat md s g => some { sk := .mx, vec := md.isSome, md := md.getD SrcMod.id, src := s, g := g, hk := hkMxstat md.isSome }
  | .oatt s g => some { sk := .orb, vec := false, md := SrcMod.id, src := s, g := g, hk := hkOatt }
  | .oeph s g => some { sk := .orb, vec := false, md := SrcMod.id, src := s, g := g, hk := hkOeph }
  | .oinj s g => some { sk := .orb, vec := false, md := SrcMod.id, src := s, g := g, hk := hkOinj }
  | .ostep s g => some { sk := .orb, vec := false, md := SrcMod.id, src := s, g := g, hk := hkOstep }
  | .oslot s g => some { sk := .orb, vec := false, md := SrcMod.id, src := s, g := g, hk := hkOslot }
  | .ocnt s g => some { sk := .orb, vec := false, md := SrcMod.id, src := s, g := g, hk := hkOcnt }
  | .omiss s g => some { sk := .orb, vec := false, md := SrcMod.id, src := s, g := g, hk := hkOmiss }
  | .olap s g => some { sk := .orb, vec := false, md := SrcMod.id, src := s, g := g, hk := hkOlap }
  | .odet s g => some { sk := .orb, vec := false, md := SrcMod.id, src := s, g := g, hk := hkOdet }
  | .dld s g => some { sk := .dma, vec := false, md := SrcMod.id, src := s, g := g, hk := hkDld }
  | .dst s g => some { sk := .dma, vec := false, md := SrcMod.id, src := s, g := g, hk := hkDst }
  | .dcpy s g => some { sk := .dma, vec := false, md := SrcMod.id, src := s, g := g, hk := hkDcpy }
  | .dprom s g => some { sk := .dma, vec := false, md := SrcMod.id, src := s, g := g, hk := hkDprom }
  | .dstat s g => some { sk := .dma, vec := false, md := SrcMod.id, src := s, g := g, hk := hkDstat }
  | .nsend s g => some { sk := .net, vec := false, md := SrcMod.id, src := s, g := g, hk := hkNsend }
  | .rld s g => some { sk := .net, vec := false, md := SrcMod.id, src := s, g := g, hk := hkRld }
  | .cqpost s g => some { sk := .net, vec := false, md := SrcMod.id, src := s, g := g, hk := hkCqpost }
  | .cqstat s g => some { sk := .net, vec := false, md := SrcMod.id, src := s, g := g, hk := hkCqstat }
  | .nflag s g => some { sk := .net, vec := false, md := SrcMod.id, src := s, g := g, hk := hkNflag }
  | .sysrd s g => some { sk := .sys, vec := false, md := SrcMod.id, src := s, g := g, hk := hkSysrd }
  | .syswr s g => some { sk := .sys, vec := false, md := SrcMod.id, src := s, g := g, hk := hkSyswr }
  | .snapsv s g => some { sk := .sys, vec := false, md := SrcMod.id, src := s, g := g, hk := hkSnapsv }
  | .snapld s g => some { sk := .sys, vec := false, md := SrcMod.id, src := s, g := g, hk := hkSnapld }
  | .rfsv s g => some { sk := .sys, vec := false, md := SrcMod.id, src := s, g := g, hk := hkRfsv }
  | .rfld s g => some { sk := .sys, vec := false, md := SrcMod.id, src := s, g := g, hk := hkRfld }
  | .hinv s g => some { sk := .sys, vec := false, md := SrcMod.id, src := s, g := g, hk := hkHinv }
  | .iflush s g => some { sk := .sys, vec := false, md := SrcMod.id, src := s, g := g, hk := hkIflush }
  | _ => none

/-- A control operation: whether privileged mode runs it (R359), the guard that makes it a NOP, what it does. -/
structure CtlOp where
  privOk : Bool
  g  : Guard
  hk : Ctl

/-- The control operation that an instruction is, if it is one. -/
def ctlOf (i : Instr) : Option CtlOp :=
  match i with
  | .nop g => some { privOk := true, g := g, hk := ctlNop }
  | .br off g => some { privOk := true, g := g, hk := ctlBr off }
  | .brp off g => some { privOk := false, g := alwaysGuard, hk := ctlLaneBranch false off g }
  | .brn off g => some { privOk := false, g := alwaysGuard, hk := ctlLaneBranch true off g }
  | .call off g => some { privOk := false, g := g, hk := ctlCall off }
  | .ret n g => some { privOk := false, g := g, hk := ctlRet n }
  | .loop n len g => some { privOk := false, g := g, hk := ctlLoop n len }
  | .spin n step k g => some { privOk := false, g := g, hk := ctlSpin n step k }
  | .wait count g => some { privOk := true, g := g, hk := ctlWait count }
  | .waitu n g => some { privOk := false, g := g, hk := ctlWaitu n }
  | .waitb n g => some { privOk := false, g := g, hk := ctlWaitb n }
  | .taskend g => some { privOk := false, g := g, hk := ctlTaskend }
  | .safe g => some { privOk := false, g := g, hk := ctlSafe }
  | .trapu code g => some { privOk := true, g := g, hk := ctlTrapu code }
  | .ilock pk n g => some { privOk := false, g := g, hk := ctlIlock pk n }
  | .iunlock pk n g => some { privOk := false, g := g, hk := ctlIunlock pk n }
  | _ => none

/-! ### Moves (R195-R200, R204) -/

/-- The register writes of a tow leader's scalar move that its followers receive (R54). -/
def postOf (d : Dst) (v : Wide) : Option (Dst × Wide) :=
  match d with
  | .null => none
  | .port _ _ => none
  | _ => some (d, v)

/-- A slot of a bundle whose source has been read: the ports it read, the register or port it writes, the operation it triggers
(R204). -/
structure Ready where
  slot  : Nat
  hdr   : BitVec 16
  i     : Instr
  sk    : Nat
  src   : Src
  ports : List (Sock × RPort)
  t     : Wide
  write : TileCore → TileCore
  hk    : Option Hooks
  post  : Option (Dst × Wide)

/-- A slot read with the state as it stands before the bundle; none where a scalar guard cancels it (R30, R31, R204). -/
def State.ready (s : State) (slot : Nat) (hdr : BitVec 16) (i : Instr) : Option Ready :=
  let c := s.tile.core
  match i with
  | .move d src g =>
    if d = .null || !c.guardOn g then none
    else
      let v := s.scalarSrc src
      some { slot := slot, hdr := hdr, i := i, sk := 0, src := src, ports := srcPorts src, t := wideOfWord v,
             write := fun c => c.scalarWrite d v, hk := none, post := postOf d (wideOfWord v) }
  | .moveVector d md src g =>
    if d = .null then none
    else
      let v := s.vectorSrc md src
      some { slot := slot, hdr := hdr, i := i, sk := 0, src := src, ports := srcPorts src, t := v,
             write := fun c => c.vectorWrite d (modGranule md) (c.guardWord g) v, hk := none, post := none }
  | i => match trigOf i with
    | none => none
    | some x =>
      if !x.vec && !c.guardOn x.g then none
      else
        let v := if x.vec then s.vectorSrc x.md x.src else wideOfWord (s.scalarSrc x.src)
        let m := if x.vec then c.guardWord x.g else BitVec.allOnes 64
        some { slot := slot, hdr := hdr, i := i, sk := (sockIdx x.sk).val, src := x.src, ports := srcPorts x.src, t := v,
               write := fun c => c, hk := some (x.hk v m), post := none }

/-- The guards of a bundle's vector moves are read before it, as its sources are (R204). -/
def Ready.freeze (r : Ready) (s : State) : Ready :=
  match r.i with
  | .moveVector d md _ g => let w := s.tile.core.guardWord g; { r with write := fun c => c.vectorWrite d (modGranule md) w r.t }
  | _ => r

/-- A destination that a bundle in privileged mode may write (R359). -/
def privDstOk : Dst → Bool
  | .null => true
  | .port .sys _ => true
  | _ => false

/-- One move alone on the tile of the step: a frozen tile issues nothing (R25), a null destination moves nothing (R196), a false
guard cancels a scalar move (R30); a read of an undelivered result waits (R21). -/
def runMove (d : Dst) (src : Src) (i : Instr) (s : State) : Out :=
  if s.tile.frozen then .next s
  else match s.ready s.tile.core.seq.slot s.tile.core.seq.hdr i with
    | none => .next s
    | some r =>
      if s.tile.priv && !(privSrcOk src && privDstOk d) then .next (s.takeTrap (s.privViolation 0 0))
      else if r.ports.any (fun x => s.portWait x) then .next s
      else if s.earlyPort src then .next (s.takeTrap (s.earlyCause 0 src))
      else match r.ports.findSome? (fun x => s.portCause x) with
        | some c => .next (s.takeBundleTrap c (s.portLoad r.ports))
        | none => .next ((s.consume r.ports).modTile (fun t => t.mapCore (r.freeze s).write))

/-- MOVE (R195, R200). -/
def execMove (d : Dst) (src : Src) (g : Guard) (s : State) : Out := runMove d src (.move d src g) s
/-- MOVE_VECTOR (R200, R202). -/
def execMoveVector (d : Dst) (md : SrcMod) (src : Src) (g : Guard) (s : State) : Out := runMove d src (.moveVector d md src g) s

/-! ### Spins (R60, R61, R231) -/

/-- An m-register number of a replayed source or destination, j × step further (R61). -/
def shiftM (n : BitVec 6) (by_ : Nat) : BitVec 6 := n + BitVec.ofNat 6 by_

/-- A replayed slot's word with its m-register numbers shifted (R61, R197, R199). -/
def shiftSlot (w : BitVec 48) (by_ : Nat) : BitVec 48 :=
  let src : BitVec 10 := w.extractLsb' 6 10
  let d : BitVec 9 := w.extractLsb' 16 9
  let src : BitVec 10 := if src.extractLsb' 6 4 = (0 : BitVec 4) then (0 : BitVec 4) ++ shiftM (src.extractLsb' 0 6) by_ else src
  let d : BitVec 9 := if d.extractLsb' 6 3 = (2 : BitVec 3) then (2 : BitVec 3) ++ shiftM (d.extractLsb' 0 6) by_ else d
  (w.extractLsb' 25 23 : BitVec 23) ++ d ++ src ++ (w.extractLsb' 0 6 : BitVec 6)

/-- The header whose profile a replayed slot uses (R231). -/
def profHdr (h : BitVec 16) (n : BitVec 4) : BitVec 16 := (h &&& 0xFC3F) ||| (n.zeroExtend 16 <<< 6)

/-- The operations of a spin-buffer entry, their m-registers shifted; a slot that reads the long immediate reads the recording bundle's
(R60, R61; log 78). -/
def SpinEntry.ops (e : SpinEntry) (by_ : Nat) (h : BitVec 16) : List (Nat × BitVec 16 × Instr) :=
  ((e.slots.zip [4, 5, 6, 7, 8, 9]).filterMap (fun x => match decodeVector e.limm (shiftSlot x.1 by_) with
    | .ok i => if i.target.isSome then some (x.2, profHdr h e.nprof, i) else none
    | .error _ => none))

/-- The spin in progress; the user's is parked in privileged mode (R359; log 24). -/
def Tile.spinNow (t : Tile) : Option SpinRun := if t.priv then none else t.core.spin

/-- The slots that a spin replays in this issue cycle (R61). -/
def Tile.replay (t : Tile) (h : BitVec 16) : List (Nat × BitVec 16 × Instr) :=
  match t.spinNow with
  | none => []
  | some r => (t.core.spinBuf.get (Fin.ofNat 16 (r.first + r.done % r.k))).ops (r.done / r.k * r.step) h

/-- A spin's progress after an issue cycle (R61). -/
def SpinRun.next (r : SpinRun) : Option SpinRun := if r.done + 1 < r.k * r.n then some { r with done := r.done + 1 } else none

/-- A bundle's vector slots recorded (R60). -/
def TileCore.record (c : TileCore) (b : BitVec 512) : TileCore :=
  let e : SpinEntry := { slots := (List.range 6).map (bundleV b), limm := bundleLimm b, nprof := hdrNprof (bundleHdr b) }
  { c with spinBuf := c.spinBuf.set c.recIdx.toNat e c.recIdx.isLt, recIdx := c.recIdx + 1 }

/-! ### The checks before issue (R136, R205, R206, R358, R359) -/

/-- The slots of a bundle that decode by themselves. -/
def looseSlots (b : BitVec 512) : List (Nat × Instr) :=
  ([0, 1, 2, 3].filterMap (fun j => match decodeScalar (bundleLimm b) (bundleS b j) with | .ok i => some (j, i) | .error _ => none)) ++
  ([0, 1, 2, 3, 4, 5].filterMap (fun j => match decodeVector (bundleLimm b) (bundleV b j) with | .ok i => some (4 + j, i) | .error _ => none))

/-- The raw bits of a move slot, by its index (R191, R195). -/
def slotBits (b : BitVec 512) (j : Nat) : BitVec 48 := if j < 4 then (bundleS b j).zeroExtend 48 else bundleV b (j - 4)
/-- The SRC field of a move slot, where it is no reserved encoding (R197). -/
def slotSrc (b : BitVec 512) (j : Nat) : Option Src := (Src.dec (decide (4 ≤ j)) (bundleLimm b) ((slotBits b j).extractLsb' 6 10)).toOption
/-- The DST field of a move slot, where it is no reserved encoding (R199). -/
def slotDst (b : BitVec 512) (j : Nat) : Option DstCode := (DstCode.dec ((slotBits b j).extractLsb' 16 9)).toOption

/-- A move slot that a privileged bundle may not hold, whatever else is wrong with its encoding: it names a source or a destination other
than those allowed (R206, R359). A reserved encoding names neither (DEDUCED, log 96). -/
def slotForbidden (b : BitVec 512) (j : Nat) : Bool :=
  slotDst b j ≠ some (.move .null) &&
    ((match slotSrc b j with
      | some x => !privSrcOk x
      | none => false) ||
    (match slotDst b j with
      | some (.move d) => !privDstOk d
      | some (.trigger sk) => sk ≠ .sys
      | none => false))

/-- A control operation that a privileged bundle may not hold, whatever its operand (R206, R359). -/
def ctlForbidden (b : BitVec 512) : Bool :=
  match controlOf ((bundleCtl b).extractLsb' 6 7) 0 (Guard.dec ((bundleCtl b).extractLsb' 0 6)) with
  | some i => (match ctlOf i with
    | some x => !x.privOk
    | none => false)
  | none => false

/-- A move into port a of sys. -/
def movesSysA : Instr → Bool
  | .move (.port .sys .a) _ _ => true
  | _ => false

/-- A scalar slot that decodes to nothing triggers a sys operation that user mode never permits (R206, R358, R380). -/
def State.rawSys (s : State) (b : BitVec 512) (j : Nat) : Option Cause :=
  let w := slotBits b j
  let op := (w.extractLsb' 25 7 : BitVec 7).toNat
  if slotDst b j = some (.trigger .sys) && 3 ≤ op && op ≤ 8 && s.tile.core.guardOn (Guard.dec (w.extractLsb' 0 6)) then
    some ((s.atSlot j).privViolation (sockIdx .sys).val 0)
  else none

/-- The user-mode sys trigger of a bundle that is forbidden, where the tile executes the slots `slots` and the slots of index `raw` decode
to nothing (R358, R380). -/
def State.sysViolation (s : State) (b : BitVec 512) (raw : List Nat) (slots : List (Nat × Instr)) : Option Cause :=
  let rs := slots.filterMap (fun x => s.ready x.1 0 x.2)
  let s1 := (rs.filter (fun r => movesSysA r.i)).foldl (fun s r => s.modTile (fun t => t.mapCore r.write)) s
  let own (r : Ready) : Option Cause := match r.hk with
    | some h =>
      if r.sk ≠ (sockIdx .sys).val || r.ports.any (fun x => s.portWait x) then none
      else match h.check (s1.atSlot r.slot) with
        | some c => if c.code = 0x12 then some c else none
        | none => none
    | none => none
  [0, 1, 2, 3].findSome? (fun j => if j ∈ raw then s.rawSys b j else (rs.find? (fun r => r.slot = j)).bind own)

/-- The tile runs in a tow set (R51). -/
def Tile.inTow (t : Tile) : Bool := match t.task with | some k => k.tow ≠ 0 | none => false

/-- The distance from the leader of the tow set (R51). -/
def Tile.towDist (t : Tile) : Nat := match t.task with | some k => k.dist | none => 0

/-- The slots of a bundle that the tile executes: those of an ELECT bundle's scalar slots stand only at the leader (R54). -/
def Tile.electSlots {α : Type} (t : Tile) (hdr : BitVec 16) (l : List (Nat × α)) : List (Nat × α) :=
  if hdrElect hdr && t.inTow && t.towDist ≠ 0 then l.filter (fun y => 4 ≤ y.1) else l

/-- "privilege violation" of a bundle (R358, R359). -/
def State.bundlePriv (s : State) (b : BitVec 512) : Option Cause :=
  let slots := looseSlots b
  if s.tile.priv then
    match (List.range 10).find? (slotForbidden b) with
    | some j =>
      let sk := match slotDst b j with | some (.trigger sk) => (sockIdx sk).val | _ => 0
      let t := match assocGet slots j with
        | some i => (match s.ready j 0 i with | some r => if r.hk.isSome then lowWord r.t else 0 | none => 0)
        | none => 0
      some ((s.atSlot j).privViolation sk t)
    | none => if ctlForbidden b then some ((s.atSlot 10).privViolation 0 0) else none
  else if s.tile.stubbase.toNat ≤ s.tile.core.seq.here.toNat && s.tile.core.seq.here.toNat < s.tile.stubbase.toNat + 0x10000 then
    some ((s.atSlot 11).privViolation 0 0)
  else
    let raw := (s.tile.electSlots (bundleHdr b) ([0, 1, 2, 3].map (fun j => (j, ())))).map (·.1)
    s.sysViolation b (raw.filter (fun j => !(slots.any (fun x => x.1 = j)))) (s.tile.electSlots (bundleHdr b) slots)

/-- The orbit fault of a bundle, which R296 prefers to every other check of it, those that R206 ranks before an operation's own
traps among them: of its orb operation, or of a WAITB on the orbit count (R54, R160, R189, R296; DEDUCED, log 81). An orb operation that still waits for its operand is not checked yet. -/
def State.orbitFirst (s : State) (b : BitVec 512) : Option Cause :=
  let isFault (c : Option Cause) : Option Cause := match c with
    | some c => if c.code = 0x0A then some c else none
    | none => none
  let rs := (s.tile.electSlots (bundleHdr b) (looseSlots b)).filterMap (fun x => s.ready x.1 (bundleHdr b) x.2)
  let s1 := rs.foldl (fun s r => s.modTile (fun t => t.mapCore r.write)) s
  if s.tile.priv then none
  else match rs.findSome? (fun r => match r.hk with
      | some h => if r.sk ≠ (sockIdx .orb).val || r.ports.any (fun x => s.portWait x) then none else isFault (h.check (s1.atSlot r.slot))
      | none => none) with
    | some c => some c
    | none => match decodeControl (bundleCtl b) with
      | .ok (.waitb n g) => if s.tile.core.guardOn g then isFault ((ctlWaitb n).check s (s1.atSlot 10)) else none
      | _ => none

/-- The raw bits that "illegal bundle" reports (R205). -/
def rawSlot (b : BitVec 512) (slot : Nat) : Word :=
  if slot < 4 then (bundleS b slot).zeroExtend 64
  else if slot < 10 then (bundleV b (slot - 4)).zeroExtend 64
  else if slot = 10 then (bundleCtl b).zeroExtend 64
  else ((bundleTop b) ++ (bundleHdr b) : BitVec 32).zeroExtend 64

/-- "illegal bundle" (R205). -/
def State.illegalBundle (s : State) (b : BitVec 512) (e : Reject × Nat) : Cause :=
  let here := s.tile.core.seq.here
  { code := 0x01, tepc := here, i0 := addrWord here, i1 := BitVec.ofNat 64 (e.1.code.toNat * 256 + e.2), i2 := rawSlot b e.2, i3 := 0 }

/-- The checks that come before any operand is read, in the order of R206: orbit faults (R296), privilege, profile, encoding. -/
def State.checkIssue (s : State) (b : BitVec 512) : Except Cause Decoded :=
  match (match s.orbitFirst b with | some c => some c | none => s.bundlePriv b) with
  | some c => .error c
  | none =>
    if 8 ≤ (hdrNprof (bundleHdr b)).toNat then .error ((s.atSlot 11).cause 0x02 0 0)
    else
      let replay := (s.tile.replay 0).map (fun x => x.2.2)
      match checkBundle s.tile.inTow s.tile.spinNow.isSome replay b with
      | .error e => .error (s.illegalBundle b e)
      | .ok d => .ok d

/-! ### Stalls and traps of the operations (R21, R23, R27, R57, R74, R206) -/

/-- A store move (R57). -/
def Ready.isStore (r : Ready) : Bool :=
  match r.i with
  | .st8 _ _ _ => true
  | .st16 _ _ _ => true
  | .st32 _ _ _ => true
  | .st64 _ _ _ => true
  | .vst _ _ _ => true
  | .vstr _ _ _ => true
  | .vsts _ _ _ => true
  | .cellw _ _ _ => true
  | .cellwr _ _ _ => true
  | .cellr _ _ _ => true
  | .cqstat _ _ => r.t.getLsbD 1
  | _ => false

/-- "early read" of a slot (R74). -/
def State.slotEarly (s : State) (r : Ready) : Option Cause :=
  if s.earlyPort r.src then some ((s.atSlot r.slot).earlyCause r.sk r.src)
  else match r.hk with
    | some h => h.early (s.atSlot r.slot)
    | none => none

/-- "region overflow" at the 33rd store move (R57). -/
def State.overflowCause (s : State) (rs : List Ready) : Option Cause :=
  let room := 32 - s.tile.stores
  match ((rs.filter Ready.isStore).drop room).head? with
  | some r => some ((s.atSlot r.slot).cause 0x05 r.sk (lowWord r.t))
  | none => none

/-- An ordered add (R253). -/
def Ready.isOsadd (r : Ready) : Bool :=
  match r.i with
  | .osaddF32 _ _ _ => true
  | .osaddS32 _ _ _ => true
  | _ => false

/-- A slot of lsu0 or of lsu1. -/
def Ready.onLsu (r : Ready) (u : Twin) : Bool := r.sk = (sockIdx (lsuOfTwin u)).val

/-- An ordered add of lsu1 counts behind that of lsu0 in the same bundle (R115, R204). -/
def Ready.afterOsadd (r : Ready) (rs : List Ready) : Bool :=
  r.isOsadd && r.onLsu .u1 && rs.any (fun x => x.isOsadd && x.onLsu .u0)

/-- A trap of an operation of its own (R206, item 8). -/
def State.ownCause (s : State) (rs : List Ready) : Option Cause :=
  rs.findSome? (fun r => match r.hk with
    | some h => h.check ((s.atSlot r.slot).modTile (fun t => (t.mapSeq (fun q => { q with hdr := r.hdr })).mapCore (fun c =>
        if r.afterOsadd rs then { c with osSeq := c.osSeq + 1 } else c)))
    | none => none)

/-- A trap on behalf of an earlier access, at a load or a port read (R95, R97, R110, R206, item 9); `p` is the state before the
bundle, whose ports it reads. -/
def State.priorCause (p s : State) (rs : List Ready) : Option Cause :=
  rs.findSome? (fun r =>
    match (match r.hk with | some h => h.race (s.atSlot r.slot) | none => none) with
    | some c => some c
    | none => r.ports.findSome? (fun x => p.portCause x))

/-! ### Effects -/

/-- A load of lsu1, which follows an irrevocable operation of lsu0 in the same bundle (R204). Stores and cell operations are gated, and
take their place at the commit. -/
def Ready.isLoad (r : Ready) : Bool := !r.isStore && !r.i.isIrrevocable

/-- lsu0 has an irrevocable operation in the bundle. -/
def lsu0Irrevocable (rs : List Ready) : Bool := rs.any (fun r => r.onLsu .u0 && r.i.isIrrevocable)

/-- When within the bundle an operation takes its effect: fences and the event counters as they stand first, then the lsu units in
program order, the other units, then the region's commit, the irrevocable operations, lsu0's first, group loads, releases and acquires,
translations, barriers, settings, and the return last (R59, R103, R115, R204, R261; log 30; a group load of a closing bundle comes after
the commit, and an EVGATH after the bundle's own stores: log 71). `first` says that lsu0 has an irrevocable operation. -/
def Ready.phase (first : Bool) (r : Ready) : Nat :=
  match r.i with
  | .xfence _ _ => 0
  | .evrd _ _ => 0
  | .evclr _ _ => 0
  | .gld _ _ _ => 7
  | .gldt _ _ _ => 7
  | .release _ _ => 8
  | .acquire _ _ => 8
  | .mode _ _ => 11
  | .frmset _ _ => 11
  | .bfset _ _ => 11
  | .syswr _ _ => 12
  | i =>
    if i.isBarrier then 10
    else if r.onLsu .u0 then (if i.isIrrevocable then 4 else 1)
    else if r.onLsu .u1 then (if i.isIrrevocable || (first && r.isLoad) then 5 else 2)
    else if i.isIrrevocable then 6
    else if r.sk = (sockIdx .xlt).val then 9
    else 3

/-- The operations of a phase take their effects, in slot order; each sees its own slot and profile (R191, R231). -/
def State.runPhase (s : State) (rs : List Ready) (p : Nat) : State :=
  (rs.filter (fun r => r.phase (lsu0Irrevocable rs) = p)).foldl (fun s r => match r.hk with
    | some h => h.act (s.modTile (fun t => t.mapSeq (fun q => { q with slot := r.slot, hdr := r.hdr })))
    | none => s) s

/-- The operations of some phases. -/
def State.runPhases (s : State) (rs : List Ready) (ps : List Nat) : State := ps.foldl (fun s p => s.runPhase rs p) s

/-- The tiles and banks that an lsu operation addresses, lane by lane for a gather or scatter (R67). -/
def Ready.banks (s : State) (r : Ready) : List (BitVec 6 × Nat) :=
  let u : Twin := if r.onLsu .u0 then .u0 else .u1
  let a := lowWord r.t
  let lanes (x : Wide) : List (BitVec 6 × Nat) :=
    ((List.range 16).filter (fun i => laneOn (s.maskA u) 4 i)).map (fun i => (s.cur.tid, laneAddr r.t x i / bankSize))
  match r.i with
  | .vldg _ _ _ => lanes (s.opA (lsuOfTwin u))
  | .vsts _ _ _ => lanes (s.opB (lsuOfTwin u))
  | _ =>
    if addrSpace a = 0 then [(s.cur.tid, addrOff a / bankSize)]
    else if addrSpace a = 1 then [(tidOf (tidCluster s.cur.tid) (a.extractLsb' 56 4), addrOff a / bankSize)]
    else []

/-- Both lsu units address one bank (R67; log 17). -/
def bankClash (s : State) (rs : List Ready) : Bool :=
  match rs.find? (fun r => r.onLsu .u0), rs.find? (fun r => r.onLsu .u1) with
  | some a, some b => (a.banks s).any (fun x => x ∈ b.banks s)
  | _, _ => false

/-- The stall clock of a bank conflict is owed, and a free-running lsu1 lands one clock later (R67). `from_` is the index from which the
bundle's own operations are. -/
def State.oweClash (s : State) (clash : Bool) (from_ : Nat) : State :=
  if !clash then s
  else s.modTile (fun t =>
    (t.mapSeq (fun q => { q with owe := q.owe + 1 })).mapCore (fun c => { c with flight := c.flight.map (fun f =>
      if f.sk = .lsu1 && f.free && from_ ≤ f.id && !f.locked then { f with rem := f.rem + 1 } else f) }))

/-- An operation of the bundle goes over the ring (R76). -/
def usesRing (rs : List Ready) : Bool := rs.any (fun r => (r.onLsu .u0 || r.onLsu .u1) && addrSpace (lowWord r.t) = 1)

/-- A bundle that stalls has asked the ring for its delivery slot (R76; log 3). -/
def State.askRing (s : State) (rs : List Ready) : State :=
  if usesRing rs && s.tile.core.seq.ring.isNone then
    ({ s with free := s.free + 1 } : State).modTile (fun t => t.mapSeq (fun q => { q with ring := some s.ringAt }))
  else s

/-- The steps of a VLDG on a data-locked lsu go on by one (R217). -/
def Seq.serve (q : Seq) (u0 u1 : Bool) : Seq :=
  { q with busy0 := if u0 && !q.busyFree0 then q.busy0 - 1 else q.busy0, busy1 := if u1 && !q.busyFree1 then q.busy1 - 1 else q.busy1 }

/-- A bundle that issues takes its delivery slot (R76). -/
def State.takeRing (s : State) (rs : List Ready) : State :=
  if usesRing rs then (s.askRing rs).modTile (fun t => t.mapSeq (fun q => { q with ring := none })) else s

/-- A port that the bundle triggers has no room in its queue; the bundle reads the ports `ps` (R27). -/
def State.portFull (s : State) (ps : List (Sock × RPort)) (x : Sock × RPort) : Bool :=
  4 + (if x ∈ ps then 1 else 0) ≤ (s.tile.core.queue' x.1 x.2).length + s.tile.core.inFlight x.1 x.2

/-- The last trigger of a bundle, which acts behind all others (R218, R373). -/
def Ready.isSyswr (r : Ready) : Bool :=
  match r.i with
  | .syswr _ _ => true
  | _ => false

/-- In queue mode a port that the bundle triggers has no room (R27, R218). `s2` is the state with the bundle's operations triggered, but
for a SYSWR, which is still to act. -/
def State.queueFull (s s2 : State) (rs : List Ready) (ps : List (Sock × RPort)) : Bool :=
  s.ctx.qmode &&
  ((s2.tile.core.flight.filter (fun f => s.tile.nextId ≤ f.id)).any (fun f => s.portFull ps (f.sk, f.port)) ||
    (rs.any Ready.isSyswr && s.portFull ps (.sys, .q)))

/-! ### Tow sets (R51-R54) -/

/-- The tile's bundles are numbered and compared with those of its tow set; in a stub they are not (R53, R359). -/
def Tile.towing (t : Tile) : Bool := t.inTow && !t.priv

/-- The leader's register writes of an ELECT bundle go to every follower, and with them the address that follows and whether a branch is
taken (R53, R54). -/
def State.towPost (s : State) (writes : List (Dst × Wide)) : State :=
  let t := s.tile
  if !t.towing || t.towDist ≠ 0 then s
  else
    let n := t.towN
    let q := t.core.seq
    ((s.towSet s.cur).filter (· ≠ s.cur)).foldl (fun s j => s.modTileAt j (fun x =>
      { x with posts := if writes = [] then x.posts else assocSet x.posts n writes, trace := assocSet x.trace n (q.pc, q.target.isSome) })) s

/-- A follower takes the register writes that its leader posted for this bundle (R54). -/
def Tile.takePosts (t : Tile) : Tile :=
  match assocGet t.posts t.towN with
  | none => t
  | some ws => t.mapCore (fun c => ws.foldl (fun c w => c.scalarWrite w.1 (lowWord w.2)) c)

/-- "tow divergence" at a branch target's first bundle (R53, R363). -/
def divergence (target : BitVec 56) (ring : BitVec 4) : Cause :=
  { code := 0x0F, tepc := target, i0 := addrWord target, i1 := 11, i2 := 0, i3 := ring.zeroExtend 64 }

/-- A follower compares its decision with its leader's (R53). -/
def Tile.towCheck (t : Tile) (ring : BitVec 4) : Tile :=
  if !t.towing || t.towDist = 0 then t
  else match assocGet t.trace t.towN with
    | none => t
    | some (a, taken) =>
      let q := t.core.seq
      if a = q.pc && taken = q.target.isSome then t
      else t.mapSeq (fun q => { q with diverged := some (if taken then a else q.pc, ring) })

/-- A tile of a tow set has issued a bundle of the task. -/
def Tile.towStep (t : Tile) : Tile := if t.towing then { t with towN := t.towN + 1 } else t

/-- "tow divergence" taken: every tile of the set stands before the branch's target and records the trap (R53, R206). -/
def State.diverge (s : State) (target : BitVec 56) (ring : BitVec 4) : State :=
  let set := s.towSet s.cur
  let s := set.foldl (fun s j => s.modTileAt j (fun t => t.mapSeq (fun q => { q with diverged := none }))) s
  let s := s.takeTrap (divergence target ring)
  (set.filter (· ≠ s.cur)).foldl (fun s j => s.modTileAt j (fun x => x.recordCause (divergence target ring))) s

/-! ### One issue cycle -/

/-- What issues in one issue cycle: the header, the control operation, the moves with the header each uses, and the bundle's own
bits. `empty` for an empty bundle (R232). -/
structure Cycle where
  hdr   : BitVec 16
  ctl   : Instr
  moves : List (Nat × BitVec 16 × Instr)
  bits  : BitVec 512
  mark  : Bool
  empty : Bool

/-- The address of the lane that a VLDG serves at its lsu's next step (R211, R217). -/
def TileCore.laneAt (c : TileCore) (u : Twin) : Option Nat :=
  let n := match u with | .u0 => c.seq.busy0 | .u1 => c.seq.busy1
  match (c.flight.filter (fun f => f.sk = lsuOfTwin u && (match f.live with | .gather _ => true | _ => false))).getLast? with
  | some f => (match f.live with
    | .gather offs => if n = 0 then none else (offs[16 - n]?).getD none
    | _ => none)
  | none => none

/-- That lane meets its bank: a body transfer may yield to it (R67, R166). -/
def State.serveLane (s : State) (u : Twin) : State :=
  match s.tile.core.laneAt u with
  | some a => s.yieldStep (.scratch s.cur.tid a)
  | none => s

/-- The lanes of VLDGs that are served in a clock: of each lsu whose pipeline advances (R23, R217). -/
def State.serveLanes (s : State) (issue allFree : Bool) : State :=
  if s.tile.priv then s
  else
    let s := if issue || allFree || s.tile.core.seq.busyFree0 then s.serveLane .u0 else s
    if issue || allFree || s.tile.core.seq.busyFree1 then s.serveLane .u1 else s

/-- One clock of the tile of the step (R23, R24). -/
def State.clockTick (s : State) (issue allFree : Bool) : State :=
  (s.serveLanes issue allFree).modTile (fun t => t.clockTick issue allFree)

/-- A clock in which the tile issues nothing (R23). -/
def State.stallClock (s : State) : State := s.clockTick false false

/-- The moves that the tile executes (R54). -/
def Cycle.elected (x : Cycle) (t : Tile) : List (Nat × BitVec 16 × Instr) := t.electSlots x.hdr x.moves

/-- A control operation that makes a branch decision (R53, R226-R229). -/
def isBranch : Instr → Bool
  | .br _ _ => true
  | .brp _ _ => true
  | .brn _ _ => true
  | .call _ _ => true
  | .ret _ _ => true
  | .loop _ _ _ => true
  | _ => false

/-- The bundle that issues makes a branch decision: its control operation does, or it ends the body of the innermost loop (R53,
R227). -/
def Seq.chooses (q : Seq) (ctl : Instr) : Bool :=
  isBranch ctl || (match q.loops with | e :: _ => e.stop = q.here + 64 | [] => false)

/-- The control slot holds TASKEND, whatever its guard (R56). -/
def isTaskend : Instr → Bool
  | .taskend _ => true
  | _ => false

/-- Issue has reached KER with the loop stack full (R43, R230; log 52). -/
def State.kernelTrap (s : State) : State :=
  if s.tile.frozen || !s.tile.kernelFull then s
  else
    let pc := s.tile.core.seq.pc
    s.takeTrap { s.loopOverflow with tepc := pc, i0 := addrWord pc }

/-- A register by its window class and index; none for a port (R369). -/
def dstWindow : Dst → Option (Nat × Nat)
  | .m n => some (0, n.toNat)
  | .o n => some (1, n.toNat)
  | .p n => some (2, n.toNat)
  | _ => none

/-- A register that a control operation writes (R225). -/
def ctlWrites : Instr → Option (Nat × Nat)
  | .call _ _ => some (1, 7)
  | .ilock k _ _ => some (2, k.toNat)
  | .iunlock k _ _ => some (2, k.toNat)
  | _ => none

/-- The registers that a bundle writes: its moves', its control operation's, and those that the tile's leader posted (R54, R58). -/
def Tile.writtenBy (t : Tile) (x : Cycle) (rs : List Ready) (ctl : Option Ctl) : List (Nat × Nat) :=
  let dst (r : Ready) : Option (Nat × Nat) := match r.i with
    | .move d _ _ => dstWindow d
    | .moveVector d _ _ _ => dstWindow d
    | _ => none
  let posted := if t.towing && t.towDist ≠ 0 && !x.empty then (assocGet t.posts t.towN).getD [] else []
  rs.filterMap dst ++ (if ctl.isSome then (ctlWrites x.ctl).toList else []) ++ posted.filterMap (fun w => dstWindow w.1)

/-- Registers written since the mark are noted (R58, R416). -/
def Tile.noteWritten (t : Tile) (l : List (Nat × Nat)) : Tile := { t with wrote := (l ++ t.wrote).eraseDups }

/-- The sequencer and the rest of the issue cycle, once the operations have acted: spins, the control operation, the tow set, the
clock, the mark, a return, and what follows every move (R44, R53, R56, R60, R61, R204, R230, R231, R236). `p` is the state before the bundle. -/
def State.finishCycle (p s : State) (x : Cycle) (rs : List Ready) (ctl : Option Ctl) : State :=
  let writes := if hdrElect x.hdr then (rs.filter (fun r => r.slot < 4)).filterMap Ready.post else []
  let s := s.modTile (fun t => (t.noteWritten (p.tile.writtenBy x rs ctl)).mapSeq (fun q => { q with slot := 10, hdr := x.hdr }))
  let s := if hdrSpinrec x.hdr && !p.tile.priv then s.modTile (fun t => t.mapCore (fun c => c.record x.bits)) else s
  let s := s.modTile (fun t => t.mapCore (fun c => { c with spin := match p.tile.spinNow with | some r => r.next | none => c.spin }))
  let s := s.modTile (fun t => t.mapSeq (fun q =>
    if x.empty then { q with waitLeft := q.waitLeft - 1 }
    else { q with pc := q.here + 64, drain := hdrDrain x.hdr, safe := q.safe || isTaskend x.ctl, chose := q.chooses x.ctl }))
  let s := match ctl with | some h => h.act p s | none => s
  let s := if x.empty then s else s.modTile Tile.sequence
  let s := if x.empty then s else (s.towPost writes).modTile (fun t => (t.towCheck (tidRing s.cur.tid)).towStep)
  let s := s.clockTick true false
  let s := if x.mark then s.modTile Tile.takeMark else s
  let s := s.runPhase rs 12
  (match ctl with | some h => h.after p s | none => s).kernelTrap

/-- An atomic (R250). -/
def Ready.isAtomic (r : Ready) : Bool := (r.onLsu .u0 || r.onLsu .u1) && r.i.isIrrevocable && !r.isOsadd

/-- The bundle's own atomics triggered: they race with the group loads of the region that it closes, before which the commit comes
(R59, R95). -/
def State.withAtomics (s : State) (rs : List Ready) : State :=
  (rs.filter Ready.isAtomic).foldl (fun s r => match r.hk with
    | some h => h.act s
    | none => s) s

/-- A gated store or cell operation of the bundle's lsu1 that follows an irrevocable operation of its lsu0 (R204). -/
def Gated.late (here : BitVec 56) (g : Gated) : Bool := g.u = .u1 && g.here = here

/-- The effects of a bundle that issues, up to its settings: `s` is the state in which its reversible operations have been triggered
(R57, R59, R204). -/
def State.effects (s : State) (rs : List Ready) (mark : Bool) : State :=
  if !mark then s.runPhases rs [4, 5, 6, 7, 8, 9, 10, 11]
  else
    let late := if lsu0Irrevocable rs then s.tile.gated.filter (Gated.late s.tile.core.seq.here) else []
    let s := (s.modTile (fun t => { t with gated := t.gated.filter (· ∉ late) })).commitRegion
    let s := (s.runPhase rs 4).commitAll late
    s.runPhases rs [5, 6, 7, 8, 9, 10, 11]

/-- A clock of a bundle that its operations hold back. A bundle that would trigger an operation of an lsu in which a VLDG is served lets
the VLDG's steps go on: in a data-locked lsu they would never end, were the stall that waits for them to hold them (R23, R217; DEDUCED,
log 94). -/
def State.heldClock (s : State) (rs : List Ready) : State :=
  let u0 := rs.any (fun r => r.hk.isSome && r.onLsu .u0)
  let u1 := rs.any (fun r => r.hk.isSome && r.onLsu .u1)
  let s := (s.askRing rs).stallClock
  let s := if u0 && !s.tile.core.seq.busyFree0 then s.serveLane .u0 else s
  let s := if u1 && !s.tile.core.seq.busyFree1 then s.serveLane .u1 else s
  s.modTile (fun t => t.mapSeq (fun q => q.serve u0 u1))

/-- One issue cycle on the tile of the step: it stalls, traps, or issues (R23, R204, R206). `p` is the state with the bundle's
address and header in the sequencer. -/
def State.runCycle (s p : State) (x : Cycle) : State :=
  let rs := ((x.elected p.tile).filterMap (fun y => p.ready y.1 y.2.1 y.2.2)).map (fun r => r.freeze p)
  let ports := (rs.flatMap Ready.ports).eraseDups
  let ctl : Option Ctl := match ctlOf x.ctl with
    | some c => if p.tile.core.guardOn c.g then some c.hk else none
    | none => none
  if ports.any (fun y => p.portWait y) then s.stallClock
  else
    let s1 := rs.foldl (fun s r => s.modTile (fun t => t.mapCore r.write)) p
    let s1 := if p.tile.towing && p.tile.towDist ≠ 0 && !x.empty then s1.modTile Tile.takePosts else s1
    let s1 := s1.consume ports
    let s1 := s1.runPhase rs 0
    if rs.any (fun r => match r.hk with | some h => h.stall (s1.atSlot r.slot) | none => false) ||
        (match ctl with | some h => h.stall p (s1.atSlot 10) | none => false) || (x.mark && (s1.closeStall || (rs.any Ready.isStore && s1.releaseHolds s1.nextOp))) then s.heldClock rs
    else match rs.findSome? (fun r => p.slotEarly r) with
      | some c => p.takeTrap c
      | none => match s1.overflowCause rs with
        | some c => p.takeTrap c
        | none => match s1.ownCause rs with
          | some c => p.takeTrap c
          | none => match (match ctl with | some h => h.check p (s1.atSlot 10) | none => none) with
            | some c => p.takeTrap c
            | none => match p.priorCause s1 rs with
              | some c => p.takeBundleTrap c (p.portLoad ports)
              | none =>
                let s2 := (s1.takeRing rs).runPhases rs [1, 2, 3]
                let s4 := s2.withAtomics rs
                match (if x.mark then s4.closeCause else none) with
                | some c => p.takeBundleTrap c s4.closeLoad
                | none =>
                  let s3 := s2.effects rs x.mark
                  if (x.mark && s2.cellStall) || p.queueFull s3 rs ports then (s.askRing rs).stallClock
                  else State.finishCycle p (s3.oweClash (bankClash s1 rs) p.tile.nextId) x rs ctl

/-- The bundle is a TASKEND that a spin holds at issue, whatever its guard (R56, R231). -/
def State.heldTaskend (s : State) (b : BitVec 512) : Bool :=
  s.tile.spinNow.isSome && (match decodeControl (bundleCtl b) with
    | .ok i => isTaskend i
    | _ => false)

/-- An empty issue cycle: it carries the next replayed entry (R231, R232). -/
def State.emptyCycle (s : State) : State :=
  let p := s.modTile (fun t => t.mapSeq (fun q => { q with here := q.pc, hdr := 0, slot := 11 }))
  s.runCycle p { hdr := 0, ctl := .nop alwaysGuard, moves := p.tile.replay 0, bits := 0, mark := false, empty := true }

/-- A bundle on the tile of the step (R191-R206). A frozen tile issues nothing (R25). -/
def State.issueBundle (s : State) (b : BitVec 512) : State :=
  if s.tile.frozen then s
  else match s.tile.core.seq.diverged with
  | some d => s.diverge d.1 d.2
  | none =>
  if s.heldTaskend b then s.emptyCycle
  else
    let p := s.modTile (fun t => t.mapSeq (fun q => { q with here := q.pc, hdr := bundleHdr b, slot := 11, target := none, safe := false }))
    match p.checkIssue b with
    | .error c => p.takeTrap c
    | .ok d =>
      let hdr := if d.isMark then d.hdr ||| 1 else d.hdr
      let moves := d.moves.map (fun x => (x.1, hdr, x.2)) ++ p.tile.replay hdr
      s.runCycle (p.modTile (fun t => t.mapSeq (fun q => { q with hdr := hdr })))
        { hdr := hdr, ctl := d.ctl, moves := moves, bits := b, mark := d.isMark && !p.tile.priv, empty := false }

/-- An operation that reads or writes the save area in memory, and that runs (R376, R377). -/
def State.usesArea (s : State) : Instr → Bool
  | .rfsv src g => s.savesNow src g
  | .rfld src g => s.savesNow src g
  | .snapsv src g => s.savesNow src g && s.snapSpills
  | _ => false

/-- A bundle that may issue would use a save area outside the populated ranges (R359, R398). -/
def State.areaRefused (s : State) (b : BitVec 512) : Bool :=
  s.tile.priv && !s.areaOk && (s.bundlePriv b).isNone && (looseSlots b).any (fun x => s.usesArea x.2)

/-- BUNDLE_ISSUE: the tile checks one bundle and issues it (R204). -/
def execBundleIssue (b : BitVec 512) (s : State) : Out :=
  if s.areaRefused b then .fault (.unpopulatedPhysical s.tile.area) else .next (s.issueBundle b)

/-! ### Fetch (R84, R226, R409) -/

/-- The address of the next bundle cannot be fetched: a branch target also reports its branch (R226, R409). -/
def State.fetchFault (s : State) : State :=
  let q := s.tile.core.seq
  let info : Word := if q.target.isSome then addrWord q.here else 0
  s.takeTrap { code := 0x07, tepc := q.pc, i0 := addrWord q.pc, i1 := 0, i2 := info, i3 := 0 }

/-- BUNDLE_FETCH: the bundle that the tile needs next is fetched from its virtual address, through the die's cache and else a
walker (R84, R397, R409). -/
def execBundleFetch (s : State) : Out :=
  let walker := (s.cur, .bundleFetch) ∈ s.walkers
  let s := s.endWalk s.cur .bundleFetch
  let rest : State := s.dropServe s.cur .bundleFetch
  let t := s.tile
  let va := t.core.seq.pc
  if t.frozen || t.out || (t.buffered va).isSome then .next rest
  else
    let asid := s.ctx.asid
    let take (s : State) (l : Leaf) : State :=
      (s.tlbFill s.cur.die l).modTile (fun t => t.bufferBundle va (s.bundleAt (l.frame + (va.toNat - l.va.toNat))))
    match s.tlbHit s.cur.die asid va .fetch with
    | some l => .next (take rest l)
    | none =>
      if !walker then .next (s.askWalk s.cur .bundleFetch)
      else if !s.pageTurn s.cur .bundleFetch asid va then .next (s.queueServe s.cur .bundleFetch asid va)
      else match s.walk asid va with
        | .leaf l _ =>
          if l.mig then .next (s.queueServe s.cur .bundleFetch asid va)
          else if !l.x then .next rest.fetchFault
          else .next (take rest l)
        | .malformed => .next (rest.logWalk s.cur va).fetchFault
        | .absent =>
          let (b, s) := rest.policyBacks
          if !b then .next s.fetchFault
          else
            let s := s.backPage asid va .fetch
            match s.walk asid va with
            | .leaf l _ => .next (take s l)
            | _ => .next s.fetchFault

/-! ### Results (R19-R21, R24, R27) -/

/-- The timed results of a tile that land now, in trigger order: those whose latency has run (R19, R20). In privileged mode the
user's are parked (R359). -/
def Tile.landing (t : Tile) : List InFlight :=
  t.core.flight.filter (fun f => !f.locked && f.rem = 0 && !(t.priv && f.id < t.stubFrom))

/-- "result overwrite" in debug mode: the result lands over one that no move has read (R20, R363). -/
def State.overwriteCause (s : State) (f : InFlight) : Cause :=
  let pc := s.tile.core.seq.pc
  let port := match f.port with | .q => 0 | .qp => 1 | .q1 => 2
  { code := 0x04, tepc := pc, i0 := addrWord pc, i1 := BitVec.ofNat 64 ((sockIdx f.sk).val * 2 ^ 8 + port * 2 ^ 14), i2 := 0, i3 := 0 }

/-- The first of some results that lands over one that no move has read, those that land before it counted (R20). -/
def overwritten (unread : List (Sock × RPort)) : List InFlight → Option InFlight
  | [] => none
  | f :: r => if (f.sk, f.port) ∈ unread then some f else overwritten ((f.sk, f.port) :: unread) r

/-- The interlocked result of a unit that may be delivered next: ready, due, and every earlier result of the unit is out (R21). -/
def Tile.deliverable? (t : Tile) (clock : Nat) (sk : Sock) : Option InFlight :=
  let own (f : InFlight) : Bool := f.sk = sk && !(t.priv && f.id < t.stubFrom)
  match t.core.flight.find? (fun f => own f && f.locked) with
  | none => none
  | some f =>
    if f.ready && f.due ≤ clock && !(t.core.flight.any (fun e => own e && !e.locked && e.id < f.id)) then some f else none

/-- A result as it is delivered (R146, R302); that of a group load that has raced leaves its port as it is (R95). -/
def State.atDelivery (s : State) (f : InFlight) : InFlight :=
  if s.raced f.id then { f with mask := 0 }
  else match f.live with
  | .plain => f
  | .ocnt => { f with value := BitVec.ofNat 512 (s.orbitRead s.cur false) }
  | .omiss => { f with value := BitVec.ofNat 512 (s.orbitRead s.cur true) }
  | .mxstat _ => { f with value := BitVec.ofNat 512 s.mx.mxstat }
  | .load _ => f
  | .lost _ => f
  | .gather _ => f

/-- What a delivery clears (R295). -/
def TileCore.delivered (c : TileCore) (f : InFlight) : TileCore :=
  if f.live = .mxstat true then c.mapMx (fun m => { m with cim := false }) else c

/-- The poison that comes with a result whose memory side was lost before its delivery (R423). -/
def State.lostCause (s : State) (f : InFlight) : Option Cause :=
  match f.live with
  | .lost pa => some (s.softError s.cur.die 1 0x06 (BitVec.ofNat 64 (pa / 8 * 8)))
  | _ => none

/-- Results of the tile land in their ports; in debug mode one that overwrites a result that no move has read traps, and poisoned data is
consumed (R19-R21, R146, R295, R302, R423). -/
def State.landNow (s : State) (fs : List InFlight) : State :=
  let hit := if s.ctx.debug && !s.ctx.qmode then overwritten s.tile.core.unread fs else none
  let vs := fs.map s.atDelivery
  let s := s.modTile (fun t => t.mapCore (fun c =>
    fs.foldl TileCore.delivered (({ c with flight := c.flight.filter (fun f => f ∉ fs) }).landAll s.ctx.qmode vs)))
  match hit with
  | some f => s.takeTrap (s.overwriteCause f)
  | none => match fs.findSome? s.lostCause with
    | some c => s.takeTrap c
    | none => s

/-- TIMED_RESULT_LANDS: the results of the tile whose latency has run land in their ports (R19, R20). -/
def execTimedResultLands (s : State) : Out :=
  if s.tile.frozen || s.tile.landing = [] then .next s else .next (s.landNow s.tile.landing)

/-- INTERLOCKED_RESULT_DELIVERED: a unit delivers its next interlocked results, those of one operation (R21). -/
def execInterlockedResultDelivered (sk : Sock) (s : State) : Out :=
  if s.tile.frozen then .next s
  else match s.tile.deliverable? s.clock sk with
    | none => .next s
    | some f => .next (s.landNow (s.tile.core.flight.filter (fun e => e.sk = sk && e.locked && e.id = f.id)))

end Sys2Proof.Machine
end

