-- ==== Sys2Proof/Machine/Queue.lean ====
section
/-! DEFINITION. Messages of the host to the lodge, contexts, launch queues, the start, the gates and the retirement of courses
(R33-R49, R382-R391, R397). -/

namespace Sys2Proof

/-! ### The fields of a message (R382-R385) -/

/-- The type of a message (R382). -/
def Msg.ty (m : Msg) : Nat := Machine.bitsOf m.w0.toNat 56 8
/-- The context that a message names. -/
def Msg.ctx (m : Msg) : CtxId := m.w0.extractLsb' 32 16
/-- The sender's tag. -/
def Msg.tag (m : Msg) : BitVec 32 := m.w0.extractLsb' 0 32
/-- Payload words from word i on. -/
def Msg.restFrom (m : Msg) (i : Nat) : List Word := [m.w0, m.w1, m.w2, m.w3, m.w4, m.w5, m.w6, m.w7].drop i
/-- The words from word i on are zero. -/
def Msg.zeroFrom (m : Msg) (i : Nat) : Bool := (m.restFrom i).all (· = 0)
/-- PHASE and the reserved bits of the header are zero (R382). -/
def Msg.headOk (m : Msg) : Bool := Machine.bitsOf m.w0.toNat 48 8 = 0
/-- The queue that a message names (R383). -/
def Msg.queue (m : Msg) : BitVec 4 := m.w1.extractLsb' 0 4
/-- Word 1 names a queue and nothing else. -/
def Msg.queueOk (m : Msg) : Bool := m.w1.toNat < 16
/-- The number of queues of a CTXCREATE (R385). -/
def Msg.nq (m : Msg) : Nat := Machine.bitsOf m.w1.toNat 8 4 + 1

end Sys2Proof

namespace Sys2Proof.Machine

/-! ### Messages (R382-R384, R397, R425, R426) -/

/-- Every die of a mask belongs to a partition (R385). -/
def State.diesOf (s : State) (part : BitVec 4) (mask : Word) : Bool :=
  (List.range 64).all (fun i => !mask.getLsbD i || s.partOf (BitVec.ofNat 6 i) = some part)

/-- A context of a partition. -/
def State.ctxOf (s : State) (part : BitVec 4) (id : CtxId) : Option Ctx :=
  match s.ctxAt? id with
  | some c => if c.part = part then some c else none
  | none => none

/-- The message that the lodge handles next: one of each partition in turn (R397). -/
def State.lodgeMsg (s : State) : Option Msg :=
  match nextPart s.lastPart ((s.msgs.filter (fun m => m.ep = 0)).map (·.part)) with
  | none => none
  | some p => s.msgs.find? (fun m => m.ep = 0 && m.part = p)

/-- The message that the groomer core of a die handles next (R425); the aperture takes none of another partition (R429). -/
def State.dieMsg (s : State) (d : DieId) : Option Msg :=
  s.msgs.find? (fun m => m.ep.toNat = 1 + d.toNat && s.partOf d = some m.part)

/-- A message leaves its queue. -/
def State.takeMsg (s : State) (m : Msg) : State :=
  { s with msgs := s.msgs.erase m, lastPart := if m.ep = 0 then m.part else s.lastPart }

/-- Word 1 of a reply (R384). -/
def statusWord (status value : Nat) : Word := BitVec.ofNat 64 (status * 2 ^ 48 + value % 2 ^ 48)

/-- The reply to a message: words 2 to 7 as given (R383, R384). -/
def State.reply (s : State) (m : Msg) (status value : Nat) (rest : List Word) : State :=
  s.post m.part m.ep ([header (BitVec.ofNat 8 (m.ty + 0x80)) m.ctx m.tag, statusWord status value] ++
    (rest ++ List.replicate 6 0).take 6)

/-- "no such context in this partition" (R384, R397). -/
def State.noCtx (s : State) (m : Msg) : State := s.reply m 4 0 []

/-! #### The form of each message (R383, R385, R427, R438) -/

/-- The class of queue q (R385). -/
def classOf (qclass : Word) (q : Nat) : BitVec 3 := qclass.extractLsb' (3 * q) 3

/-- The weight of a class (R385). -/
def weightOf (weights : Word) (c : Nat) : Nat := bitsOf weights.toNat (8 * c) 8

/-- The limits of a CTXCREATE (R385, R431, R436). -/
def State.createOk (s : State) (m : Msg) : Bool :=
  m.ctx = 0 && bitsOf m.w1.toNat 12 36 = 0 && bitsOf m.w1.toNat 3 5 = 0 && bitsOf m.w2.toNat 48 16 = 0 &&
  (List.range m.nq).all (fun q => weightOf m.w3 (classOf m.w2 q).toNat ≠ 0) && m.w4 &&& ~~~ tvecBits = 0 &&
  bitsOf m.w5.toNat 56 8 = 0 && bitsOf m.w5.toNat 0 12 = 0 && bitsOf m.w6.toNat 0 12 = 0 && m.w7 ≠ 0 && s.diesOf m.part m.w7 &&
  s.asids.any (fun a => a.asid = m.w1.extractLsb' 48 16 && a.part = m.part)

/-- Is a number a power of two from 64 to 4,096 (R427)? -/
def slotCountOk (n : Nat) : Bool := n = 64 || n = 128 || n = 256 || n = 512 || n = 1024 || n = 2048 || n = 4096

/-- The die that a port sits on (R432). -/
def portDie (p : BitVec 4) : DieId := if p.toNat < 8 then BitVec.ofNat 6 p.toNat else BitVec.ofNat 6 (p.toNat + 48)

/-- A message to the lodge has a type that exists, and every field within its limits (R382, R383, R427). -/
def State.lodgeOk (s : State) (m : Msg) : Bool :=
  m.headOk && (match m.ty with
    | 0x01 => s.createOk m
    | 0x02 => m.zeroFrom 1
    | 0x03 => m.queueOk && bitsOf m.w2.toNat 56 8 = 0 && m.zeroFrom 3
    | 0x04 => m.w1 ≠ 0 && m.w1.toNat < 2 ^ 32 && m.zeroFrom 2
    | 0x05 => m.queueOk && m.zeroFrom 2
    | 0x06 => m.queueOk && m.zeroFrom 2
    | 0x07 => bitsOf m.w1.toNat 56 8 = 0 && bitsOf m.w1.toNat 0 12 = 0 && slotCountOk m.w2.toNat && m.zeroFrom 3
    | 0x08 => bitsOf m.w1.toNat 56 8 = 0 && m.zeroFrom 2
    | 0x09 => bitsOf m.w1.toNat 56 8 = 0 && bitsOf m.w1.toNat 0 12 = 0 && m.zeroFrom 6
    | 0x0A => bitsOf m.w1.toNat 56 8 = 0 && bitsOf m.w1.toNat 4 10 = 0 && bitsOf m.w2.toNat 48 16 = 0 && m.zeroFrom 4 &&
        s.partOf (portDie (m.w1.extractLsb' 0 4)) = some m.part
    | 0x0B => bitsOf m.w1.toNat 9 55 = 0 && bitsOf m.w1.toNat 6 2 = 0 && m.zeroFrom 2 && s.partOf (m.w1.extractLsb' 0 6) = some m.part
    | _ => false)

/-- The message names a queue that its context has. -/
def Ctx.hasQueue (c : Ctx) (m : Msg) : Bool := (c.queue? m.queue).isSome

/-- The lodge handles its next message, if it is of a type and well formed. -/
def State.onLodge (s : State) (ty : Nat) (f : Msg → State → State) : Out :=
  match s.lodgeMsg with
  | none => .next s
  | some m => if m.ty = ty && s.lodgeOk m then .next (f m (s.takeMsg m)) else .next s

/-- Such a message about a context: 0x0004 where the partition has none of that name (R384, R397). -/
def State.onCtx (s : State) (ty : Nat) (f : Msg → Ctx → State → State) : Out :=
  s.onLodge ty (fun m s => match s.ctxOf m.part m.ctx with
    | none => s.noCtx m
    | some c => f m c s)

/-- Is a message to a groomer core one that it accepts (R426)? -/
def State.groomerOk (s : State) (d : DieId) (m : Msg) : Bool :=
  m.headOk && m.ctx = 0 && (match m.ty with
    | 0x10 => m.zeroFrom 1
    | 0x11 => m.w1.toNat < (s.dieAt d).errs.length && m.zeroFrom 2
    | 0x12 => m.zeroFrom 1
    | _ => false)

/-- A die is out of service: neither of its sides works, or its bring-up test failed (R426, R427, R440). -/
def Die.out (d : Die) : Bool := d.inReset || (!d.cs && !d.ms)

/-- BAD_MESSAGE: the next message of the lodge, or else of the groomer core of the step's die, is refused (R382, R426). -/
def execBadMessage (s : State) : Out :=
  let groomer : Out := match s.dieMsg s.cur.die with
    | none => .next s
    | some m =>
      if (s.dieAt s.cur.die).out then .next ((s.takeMsg m).reply m 7 0 [])
      else if s.groomerOk s.cur.die m then .next s
      else .next ((s.takeMsg m).reply m 3 0 [])
  match s.lodgeMsg with
  | none => groomer
  | some m => if s.lodgeOk m then groomer else .next ((s.takeMsg m).reply m 3 0 [])

/-! ### Contexts (R33, R35, R383, R385, R398) -/

/-- A launch queue as it is made. -/
def Queue.fresh (cls : BitVec 3) : Queue :=
  { cls := cls, halted := false, courses := [], next := 0, lastAdm := none, lastStart := none, lastRet := none, hb := [], tails := [] }

/-- The lowest free slot for a context's save areas on a die; none where sixteen contexts have theirs (R385, R398). -/
def State.freeSlotOn (s : State) (d : DieId) : Option Nat :=
  (List.range 16).find? (fun i => !s.ctxs.any (fun c => c.slots.any (fun x => x.1 = d && x.2 = i)))

/-- The save area of a tile in a slot of its die (R374, R398; log 31). -/
def saveBase (k : TileKey) (slot : Nat) : Nat := k.die.toNat * 2 ^ 36 + 0x878000000 + slot * 0x8800000 + k.tid.toNat * 0x20000

/-- The slots of a new context, if every die has one. -/
def State.newSlots (s : State) (mask : Word) : Option (List (DieId × Nat)) :=
  (maskDies mask).foldr (fun d acc => match acc, s.freeSlotOn d with
    | some l, some i => some ((d, i) :: l)
    | _, _ => none) (some [])

/-- A context made by a message (R33, R385, R421). -/
def newCtxOf (m : Msg) (id : CtxId) (slots : List (DieId × Nat)) : Ctx :=
  { Ctx.blank id with
    part := m.part, asid := m.w1.extractLsb' 48 16, dies := m.w7, det := m.w1.getLsbD 0, qmode := m.w1.getLsbD 1,
    debug := m.w1.getLsbD 2, weights := m.w3, tvec := m.w4, spill := m.w5, spillSz := m.w6.toNat, mmask := m.w7,
    queues := (List.range m.nq).map (fun q => Queue.fresh (classOf m.w2 q)), slots := slots }

/-- The identifier of a new context: the next in order that no living context holds (R33, R384). -/
def State.freshCtx (s : State) : CtxId :=
  let at_ (i : Nat) : CtxId := BitVec.ofNat 16 ((s.nextCtx.toNat + i) % 0xFFFF)
  at_ (((List.range (s.ctxs.length + 1)).find? (fun i => !s.ctxs.any (fun c => c.id = at_ i))).getD 0)

/-- CTXCREATE: the lodge makes a context (R33, R385). -/
def execCtxcreate (s : State) : Out :=
  s.onLodge 0x01 (fun m s =>
    if (maskDies m.w7).any (fun d => !((s.dieAt d).cs && (s.dieAt d).ms)) then s.reply m 5 0 []
    else match s.newSlots m.w7 with
      | none => s.reply m 5 0 []
      | some l =>
        let id := s.freshCtx
        let s := { s with ctxs := s.ctxs ++ [newCtxOf m id l], nextCtx := if id + 1 = 0xFFFF then 0 else id + 1 }
        s.reply m 0 id.toNat [])

/-- A cluster forgets a context. -/
def Cluster.forget (c : Cluster) (id : CtxId) : Cluster :=
  { c with resident := if c.resident = some id then none else c.resident,
           overrun := if c.resident = some id then false else c.overrun,
           passes := c.passes.filter (fun x => x.1 ≠ id), ready := c.ready.filter (· ≠ id) }

/-- A die's clusters changed. -/
def Die.mapClusters (d : Die) (f : Cluster → Cluster) : Die := { d with c0 := f d.c0, c1 := f d.c1, c2 := f d.c2, c3 := f d.c3 }

/-- Every die changed. -/
def State.mapDies (s : State) (f : DieId → Die → Die) : State := { s with dies := s.dies.map (fun x : DieId × Die => (x.1, f x.1 x.2)) }

/-- The reply to the LINKMAP of a pairing (R438). -/
def State.linkReply (s : State) (p : Pairing) (status : Nat) : State :=
  s.post p.part 0 ([header 0x8A p.ctx p.tag, statusWord status 0] ++ List.replicate 6 0)

/-- The requests of some tiles leave the queues of pages (R413). -/
def State.dropServes (s : State) (f : TileKey → Bool) : State :=
  { s with pageReqs := s.pageReqs.filter (fun r => match r.work with | .serve k _ => !f k | _ => true) }

/-- A context destroyed: what its tiles have committed is performed, its tasks are abandoned, its queues, pairings and tiles are gone; a
LINKMAP of it that still waits is answered with "no resources" (R101, R370, R383, R425, R438; log 92). -/
def State.dropCtx (s : State) (id : CtxId) : State :=
  let s := ((s.tiles.filter (fun x => x.1.ctx = id)).map (·.1)).foldl (fun s k => (s.flushLs k).abandonAt k) s
  let s := (s.pairings.filter (fun p => p.ctx = id && !p.active)).foldl (fun s p => s.linkReply p 5) s
  let s := s.dropServes (fun k => k.ctx = id)
  let s := s.mapDies (fun _ d => d.mapClusters (fun c => c.forget id))
  let s : State := { s with
    tiles := s.tiles.filter (fun x => x.1.ctx ≠ id), ctxs := s.ctxs.filter (fun c => c.id ≠ id),
    pairings := s.pairings.filter (fun p => p.ctx ≠ id), turn := s.turn.filter (fun k => k.ctx ≠ id),
    jobs := s.jobs.filter (fun j => j.ctx ≠ id) }
  match s.job with
  | some j => if j.ctx = id then
      ({ s with job := none, events := s.events.filter (fun e => !(e.step = .retranslationSwap && e.at_.ctx = id)) } : State).startJob
    else s
  | none => s

/-- CTXDESTROY: the lodge ends a context; the reply follows once its tiles are idle (R383). -/
def execCtxdestroy (s : State) : Out := s.onCtx 0x02 (fun m c s => (s.dropCtx c.id).reply m 0 0 [])

/-! ### Queue messages (R36, R384, R386, R389, R391) -/

/-- LAUNCH: a course record is offered to a launch queue (R36, R37, R386). -/
def execLaunch (s : State) : Out :=
  s.onCtx 0x03 (fun m c s =>
    if !c.hasQueue m then s.reply m 3 0 []
    else
      let (r, s) := s.enqueue c.id m.queue (m.w2.truncate 56)
      match r with
      | .serial n => s.reply m 0 n []
      | .bad off => s.reply m 1 off []
      | .full => s.reply m 2 0 [])

/-- The count of a token (R389). -/
def Ctx.tokenCount (c : Ctx) (t : BitVec 32) : BitVec 32 := match c.tokens.find? (fun x => x.1 = t) with
  | some x => x.2.1
  | none => 0

/-- What happens before the courses that wait on a token (R106). -/
def Ctx.tokenHb (c : Ctx) (t : BitVec 32) : VClock := match c.tokens.find? (fun x => x.1 = t) with
  | some x => x.2.2
  | none => []

/-- A count set: a value leaves the table at 0 (R389). -/
def Ctx.setToken (c : Ctx) (t n : BitVec 32) (hb : VClock) : Ctx :=
  { c with tokens := (if n = 0 then [] else [(t, n, hb)]) ++ c.tokens.filter (fun x => x.1 ≠ t) }

/-- The table has room for a token (R389). -/
def Ctx.tokenRoom (c : Ctx) (t : BitVec 32) : Bool := c.tokenCount t ≠ 0 || c.tokens.length < 1024

/-- A token's count raised, saturating (R389). -/
def Ctx.raise (c : Ctx) (t : BitVec 32) (hb : VClock) : Ctx :=
  let n := c.tokenCount t
  c.setToken t (if n = 0xFFFFFFFF then n else n + 1) (vcJoin (c.tokenHb t) hb)

/-- SIGNAL: the host raises a token (R389). -/
def execSignal (s : State) : Out :=
  s.onCtx 0x04 (fun m c s =>
    let t : BitVec 32 := m.w1.truncate 32
    if !c.tokenRoom t then s.reply m 5 0 []
    else
      let s := s.modCtx c.id (fun c => c.raise t [])
      s.reply m 0 ((s.ctxAt c.id).tokenCount t).toNat [])

/-- A serial word of QSTAT (R384). -/
def serialWord (x : Option Nat) : Word := match x with
  | some n => BitVec.ofNat 64 n
  | none => BitVec.allOnes 64

/-- The words of a QSTAT reply (R384). -/
def Queue.stat (q : Queue) : List Word :=
  [serialWord q.lastAdm, serialWord q.lastStart, serialWord q.lastRet,
   BitVec.ofNat 64 (q.courses.length * 2 ^ 16 + (if q.halted then 1 else 0))]

/-- QSTAT: the host reads a queue's state (R384). -/
def execQstat (s : State) : Out :=
  s.onCtx 0x05 (fun m c s => match c.queue? m.queue with
    | none => s.reply m 3 0 []
    | some q => s.reply m 0 0 q.stat)

/-- QRESUME: a halted queue runs again (R391). -/
def execQresume (s : State) : Out :=
  s.onCtx 0x06 (fun m c s => match c.queue? m.queue with
    | none => s.reply m 3 0 []
    | some _ => (s.modCtx c.id (fun c => c.modQueue m.queue (fun q => { q with halted := false }))).reply m 0 0 [])

/-! ### The retirement of a course (R47, R48, R106, R117, R389) -/

/-- Tasks, conjunctions and orbits of a course are over (R47). -/
def State.courseQuiet (s : State) (c : Ctx) (q : BitVec 4) (x : Course) : Bool :=
  !s.tiles.any (fun y => y.1.ctx = c.id && y.2.ofCourse q x.serial) &&
  !c.orbits.any (fun o => o.q = q && o.course = x.serial)

/-- A course may retire: its tasks have ended, and every access of theirs has been performed (R47, R106). -/
def State.retires (s : State) (c : Ctx) (q : BitVec 4) (x : Course) : Bool :=
  x.started && !x.holds none && x.growth = 0 && s.courseQuiet c q x && s.unfinished x.tails = []

/-- STOK signalled: the count rises and the host is told; where the table is full, the queue halts instead (R389). -/
def State.signalStok (s : State) (c : Ctx) (q : BitVec 4) (x : Course) : State :=
  if x.cr.stok = 0 then s
  else if !c.tokenRoom x.cr.stok then
    let s := s.modCtx c.id (fun c => c.modQueue q (fun u => { u with halted := true }))
    s.faultMessage c q x.serial (faultInfo 0x43)
  else
    let s := s.modCtx c.id (fun c => c.raise x.cr.stok x.out)
    s.post c.part 0 ([header 0x41 c.id 0, x.cr.stok.zeroExtend 64, courseWord q x.serial] ++ List.replicate 5 0)

/-- Every store of a context's tiles is performed, so that it is visible at package scope (R47). -/
def State.flushCtx (s : State) (id : CtxId) : State :=
  ((s.tiles.filter (fun x => x.1.ctx = id)).map (·.1)).foldl State.flushLs s

/-- A course retires (R47). -/
def State.retire (s : State) (id : CtxId) (q : BitVec 4) (serial : Nat) : State :=
  let s := (s.flushCtx id).closeAdds id q serial
  match (s.ctxAt id).course? q serial with
  | none => s
  | some x =>
    let s := s.leaveQueue id q x
    (s.signalStok (s.ctxAt id) q x).noteCtx id

/-- The first course of a context that may retire. -/
def State.retiring (s : State) (c : Ctx) : Option (BitVec 4 × Nat) :=
  (c.queues.zip (List.range c.queues.length)).findSome? (fun x =>
    (x.1.courses.find? (fun y => s.retires c (BitVec.ofNat 4 x.2) y)).map (fun y => (BitVec.ofNat 4 x.2, y.serial)))

/-- COURSE_RETIRE: a course of the context whose work is done retires (R47). -/
def execCourseRetire (s : State) : Out :=
  match s.retiring s.ctx with
  | none => .next s
  | some (q, serial) => .next (s.retire s.cur.ctx q serial)

/-! ### The start of a course (R39, R40, R387-R389, R421) -/

/-- A queue's head course may start: where the course before it was ended, its accesses have come to their end (R106, R387, R389, R391). -/
def Ctx.headReady (c : Ctx) (u : Queue) : Option Course :=
  match u.courses with
  | [] => none
  | x :: _ => if !u.halted && u.tails = [] && !x.started && (x.cr.wtok = 0 || c.tokenCount x.cr.wtok ≠ 0) then some x else none

/-- The queues whose head may start, of the highest class that has one. -/
def Ctx.readyQueues (c : Ctx) : List (BitVec 4) :=
  let l := (c.queues.zip (List.range c.queues.length)).filter (fun x => (c.headReady x.1).isSome)
  let top := (l.map (fun x => x.1.cls.toNat)).foldl max 0
  (l.filter (fun x => x.1.cls.toNat = top)).map (fun x => BitVec.ofNat 4 x.2)

/-- The queue whose turn it is: the next in ascending number after the one that started the class's previous course, wrapping
(R388). -/
def turnAfter (last : Option (BitVec 4)) (l : List (BitVec 4)) : Option (BitVec 4) :=
  match last with
  | none => l.head?
  | some n => match l.find? (fun q => n < q) with
    | some q => some q
    | none => l.head?

/-- The queue that starts the next course (R388). -/
def Ctx.nextStart (c : Ctx) : Option (BitVec 4) :=
  match c.readyQueues with
  | [] => none
  | q :: r => match c.queue? q with
    | none => none
    | some u => turnAfter (assocGet c.lastCls u.cls) (q :: r)

/-- A side that a course's dies need is lost (R421). -/
def State.lostSide (s : State) (ds : List DieId) : Option (BitVec 8) :=
  if ds.any (fun d => !(s.dieAt d).cs) then some 0x41
  else if ds.any (fun d => !(s.dieAt d).ms) then some 0x42
  else none

/-- A course starts: it takes its token, its gates go to the walkers (R40, R106, R387, R389). -/
def Ctx.startCourse (c : Ctx) (q : BitVec 4) (u : Queue) (x : Course) : Ctx :=
  let hb := vcJoin u.hb (if x.cr.wtok = 0 then [] else c.tokenHb x.cr.wtok)
  let y : Course := { (x.give c 0 x.gates) with started := true, hb := vcJoin x.hb hb }
  let c := if x.cr.wtok = 0 then c else c.setToken x.cr.wtok (c.tokenCount x.cr.wtok - 1) (c.tokenHb x.cr.wtok)
  let c := c.modQueue q (fun u => { u with courses := u.courses.map (fun z => if z.serial = x.serial then y else z), lastStart := some x.serial })
  { c with lastCls := assocSet c.lastCls u.cls q }

/-- COURSE_START: the lodge starts the next course of the context (R387-R389). One with no gate retires at once (R39); one whose
dies include a lost side ends with a fault (R421). -/
def execCourseStart (s : State) : Out :=
  match s.ctx.nextStart with
  | none => .next s
  | some q => match s.ctx.queue? q with
    | none => .next s
    | some u => match s.ctx.headReady u with
      | none => .next s
      | some x =>
        let s := (s.noteCtx s.cur.ctx).modCtx s.cur.ctx (fun c => c.startCourse q u x)
        match s.lostSide (courseDies s.ctx x.cr) with
        | some code => .next (s.endCourse s.cur.ctx q x.serial (faultInfo code))
        | none => if x.gates = 0 then .next (s.retire s.cur.ctx q x.serial) else .next (s.noteCtx s.cur.ctx)

/-! ### Gates (R39-R43, R45, R49, R51, R390, R441) -/

/-- A tile may take a gate: it is free, its pipelines are empty, no conjunction waits, no cluster-shaped gate of its cluster is
still in progress, and its cluster starts tasks of the context (R29, R45, R49, R392). -/
def State.tileFree (s : State) (k : TileKey) : Bool :=
  let t := s.tileAt k
  t.task.isNone && t.core.drained && !t.frozen && !t.out && t.conjQ.isEmpty && s.activeAt k &&
  ((s.ctxAt k.ctx).orbit? (keyCluster k)).isNone &&
  !s.tiles.any (fun x => x.1.ctx = k.ctx && keyCluster x.1 = keyCluster k && x.2.inCluster)

/-- A unit of a course on a die is free. -/
def State.unitFreeAt (s : State) (c : Ctx) (cr : CourseRec) (die : DieId) (lead : BitVec 6) : Bool :=
  (unitTiles cr lead).all (fun tid => s.tileFree { ctx := c.id, die := die, tid := tid })

/-- The unit and the gate that a course can start on a die now: in dynamic mode the free unit with the lowest tid takes the
die's next gate; in deterministic mode a free unit takes the next of its own slice (R40, R390). -/
def State.offer (s : State) (c : Ctx) (x : Course) (die : DieId) : Option (Share × BitVec 6 × Nat) :=
  (x.shares.filter (fun y => y.die = die)).findSome? (fun y => match y.ranges with
    | [] => none
    | r :: _ => match y.lead with
      | some l => if s.unitFreeAt c x.cr die l then some (y, l, r.1) else none
      | none => ((unitLeads x.cr).find? (fun l => s.unitFreeAt c x.cr die l)).map (fun l => (y, l, r.1)))

/-- The class at which a course is offered units on a die: 7 once it has waited too long (R390). -/
def Course.classOn (x : Course) (cls : BitVec 3) (die : DieId) : Nat :=
  if x.grants.any (fun g => g.1 = die && g.2.2) then 7 else cls.toNat

/-- The started courses of a context that could start a gate on a die now, with their class there. -/
def State.offers (s : State) (c : Ctx) (die : DieId) : List (BitVec 4 × Nat × Course) :=
  (c.queues.zip (List.range c.queues.length)).flatMap (fun u =>
    (u.1.courses.filter (fun x => x.started && (s.offer c x die).isSome)).map (fun x => (BitVec.ofNat 4 u.2, x.classOn u.1.cls die, x)))

/-- The course that starts the next gate on a die: the highest class first, and in turn within a class (R390). -/
def State.nextOffer (s : State) (c : Ctx) (die : DieId) : Option (BitVec 4 × Nat × Course) :=
  let l := s.offers c die
  let top := (l.map (fun x => x.2.1)).foldl max 0
  let l := l.filter (fun x => x.2.1 = top)
  let last := (c.offers.find? (fun o => o.1 = die && o.2.1.toNat = top)).map (fun o => o.2.2)
  match turnAfter last (l.map (·.1)) with
  | none => none
  | some q => l.find? (fun x => x.1 = q)

/-- The indices of a gate (R39). -/
def gateIndex (cr : CourseRec) : List Nat → Nat → List (Nat × Nat)
  | [], _ => []
  | [d], x => [(d, x)]
  | d :: e :: r, x =>
    let n := (cr.ext[d]?).getD 1
    (d, x % n) :: gateIndex cr (e :: r) (x / n)

/-- idx[d] of a gate: 0 for a dimension beyond NDIM (R39, R41). -/
def gateIdx (cr : CourseRec) (g d : Nat) : Nat := (assocGet (gateIndex cr ((cr.perm.take (cr.ndim + 1)).reverse) g) d).getD 0

/-- The registers that the walker writes (R41). -/
def gatePreloads (cr : CourseRec) (g : Nat) : List (BitVec 6 × Word) :=
  [(60, BitVec.ofNat 64 (gateIdx cr g 0)), (61, BitVec.ofNat 64 (gateIdx cr g 1)), (62, BitVec.ofNat 64 (gateIdx cr g 2)),
   (63, BitVec.ofNat 64 (gateIdx cr g 3)), (59, BitVec.ofNat 64 g), (58, cr.arg)]

/-- The first gate of a share is handed out. -/
def Share.take (y : Share) : Share :=
  match y.ranges with
  | [] => y
  | (a, b) :: r => { y with ranges := if a + 1 < b then (a + 1, b) :: r else r }

/-- A tile reset for the first dispatch of a context to it, whatever remote operations have done to its image before (R29, R66, R422;
log 31). -/
def State.firstDispatch (s : State) (k : TileKey) : State :=
  if (s.tileAt k).dispatched then s
  else
    let slot := (assocGet (s.ctxAt k.ctx).slots k.die).getD 0
    s.setTileAt k { Tile.reset with savebase := BitVec.ofNat 64 (saveBase k slot), stubbase := 0xFFFFFFFFFF0000, dispatched := true }

/-- A gate's task on the tile at a position of its unit (R41, R43, R51, R115). -/
def gateTask (q : BitVec 4) (x : Course) (g i : Nat) : Task :=
  { conj := none, q := q, course := x.serial, gate := g, pos := BitVec.ofNat 4 i, code := x.cr.code, pro := x.cr.pro, ker := x.cr.ker,
    epi := x.cr.epi, trip := x.cr.trip, cluster := x.cr.shape.toNat = 2, tow := if x.cr.shape.toNat = 1 then x.cr.town else 0,
    dist := if x.cr.shape.toNat = 1 then i else 0, pins := [], step := 0 }

/-- A gate's task starts on one tile; a tow follower waits for its distance (R41, R43, R51, R106). -/
def Tile.startGate (t : Tile) (k : TileKey) (task : Task) (hb : VClock) (pre : List (BitVec 6 × Word)) : Tile :=
  let t := (t.joinAll hb).bumpAll k
  let t := t.startTask task (task.code + BitVec.ofNat 56 (64 * task.pro)) pre
  ((t.mapSeq (fun q => { q with skew := task.dist })).reachKernel).takeMark

/-- A gate starts on a unit (R40, R41, R49, R51). -/
def State.startGate (s : State) (id : CtxId) (q : BitVec 4) (x : Course) (die : DieId) (lead : BitVec 6) (g : Nat) : State :=
  let ks := (unitTiles x.cr lead).map (fun tid => ({ ctx := id, die := die, tid := tid } : TileKey))
  let s := ks.foldl State.firstDispatch s
  (ks.zip (List.range ks.length)).foldl (fun s y =>
    s.modTileAt y.1 (fun t => t.startGate y.1 (gateTask q x g y.2) x.hb (gatePreloads x.cr g))) s

/-- The bookkeeping of a gate that was handed out: its share, the turn of its class, the starvation count, the compute mask and
the orbits of its cluster (R11, R40, R159, R390). -/
def Ctx.noteGate (c : Ctx) (q : BitVec 4) (cls : Nat) (x : Course) (y : Share) (lead : BitVec 6) : Ctx :=
  let c := c.modCourse q x.serial (fun z =>
    { z with shares := z.shares.map (fun w => if w.die = y.die && w.lead = y.lead then w.take else w),
             grants := z.grants.filter (fun w => w.1 ≠ y.die) })
  let cl : ClusterId := { die := y.die, cid := tidCluster lead }
  { c with offers := (y.die, BitVec.ofNat 3 cls, q) :: c.offers.filter (fun o => !(o.1 = y.die && o.2.1 = BitVec.ofNat 3 cls)),
           cmask := c.cmask ||| (1 <<< y.die.toNat),
           ordinals := if x.cr.shape.toNat = 2 then c.ordinals.filter (fun o => o.1 ≠ cl) else c.ordinals }

/-- GATE_DISPATCH: the walker of the step's die starts the next gate of the context on a free unit (R40, R41, R390). A hot die
starts none (R441). -/
def execGateDispatch (s : State) : Out :=
  let die := s.cur.die
  if (s.dieAt die).hot || !(s.dieAt die).cs then .next s
  else match s.nextOffer s.ctx die with
    | none => .next s
    | some (q, cls, x) => match s.offer s.ctx x die with
      | none => .next s
      | some (y, lead, g) =>
        .next ((s.startGate s.cur.ctx q x die lead g).modCtx s.cur.ctx (fun c => c.noteGate q cls x y lead))

/-- A deterministic course whose generation has ended with growth requested (R42). -/
def State.extends (s : State) (c : Ctx) (q : BitVec 4) (x : Course) : Bool :=
  x.started && x.growth ≠ 0 && !x.holds none && s.courseQuiet c q x

/-- GROW_EXTENSION: the growth that a generation of gates asked for takes effect, and may make its context runnable (R42, R393). -/
def execGrowExtension (s : State) : Out :=
  let c := s.ctx
  match (c.queues.zip (List.range c.queues.length)).findSome? (fun u =>
      (u.1.courses.find? (fun x => s.extends c (BitVec.ofNat 4 u.2) x)).map (fun x => (BitVec.ofNat 4 u.2, x))) with
  | none => .next s
  | some (q, x) =>
    .next (((s.noteCtx s.cur.ctx).modCtx s.cur.ctx (fun c => c.modCourse q x.serial (fun z =>
      { (z.give c z.gates z.growth) with gates := z.gates + z.growth, growth := 0 }))).noteCtx s.cur.ctx)

/-! ### Starvation (R390) -/

/-- Every grant on a die counts for the courses that hold a waiting gate there (R390). -/
def Course.countGrant (x : Course) (die : DieId) : Course :=
  if !(x.started && x.holds (some die)) then { x with grants := x.grants.filter (fun g => g.1 ≠ die) }
  else
    let old := (x.grants.find? (fun g => g.1 = die)).getD (die, 0, false)
    { x with grants := (die, old.2.1 + 1, old.2.2) :: x.grants.filter (fun g => g.1 ≠ die) }

/-- A course has waited through 64 grants on a die and is not promoted yet (R390). -/
def Course.starves (x : Course) (die : DieId) : Bool := x.grants.any (fun g => g.1 = die && 64 ≤ g.2.1 && !g.2.2)

/-- STARVATION_PROMOTION: a course that holds a waiting gate on the step's die through 64 grants is offered units as class 7
there (R390). -/
def execStarvationPromotion (s : State) : Out :=
  let die := s.cur.die
  .next (s.modCtx s.cur.ctx (fun c => { c with queues := c.queues.map (fun u => { u with courses := u.courses.map (fun x =>
    if x.starves die then { x with grants := x.grants.map (fun g => if g.1 = die then (g.1, g.2.1, true) else g) } else x) }) }))

end Sys2Proof.Machine
end

