-- ==== Sys2Proof/Machine/Faults.lean ====
section
/-! DEFINITION. Errors, self-tests, the loss of a side of a die, links, heat (R414-R424, R441). -/

namespace Sys2Proof.Machine

/-! ### Where an error is (R414, R417) -/

/-- STRUCT of R417. -/
def siteStruct : ErrSite → Nat
  | .scratch _ _ _ => 1
  | .regFile _ _ => 2
  | .port _ _ => 3
  | .ibuf _ _ => 4
  | .macroRow _ _ _ _ => 5
  | .dram _ _ => 6
  | .link _ _ => 7

/-- The number of a link of a die. -/
def linkNum : LinkKind → Nat
  | .ring => 0
  | .net => 1
  | .edgeEast => 2
  | .edgeSouth => 3

/-- The location that tinfo1 holds (R417); of a link, which the rule does not give, a free value (log 91). -/
def siteLoc : ErrSite → Word
  | .scratch _ off _ => BitVec.ofNat 64 (off.toNat / 8 * 8)
  | .regFile _ w => w.zeroExtend 64
  | .port _ w => w.zeroExtend 64
  | .ibuf _ va => addrWord va
  | .macroRow _ mac page row => macroLoc mac page row
  | .dram pa _ => BitVec.ofNat 64 (pa.toNat / 8 * 8)
  | .link d k => Config.linkLoc d (linkNum k)

/-- The tile that is frozen for an error: the one whose structure failed, or whose access to a stack found it. An error that a DMA or copy
transfer finds freezes no tile (R416). -/
def siteTile : ErrSite → Option TileKey
  | .scratch k _ transfer => if transfer then none else some k
  | .regFile k _ => some k
  | .port k _ => some k
  | .ibuf k _ => some k
  | .macroRow k _ _ _ => some k
  | .dram _ k => k
  | .link _ _ => none

/-- The die of the structure. -/
def siteDie : ErrSite → DieId
  | .scratch k _ _ => k.die
  | .regFile k _ => k.die
  | .port k _ => k.die
  | .ibuf k _ => k.die
  | .macroRow k _ _ _ => k.die
  | .dram pa _ => dieOfPa pa.toNat
  | .link d _ => d

/-- The cluster whose patrol core tests the structure; none for the lodge's tests (R414). -/
def siteCluster : ErrSite → Option ClusterId
  | .scratch k _ _ => some (keyCluster k)
  | .regFile k _ => some (keyCluster k)
  | .port k _ => some (keyCluster k)
  | .ibuf k _ => some (keyCluster k)
  | .macroRow k _ _ _ => some (keyCluster k)
  | .dram _ _ => none
  | .link _ _ => none

/-- The longest self-test of the structure, in clocks; 0 for the retraining of an edge, which has no bound (R414). -/
def siteTestMax : ErrSite → Nat
  | .scratch _ _ _ => 65536
  | .regFile _ _ => 4096
  | .port _ _ => 4096
  | .ibuf _ _ => 4096
  | .macroRow _ _ _ _ => 32768
  | .dram _ _ => 262144
  | .link _ .ring => 16384
  | .link _ .net => 16384
  | .link _ .edgeEast => 0
  | .link _ .edgeSouth => 0

/-- What a lasting fault removes: the compute side (true), the memory side (false), or an edge alone (R414, R420-R422). -/
def siteSide : ErrSite → Option Bool
  | .scratch _ _ _ => some true
  | .regFile _ _ => some true
  | .port _ _ => some true
  | .ibuf _ _ => some true
  | .macroRow _ _ _ _ => some true
  | .dram _ _ => some false
  | .link _ .ring => some true
  | .link _ .net => some false
  | .link _ .edgeEast => none
  | .link _ .edgeSouth => none

/-- A die's error logged, in its groomer's records and in its partition's (R416, R417, R426). -/
def State.logDie (s : State) (d : DieId) (r : ErrRec) : State :=
  match s.partOf d with
  | some p => s.logError p d r
  | none => s.modDie d (fun x => { x with errs := (x.errs ++ [r]).drop (x.errs.length - 255) })

/-! ### Detection and test (R414-R419) -/

/-- What the structure loses: its unit is poisoned, its bundle dropped, its page emptied (R414, R415, R418). -/
def State.damage (s : State) (e : ErrSite) : State :=
  match e with
  | .scratch k off _ => s.modTileAt k (fun t => { t with poison := (off.toNat / 8 * 8) :: t.poison.filter (· ≠ off.toNat / 8 * 8) })
  | .regFile _ _ => s
  | .port _ _ => s
  | .ibuf k va => s.modTileAt k (fun t => { t with ibuf := t.ibuf.filter (fun x => x.1 ≠ va) })
  | .macroRow k mac page _ => s.modTileAt k (fun t => t.emptyPage mac page)
  | .dram pa _ => { s with memPoison := (pa.toNat / 8 * 8) :: s.memPoison.filter (· ≠ pa.toNat / 8 * 8) }
  | .link _ _ => s

/-- The register of a window address has been written since the mark, by class and index (R58, R369). -/
def Tile.writtenSince (t : Tile) (w : BitVec 32) : Bool := (bitsOf w.toNat 16 8, bitsOf w.toNat 3 13) ∈ t.wrote

/-- The error cannot be undone: a register that was not written since the mark (R416). -/
def State.siteLost (s : State) (e : ErrSite) : Bool :=
  match e with
  | .regFile k w => !(s.tileAt k).writtenSince w
  | _ => false

/-- The self-test starts, a patrol core's when the earlier tests of its cluster have ended; its length and its outcome are free (R414,
R416; log 3). -/
def State.startTest (s : State) (e : ErrSite) : State :=
  let d := siteDie e
  let before := ((s.dieAt d).testing.filter (fun x => (siteCluster e).isSome && siteCluster x.1 = siteCluster e)).map (·.2.1)
  let (n, s) := s.drawDelay
  let due := before.foldl max s.clock + 1 + n % siteTestMax e
  let ok := (Config.freeWord s.free).getLsbD 0
  let s := s.spend.modDie d (fun x => { x with testing := x.testing ++ [(e, due, s.cycle d)] })
  s.addEvent due { ctx := 0xFFFF, die := d, tid := 0 } (.selfTestComplete e ok)

/-- UNCORRECTABLE_ERROR: the tile rolls back and freezes with "soft error", the structure loses what it held, and its self-test
starts; an unrecoverable register ends the course (R414, R416, R418). -/
def execUncorrectableError (e : ErrSite) (s : State) : Out :=
  let lost := s.siteLost e
  let s1 := match siteTile e with
    | some k => s.takeTrapAt k (s.softError (siteDie e) (if lost then 2 else 0) (siteStruct e) (siteLoc e))
    | none => s
  let s1 := s1.damage e
  .next (if lost then s1 else s1.startTest e)

/-- CORRECTED_ERROR: it is logged (R414). -/
def execCorrectedError (e : ErrSite) (s : State) : Out :=
  .next (s.logDie (siteDie e) (errRec (s.cycle (siteDie e)) 0 (siteStruct e) (siteLoc e) 0))

/-- The unit of a site is poisoned (R415). -/
def State.sitePoisoned (s : State) (e : ErrSite) : Bool :=
  match e with
  | .scratch k off _ => (off.toNat / 8 * 8) ∈ (s.tileAt k).poison
  | .dram pa _ => (pa.toNat / 8 * 8) ∈ s.memPoison
  | _ => false

/-- POISON_CONSUMED: the tile read a poisoned unit; it freezes with KIND 1, and the course ends (R415-R417). -/
def execPoisonConsumed (e : ErrSite) (s : State) : Out :=
  if !s.sitePoisoned e then .next s
  else .next (s.takeTrap (s.softError s.cur.die 1 (siteStruct e) (siteLoc e)))

/-! ### The loss of a side (R421) -/

/-- Every running course of a context ends with a FAULT, and its queues halt (R391, R421). -/
def State.trapCtx (s : State) (id : CtxId) (code : BitVec 8) : State :=
  let c := s.ctxAt id
  let l := (c.queues.zip (List.range c.queues.length)).flatMap (fun u =>
    (u.1.courses.filter (fun x => x.started)).map (fun x => ((BitVec.ofNat 4 u.2 : BitVec 4), x.serial)))
  let s := l.foldl (fun s x => s.endCourse id x.1 x.2 (faultInfo code)) s
  (s.modCtx id (fun c => { c with queues := c.queues.map (fun u => { u with halted := true }) })).noteCtx id

/-- The contexts whose compute or memory mask holds a die's bit (R11, R421). -/
def State.touching (s : State) (d : DieId) (compute : Bool) : List CtxId :=
  (s.ctxs.filter (fun c => (if compute then c.cmask else c.mmask).getLsbD d.toNat)).map Ctx.id

/-- A load whose value came from a die's stack and that has not been delivered will be of poisoned data (R423). -/
def InFlight.lose (d : DieId) (f : InFlight) : InFlight :=
  match f.live with
  | .load pa => if !isHost pa && dieOfPa pa = d then { f with live := .lost pa } else f
  | _ => f

/-- The loads in flight from a lost stack (R423). -/
def State.loseFlights (s : State) (d : DieId) : State :=
  { s with tiles := s.tiles.map (fun x => (x.1, x.2.mapFlights (fun l => l.map (InFlight.lose d)))),
           saved := s.saved.map (fun b => b.mapFlights (fun l => l.map (InFlight.lose d))) }

/-- A side of a die goes out of service, and every context that has touched it is trapped; loads that a lost stack has not delivered
are of poisoned data (R421, R423). -/
def State.loseSide (s : State) (d : DieId) (compute : Bool) : State :=
  let s := s.modDie d (fun x => if compute then { x with cs := false } else { x with ms := false })
  let s := if compute then s else s.loseFlights d
  (s.touching d compute).foldl (fun s id => s.trapCtx id (if compute then 0x41 else 0x42)) s

/-! ### Edges (R420) -/

/-- The edge between a die and its neighbour to the east or to the south works (R420). -/
def State.edgeUp (s : State) (n : Nat) (south : Bool) : Bool :=
  let d := s.dieAt (BitVec.ofNat 6 n)
  if south then n < 56 && d.edgeS else n % 8 < 7 && d.edgeE

/-- Two neighbouring dies are linked. -/
def State.linked (s : State) (a b : Nat) : Bool :=
  (b = a + 1 && s.edgeUp a false) || (a = b + 1 && s.edgeUp b false) || (b = a + 8 && s.edgeUp a true) || (a = b + 8 && s.edgeUp b true)

/-- The dies within n hops of the home dies (R420). -/
def State.routed (s : State) : Nat → List Nat
  | 0 => homeDies
  | n + 1 =>
    let l := s.routed n
    l ++ (List.range 64).filter (fun b => !(b ∈ l) && l.any (fun a => s.linked a b))

/-- Both sides of a die are lost (R420). -/
def State.loseDie (s : State) (d : DieId) : State :=
  let s := if (s.dieAt d).cs then s.loseSide d true else s
  if (s.dieAt d).ms then s.loseSide d false else s

/-- An edge is gone: traffic is routed around it, and a die that no route reaches loses both sides (R420, R421). -/
def State.loseEdge (s : State) (die : DieId) (south : Bool) : State :=
  let s := s.modDie die (fun d => if south then { d with edgeS := false } else { d with edgeE := false })
  let far := (List.range 64).filter (fun n => n ∉ s.routed 63)
  far.foldl (fun s n => s.loseDie (BitVec.ofNat 6 n)) s

/-- UCIE_EDGE_FAILURE: an edge fails its retraining (R420, R421). -/
def execUcieEdgeFailure (die : DieId) (south : Bool) (s : State) : Out := .next (s.loseEdge die south)

/-- What a lasting fault of a structure takes out of service (R414, R420, R421). -/
def State.loseSite (s : State) (e : ErrSite) : State :=
  match e with
  | .link d .edgeEast => s.loseEdge d false
  | .link d .edgeSouth => s.loseEdge d true
  | _ => match siteSide e with
    | some compute => s.loseSide (siteDie e) compute
    | none => s

/-! ### The end of a self-test (R416, R417, R421, R424) -/

/-- The error of a record is the one of a cause that waits for its test (R417). -/
def ErrRec.isOf (r : ErrRec) (c : Cause) : Bool := c.code = 0x31 && c.i0 = r.i0 && c.i1 = r.i1 && c.i2 = r.i2

/-- The tile stands frozen for the error of a record. -/
def Tile.frozenFor (t : Tile) (r : ErrRec) : Bool :=
  t.frozen && t.tv && t.code = 0x31 && t.tinfo.get 0 = r.i0 && t.tinfo.get 1 = r.i1 && t.tinfo.get 2 = r.i2

/-- A self-test of a tile's structure ends: tinfo3 takes its outcome, also in a cause that is still held, and a tile that stands frozen for
the error is resumed when it passed (R366, R416, R417). -/
def State.testEnded (s : State) (k : TileKey) (r : ErrRec) (passed : Bool) : State :=
  let s := s.modTileAt k (fun t => { t with heldCauses := t.heldCauses.map (fun c => if r.isOf c then { c with i3 := r.i3 } else c) })
  if !(s.tileAt k).frozenFor r then s
  else
    let s := s.modTileAt k (fun t => { t with tinfo := t.tinfo.set 3 r.i3 })
    if passed then s.thawSet k else s

/-- SELF_TEST_COMPLETE: a pass logs the error and resumes the tile, a failure takes the side of the die out of service (R416,
R417, R421). -/
def execSelfTestComplete (e : ErrSite) (passed : Bool) (s : State) : Out :=
  let d := siteDie e
  match (s.dieAt d).testing.find? (fun x => x.1 = e) with
  | none => .next s
  | some x =>
    let r := errRec x.2.2 0 (siteStruct e) (siteLoc e) (if passed then 1 else 2)
    let s := s.modDie d (fun y => { y with testing := y.testing.erase x })
    let s := match siteTile e with
      | some k => s.testEnded k r passed
      | none => s
    let s := s.logDie d r
    .next (if passed then s else s.loseSite e)

/-! ### Links and heat (R414, R441) -/

/-- NETWORK_FLIT_FAILURE: sixteen retries of a flit have failed. The link's self-test starts; a lasting fault takes out the compute side for
a ring, the memory side for the die network (R414, R416, R421, R422). -/
def execNetworkFlitFailure (die : DieId) (ring : Bool) (s : State) : Out :=
  .next (s.startTest (.link die (if ring then .ring else .net)))

/-- THERMAL_THRESHOLD: at 105 °C the die starts no new gate or conjunction task, below 100 °C it does again; at 115 °C the compute
side, or the memory side for the stack, goes out of service (R441). -/
def execThermalThreshold (die : DieId) (t : Thermal) (s : State) : Out :=
  match t with
  | .hot105 => .next (s.modDie die (fun d => { d with hot := true }))
  | .cool100 => .next (s.modDie die (fun d => { d with hot := false }))
  | .junction115 => .next (s.loseSide die true)
  | .stack115 => .next (s.loseSide die false)

end Sys2Proof.Machine
end

