-- ==== Sys2Proof/Machine/Host.lean ====
section
/-! DEFINITION. The federation: groomer messages, inboxes and apertures, resets, images and attestation, the monitor's calls, package
links (R407, R422, R425-R440). -/

namespace Sys2Proof.Machine

/-! ### The groomer cores (R425, R426) -/

/-- The groomer core of the step's die handles its next message, if it is of a type and accepted. -/
def State.onGroomer (s : State) (ty : Nat) (f : Msg → State → State) : Out :=
  let d := s.cur.die
  match s.dieMsg d with
  | none => .next s
  | some m => if m.ty = ty && s.groomerOk d m && !(s.dieAt d).out then .next (f m (s.takeMsg m)) else .next s

/-- A die has a port (R432). -/
def hasPort (d : DieId) : Bool := d.toNat < 8 || 56 ≤ d.toNat

/-- The contexts resident on a die. -/
def Die.residents (d : Die) : List CtxId := ([d.c0.resident, d.c1.resident, d.c2.resident, d.c3.resident].filterMap id).eraseDups

/-- DIESTAT: the die's service state, its contexts, its cycle counter (R426). -/
def execDiestat (s : State) : Out :=
  s.onGroomer 0x10 (fun m s =>
    let d := s.dieAt s.cur.die
    let w : Nat := (if d.cs then 1 else 0) + (if d.ms then 2 else 0) + (if hasPort s.cur.die then 4 else 0)
    s.reply m 0 0 [BitVec.ofNat 64 w, BitVec.ofNat 64 d.residents.length, BitVec.ofNat 64 (s.cycle s.cur.die)])

/-- ERRREAD: one error record (R426). -/
def execErrread (s : State) : Out :=
  s.onGroomer 0x11 (fun m s => match (s.dieAt s.cur.die).errs[m.w1.toNat]? with
    | some r => s.reply m 0 0 [s.cur.die.zeroExtend 64, r.tcause, r.i0, r.i1, r.i2, r.i3]
    | none => s.reply m 3 0 [])

/-- TELEM: temperatures and power, which are inputs: free values (R426; log 3). -/
def execTelem (s : State) : Out :=
  s.onGroomer 0x12 (fun m s =>
    let l := (List.range 4).map (fun i => Config.freeWord (s.free + i))
    ({ s with free := s.free + 4 }).reply m 0 0 l)

/-! ### Inboxes and apertures (R427, R429) -/

/-- The inboxes of a partition's endpoints set: one run of slots for each (R427, R429; log 32). -/
def State.setInboxes (s : State) (part : BitVec 4) (base slots : Nat) : State :=
  let l := (List.range 65).map (fun e =>
    ({ part := part, ep := BitVec.ofNat 7 e, base := base + 64 * slots * e, slots := slots, idx := 0, cons := 0, raised := 0 } : Inbox))
  let s := { s with inboxes := l ++ s.inboxes.filter (fun i => i.part ≠ part) }
  (List.range 65).foldl (fun s e => s.flushInbox part (BitVec.ofNat 7 e) s.outbox.length) s

/-- INBOX: the lodge sets the inbox, and the messages that were held are written (R427, R429). -/
def execInbox (s : State) : Out :=
  s.onLodge 0x07 (fun m s => (s.setInboxes m.part (bitsOf m.w1.toNat 12 44 * 4096) m.w2.toNat).reply m 0 0 [])

/-- A write of an aperture that has a meaning: a message of 64 bytes, or a consumer index, to the lodge or to a die of the partition
(R429). -/
def State.apertureOk (s : State) (part : BitVec 4) (ep : BitVec 7) (off len : BitVec 12) : Bool :=
  ((off = 0 && len = 64) || (off = 0x40 && len = 4)) &&
  (ep = 0 || (ep.toNat ≤ 64 && s.partOf (BitVec.ofNat 6 (ep.toNat - 1)) = some part))

/-- INBOX_CONSUMER_INDEX: the host frees slots, and messages that were held are written. At the aperture of a die outside the function's
partition the write is discarded and logged (R429). -/
def execInboxConsumerIndex (part : BitVec 4) (ep : BitVec 7) (v : BitVec 32) (s : State) : Out :=
  if !s.apertureOk part ep 0x40 4 then .next { s with advisories := s.advisories + 1 }
  else
  let s := { s with inboxes := s.inboxes.map (fun (i : Inbox) => if i.part = part && i.ep = ep then { i with cons := v.toNat } else i) }
  .next (s.flushInbox part ep s.outbox.length)

/-- A message whose endpoint is no endpoint of its partition is gone (R429). -/
def State.dropForeign (s : State) (part : BitVec 4) (ep : BitVec 7) : List Msg :=
  if s.apertureOk part ep 0 64 then s.msgs else s.msgs.eraseP (fun m => m.part = part && m.ep = ep)

/-- APERTURE_BAD_WRITE: such a write, or a message at the aperture of a die outside the partition, is discarded and logged (R429). -/
def execApertureBadWrite (part : BitVec 4) (ep : BitVec 7) (off len : BitVec 12) (s : State) : Out :=
  .next (if s.apertureOk part ep off len then s else { s with advisories := s.advisories + 1, msgs := s.dropForeign part ep })

/-! ### Resets (R421, R422, R427, R440) -/

/-- A cluster after its die's reset: its patrol core starts again; passes and debts are the scheduler's (R422). -/
def Cluster.restart (c : Cluster) : Cluster :=
  { Cluster.reset with passes := c.passes, ready := c.ready }

/-- The compute side of a die reset: its tiles, rings, patrol and groomer cores. The images of switched-out tiles stand in the stack, and
the tests of its memory side go on (R396, R422, R426). -/
def State.resetCompute (s : State) (d : DieId) : State :=
  let s := s.dropServes (fun k => k.die = d && !(s.tileAt k).out)
  let s := { s with tiles := s.tiles.filter (fun x => x.1.die ≠ d || x.2.out), turn := s.turn.filter (fun k => k.die ≠ d) }
  s.modDie d (fun x => { x.mapClusters Cluster.restart with
    cs := true, tlb := [], errs := [], testing := x.testing.filter (fun y => siteSide y.1 ≠ some true), inReset := false })

/-- The memory side of a die reset: its stack is zeroed, with the images of its switched-out tiles, its copy queues are empty, held updates
are lost (R396, R422). -/
def State.resetMemory (s : State) (d : DieId) : State :=
  let base := d.toNat * 2 ^ 36
  let s := s.zeroRange base (2 ^ 36)
  let s := { s with tiles := s.tiles.filter (fun x => x.1.die ≠ d), saved := s.saved.filter (fun b => !(base ≤ b.pa && b.pa < base + 2 ^ 36)),
                    dramTags := s.dramTags.filter (fun x => !(base ≤ x.1 && x.1 < base + 2 ^ 36)) }
  let s := s.mapCtxs (fun c => { c with copyQs := c.copyQs.filter (fun q => q.die ≠ d), queues := c.queues.map (fun u =>
    { u with courses := u.courses.map (fun x => { x with updates := x.updates.filter (fun y => !(base ≤ y.pa && y.pa < base + 2 ^ 36)) }) }) })
  s.modDie d (fun x => { x with ms := true })

/-- The sides that a DIERESET resets are lost first, so that every context that has touched them is trapped; then the domains are reset
(R421, R422, R427). -/
def State.resetSides (s : State) (d : DieId) (mem : Bool) : State :=
  let s := if (s.dieAt d).cs then s.loseSide d true else s
  let s := if mem && (s.dieAt d).ms then s.loseSide d false else s
  let s := s.resetCompute d
  if mem then s.resetMemory d else s

/-- A die whose bring-up test fails: the domains that were reset stay in reset, and the die stays out of service (R427, R440). -/
def Die.failTest (d : Die) (mem : Bool) : Die := { d with cs := false, ms := d.ms && !mem, inReset := true }

/-- The groomer and patrol images that have been checked are streamed to the cores of a die that comes up (R422, R436, R440). -/
def State.streamImages (s : State) : State :=
  { s with images := s.checked ++ s.images.filter (fun x => !s.checked.any (fun y => y.ty = x.ty)), checked := [] }

/-- DIERESET: once every context that has touched the die is trapped, its domains are reset and its bring-up test runs, with a free
outcome. Its cycle counter is aligned again: any two dies agree within 2 cycles (R2, R421, R422, R427, R440; log 3). -/
def execDiereset (s : State) : Out :=
  s.onLodge 0x0B (fun m s =>
    let d : DieId := m.w1.extractLsb' 0 6
    let mem := m.w1.getLsbD 8
    let s := s.resetSides d mem
    let ok := (Config.freeWord s.free).getLsbD 0
    let cyc := (Config.freeWord (s.free + 1)).toNat % 3
    let s := { s.streamImages with free := s.free + 2 }
    if ok then (s.modDie d (fun x => { x with cyc := cyc })).reply m 0 0 []
    else (s.modDie d (fun x => x.failTest mem)).reply m 7 0 [])

/-- The reset of the control die: every context of every partition ends, with the walkers, the queues and the translator's work; the
stacks keep their contents until the lodge zeroes them, and the configuration record, the images that run and boot flash stand (R422). The
rules give no input that resets this domain alone: it is reset with the package. -/
def State.resetControl (s : State) : State :=
  { State.reset with
    clock := s.clock, free := s.free, booted := s.booted, mem := s.mem, memPoison := s.memPoison, dramTags := s.dramTags,
    dies := s.dies.map (fun (x : DieId × Die) => (x.1, { x.2.mapClusters (fun _ => Cluster.reset) with tlb := [] })),
    parts := s.parts, hostWin := s.hostWin, slices := s.slices, stations := s.stations, etherTypes := s.etherTypes,
    powerCaps := s.powerCaps, bootLog := s.bootLog, flashRec := s.flashRec, flashNo := s.flashNo, images := s.images, minVer := s.minVer }

/-- The configuration record takes effect; no home die belongs to a partition (R430-R432, R437, R441). -/
def State.configure (s : State) (r : Config.BootRecord) : State :=
  { s with parts := r.parts.filter (fun x => x.1.toNat ∉ homeDies), hostWin := r.hostWin, slices := r.slices, stations := r.stations,
           etherTypes := r.etherTypes, powerCaps := r.powerCaps, minVer := r.minVer }

/-- The dies of a package reset: whether a die passes its steps, whether its edges train, and what is left of the dies' difference in
cycles, at most 2, are free (R2, R420, R440; log 3). -/
def bootDies (w : Nat → Word) : List (DieId × Die) :=
  (List.range 64).map (fun i =>
    let ok := (w 1).getLsbD i
    (BitVec.ofNat 6 i, { Die.reset with cs := ok, ms := ok, inReset := !ok, edgeE := (w 2).getLsbD i, edgeS := (w 3).getLsbD i,
                                        cyc := (w (4 + i)).toNat % 3 }))

/-- A die that no route reaches at bring-up stays out of service (R420, R440). -/
def State.dropUnrouted (s : State) : State :=
  let l := s.routed 63
  s.mapDies (fun d x => if d.toNat ∈ l then x else x.failTest true)

/-- PACKAGE_RESET: cold bring-up. What boot flash holds stays, and host memory is not the package's. The configuration record and the images
are those that boot flash holds; whether function 0 has written new ones since the last reset is an input, and so are their contents.
Whether the images verify, which dies pass their steps and which edges train is free. Where the images of steps 1 or 2 do not
verify, the package is silent, and boot flash logs a cause (R2, R422, R431, R437, R440; log 3, log 4). -/
def execPackageReset (s : State) : Out :=
  let w (i : Nat) : Word := Config.freeWord (s.free + i)
  let ok := (w 0).getLsbD 0
  let c := { s.resetControl with
    free := s.free + 70, booted := ok, mem := s.mem.filter (fun c => 2 ^ 49 ≤ c.1), memPoison := s.memPoison.filter (fun p => 2 ^ 49 ≤ p),
    dramTags := s.dramTags.filter (fun x => 2 ^ 49 ≤ x.1), dies := bootDies w, images := [],
    bootLog := if ok then s.bootLog else s.bootLog ++ [w 68] }
  let c := if (w 69).getLsbD 0 then { c with flashRec := Config.bootRecord s.free, flashNo := s.free } else c
  .next (c.configure c.flashRec).dropUnrouted

/-! ### Images and attestation (R436, R437, R439) -/

/-- A call that the monitor refuses: a negative result, whose value is free, and no effect (R436; log 3). -/
def State.refuseCall (s : State) : State := { s.spend with a0 := Config.freeWord s.free ||| 0x8000000000000000 }

/-- A call's result. -/
def State.callResult (s : State) (v : Nat) : State := { s with a0 := BitVec.ofNat 64 v }

/-- Fields of an image (R437). -/
def imgWord (img : List Byte) (off n : Nat) : Nat := ofBytes ((img.drop off).take n)

/-- An image verifies: its layout, its keys and both signatures, its version (R437; log 10). -/
def State.imageOk (s : State) (img : List Byte) : Bool :=
  let ty := imgWord img 4 2
  let len := imgWord img 12 4
  imgWord img 0 4 = 0x474D4943 && 1 ≤ ty && ty ≤ 6 && imgWord img 6 2 = 0 && len ≤ 0x1000000 && img.length = 0x7D0 + len + 64 + 3309 &&
  Config.signatureOk img && (((assocGet s.minVer (BitVec.ofNat 16 ty)).getD 0).toNat ≤ imgWord img 8 4)

/-- IMGCHECK: the monitor verifies an image. A groomer or patrol image may then be streamed to its cores, which run it from their next
reset on; an image of another type runs from the next package reset on (R422, R436, R437, R439). -/
def execImgcheck (img : List Byte) (s : State) : Out :=
  if !s.imageOk img then .next s.refuseCall
  else
    let ty : BitVec 16 := BitVec.ofNat 16 (imgWord img 4 2)
    let r : RunImage := { ty := ty, version := BitVec.ofNat 32 (imgWord img 8 4), digest := BitVec.ofNat 384 (ofBytes (Config.digest img)) }
    .next ({ s with checked := if ty = 3 || ty = 4 then r :: s.checked.filter (fun x => x.ty ≠ ty) else s.checked }.callResult 0)

/-- A list of n bytes from a free one. -/
def takePad (l : List Byte) (n : Nat) : List Byte := (List.range n).map (fun i => (l[i]?).getD 0)

/-- The digest of the image of a type that runs (R439). -/
def State.runDigest (s : State) (ty : Nat) : BitVec 384 :=
  match s.images.find? (fun x => x.ty.toNat = ty) with
  | some x => x.digest
  | none => Config.bootDigest s.flashNo ty

/-- Bits that say something of each die. -/
def dieBits (f : DieId → Bool) : Nat := ofLanes 1 (fun i => if f (BitVec.ofNat 6 i) then 1 else 0) 64

/-- Bytes 0-0x931 of the report (R439). -/
def State.reportBody (s : State) (nonce : List Word) (part : BitVec 4) : List Byte :=
  wordsBytes nonce ++ takePad Config.identityKeys 1984 ++
  ((rangeList 1 7).flatMap (fun ty => bytesOf (s.runDigest ty).toNat 48)) ++
  bytesOf (ofLanes 4 (fun i => ((s.partOf (BitVec.ofNat 6 i)).getD 0).toNat) 64) 32 ++
  bytesOf (dieBits (fun d => (s.partOf d).isSome)) 8 ++
  bytesOf (dieBits (fun d => (s.dieAt d).cs && (s.dieAt d).ms)) 8 ++ bytesOf part.toNat 2

/-- The two signatures over a report (R439; log 10). -/
def reportSigs (body : List Byte) : List Byte := takePad (Config.sign body) 3373

/-- ATTEST: the monitor builds the report and signs it, and it is written to the host's buffer (R427, R439). -/
def execAttest (s : State) : Out :=
  s.onLodge 0x09 (fun m s =>
    let body := s.reportBody [m.w2, m.w3, m.w4, m.w5] m.part
    let s := { s with buf := { s.buf with reports := body :: s.buf.reports, signed := true } }
    (s.memWrite (hostPa m.w1.toNat) (body ++ reportSigs body)).reply m 0 0x165F [])

/-- ATTESTSIGN: the monitor signs the report that the call names, if it built it (R436). -/
def execAttestsign (s : State) : Out :=
  if s.buf.asked ∉ s.buf.reports then .next s.refuseCall
  else .next ({ s with buf := { s.buf with signed := true } }.callResult 0)

/-! ### Address spaces and tables (R400-R402, R407, R436) -/

/-- ASIDNEW: the monitor makes an address space, with an empty root table in a free frame of a home die (R400, R436). Where that die has
none, the call is refused. -/
def execAsidnew (part : BitVec 4) (s : State) : Out :=
  if 4096 ≤ s.asids.length then .next s.refuseCall
  else match (List.range 65536).find? (fun n => !s.asids.any (fun a => a.asid.toNat = n)) with
    | none => .next s.refuseCall
    | some n => match s.takeTable with
      | (none, s) => .next s.refuseCall
      | (some f, s) =>
        let s := s.zeroRange f (2 ^ 14)
        .next ({ s with asids := { asid := BitVec.ofNat 16 n, part := part, root := f } :: s.asids }.callResult n)

/-- ASIDFREE: the monitor frees an address space that has no context (R436). -/
def execAsidfree (asid : BitVec 16) (s : State) : Out :=
  if s.ctxs.any (fun c => c.asid = asid) || !s.asids.any (fun a => a.asid = asid) then .next s.refuseCall
  else .next ({ s with asids := s.asids.filter (fun a => a.asid ≠ asid), dups := s.dups.filter (fun d => d.pg.asid ≠ asid),
                       dies := s.dies.map (fun (x : DieId × Die) => (x.1, { x.2 with tlb := x.2.tlb.filter (fun l => l.asid ≠ asid) })) }.callResult 0)

/-- An entry that points to a table, or is not valid (R402). -/
def tableEntryOk (e : Nat) : Bool :=
  !e.testBit 0 || (Nat.land e entryReserved = 0 && !e.testBit 1 && tableFrameOk (bitsOf e 14 36 * 2 ^ 14))

/-- What the monitor's write of an entry stores: the reserved bits are read-only and stay 0 (R6, R401). -/
def entryWord (e : Word) : Nat := (e &&& ~~~(BitVec.ofNat 64 entryReserved)).toNat

/-- A pointer to a table would stand in a level-0 table (R402). -/
def State.pointsTooLow (s : State) (pa e : Nat) : Bool := e.testBit 0 && (pa / 2 ^ 14 * 2 ^ 14, 0) ∈ s.allTables

/-- TABLESET: the monitor writes a table entry, in the call's turn among the requests on the pages below it; pages that lose their leaves
by it leave the caches and their handles are revoked (R402, R407, R413, R436). -/
def execTableset (pa : BitVec 50) (entry : Word) (s : State) : Out :=
  if pa.toNat % 8 ≠ 0 || !tableFrameOk (pa.toNat / 2 ^ 14 * 2 ^ 14) || !tableEntryOk entry.toNat || s.pointsTooLow pa.toNat entry.toNat then
    .next s.refuseCall
  else
    let r : PageReq := { pg := { asid := 0, va := 0 }, work := .change pa.toNat (BitVec.ofNat 64 (entryWord entry)), old := none, begun := false, waiting := [] }
    .next ((s.callResult 0).submitChange r pa.toNat (entryWord entry))

/-- A frame that a leaf of a partition may name: not on a die of another partition, not in a table, a save area or a tile image, and
where it is host memory, within its host window (R398, R400, R430, R431, R436; log 31). -/
def State.frameAllowed (s : State) (part : BitVec 4) (f n : Nat) : Bool :=
  if isHost f then s.hostWin.any (fun w => w.1 = part && hostPa w.2.1 ≤ f && f + n ≤ hostPa w.2.1 + w.2.2)
  else (s.partOf (dieOfPa f)).all (· = part) && f % 2 ^ 36 + n ≤ pageTop && !s.allTables.any (fun t => meets f n t.1 (2 ^ 14))

/-- An entry that may stand as a leaf at a level (R402, R436). -/
def State.leafEntryOk (s : State) (part : BitVec 4) (level e : Nat) : Bool :=
  let sz : BitVec 2 := BitVec.ofNat 2 level
  let f := bitsOf e 14 36 * 2 ^ 14
  !e.testBit 0 || (e.testBit 1 && level < 3 && leafFrameOk f sz && s.frameAllowed part f (pageSize sz))

/-- LEAFSET: the monitor writes a leaf, in the call's turn among the requests on the page; what the value sets in reserved bits is not
written. Pages that lose a right or a frame by it leave the caches and their handles are revoked; where the entry pointed to a table,
these are all the pages below (R6, R401, R407, R413, R436). -/
def execLeafset (part : BitVec 4) (pg : PageRef) (pa : BitVec 50) (entry : Word) (s : State) : Out :=
  match s.asids.find? (fun a => a.asid = pg.asid && a.part = part) with
  | none => .next s.refuseCall
  | some a => match entryLevel s.mem pg.va pa.toNat 4 a.root with
    | none => .next s.refuseCall
    | some level =>
      let e := entryWord entry
      if !s.leafEntryOk part level e then .next s.refuseCall
      else
        let r : PageReq := { pg := pg, work := .change pa.toNat (BitVec.ofNat 64 e), old := none, begun := false, waiting := [] }
        .next ((s.callResult 0).submitChange r pa.toNat e)

/-! ### Package links (R432-R435, R438) -/

/-- The local proxy page of a pairing: its frame on the port's die, mapped by the lodge where the page is absent; none where the
page cannot serve (R433, R438; log 33). -/
def State.proxyFrame (s : State) (asid : BitVec 16) (va : BitVec 56) (d : DieId) : Option Nat × State :=
  let ok (s : State) : Option Nat := match s.pageLeaf { asid := asid, va := va } with
    | some (l, _) => if l.sz = 0 && !l.mig && !l.dup && !isHost l.frame && dieOfPa l.frame = d then some l.frame else none
    | none => none
  match s.asids.find? (fun a => a.asid = asid), s.walk asid va with
  | some a, .absent => match s.takeFrame d 0 with
    | (none, s) => (none, s)
    | (some f, s) =>
      let s := s.mapFrame a va 3 f
      (ok s, s)
  | _, _ =>
    let s := s.noteWalk asid va
    (ok s, s)

/-- LINKMAP: the lodge enters a pairing of a proxy page, whose reply waits until it is active (R438). -/
def execLinkmap (s : State) : Out :=
  s.onCtx 0x0A (fun m c s =>
    let port : BitVec 4 := m.w1.extractLsb' 0 4
    let va : BitVec 56 := BitVec.ofNat 56 (bitsOf m.w1.toNat 14 42 * 2 ^ 14)
    let d := portDie port
    match (if (s.dieAt d).ms then s.proxyFrame c.asid va d else (none, s)) with
    | (none, s) => s.reply m 5 0 []
    | (some f, s) =>
      let p : Pairing := { port := port, ctx := c.id, part := m.part, tag := m.tag, va := va, frame := f, station := m.w2.truncate 48,
                           key := m.w3, active := false, since := s.clock, up := false }
      ({ s.touchMem c.id f with pairings := s.pairings ++ [p] }).addEvent (s.clock + 2 ^ 32) s.cur .linkmapTimeout)

/-- LINKMAP_TIMEOUT: a pairing without a match for 2^32 clocks is answered with "no resources" (R438). -/
def execLinkmapTimeout (s : State) : Out :=
  let late (p : Pairing) : Bool := !p.active && p.since + 2 ^ 32 ≤ s.clock
  let l := s.pairings.filter late
  .next (l.foldl (fun s p => s.linkReply p 5) { s with pairings := s.pairings.filter (fun p => !late p) })

/-- PAIRING_ACTIVE: the peer's LINKMAP with the same key, naming this port's station address, makes the pairing active, and the lodge
replies (R438). -/
def execPairingActive (port : BitVec 4) (key : Word) (station : BitVec 48) (s : State) : Out :=
  if assocGet s.stations port ≠ some station then .next s
  else match s.pairings.find? (fun p => p.port = port && p.key = key && !p.active) with
    | none => .next s
    | some p =>
      let s := { s with pairings := s.pairings.map (fun x => if x = p then { x with active := true, up := true } else x) }
      .next (s.linkReply p 0)

/-- FORWARDED_WRITE_ARRIVAL: a forwarded 8-byte unit lands in the page that the pairing of its key names, poisoned if it was (R434,
R435). -/
def execForwardedWriteArrival (port : PortKey) (off : BitVec 14) (unit : Word) (poison : Bool) (s : State) : Out :=
  match s.pairings.find? (fun p => p.port = port.port && p.key = port.key && p.active) with
  | none => .next s
  | some p =>
    let pa := p.frame + off.toNat / 8 * 8
    let s := (s.memWrite pa (bytesOf unit.toNat 8)).untag s.cur (.phys pa) 8
    let bad := s.memPoison.filter (· ≠ pa)
    .next { s with memPoison := if poison then pa :: bad else bad }

/-- Some entries of the copy queues will retire without their flags, with FERR (R184, R434). -/
def State.failCopies (s : State) (f : CtxId → CopyQ → CopyEntry → Bool) : State :=
  s.mapCtxs (fun c => { c with copyQs := c.copyQs.map (fun (q : CopyQ) =>
    { q with entries := q.entries.map (fun (e : CopyEntry) => if f c.id q e then { e with failed := true } else e) }) })

/-- The entry is a remote copy into the page of a pairing (R433). -/
def CopyEntry.toPairing (e : CopyEntry) (p : Pairing) : Bool := e.port = some p.port && p.frame ≤ e.dst && e.dst < p.frame + 2 ^ 14

/-- PACKAGE_LINK_FAILURE: a link fails, the peer refuses the writes of an entry, or its context of a pairing ends, and the pairing with it;
the copy entries concerned will retire without their flags, with FERR (R184, R434, R438). -/
def execPackageLinkFailure (port : PortLoss) (s : State) : Out :=
  let x := port.port
  match port.what with
  | .link =>
    let s := { s with pairings := s.pairings.map (fun (p : Pairing) => if p.port = x then { p with up := false } else p) }
    .next (s.failCopies (fun _ _ e => e.port = some x))
  | .refused q idx =>
    .next (s.failCopies (fun id c e => id = s.cur.ctx && c.die = s.cur.die && c.q = q && e.idx = idx && e.port = some x))
  | .peerEnd key =>
    let ended (p : Pairing) : Bool := p.port = x && p.key = key && p.active
    let u := s.failCopies (fun id _ e => s.pairings.any (fun p => ended p && p.ctx = id && e.toPairing p))
    .next { u with pairings := s.pairings.filter (fun p => !ended p) }

end Sys2Proof.Machine
end

