-- ==== Sys2Proof/Machine/Derura.lean ====
section
/-! DEFINITION. The Derura form, its checks, and the template translation of its bodies (R328-R331). -/

namespace Sys2Proof.Machine

/-- The 8-byte word of some bytes at an offset (R5). -/
def wordAt (l : List Byte) (off : Nat) : Nat := ofBytes ((l.drop off).take 8)

/-! ### The Derura form (R328-R330) -/

/-- What an operation reads and writes. -/
structure DerOp where
  a  : Bool
  b  : Bool
  t  : Bool
  q  : Bool
  qp : Bool
  q1 : Bool
  deriving DecidableEq, Repr

/-- A number lies in one of some ranges. -/
def inRanges (n : Nat) (l : List (Nat × Nat)) : Bool := l.any (fun r => r.1 ≤ n && n ≤ r.2)

/-- An operation from the ranges of opcodes that exist, and that read a and b, read t, write q, qp and q1. -/
def derOp (op : Nat) (ex a b t q qp q1 : List (Nat × Nat)) : Option DerOp :=
  if inRanges op ex then
    some { a := inRanges op a, b := inRanges op b, t := inRanges op t, q := inRanges op q, qp := inRanges op qp, q1 := inRanges op q1 }
  else none

/-- What the operation of a socket and an opcode reads and writes; none where unassigned, or where SOCK names the higher twin
(R210-R216, R221-R313, R329). -/
def derOpOf (sock op : Nat) : Option DerOp :=
  match sock with
  | 0x01 => derOp op [(1, 31)] [(1, 21), (25, 28), (30, 31)] [(21, 21), (28, 28), (31, 31)] [(1, 31)] [(1, 31)] [(15, 20)] []
  | 0x03 => derOp op [(1, 8)] [(1, 8)] [(4, 4)] [(1, 8)] [(1, 8)] [] []
  | 0x04 => derOp op [(1, 12)] [(1, 4), (6, 9), (11, 12)] [] [(1, 12)] [(1, 12)] [(6, 7)] []
  | 0x05 => derOp op [(1, 5)] [(1, 2)] [] [(1, 5)] [(1, 2), (4, 5)] [(1, 2)] []
  | 0x06 => derOp op [(1, 0x2E)] [(0x08, 0x0B), (0x0E, 0x15), (0x18, 0x2E)] [(0x11, 0x11), (0x2A, 0x2B), (0x2D, 0x2E)] [(1, 0x2E)]
      [(0x01, 0x07), (0x0C, 0x0D), (0x10, 0x10), (0x12, 0x13), (0x16, 0x2C)] [(0x12, 0x13), (0x2A, 0x2B)] [(0x12, 0x13)]
  | 0x08 => derOp op [(1, 0x11)] [(0x09, 0x09), (0x0D, 0x0D), (0x11, 0x11)] [] [(1, 0x11)]
      [(0x01, 0x02), (0x09, 0x09), (0x0E, 0x0F), (0x11, 0x11)] [(0x09, 0x0A), (0x0C, 0x0D), (0x11, 0x11)] []
  | 0x09 => derOp op [(1, 0x79)] [(1, 0x79)] [(0x13, 0x1B), (0x4C, 0x57)] [(1, 0x79)] [(0x01, 0x2D), (0x4C, 0x79)] [(0x2E, 0x4B)] []
  | 0x0B => derOp op [(1, 0x15)] [] [] [(1, 0x15)] [(1, 0x15)] [] []
  | 0x0C => derOp op [(1, 0x42)] [(0x01, 0x0D), (0x12, 0x3C), (0x40, 0x42)] [(0x01, 0x03), (0x16, 0x18), (0x22, 0x2A), (0x3A, 0x3C), (0x40, 0x42)]
      [(1, 0x42)] [(1, 0x42)] [(0x12, 0x12)] [(0x16, 0x33)]
  | 0x0D => derOp op [(1, 8)] [(2, 2), (4, 4), (6, 6)] [] [(1, 8)] [(5, 5), (8, 8)] [(5, 5)] []
  | 0x0E => derOp op [(1, 9)] [(2, 3)] [] [(1, 9)] [(4, 9)] [(2, 2)] []
  | 0x0F => derOp op [(1, 5)] [(1, 3)] [(1, 3)] [(1, 5)] [(1, 5)] [(1, 3)] []
  | 0x10 => derOp op [(1, 5)] [(2, 2)] [(1, 1), (3, 3)] [(1, 5)] [(2, 5)] [(2, 3)] []
  | 0x11 => derOp op [(1, 8)] [(2, 2)] [] [(1, 8)] [(1, 8)] [] []
  | _ => none

/-- An operand field (R329). -/
inductive DerField where
  | absent
  | dist (port : RPort) (d : Nat)
  | imm (v : BitVec 14)
  deriving DecidableEq, Repr

/-- An operand field from its bits (R329). -/
def DerField.ofBits (x : Nat) : DerField :=
  match bitsOf x 14 2 with
  | 3 => .imm (BitVec.ofNat 14 x)
  | p => if bitsOf x 0 14 = 0 then .absent else .dist (if p = 0 then .q else if p = 1 then .qp else .q1) (bitsOf x 0 14)

/-- The fields of an entry (R329). -/
def derSock (w : Nat) : Nat := bitsOf w 58 6
/-- OP. -/
def derOpc (w : Nat) : Nat := bitsOf w 51 7
/-- A. -/
def derA (w : Nat) : DerField := DerField.ofBits (bitsOf w 32 16)
/-- B. -/
def derB (w : Nat) : DerField := DerField.ofBits (bitsOf w 16 16)
/-- T. -/
def derT (w : Nat) : DerField := DerField.ofBits (bitsOf w 0 16)

/-- CONSTW (R330). -/
def isConstw (w : Nat) : Bool := derSock w = 0 && derOpc w = 4

/-- Which words of a list of entries are data slots; `slot` tells whether the first is one (R330). -/
def dataSlots (slot : Bool) : List Nat → List Bool
  | [] => []
  | w :: r => if slot then true :: dataSlots false r else false :: dataSlots (isConstw w) r

/-- A Derura image: its words, its labels, where its gate table and its entries begin (R328). -/
structure Derura where
  words : List Nat
  nlab  : Nat
  gates : Nat
  start : Nat
  slots : List Bool
  deriving DecidableEq, Repr

/-- The words of a Derura image. -/
def Derura.ofBytes (l : List Byte) : Derura :=
  let ws := (List.range (l.length / 8)).map (fun i => wordAt l (8 * i))
  let nlab := (ws[0]?).getD 0
  let ng := (ws[nlab]?).getD 0
  let start := nlab + 1 + 2 * ng
  { words := ws, nlab := nlab, gates := ng, start := start, slots := dataSlots false (ws.drop start) }

/-- Entry i. -/
def Derura.entry (x : Derura) (i : Nat) : Nat := (x.words[x.start + i]?).getD 0
/-- The number of entries. -/
def Derura.count (x : Derura) : Nat := x.words.length - x.start
/-- Position i names an entry and not a data slot. -/
def Derura.isEntry (x : Derura) (i : Nat) : Bool := i < x.count && !((x.slots[i]?).getD true)
/-- PRO, KER, EPI and END of gate g (R328). -/
def Derura.body (x : Derura) (g : Nat) : Nat × Nat × Nat × Nat :=
  let a := (x.words[x.nlab + 1 + 2 * g]?).getD 0
  let b := (x.words[x.nlab + 2 + 2 * g]?).getD 0
  (bitsOf a 0 32, bitsOf a 32 32, bitsOf b 0 32, bitsOf b 32 32)

/-- An entry writes a port (R330). -/
def Derura.writes (x : Derura) (i : Nat) (p : RPort) : Bool :=
  let w := x.entry i
  x.isEntry i && (if derSock w = 0 then p = .q
    else match derOpOf (derSock w) (derOpc w) with
      | some o => (match p with | .q => o.q | .qp => o.qp | .q1 => o.q1)
      | none => false)

/-- The entries that a distance from position i names; none where it leaves the body (R330). -/
def derTargets (body : Nat × Nat × Nat × Nat) (i d : Nat) : Option (List Nat) :=
  let (pro, ker, epi, _) := body
  if i < pro + d then none
  else if ker ≤ i && i < epi && i < ker + d then (if ker + d ≤ i + (epi - ker) then some [i - d, i - d + (epi - ker)] else none)
  else some [i - d]

/-- An operand is well formed: it is read, and its distance names entries that write the port (R330). -/
def Derura.operandOk (x : Derura) (body : Nat × Nat × Nat × Nat) (i : Nat) (reads : Bool) : DerField → Bool
  | .absent => true
  | .imm _ => reads
  | .dist p d => reads && (match derTargets body i d with
    | some l => l.all (fun j => x.writes j p)
    | none => false)

/-- The value of a CONST or CONSTW entry (R330). -/
def Derura.constVal (x : Derura) (i : Nat) : Option Int :=
  let w := x.entry i
  if !x.isEntry i || derSock w ≠ 0 then none
  else if derOpc w = 1 then some (sInt 48 w)
  else if derOpc w = 4 then some (x.entry (i + 1))
  else none

/-- The count or the code of a control entry (R329). -/
def Derura.countOk (x : Derura) (body : Nat × Nat × Nat × Nat) (i : Nat) (top : Int) : DerField → Bool
  | .absent => false
  | .imm v => v.toNat ≤ 8191
  | .dist p d => p = .q && (match derTargets body i d with
    | some l => l.all (fun j => match x.constVal j with
      | some v => 0 ≤ v && v ≤ top
      | none => false)
    | none => false)

/-- The entry named by a WAITU or WAITB (R329). -/
def Derura.waitOk (x : Derura) (body : Nat × Nat × Nat × Nat) (i : Nat) : DerField → Bool
  | .dist .q d => (match derTargets body i d with
    | some l => l.all (fun j => x.writes j .q)
    | none => false)
  | _ => false

/-- A control entry is well formed; its A and B are absent with port code 00 (R329). -/
def Derura.controlOk (x : Derura) (body : Nat × Nat × Nat × Nat) (i : Nat) : Bool :=
  let w := x.entry i
  bitsOf w 16 32 = 0 && (match derOpc w with
    | 0x08 => x.countOk body i 524287 (derT w)
    | 0x09 => x.waitOk body i (derT w)
    | 0x0A => x.waitOk body i (derT w)
    | 0x0B => derT w = .absent
    | 0x0C => derT w = .absent
    | 0x0D => x.countOk body i 0xFFFF (derT w)
    | _ => false)

/-- A pseudo-entry is well formed (R330). -/
def Derura.pseudoOk (x : Derura) (body : Nat × Nat × Nat × Nat) (i : Nat) : Bool :=
  let w := x.entry i
  bitsOf w 48 3 = 0 && (match derOpc w with
    | 1 => true
    | 2 => derA w = .absent && derB w = .absent && bitsOf w 4 12 = 0
    | 3 => derA w = .absent && derB w = .absent && (match derT w with
      | .dist p d => x.operandOk body i true (.dist p d)
      | _ => false)
    | 4 => derA w = .absent && derB w = .absent && derT w = .absent
    | _ => false)

/-- A guarded entry has a GUARD entry before it in its body (R330). -/
def Derura.guardOk (x : Derura) (body : Nat × Nat × Nat × Nat) (i : Nat) : Bool :=
  !(x.entry i).testBit 48 || (rangeList body.1 i).any (fun j => x.isEntry j && derSock (x.entry j) = 0 && derOpc (x.entry j) = 3)

/-- An entry of a body passes (R329, R330). -/
def Derura.entryOk (x : Derura) (body : Nat × Nat × Nat × Nat) (i : Nat) : Bool :=
  let w := x.entry i
  if !x.isEntry i then true
  else if derSock w = 0 then x.pseudoOk body i
  else if derSock w = 0x3F then x.controlOk body i && x.guardOk body i
  else match derOpOf (derSock w) (derOpc w) with
    | none => false
    | some o => x.guardOk body i && x.operandOk body i o.a (derA w) && x.operandOk body i o.b (derB w) && x.operandOk body i o.t (derT w)

/-- SOCK and OP of an entry are assigned (R329, R330). -/
def derAssigned (w : Nat) : Bool :=
  if derSock w = 0 then 1 ≤ derOpc w && derOpc w ≤ 4
  else if derSock w = 0x3F then 8 ≤ derOpc w && derOpc w ≤ 0x0D
  else (derOpOf (derSock w) (derOpc w)).isSome

/-- A gate's descriptor passes (R328). -/
def Derura.bodyOk (x : Derura) (g : Nat) : Bool :=
  let (pro, ker, epi, end_) := x.body g
  pro ≤ ker && ker ≤ epi && epi < end_ && end_ ≤ x.count

/-- The first word of a Derura image that fails (R326, R328-R330). -/
def Derura.fail (x : Derura) : Option Nat :=
  let off (l : Option Nat) : Option Nat := l.map (fun i => 8 * i)
  if x.nlab = 0 || x.words.length ≤ x.nlab then some 0
  else if x.words.length < x.start then some (8 * x.nlab)
  else match (rangeList 1 x.nlab).find? (fun j => let o := (x.words[j]?).getD 0; o % 8 ≠ 0 || o / 8 < x.start || !x.isEntry (o / 8 - x.start)) with
    | some j => some (8 * j)
    | none => match (List.range x.gates).find? (fun g => !x.bodyOk g) with
      | some g => let b := x.body g; some (8 * (x.nlab + (if b.2.1 < b.1 then 1 else 2) + 2 * g))
      | none => off (((List.range x.count).find? (fun i =>
          x.isEntry i && (!derAssigned (x.entry i) ||
            (List.range x.gates).any (fun g => let b := x.body g; b.1 ≤ i && i < b.2.2.2 && !x.entryOk b i)))).map (· + x.start))

/-! ### The values of a body (R330) -/

/-- A value that an entry of a body names: a result port of an entry, as it stands, or as the iteration before left it; `kept` where the
entry runs again before that value is read (R330). -/
structure DerKey where
  entry   : Nat
  port    : RPort
  carried : Bool
  kept    : Bool
  deriving DecidableEq, Repr

/-- A body's descriptor, the values that its entries name, each with the position that names it, and the register in which the translation
keeps each; whether a WAIT or a TRAPU of the body names more than one constant (log 11). -/
structure DerPlan where
  body : Nat × Nat × Nat × Nat
  picks : Bool
  uses : List (Nat × DerKey)
  regs : List (DerKey × Nat)
  deriving DecidableEq, Repr

/-- The value that a distance from position i names (R330). -/
def derKeyAt (body : Nat × Nat × Nat × Nat) (i : Nat) : DerField → Option DerKey
  | .dist p d => (match derTargets body i d with
    | some [j] => some { entry := j, port := p, carried := false, kept := false }
    | some (_ :: j :: _) => some { entry := j, port := p, carried := true, kept := decide (j < i) }
    | _ => none)
  | _ => none

/-- The operand fields whose values an entry reads while it runs; the counts and codes of WAIT and TRAPU are constants (R329). -/
def derReads (w : Nat) : List DerField :=
  if derSock w = 0 then (if derOpc w = 3 then [derT w] else [])
  else if derSock w = 0x3F then (if derOpc w = 0x09 || derOpc w = 0x0A then [derT w] else [])
  else [derA w, derB w, derT w]

/-- The GUARD entry whose predicate guards an entry: the nearest before it (R329). -/
def Derura.guardOf (x : Derura) (body : Nat × Nat × Nat × Nat) (i : Nat) : Option Nat :=
  if (x.entry i).testBit 48 then
    ((rangeList body.1 i).filter (fun j => x.isEntry j && derSock (x.entry j) = 0 && derOpc (x.entry j) = 3)).getLast?
  else none

/-- The values that position i names. -/
def Derura.keysAt (x : Derura) (body : Nat × Nat × Nat × Nat) (i : Nat) : List DerKey :=
  if !x.isEntry i then []
  else (derReads (x.entry i)).filterMap (derKeyAt body i) ++
    ((x.guardOf body i).map (fun j => ({ entry := j, port := .q, carried := false, kept := false } : DerKey))).toList

/-- The value that the iteration before handed on, from which a kept one is taken where its entry runs again. -/
def DerKey.base (k : DerKey) : DerKey := { k with kept := false }

/-- The values that a body names; a kept one is taken at its entry, and what the first iteration takes from the prologue is named at the
prologue's last position (R330). -/
def Derura.usesOf (x : Derura) (body : Nat × Nat × Nat × Nat) : List (Nat × DerKey) :=
  let us := (rangeList body.1 body.2.2.2).flatMap (fun i => (x.keysAt body i).map (fun k => (i, k)))
  let prev := (us.map (·.2)).filter (·.carried)
  us ++ (prev.filter (·.kept)).map (fun k => (k.entry, k.base)) ++ (prev.map DerKey.base).eraseDups.map (fun k =>
    (body.2.1 - 1, { k with entry := k.entry - (body.2.2.1 - body.2.1), carried := false }))

/-- A position of the kernel. -/
def DerPlan.inKernel (p : DerPlan) (i : Nat) : Bool := p.body.2.1 ≤ i && i < p.body.2.2.1

/-- The epilogue names a value of the kernel: that of the last iteration, or zero (R330). -/
def DerPlan.late (p : DerPlan) (k : DerKey) : Bool :=
  p.inKernel k.entry && p.uses.any (fun u => u.2 = { k with carried := false, kept := false } && decide (p.body.2.2.1 ≤ u.1))

/-- The next iteration names a value of the kernel. -/
def DerPlan.loops (p : DerPlan) (k : DerKey) : Bool := p.uses.any (fun u => u.2 = { k with carried := true, kept := false })

/-- The value under which a named value is kept: one register serves an iteration and the next, unless the epilogue names it too, or its
entry runs again before the value is read. -/
def DerPlan.norm (p : DerPlan) (k : DerKey) : DerKey := if k.carried && !k.kept && !p.late k then { k with carried := false } else k

/-- The positions over which a value must be kept. -/
def DerPlan.span (p : DerPlan) (k : DerKey) : Nat × Nat :=
  let (pro, ker, epi, _) := p.body
  let us := (p.uses.filter (fun u => p.norm u.2 = k)).map (·.1)
  let last := us.foldl max k.entry
  let again := decide (k.entry < ker) && us.any p.inKernel
  if k.kept then (k.entry, last)
  else if k.carried then (ker - 1, epi - 1)
  else if p.late k then (pro, last)
  else if p.inKernel k.entry && p.loops k then (ker - 1, max last (epi - 1))
  else (k.entry, if again then max last (epi - 1) else last)

/-- The number of registers that the translation keeps values in: m0 to m55 and o0 to o6. -/
def derKeeps : Nat := 63

/-- A register for a value: the first that no value kept at the same time has; derKeeps where there is none. -/
def DerPlan.choose (p : DerPlan) (k : DerKey) : Nat :=
  let a := p.span k
  let busy := p.regs.filterMap (fun r =>
    let b := p.span r.1
    if a.1 ≤ b.2 && b.1 ≤ a.2 then some r.2 else none)
  ((List.range derKeeps).find? (fun r => r ∉ busy)).getD derKeeps

/-- The counts or codes of a WAIT or TRAPU whose distance does not name one constant throughout: the predicate that chooses, the count
where it is true, and the count where it is false. p2 holds in the kernel's first iteration; p5 holds once the kernel has run, before
which the epilogue reads zero from it (R329, R330). -/
def Derura.twoCounts (x : Derura) (body : Nat × Nat × Nat × Nat) (i : Nat) (f : DerField) : Option (Nat × Nat × Nat) :=
  let c (j : Nat) : Nat := ((x.constVal j).getD 0).toNat
  match f with
  | .dist _ d => (match derTargets body i d with
    | some (a :: b :: _) => some (2, c a, c b)
    | some [j] => if body.2.1 ≤ j && j < body.2.2.1 && body.2.2.1 ≤ i then some (5, c j, 0) else none
    | _ => none)
  | _ => none

/-- A WAIT or a TRAPU entry (R329). -/
def derCounts (w : Nat) : Bool := derSock w = 0x3F && (derOpc w = 0x08 || derOpc w = 0x0D)

/-- The plan of gate g's body. -/
def Derura.planOf (x : Derura) (g : Nat) : DerPlan :=
  let body := x.body g
  let picks := (rangeList body.1 body.2.2.2).any (fun i =>
    x.isEntry i && derCounts (x.entry i) && (x.twoCounts body i (derT (x.entry i))).isSome)
  let p : DerPlan := { body := body, picks := picks, uses := x.usesOf body, regs := [] }
  ((p.uses.map (fun u => p.norm u.2)).eraseDups).foldl (fun p k => { p with regs := p.regs ++ [(k, p.choose k)] }) p

/-- The register of a value. -/
def DerPlan.reg (p : DerPlan) (k : DerKey) : Nat := (assocGet p.regs (p.norm k)).getD derKeeps

/-! ### The template's bundles (R331; log 11) -/

/-- A bundle from its header, control word, LIMM, scalar slots and vector slots (R191). -/
def bundleOf (hdr ctl limm : Nat) (ss vs : List Nat) : BitVec 512 :=
  let s (i : Nat) : BitVec 32 := BitVec.ofNat 32 ((ss[i]?).getD 0)
  let v (i : Nat) : BitVec 48 := BitVec.ofNat 48 ((vs[i]?).getD 0)
  packBundle (BitVec.ofNat 16 hdr) (BitVec.ofNat 32 ctl) (BitVec.ofNat 32 limm) (s 0) (s 1) (s 2) (s 3) (v 0) (v 1) (v 2) (v 3) (v 4) (v 5)

/-- A move's word: guard, source, destination and opcode (R195). -/
def moveWord (g src dst op : Nat) : Nat := g + src * 2 ^ 6 + dst * 2 ^ 16 + op * 2 ^ 25
/-- A control slot's word (R193). -/
def controlWord (g op operand : Nat) : Nat := g + op * 2 ^ 6 + operand * 2 ^ 13
/-- SRC and DST of a register that keeps a value (R197, R199). -/
def keepSrc (r : Nat) : Nat := if r < 56 then r else 0x40 + (r - 56)
/-- DST of a register that keeps a value. -/
def keepDst (r : Nat) : Nat := if r < 56 then 0x80 + r else 0x08 + (r - 56)
/-- The number of a result port (R197). -/
def portNum : RPort → Nat
  | .q => 0
  | .qp => 1
  | .q1 => 2

/-- Vector moves, six to a bundle. -/
def moveBundles (l : List (Nat × Nat)) : List (BitVec 512) :=
  (chunks 6 l l.length).map (fun c => bundleOf 0 0 0 [] (c.map (fun m => moveWord 0 m.1 m.2 0)))

/-- An operation may stand only in a MARK bundle (R59). -/
def derIrrevocable (sock op : Nat) : Bool :=
  match sock with
  | 0x06 => 0x18 ≤ op
  | 0x08 => op = 1 || op = 2 || op = 9 || op = 0x0A
  | 0x0E => op ≠ 5 && op ≠ 6
  | 0x0F => op ≤ 3
  | 0x10 => op = 1 || op = 3
  | _ => false

/-- The trigger port of a socket is a vector port (R14). -/
def derVector (sock : Nat) : Bool := sock = 0x09 || sock = 0x0B || sock = 0x0C

/-- An lsu operation whose lanes the mask of port a selects: VST, VSTR, VLDG, VSTS, OSADD (R239). -/
def derMasked (sock op : Nat) : Bool := sock = 0x06 && op ∈ [0x0E, 0x0F, 0x10, 0x11, 0x2D, 0x2E]

/-- SRC and LIMM of an operand (R197, R198). -/
def DerPlan.source (p : DerPlan) (i : Nat) (f : DerField) : Option (Nat × Nat) :=
  match f with
  | .absent => none
  | .imm v => some (0x300, (v.signExtend 32).toNat)
  | .dist _ _ => (derKeyAt p.body i f).map (fun k => (keepSrc (p.reg k), 0))

/-- The guard of an entry: p1, which holds the predicate that its GUARD entry named, inverted where GINV is set (R329). -/
def Derura.guardBits (x : Derura) (p : DerPlan) (i : Nat) : Nat :=
  match x.guardOf p.body i with
  | none => 0
  | some _ => if (x.entry i).testBit 49 then 33 else 1

/-- The bundle that writes one operand port from a scalar or a vector slot; `ctl` is its control word. -/
def operandBundle (p : DerPlan) (i : Nat) (vec : Bool) (g ctl dst : Nat) (f : DerField) : BitVec 512 :=
  match p.source i f with
  | none => bundleOf 0 ctl 0 [] []
  | some (src, limm) =>
    if vec then bundleOf 0 ctl limm [] [moveWord g src dst 0] else bundleOf 0 ctl limm [moveWord g src dst 0] []

/-- The moves that take an operation's results out of their ports: each into its register where it is named, else into p29 to p31, so that
the operation is over before the next entry (R20, R21, R27). -/
def keepBundle (p : DerPlan) (i sock : Nat) (ports : List RPort) : BitVec 512 :=
  let src (r : RPort) : Nat := 0x100 + 4 * sock + portNum r
  let key (r : RPort) : DerKey := { entry := i, port := r, carried := false, kept := false }
  let named (r : RPort) : Bool := (assocGet p.regs (key r)).isSome
  bundleOf 0 0 0 ((ports.filter (fun r => !named r)).map (fun r => moveWord 0 (src r) (0x20 + 31 - portNum r) 0))
    ((ports.filter named).map (fun r => moveWord 0 (src r) (keepDst (p.reg (key r))) 0))

/-- The move of a value into the register of entry i's q, where that is named. -/
def keepValue (p : DerPlan) (i limm src : Nat) : BitVec 512 :=
  match assocGet p.regs { entry := i, port := .q, carried := false, kept := false } with
  | none => 0
  | some r => bundleOf 0 0 limm [] [moveWord 0 src (keepDst r) 0]

/-- The bundles of a pseudo-entry: a constant is put together in alu1, which no entry names (R330). -/
def Derura.pseudoBundles (x : Derura) (p : DerPlan) (i : Nat) : List (BitVec 512) :=
  let w := x.entry i
  match derOpc w with
  | 2 => let c := bitsOf w 0 4; [keepValue p i 0 (if c < 8 then 0x80 + c else 48 + c), 0, 0, 0, 0]
  | 3 => [(match p.source i (derT w) with | some (src, limm) => keepValue p i limm src | none => 0), 0, 0, 0, 0]
  | _ =>
    let v := wrapInt 64 ((x.constVal i).getD 0)
    [bundleOf 0 0 (v % 2 ^ 32) [moveWord 0 0x301 0x104 0] [], bundleOf 0 0 (v / 2 ^ 32) [moveWord 0 0x302 0x184 5] [],
     keepBundle p i 2 [.q], 0, 0]

/-- The count or the code of a WAIT or TRAPU entry (R329). -/
def Derura.countOf (x : Derura) (body : Nat × Nat × Nat × Nat) (i : Nat) : DerField → Nat
  | .imm v => v.toNat
  | .dist _ d => (match derTargets body i d with
    | some (j :: _) => ((x.constVal j).getD 0).toNat
    | _ => 0)
  | .absent => 0

/-- The bundles of a control entry: a promise word or a wait's words go through o7; of two counts the one is taken under p3, the other
under p4, which hold the guard where the choice is theirs (R329, R225). -/
def Derura.controlBundles (x : Derura) (p : DerPlan) (i : Nat) : List (BitVec 512) :=
  let w := x.entry i
  let op := derOpc w
  let g := x.guardBits p i
  if op = 0x09 || op = 0x0A then [operandBundle p i true 0 0 0x0F (derT w), bundleOf 0 (controlWord g op 7) 0 [] [], 0, 0, 0]
  else match (if derCounts w then x.twoCounts p.body i (derT w) else none) with
    | none => [0, bundleOf 0 (controlWord g op (x.countOf p.body i (derT w))) 0 [] [], 0, 0, 0]
    | some (sel, a, b) =>
      let on := if g = 0 then 0x81 else 0xC1
      let off := if g = 33 then 0x81 else 0x80
      let inv := if g = 33 then 32 else 0
      [bundleOf 0 0 0 [moveWord 0 off 0x23 0, moveWord 0 on 0x24 0] [], bundleOf 0 0 0 [moveWord sel on 0x23 0, moveWord sel off 0x24 0] [],
       bundleOf 0 (controlWord (inv + 3) op a) 0 [] [], bundleOf 0 (controlWord (inv + 4) op b) 0 [] [], 0]

/-- The bundles of an operation: its operands, its trigger, a wait longer than any timed latency, and its results (R210-R216). A guarded
operation whose slots a false guard does not cancel whole is branched over: in queue mode, where a read of an empty port would stall, and
on net (R27, R30, R226). -/
def Derura.opBundles (x : Derura) (p : DerPlan) (queue : Bool) (i : Nat) (o : DerOp) : List (BitVec 512) :=
  let w := x.entry i
  let sock := derSock w
  let op := derOpc w
  let g := x.guardBits p i
  let vec := derVector sock
  let masked := derMasked sock op && derA w ≠ .absent
  let skip := g ≠ 0 && !vec && !masked && (queue || sock = 0x10)
  let (src, limm) := (p.source i (derT w)).getD (0x80, 0)
  let t := moveWord (if masked then 0 else g) src (0x180 + 2 * sock) op
  [operandBundle p i (vec || masked) (if vec then 0 else g) (if skip then controlWord (if g = 1 then 33 else 1) 1 5 else 0) (0x100 + 2 * sock) (derA w),
   operandBundle p i (vec || masked || sock = 0x10) (if vec || masked then 0 else g) 0 (0x101 + 2 * sock) (derB w),
   bundleOf (if derIrrevocable sock op then 1 else 0) 0 limm (if vec then [] else [t]) (if vec then [t] else []),
   bundleOf 0 (controlWord 0 8 40) 0 [] [],
   keepBundle p i sock (([(o.q, RPort.q), (o.qp, .qp), (o.q1, .q1)].filter (·.1)).map (·.2))]

/-- The seven bundles of a position: the predicate of its guard, with which the iteration before's values are kept that are read behind the
entry; the five of its entry; and a MARK bundle, which also hands a value that the next iteration and the epilogue both name to the
next iteration (R56, R57, R329, R330). A data slot's are empty. The kernel's first position notes that it has run, and its last that the
first iteration is over, where counts depend on it. -/
def Derura.block (x : Derura) (p : DerPlan) (queue : Bool) (i : Nat) : List (BitVec 512) :=
  let w := x.entry i
  let key (k : DerKey) : Nat := keepSrc (p.reg k)
  let guard : List Nat := match (if x.isEntry i then x.guardOf p.body i else none) with
    | none => []
    | some j => [moveWord 0 (key { entry := j, port := .q, carried := false, kept := false }) 0x21 0]
  let ran : List Nat := if p.picks && i = p.body.2.1 && p.inKernel i then [moveWord 0 0x81 0x25 0] else []
  let once : List Nat := if p.picks && i + 1 = p.body.2.2.1 && p.inKernel i then [moveWord 0 0x80 0x22 0] else []
  let keep := p.regs.filterMap (fun r => if r.1.kept && r.1.entry = i then some (moveWord 0 (key r.1.base) (keepDst r.2) 0) else none)
  let five : List (BitVec 512) :=
    if !x.isEntry i then [0, 0, 0, 0, 0]
    else if derSock w = 0 then x.pseudoBundles p i
    else if derSock w = 0x3F then x.controlBundles p i
    else match derOpOf (derSock w) (derOpc w) with
      | none => [0, 0, 0, 0, 0]
      | some o => x.opBundles p queue i o
  let hand := p.regs.filterMap (fun r => if r.1.carried && !r.1.kept && r.1.entry = i then
    some (moveWord 0 (key { r.1 with carried := false }) (keepDst r.2) 0) else none)
  bundleOf 0 0 0 (guard ++ ran) keep :: five ++ [bundleOf 1 0 0 once hand]

/-- Before the prologue: what the epilogue names of the kernel is zero until the kernel has run (R330). -/
def DerPlan.zeroes (p : DerPlan) : List (BitVec 512) :=
  (if p.picks then [bundleOf 0 0 0 [moveWord 0 0x80 0x25 0] []] else []) ++ moveBundles ((p.regs.filter (fun r => !r.1.carried && p.late r.1)).map (fun r => (0x80, keepDst r.2)))

/-- Before the kernel: what its first iteration takes from the prologue (R330). -/
def DerPlan.enters (p : DerPlan) : List (BitVec 512) :=
  let (_, ker, epi, _) := p.body
  (if p.picks then [bundleOf 0 0 0 [moveWord 0 0x81 0x22 0] []] else []) ++
  moveBundles (((p.uses.map (·.2)).filter (fun k => k.carried && !k.kept)).eraseDups.map (fun k =>
    (keepSrc (p.reg { k with entry := k.entry - (epi - ker), carried := false }), keepDst (p.reg k))))

/-- The bundles of gate g's body (R330, R331). -/
def Derura.bodyCode (x : Derura) (queue : Bool) (g : Nat) : List (BitVec 512) :=
  let p := x.planOf g
  let (pro, ker, _, end_) := p.body
  p.zeroes ++ (rangeList pro ker).flatMap (x.block p queue) ++ p.enters ++ (rangeList ker end_).flatMap (x.block p queue)

/-- The offset in bundles of position i in the code of its body: PRO is where the body begins, KER where the kernel does. -/
def Derura.bodyOff (x : Derura) (g i : Nat) : Nat :=
  let p := x.planOf g
  let (pro, ker, _, _) := p.body
  if i = pro then 0 else p.zeroes.length + 7 * (i - pro) + (if ker ≤ i then p.enters.length else 0)

/-- The length of gate g's body in bundles. -/
def Derura.bodyLen (x : Derura) (g : Nat) : Nat :=
  let p := x.planOf g
  p.zeroes.length + 7 * (p.body.2.2.2 - p.body.1) + p.enters.length

/-- The bodies stand one after another in the order of the gate table. -/
def Derura.bodyStart (x : Derura) (g : Nat) : Nat := ((List.range g).map x.bodyLen).foldl (· + ·) 0

/-- PRO, KER and EPI of gate g in bundles from the image base, as a course record of the template has them: where prologue and kernel are
one entry, PRO stands before the zeroes and KER behind them (R43, R331; log 11). -/
def Derura.recordOf (x : Derura) (g : Nat) : Nat × Nat × Nat :=
  let p := x.planOf g
  let (pro, ker, epi, _) := p.body
  let k := x.bodyStart g + p.zeroes.length + 7 * (ker - pro) + p.enters.length
  (x.bodyStart g, k, k + 7 * (epi - ker))

/-- The code of the bodies (R331). -/
def Derura.code (x : Derura) (queue : Bool) : List Byte :=
  ((List.range x.gates).flatMap (x.bodyCode queue)).flatMap (fun b => bytesOf b.toNat 64)

/-- The byte offset of an entry's code: in the first body that holds it (R331). -/
def Derura.entryOff (x : Derura) (i : Nat) : Nat :=
  match (List.range x.gates).find? (fun g => let b := x.body g; b.1 ≤ i && i < b.2.2.2) with
  | some g => 64 * (x.bodyStart g + x.bodyOff g i)
  | none => 0

/-- The registers suffice for every body. -/
def Derura.fits (x : Derura) : Bool :=
  (List.range x.gates).all (fun g => (x.planOf g).regs.all (fun r => r.2 < derKeeps))

/-- The template of an image: the translation above where the registers suffice, and else what the lodge's translator makes of it
(R331; log 11). -/
def translated (queue : Bool) (l : List Byte) : List Byte :=
  let x := Derura.ofBytes l
  if x.fits then x.code queue else Config.translate l

/-- A retranslation, which keeps every label's offset (R331; log 11). -/
def retranslated (queue : Bool) (l : List Byte) : List Byte :=
  let x := Derura.ofBytes l
  if x.fits then x.code queue else Config.retranslate l

/-- The byte offset at which the translation of an image lays out a label (R327, R331; log 11). -/
def labelOffset (l : List Byte) (label : Nat) : Nat :=
  let x := Derura.ofBytes l
  if x.fits then x.entryOff (wordAt l (8 * (label + 1)) / 8 - x.start) else Config.labelAt l label

end Sys2Proof.Machine
end

