-- ==== Sys2Proof/Machine/Load.lean ====
section
/-! DEFINITION. Fat objects: the container, relocation, LOAD and the swap of a retranslation (R324-R327, R331). -/

namespace Sys2Proof.Machine

/-! ### Bytes in an address space -/

/-- The number of 16 KiB pages that n bytes from a page boundary fill. -/
def pagesOf (n : Nat) : Nat := (n + 16383) / 16384

/-- The byte at a virtual address, where its page is mapped with read right. -/
def State.vaByte (s : State) (asid : BitVec 16) (va : Nat) : Byte :=
  match s.virtPa asid (BitVec.ofNat 56 va) .read with
  | some pa => s.memByte pa
  | none => 0

/-- A range of virtual addresses is mapped with read right. -/
def State.vaOk (s : State) (asid : BitVec 16) (va n : Nat) : Bool :=
  va + n ≤ 2 ^ 56 && (n = 0 ||
    ((List.range (n / 16384 + 2)).all (fun j => (s.virtPa asid (BitVec.ofNat 56 (min (va + 16384 * j) (va + n - 1))) .read).isSome)))

/-- n bytes from a virtual address on. -/
def State.vaBytes (s : State) (asid : BitVec 16) (va n : Nat) : List Byte := (List.range n).map (fun i => s.vaByte asid (va + i))

/-- Bytes replaced at an offset. -/
def putAt (l : List Byte) (off : Nat) (bs : List Byte) : List Byte := l.take off ++ bs ++ l.drop (off + bs.length)

/-! ### The container (R324, R325) -/

/-- An image entry (R325), with the image's bytes. -/
structure TfoImage where
  kind   : Nat
  step   : Nat
  feat   : Nat
  queue  : Bool
  off    : Nat
  size   : Nat
  relIdx : Nat
  nrel   : Nat
  bytes  : List Byte
  deriving DecidableEq, Repr

/-- An object as the lodge reads it: where it stands, its relocation table, its images. -/
structure Tfo where
  va     : Nat
  relOff : Nat
  nrelt  : Nat
  images : List TfoImage
  deriving DecidableEq, Repr

/-- A word of the object. -/
def State.tfoWord (s : State) (asid : BitVec 16) (va off : Nat) : Nat := ofBytes (s.vaBytes asid (va + off) 8)

/-- The first word of the header that fails (R324, R326). -/
def State.headerFail (s : State) (asid : BitVec 16) (va : Nat) : Option Nat :=
  let w := s.tfoWord asid va
  if !s.vaOk asid va 32 then some 0
  else if bitsOf (w 0) 0 32 ≠ 0x314F4654 || bitsOf (w 0) 32 16 ≠ 1 || bitsOf (w 0) 48 16 = 0 || 64 < bitsOf (w 0) 48 16 then some 0
  else if !s.vaOk asid (va + w 8) (16 * bitsOf (w 16) 0 32) then some 8
  else if bitsOf (w 16) 32 32 ≠ 0 then some 16
  else if w 24 ≠ 0 then some 24
  else none

/-- Image entry i (R325). -/
def State.readImage (s : State) (asid : BitVec 16) (va i : Nat) : TfoImage :=
  let w (j : Nat) : Nat := s.tfoWord asid va (0x20 + 32 * i + 8 * j)
  { kind := bitsOf (w 0) 0 8, step := bitsOf (w 0) 8 8, feat := bitsOf (w 0) 16 8, queue := (w 0).testBit 32, off := w 1, size := w 2,
    relIdx := bitsOf (w 3) 32 32, nrel := bitsOf (w 3) 0 32,
    bytes := if s.vaOk asid (va + w 1) (w 2) then s.vaBytes asid (va + w 1) (w 2) else [] }

/-- The first word of image entry i that fails, with the kinds of the entries before it (R325, R326). -/
def State.imageFail (s : State) (asid : BitVec 16) (va nrelt i : Nat) (before : List Nat) : Option Nat :=
  let at_ := 0x20 + 32 * i
  let w0 := s.tfoWord asid va at_
  let m := s.readImage asid va i
  if !s.vaOk asid (va + at_) 32 || bitsOf w0 40 24 ≠ 0 || bitsOf w0 33 7 ≠ 0 || bitsOf w0 24 8 ≠ 0 then some at_
  else if !(m.kind = 1 || m.kind = 2 || m.kind = 3) || (m.kind ≠ 1 && m.kind ∈ before) then some at_
  else if !s.vaOk asid (va + m.off) 0 then some (at_ + 8)
  else if !s.vaOk asid (va + m.off) m.size then some (at_ + 16)
  else if nrelt < m.relIdx + m.nrel then some (at_ + 24)
  else none

/-- The first word of the image entries that fails; an object without a data image fails at its header (R325, R326). -/
def State.entriesFail (s : State) (asid : BitVec 16) (va nrelt : Nat) : List Nat → List Nat → Option Nat
  | [], before => if 3 ∈ before then none else some 0
  | i :: r, before =>
    match s.imageFail asid va nrelt i before with
    | some off => some off
    | none => s.entriesFail asid va nrelt r ((s.readImage asid va i).kind :: before)

/-- The object at an address, or the first word of it that fails. -/
def State.readTfo (s : State) (asid : BitVec 16) (va : Nat) : Except Nat Tfo :=
  match s.headerFail asid va with
  | some off => .error off
  | none =>
    let w := s.tfoWord asid va
    let is := List.range (bitsOf (w 0) 48 16)
    let nrelt := bitsOf (w 16) 0 32
    match s.entriesFail asid va nrelt is [] with
    | some off => .error off
    | none => .ok { va := va, relOff := w 8, nrelt := nrelt, images := is.map (s.readImage asid va) }

/-- The image that the loader selects for a context: a native one of stepping A0, or else the Derura image; no stepping of the
numbering is earlier than A0's 0x00 (R326). -/
def Tfo.select (o : Tfo) (qmode : Bool) : Option (Nat × TfoImage) :=
  let l := (List.range o.images.length).zip o.images
  match l.find? (fun x => x.2.kind = 1 && x.2.step = 0 && x.2.feat ≤ 1 && x.2.queue = qmode) with
  | some x => some x
  | none => l.find? (fun x => x.2.kind = 2 && x.2.queue = qmode)

/-- The object's data image. -/
def Tfo.data (o : Tfo) : Option (Nat × TfoImage) := ((List.range o.images.length).zip o.images).find? (fun x => x.2.kind = 3)

/-! ### Relocation (R327) -/

/-- A relocation record. -/
structure Reloc where
  kind   : Nat
  where_ : Nat
  addend : Int
  image  : Nat
  label  : Nat
  deriving DecidableEq, Repr

/-- Record i of the object's table, with its words. -/
def State.readReloc (s : State) (asid : BitVec 16) (o : Tfo) (i : Nat) : (Nat × Nat) × Reloc :=
  let w0 := s.tfoWord asid o.va (o.relOff + 16 * i)
  let w1 := s.tfoWord asid o.va (o.relOff + 16 * i + 8)
  ((w0, w1), { kind := bitsOf w0 48 8, where_ := bitsOf w0 0 48, addend := sInt 32 (w1 / 2 ^ 32), image := bitsOf w1 24 8, label := bitsOf w1 0 24 })

/-- WHERE and KIND fit the image: in a native image a bundle, which no part of the label map is (R327). -/
def TfoImage.takes (m : TfoImage) (r : Reloc) : Bool :=
  match m.kind with
  | 1 => (r.kind = 1 || r.kind = 2) && r.where_ % 64 = 0 && 8 * wordAt m.bytes 0 ≤ r.where_ && r.where_ + 64 ≤ m.size
  | 2 =>
    let x := Derura.ofBytes m.bytes
    r.kind = 5 && r.where_ % 8 = 0 && x.start ≤ r.where_ / 8 && x.isEntry (r.where_ / 8 - x.start) && isConstw (x.entry (r.where_ / 8 - x.start)) &&
      r.where_ + 16 ≤ m.size
  | _ => (r.kind = 3 || r.kind = 4) && r.where_ % 8 = 0 && r.where_ + 8 ≤ m.size

/-- The label that a record names exists, and lies in its image (R327). -/
def Tfo.labelOk (o : Tfo) (r : Reloc) : Bool :=
  match o.images[r.image]? with
  | none => false
  | some m =>
    let off := wordAt m.bytes (8 * (r.label + 1))
    let x := Derura.ofBytes m.bytes
    r.label + 1 < wordAt m.bytes 0 && 8 * wordAt m.bytes 0 ≤ m.size && off < m.size &&
      (m.kind ≠ 1 || (off % 64 = 0 && 8 * wordAt m.bytes 0 ≤ off)) &&
      (m.kind ≠ 2 || (off % 8 = 0 && x.start ≤ off / 8 && x.isEntry (off / 8 - x.start)))

/-- The record at a number of the table belongs to an image. -/
def TfoImage.owns (m : TfoImage) (i : Nat) : Bool := m.relIdx ≤ i && i < m.relIdx + m.nrel

/-- The first word of the relocation table that fails: a reserved bit of any record, or a record that does not fit an image whose it is
(R326, R327). -/
def State.relocFail (s : State) (asid : BitVec 16) (o : Tfo) : Option Nat :=
  (List.range o.nrelt).findSome? (fun i =>
    let (w, r) := s.readReloc asid o i
    let owners := o.images.filter (fun m => m.owns i)
    if bitsOf w.1 56 8 ≠ 0 || !owners.all (fun m => m.takes r) then some (o.relOff + 16 * i)
    else if owners ≠ [] && !o.labelOk r then some (o.relOff + 16 * i + 8)
    else none)

/-- The earlier of two failing words (R326). -/
def earlier : Option Nat → Option Nat → Option Nat
  | some a, some b => some (min a b)
  | some a, none => some a
  | none, b => b

/-- The first word of a code image's bytes that fails, as an offset in the object: of a Derura image (R326, R330). -/
def TfoImage.bodyFail (m : TfoImage) (bytes : List Byte) : Option Nat :=
  if m.kind = 2 then ((Derura.ofBytes bytes).fail).map (fun off => m.off + off) else none

/-- The address of a label: the image's load address and the label's offset, as the template lays it out for a Derura image (R327,
R331). -/
def TfoImage.labelVa (m : TfoImage) (base label : Nat) : Nat :=
  base + (if m.kind = 2 then labelOffset m.bytes label else wordAt m.bytes (8 * (label + 1)))

/-- An image's bytes with one record applied (R327). -/
def applyReloc (l : List Byte) (r : Reloc) (v : Nat) : List Byte :=
  match r.kind with
  | 1 => putAt l (r.where_ + 6) (bytesOf v 4)
  | 2 => putAt l (r.where_ + 6) (bytesOf (v / 2 ^ 32) 4)
  | 3 => putAt l r.where_ (bytesOf v 8)
  | 4 => putAt l r.where_ (bytesOf v 7)
  | _ => putAt l (r.where_ + 8) (bytesOf v 8)

/-- An image's bytes with its records applied; `bases` gives the load addresses of the images that are placed, and a record whose
symbol's image is not placed has no value (R327; log 11). -/
def State.relocate (s : State) (asid : BitVec 16) (o : Tfo) (bases : List (Nat × Nat)) (m : TfoImage) : List Byte :=
  (List.range m.nrel).foldl (fun l j =>
    let r := (s.readReloc asid o (m.relIdx + j)).2
    match assocGet bases r.image, o.images[r.image]? with
    | some base, some t => applyReloc l r (wrapInt 64 ((t.labelVa base r.label : Nat) + r.addend))
    | _, _ => l) m.bytes

/-- An image's bytes with the fields that its records write zeroed: what is wrong with it is wrong wherever it is placed (R326, R327). -/
def State.unplaced (s : State) (asid : BitVec 16) (o : Tfo) (m : TfoImage) : List Byte :=
  (List.range m.nrel).foldl (fun l j => applyReloc l (s.readReloc asid o (m.relIdx + j)).2 0) m.bytes

/-- The lodge logs a malformed walk of any page that it reads for an object (R402). -/
def State.noteRange (s : State) (asid : BitVec 16) (va n : Nat) : State :=
  if n = 0 then s else (List.range (n / 16384 + 2)).foldl (fun s j => s.noteWalk asid (BitVec.ofNat 56 (min (va + 16384 * j) (va + n - 1)))) s

/-- The ranges of an object that the lodge reads, as far as its header and its entries name them (R324, R325). -/
def State.tfoRanges (s : State) (asid : BitVec 16) (va : Nat) : List (Nat × Nat) :=
  let w := s.tfoWord asid va
  if !s.vaOk asid va 32 then [(va, 32)]
  else (va, 32 + 32 * bitsOf (w 0) 48 16) :: (va + w 8, 16 * bitsOf (w 16) 0 32) ::
    (List.range (bitsOf (w 0) 48 16)).map (fun i => let m := s.readImage asid va i; (va + m.off, m.size))

/-! ### Placing (R326, R331) -/

/-- Every page of a range is absent. -/
def State.spanFree (s : State) (asid : BitVec 16) (va n : Nat) : Bool :=
  va + n ≤ 2 ^ 48 && (List.range (max 1 (pagesOf n))).all (fun i => s.walk asid (BitVec.ofNat 56 (va + 16384 * i)) = .absent)

/-- The first free range from an address on, upwards. -/
def State.findSpan (s : State) (asid : BitVec 16) (n : Nat) : Nat → Nat → Option Nat
  | _, 0 => none
  | va, k + 1 => if s.spanFree asid va n then some va else s.findSpan asid n ((va + 16384 * max 1 (pagesOf n)) % 2 ^ 48) k

/-- The malformed walk at which the search for a free range turns away from a range is logged (R402). -/
def State.noteSpan (s : State) (asid : BitVec 16) (va n : Nat) : State :=
  match (List.range (max 1 (pagesOf n))).find? (fun i => s.walk asid (BitVec.ofNat 56 (va + 16384 * i)) ≠ .absent) with
  | some i => s.noteWalk asid (BitVec.ofNat 56 (va + 16384 * i))
  | none => s

/-- Those of the whole search (R402). -/
def State.noteSpans (s : State) (asid : BitVec 16) (n : Nat) : Nat → Nat → State
  | _, 0 => s
  | va, k + 1 => if s.spanFree asid va n then s else (s.noteSpan asid va n).noteSpans asid n ((va + 16384 * max 1 (pagesOf n)) % 2 ^ 48) k

/-- A free range that the lodge chooses (R402; log 11). -/
def State.takeSpan (s : State) (asid : BitVec 16) (n : Nat) : Option Nat × State :=
  let va := (Config.freeWord s.free).toNat % 2 ^ 33 * 16384
  (s.findSpan asid n va 4096, (s.noteSpans asid n va 4096).spend)

/-- A load that is given up leaves no trace but the free values that it used and the walks that it logged (R402). -/
def State.afterAll (s u : State) : State := { s with free := u.free, errLog := u.errLog }

/-- Bytes placed at a range of an address space, in fresh pages with the rights given; the pages count for the context's memory
mask (R11, R326, R401). -/
def State.placeBytes (s : State) (id : CtxId) (asid : BitVec 16) (va : Nat) (rights : Nat) (bs : List Byte) : State :=
  match s.asids.find? (fun a => a.asid = asid) with
  | none => s
  | some a => (List.range (max 1 (pagesOf bs.length))).foldl (fun s i =>
      let v : BitVec 56 := BitVec.ofNat 56 (va + 16384 * i)
      let s := s.mapPage a v rights
      match s.virtPa asid v .read with
      | some pa => (s.memWrite pa ((bs.drop (16384 * i)).take 16384)).touchMem id pa
      | none => s) s

/-- Every page of a range is mapped. -/
def State.spanMapped (s : State) (asid : BitVec 16) (va n : Nat) : Bool :=
  (List.range (max 1 (pagesOf n))).all (fun i => (s.virtPa asid (BitVec.ofNat 56 (va + 16384 * i)) .read).isSome)

/-- The bytes of a template: its size is fixed by the image's labels and code before relocation (R331; log 11). -/
def templateOf (queue : Bool) (raw patched : List Byte) : List Byte :=
  let l := translated queue patched
  (List.range (translated queue raw).length).map (fun i => (l[i]?).getD 0)

/-- A translated image is known to its context. A retranslation of it may follow, in its turn: a free choice (R331, R397; log 11). -/
def State.offerRetranslation (s : State) (id : CtxId) (base size : Nat) (patched : List Byte) : State :=
  let m : CtxImage := { base := BitVec.ofNat 56 base, size := size, cur := none, freed := false }
  let want := (Config.freeWord s.free).getLsbD 0
  let s := s.spend.modCtx id (fun c => { c with imgs := m :: c.imgs })
  if want then ({ s with jobs := s.jobs ++ [{ ctx := id, base := m.base, code := patched }] } : State).startJob else s

/-- The selected image and the data image placed, relocated and, for a Derura image, checked as the relocation leaves it and translated;
the reply gives the load address, or says that no range or no frame is left (R326, R327, R329, R331, R384). -/
def State.placeObject (s : State) (m : Msg) (c : Ctx) (o : Tfo) (code data : Nat × TfoImage) : State :=
  let size := if code.2.kind = 2 then (translated c.qmode code.2.bytes).length else code.2.size
  let (x, s1) := s.takeSpan c.asid size
  match x with
  | none => (s.afterAll s1).reply m 5 0 []
  | some base =>
    let s1 := s1.placeBytes c.id c.asid base 5 (List.replicate size 0)
    let (y, s2) := s1.takeSpan c.asid data.2.size
    match (if s1.spanMapped c.asid base size then y else none) with
    | none => (s.afterAll s2).reply m 5 0 []
    | some dbase =>
      let bases := [(code.1, base), (data.1, dbase)]
      let patched := s.relocate c.asid o bases code.2
      match code.2.bodyFail patched with
      | some off => (s.afterAll s2).reply m 6 off []
      | none =>
      let final := if code.2.kind = 2 then templateOf c.qmode code.2.bytes patched else patched
      let s2 := s2.placeBytes c.id c.asid base 5 final
      let s2 := s2.placeBytes c.id c.asid dbase 3 (s.relocate c.asid o bases data.2)
      if !s2.spanMapped c.asid dbase data.2.size then (s.afterAll s2).reply m 5 0 []
      else
      let s2 := if code.2.kind = 2 then s2.offerRetranslation c.id base size patched else s2
      s2.reply m 0 base []

/-- LOAD: the lodge selects, places, relocates and translates a code image for a context, or refuses the object with the offset of
its first failing word; an image that fails wherever it stands is not translated or placed (R326). -/
def execLoad (s : State) : Out :=
  s.onCtx 0x08 (fun m c s =>
    let s := (s.tfoRanges c.asid (m.w1.truncate 56 : BitVec 56).toNat).foldl (fun s x => s.noteRange c.asid x.1 x.2) s
    match s.readTfo c.asid (m.w1.truncate 56 : BitVec 56).toNat with
    | .error off => s.reply m 6 off []
    | .ok o => match o.select c.qmode, o.data with
      | some code, some data =>
        (match s.relocFail c.asid o with
        | some off => s.reply m 6 ((earlier (some off) (code.2.bodyFail code.2.bytes)).getD off) []
        | none => match code.2.bodyFail (s.unplaced c.asid o code.2) with
          | some off => s.reply m 6 off []
          | none => s.placeObject m c o code data)
      | _, _ => s.reply m 6 0x20 [])

/-! ### The swap (R331) -/

/-- The pages of a range lose their leaves (R331, R407). -/
def State.unmap (s : State) (asid : BitVec 16) (va n : Nat) : State :=
  (List.range (max 1 (pagesOf n))).foldl (fun s i =>
    let pg : PageRef := { asid := asid, va := BitVec.ofNat 56 (va + 16384 * i) }
    match s.pageLeaf pg with
    | none => s.noteWalk asid pg.va
    | some (_, at_) => s.submitChange { pg := pg, work := .change at_ 0, old := none, begun := false, waiting := [] } at_ 0) s

/-- An image whose template no course runs any more, after its swap (R331). -/
def Ctx.oldImage (c : Ctx) : Option CtxImage :=
  c.imgs.find? (fun m => m.cur.isSome && !m.freed && !c.queues.any (fun q => q.courses.any (fun x => m.holds x.cr.code)))

/-- A retranslation is done: its bytes are placed, and it runs for the courses admitted from now on; the next one begins (R331, R397). -/
def State.endJob (s : State) (j : RetransJob) : State :=
  let asid := (s.ctxAt j.ctx).asid
  let bs := retranslated (s.ctxAt j.ctx).qmode j.code
  let (v, s) := ({ s with job := none } : State).takeSpan asid bs.length
  let s := match v with
    | none => s
    | some v => (s.placeBytes j.ctx asid v 5 bs).modCtx j.ctx (fun c =>
        { c with imgs := c.imgs.map (fun (x : CtxImage) => if x.base = j.base then { x with cur := some (BitVec.ofNat 56 v) } else x) })
  s.startJob

/-- RETRANSLATION_SWAP: the retranslation in progress is done and swapped in; else a template that its last course has left is freed
(R331, R397). -/
def execRetranslationSwap (s : State) : Out :=
  match (if s.swapComing then none else s.job) with
  | some j => .next (s.endJob j)
  | none =>
    let c := s.ctx
    match c.oldImage with
    | none => .next s
    | some m =>
      let s := s.unmap c.asid m.base.toNat m.size
      .next (s.modCtx c.id (fun c => { c with imgs := c.imgs.map (fun x => if x = m then { x with freed := true } else x) }))

end Sys2Proof.Machine
end

