-- ==== Sys2Proof/Machine/Schedule.lean ====
section
/-! DEFINITION. Slices and switches: the grant of a slice, its end, the overrun, switching a tile out and in, forced
pre-emption (R44, R49, R52, R62, R86, R379, R392-R396). -/

namespace Sys2Proof.Machine

/-! ### The grant of a slice (R390, R392, R393) -/

/-- The slice length S of a die's partition: what its configuration record sets within the limits, and else 1 ms (R392; log 4). -/
def State.sliceLen (s : State) (d : DieId) : Nat :=
  match (s.partOf d).bind (assocGet s.slices) with
  | some n => if 160000 ≤ n && n ≤ 16000000 then n else 1600000
  | none => 1600000

/-- The weight of a context on a cluster (R392). -/
def State.weightOn (s : State) (cl : ClusterId) (id : CtxId) : Nat :=
  let c := s.ctxAt id
  weightOf c.weights ((s.topClass c cl).getD 0)

/-- The context of least pass; ties go to the lower identifier (R393). -/
def Cluster.best (c : Cluster) (ids : List CtxId) : Option CtxId :=
  ids.foldl (fun acc i => match acc with
    | none => some i
    | some j =>
      let p := (c.passOf i).1
      let q := (c.passOf j).1
      if p < q || (p = q && i < j) then some i else some j) none

/-- The pass and the debt of a context set. -/
def Cluster.setPass (c : Cluster) (id : CtxId) (pass debt : Nat) : Cluster := { c with passes := assocSet c.passes id (pass, debt) }

/-- The loop of R393: turns pass unused while the chosen context's debt is S or more. The first argument bounds the turns. -/
def chooseSlice (slice : Nat) (w : CtxId → Nat) (ids : List CtxId) : Nat → Cluster → Cluster × Option (CtxId × Nat)
  | 0, c => (c, none)
  | n + 1, c => match c.best ids with
    | none => (c, none)
    | some i =>
      let p := c.passOf i
      let pass := p.1 + 65536 / w i
      if slice ≤ p.2 then chooseSlice slice w ids n (c.setPass i pass (p.2 - slice))
      else (c.setPass i pass 0, some (i, slice - p.2))

/-- More turns than the loop can take: every unused one takes S off a debt. -/
def Cluster.turns (c : Cluster) (slice : Nat) (ids : List CtxId) : Nat :=
  1 + ids.length + (ids.map (fun i => (c.passOf i).2 / slice)).foldl (· + ·) 0

/-- A grant on a die counts for the courses that wait there (R390). -/
def State.countGrants (s : State) (die : DieId) : State :=
  s.mapCtxs (fun c => { c with queues := c.queues.map (fun u => { u with courses := u.courses.map (fun x => x.countGrant die) }) })

/-- A cluster chooses its next context and grants it a slice; one with no runnable context is idle (R392, R393). -/
def State.grantSlice (s : State) (cl : ClusterId) : State :=
  let s := s.noteDie cl.die
  let c := s.clusterAt cl
  let ids := s.runnable cl
  let slice := s.sliceLen cl.die
  match chooseSlice slice (s.weightOn cl) ids (c.turns slice ids) c with
  | (c, none) => s.modCluster cl (fun _ => { c with resident := none, overrun := false })
  | (c, some (id, n)) =>
    (s.modCluster cl (fun _ => { c with resident := some id, overrun := false, sliceEnd := s.clock + n })).countGrants cl.die

/-- The lodge withholds slices on a die now, so that its partition stays under the power cap that its configuration record gives. The
power is an input: a free value (R441; log 93). -/
def State.capHolds (s : State) (d : DieId) : Bool :=
  match s.partOf d with
  | some p => (assocGet s.powerCaps p).isSome && (Config.freeWord s.free).getLsbD 0
  | none => false

/-- A cluster is offered a slice: it grants one, or the lodge withholds it for a while (R393, R441; log 93). -/
def State.offerSlice (s : State) (cl : ClusterId) : State :=
  if s.capHolds cl.die then
    let (n, s) := s.spend.drawDelay
    s.modCluster cl (fun c => { c with resident := none, overrun := false, withheld := s.clock + 1 + n })
  else s.spend.grantSlice cl

/-- The only runnable context receives a new slice without a switch (R393). -/
def State.renewSlice (s : State) (cl : ClusterId) (id : CtxId) : State :=
  let n := s.sliceLen cl.die
  (s.modCluster cl (fun c =>
    { c.setPass id ((c.passOf id).1 + 65536 / s.weightOn cl id) 0 with sliceEnd := s.clock + n })).countGrants cl.die

/-! ### Which tiles may switch (R44, R49, R52, R394, R395) -/

/-- The tiles of a context on a cluster. -/
def State.clusterKeys (s : State) (id : CtxId) (cl : ClusterId) : List TileKey :=
  (s.tiles.filter (fun x => x.1.ctx = id && keyCluster x.1 = cl)).map (·.1)

/-- A bundle counts as a MARK bundle: by its header, a barrier or TASKEND in it, whatever their guards (R56). -/
def marksRegion (b : BitVec 512) : Bool :=
  (bundleHdr b).getLsbD 0 || (looseSlots b).any (fun x => x.2.isBarrier) || (match decodeControl (bundleCtl b) with
    | .ok i => isTaskend i
    | .error _ => false)

/-- A CELLR of a bundle finds its cell empty, or held by another (R78). -/
def Ready.cellrWaits (s : State) (r : Ready) : Bool :=
  match r.i, s.place .cell (lowWord r.t) 8 8 with
  | .cellr _ _ _, .ok (.scratch tid off) => !(s.tileAt (s.ownerKey tid)).cellReady off true
  | _, _ => false

/-- The tile's next issue cycle waits for a cell read: the bundle, or a spin slot replayed with it, reads the q of a CELLR or CELLP that has
not read its cell, or the bundle closes a region whose CELLR has not read its cell, its own CELLR counted. In the wait of a WAIT, and
while a spin holds a TASKEND bundle, the issue cycle's bundle is empty and reads nothing; it is not fetched (R56, R231, R232, R248,
R395). -/
def State.cellStalled (s : State) (k : TileKey) : Bool :=
  let v : State := { s with cur := k }
  let t := v.tile
  let next := t.buffered t.core.seq.pc
  let empty := t.core.seq.waitLeft ≠ 0 || (match next with | some b => v.heldTaskend b | none => false)
  match (if empty then some 0 else next) with
  | none => false
  | some b =>
    let own := if empty then [] else (looseSlots b).filterMap (fun x => v.ready x.1 (bundleHdr b) x.2)
    let rs := own ++ (t.replay (if empty then 0 else bundleHdr b)).filterMap (fun x => v.ready x.1 x.2.1 x.2.2)
    let open_ (p : Sock × RPort) : Bool := p.2 = .q && v.portWait p && t.core.cellRds.any (fun c => !c.done && lsuOfTwin c.u = p.1)
    rs.any (fun r => r.ports.any open_) || (!empty && marksRegion b && (v.cellStall || own.any (fun r => r.cellrWaits v)))

/-- A waiting tile (R395). -/
def State.waits (s : State) (k : TileKey) : Bool :=
  let q := (s.tileAt k).core.seq
  q.waitu.isSome || q.waitb.isSome || q.barrier.isSome || s.cellStalled k

/-- The tile has nothing to switch: no task, and nothing in its pipelines (R394). -/
def Tile.vacant (t : Tile) : Bool := t.task.isNone && t.core.drained && !t.priv && !t.frozen

/-- A tile may leave its cluster now: it is idle, frozen, waiting, or at a safe point (R44, R379, R394, R395). -/
def State.maySwitch (s : State) (k : TileKey) : Bool :=
  let t := s.tileAt k
  t.out || t.frozen || (t.task.isNone && !t.priv) || (t.core.seq.safe && !t.priv) || (!t.priv && s.waits k)

/-- A cluster-shaped gate is in progress on a cluster: a tile runs a task of it, or its orbit is attached (R49). An orbit that fewer than
16 tiles have offered when the gate's tasks have ended is never attached and never detached: R49 and R159 give it no end, and the model
keeps it, and the gate with it, open (DESIGN CHOICE, log 90). -/
def State.gateOn (s : State) (id : CtxId) (cl : ClusterId) : Bool :=
  (s.clusterKeys id cl).any (fun j => (s.tileAt j).inCluster) || ((s.ctxAt id).orbit? cl).isSome

/-- The tiles that switch together with a tile: all those of its cluster until a cluster-shaped gate on it ends, or its tow set (R49,
R52). -/
def State.switchSet (s : State) (k : TileKey) : List TileKey :=
  if s.gateOn k.ctx (keyCluster k) then s.clusterKeys k.ctx (keyCluster k) else s.towSet k

/-! ### Switching out (R379, R394) -/

/-- The switch request as a tile records it (R363; the words that it does not name: log 50). -/
def Tile.switchCause (t : Tile) (forced : Bool) (free : Nat) : Cause :=
  { code := 0x32, tepc := t.core.seq.pc, i0 := Config.freeInfo free 0, i1 := if forced then 1 else 0,
    i2 := Config.freeInfo free 2, i3 := Config.freeInfo free 3 }

/-- The state of a tile is saved when it leaves its cluster, and read back when it returns (R376-R379). -/
def Tile.keeps (t : Tile) : Bool := !t.priv && t.dispatched

/-- The stub sequence of a switch-out on one tile: the snapshot is taken and the state saved; the stub stop leaves the tile to the lodge,
the buffer is lost, and the tile leaves its cluster. A tile that is in a stub leaves as it stands, and one that the context has never
run on has no state to save (R84, R376, R377, R379; log 13). -/
def State.saveOut (s : State) (k : TileKey) : State :=
  let leave (t : Tile) : Tile := { t with ibuf := [], out := true }
  let s := s.modTileAt k (fun t => if t.frozen || t.task.isNone then t else t.recordCause (t.switchCause false s.free))
  let s := if !(s.tileAt k).keeps then s
    else ((s.modTileAt k (fun t => { t with stubFrom := t.nextId })).snapOut k).saveTile k
  let s := s.modTileAt k leave
  { s.spend with turn := s.turn.filter (· ≠ k) }

/-- Every tile of a context on a cluster has left it, or has nothing to switch. -/
def State.allOut (s : State) (id : CtxId) (cl : ClusterId) : Bool :=
  (s.clusterKeys id cl).all (fun k => (s.tileAt k).out || (s.tileAt k).vacant)

/-- When the last tile has switched out, the overrun is added to the context's debt and the cluster chooses its next context
(R393, R394). -/
def State.settleCluster (s : State) (cl : ClusterId) : State :=
  let c := s.clusterAt cl
  match c.resident with
  | none => s
  | some id =>
    if !c.overrun || !s.allOut id cl then s
    else
      let p := c.passOf id
      (s.modCluster cl (fun c => { c.setPass id p.1 (p.2 + (s.clock - c.sliceEnd)) with resident := none, overrun := false })).offerSlice cl

/-- The save area of a tile that a switch would use and that lies outside the populated ranges (R379, R398). -/
def State.switchRefused (s : State) (set : List TileKey) : Option Nat :=
  set.findSome? (fun k => if (s.tileAt k).keeps && !s.areaOkAt k then some (s.tileAt k).area else none)

/-- SWITCH_OUT: after the slice's end, the tile, with those that switch together with it, leaves the cluster once each may; a save area
outside the populated ranges is refused (R379, R394, R398). -/
def execSwitchOut (s : State) : Out :=
  let cl := keyCluster s.cur
  let set := s.switchSet s.cur
  if !((s.clusterAt cl).overrun && s.residentAt s.cur) || s.tile.out || !set.all s.maySwitch then .next s
  else match s.switchRefused (set.filter (fun k => !(s.tileAt k).out)) with
  | some a => .fault (.unpopulatedPhysical a)
  | none => .next ((set.foldl (fun s k => if (s.tileAt k).out then s else s.saveOut k) s).settleCluster cl)

/-- A tile that a forced pre-emption freezes: one with something to switch that has not switched and does not stand frozen already, also
in a stub (R394). -/
def State.straggler (s : State) (k : TileKey) : Bool :=
  let t := s.tileAt k
  !t.out && !t.frozen && !t.vacant

/-- FORCED_PREEMPTION: at an overrun of 4S every tile that has not switched is frozen with a switch request of its own, those of a tow
set too (R394). -/
def execForcedPreemption (s : State) : Out :=
  let cl := keyCluster s.cur
  let c := s.clusterAt cl
  match c.resident with
  | none => .next s
  | some id =>
    if !c.overrun || s.clock < c.sliceEnd + 4 * s.sliceLen cl.die then .next s
    else .next ((s.clusterKeys id cl).foldl (fun s k =>
      if s.straggler k then (s.modTileAt k (fun t => t.recordCause (t.switchCause true s.free))).spend else s) s)

/-- SLICE_END: the cluster's slice is over; the only runnable context receives a new one, else, or where the lodge withholds it, the tiles
begin to switch out. A cluster with no context grants a slice (R393, R394, R441). -/
def execSliceEnd (s : State) : Out :=
  let cl := keyCluster s.cur
  let s := s.noteDie cl.die
  let c := s.clusterAt cl
  match c.resident with
  | none => .next (if s.runnable cl = [] || s.clock < c.withheld then s else s.offerSlice cl)
  | some id =>
    if c.overrun || s.clock < c.sliceEnd then .next s
    else if s.runnable cl = [id] && !s.capHolds cl.die then .next (s.spend.renewSlice cl id)
    else .next ((s.spend.modCluster cl (fun c => { c with overrun := true })).settleCluster cl)

/-! ### Switching in (R86, R379, R396) -/

/-- RFLD and SNAPLD of a switch-in: the items of the save area and the entries of its snapshot come back. Handles, counters and trap
registers stand as the services of the lodge have left them meanwhile (R377-R379, R396; log 13). -/
def State.readBack (s : State) (k : TileKey) : State :=
  let t := s.tileAt k
  if !t.keeps then s
  else
    let c := { s.loadCore t.area t.core with h := t.core.h, ev := t.core.ev }
    s.setTileAt k ({ t with core := c, snap := s.snapFrom t.area t.snap } : Tile).giveSnap

/-- A tile comes back: its state is read from the image, the lock list is replayed, and a switch request is over; another cause is
still pending (R379, R396). -/
def State.bringIn (s : State) (k : TileKey) : State :=
  let s := ((s.readBack k).modTileAt k (fun t => let t := { t with out := false }; if t.frozen then t else t.settleOwed)).replayLocks k
  let t := s.tileAt k
  if t.frozen && t.code = 0x32 then (s.modTileAt k Tile.thaw).takeHeld k else s

/-- SWITCH_IN: the tile, with those that switched together with it, is restored on its cluster and resumes; a save area outside the
populated ranges is refused (R379, R396, R398). -/
def execSwitchIn (s : State) : Out :=
  if !s.tile.out || !s.activeAt s.cur then .next s
  else match s.switchRefused ((s.switchSet s.cur).filter (fun k => (s.tileAt k).out)) with
  | some a => .fault (.unpopulatedPhysical a)
  | none => .next ((s.switchSet s.cur).foldl (fun s k => if (s.tileAt k).out then s.bringIn k else s) s)

end Sys2Proof.Machine
end

