-- ==== Sys2Proof/Machine/Turn.lean ====
section
/-! DEFINITION. Which step the machine takes next: steps that are due, steps that a state enables, the turns of the tiles in a clock,
and the clock itself (R16-R25, R51, R52, R55, R62, R166, R179, R189, R190, R234, R394, R395; log 2). -/

namespace Sys2Proof.Machine

/-- What comes next: an instruction at the tile of the state, or a change that no row of the table names. -/
inductive Next where
  | run (s : State) (i : Instr)
  | pass (s : State)
  deriving DecidableEq, Repr

/-! ### The turn of a tile in a clock (R23, R51, R52, R55, R67, R179, R189, R232, R234) -/

/-- What a tile does in its clock. -/
inductive TurnKind where
  /-- Nothing: no task and nothing in flight, frozen, or switched out (R25, R394). -/
  | rest
  /-- The pipelines empty behind a task that has ended (R234). -/
  | tail
  /-- A tow follower still waits its distance (R51). -/
  | skewed
  | stalled
  /-- The wait of a DRAIN bit (R55). -/
  | draining
  /-- A stall clock of a bank conflict (R67). -/
  | owed
  /-- A wait ends, or traps. -/
  | wait (i : Instr)
  /-- An empty bundle (R232). -/
  | empty
  | issue (b : BitVec 512)
  /-- The next bundle is not in the buffer (R84). -/
  | fetch
  deriving DecidableEq, Repr

/-- A tile with something to do in a clock: a task, a stub, results in flight, or a matrix engine at work (R157, R234). -/
def Tile.active (t : Tile) : Bool :=
  t.task.isSome || t.priv || !t.core.drained || t.core.mx.queue ≠ [] || t.core.mx.clk < max t.core.mx.loadFree t.core.mx.streamFree

/-- A tile stands at its safe point while its cluster switches, and goes no further (R44, R394). -/
def State.heldSafe (s : State) (k : TileKey) : Bool :=
  let t := s.tileAt k
  s.residentAt k && !s.activeAt k && t.core.seq.safe && !t.priv

/-- A tile takes part in the clocks of its cluster. -/
def State.takesTurn (s : State) (k : TileKey) : Bool :=
  let t := s.tileAt k
  t.active && !t.frozen && !t.out && (s.residentAt k || t.priv)

/-- A bundle with a numerics profile in its header. -/
def withProfile (b : BitVec 512) (n : BitVec 4) : BitVec 512 :=
  (b &&& ~~~ (0xFFFF : BitVec 512)) ||| (profHdr (bundleHdr b) n).zeroExtend 512

/-- The bundle that issues: one that the translator made for the task's course carries the profile of the course record (R38, R331;
log 11). -/
def State.profiled (s : State) (b : BitVec 512) : BitVec 512 :=
  match (if s.tile.priv || s.tile.frame.isSome then none else s.tile.task) with
  | none => b
  | some k => match s.ctx.course? k.q k.course with
    | none => b
    | some x => if s.ctx.translated x.cr.code then withProfile b x.cr.nprof else b

/-- What the sequencer of a tile with a task or a stub does in its clock; the state's tile of the step is that tile. A wait is tested first:
whatever else holds the tile, it ends in the first clock in which its condition holds (R179, R189, R190). A tow divergence is raised at the
issue that follows, whatever would have issued (R53). A tile that is held at its safe point stalls there (R394). -/
def State.seqTurn (s : State) : TurnKind :=
  let t := s.tile
  let q := t.core.seq
  match q.waitu with
  | some w => if !s.promiseDue w then .stalled else if w.inTime then .wait .waituEnd else .wait .promiseMissed
  | none => match q.waitb with
    | some w =>
      if s.waitOver s.cur w then .wait .waitbSatisfied
      else if w.stop ≤ s.cycle s.cur.die then .wait .waitExpired
      else .stalled
    | none =>
      if q.diverged.isSome then .issue 0
      else if q.skew ≠ 0 then .skewed
      else if q.barrier.isSome then .stalled
      else if s.heldSafe s.cur then .stalled
      else if q.drain then .draining
      else if q.owe ≠ 0 then .owed
      else if q.waitLeft ≠ 0 then .empty
      else match t.buffered q.pc with
        | some b => .issue (s.profiled b)
        | none => .fetch

/-- What a tile does in its clock. -/
def State.turnKind (s : State) : TurnKind :=
  if !s.takesTurn s.cur then .rest
  else if s.tile.task.isNone && !s.tile.priv then .tail
  else s.seqTurn

/-- One clock less to wait for a tow follower (R51). -/
def Seq.unskew (q : Seq) : Seq := { q with skew := q.skew - 1 }
/-- One owed stall clock less (R67). -/
def Seq.pay (q : Seq) : Seq := { q with owe := q.owe - 1 }

/-- The fetch of the next bundle begins, unless it has begun (R84; log 3). -/
def State.wantBundle (s : State) : State :=
  if s.events.any (fun e => e.at_ = s.cur && e.step = .bundleFetch) || (s.cur, .bundleFetch) ∈ s.walks ||
    s.pageReqs.any (fun r => r.work = .serve s.cur .bundleFetch && s.concerns r s.ctx.asid s.tile.core.seq.pc) then s else s.addLater s.cur .bundleFetch

/-! ### Tow sets (R51-R53) -/

/-- The tile of the state would stall in this clock. A tile that waits its distance, that stands at its safe point, or that traps, does
not (R51, R52, R394). -/
def State.wouldStall (s : State) : Bool :=
  match s.turnKind with
  | .rest => false
  | .tail => false
  | .skewed => false
  | .stalled => s.tile.core.seq.barrier.isSome || !s.heldSafe s.cur
  | .draining => true
  | .owed => true
  | .wait i => i ≠ .waitExpired && i ≠ .promiseMissed
  | .fetch => true
  | .empty => let u := s.emptyCycle.tile; !u.frozen && u.issue = s.tile.issue
  | .issue b => let u := (s.issueBundle b).tile; !u.frozen && u.issue = s.tile.issue

/-- The tile of the state would take a trap in this clock, and issue nothing. -/
def State.wouldFreeze (s : State) : Bool :=
  match s.turnKind with
  | .wait i => i = .waitExpired || i = .promiseMissed
  | .empty => let u := s.emptyCycle.tile; u.frozen && u.issue = s.tile.issue
  | .issue b => let u := (s.issueBundle b).tile; u.frozen && u.issue = s.tile.issue
  | _ => false

/-- The tile of the state would issue a bundle in this clock and trap behind it (R236). -/
def State.issuesAndFreezes (s : State) : Bool :=
  match s.turnKind with
  | .issue b => let u := (s.issueBundle b).tile; u.frozen && u.issue ≠ s.tile.issue
  | _ => false

/-- The results of the tile of the step that land by themselves: the timed ones, and the next interlocked one of each unit (R19-R21). -/
def State.landDue (s : State) : State :=
  allSocks.foldl (fun s sk => match s.tile.deliverable? s.clock sk with
    | none => s
    | some f => s.landNow (s.tile.core.flight.filter (fun e => e.sk = sk && e.locked && e.id = f.id))) (s.landNow s.tile.landing)

/-- A slot whose results depend on its own tile's registers and ports alone. -/
def ownSlot (i : Instr) : Bool :=
  match trigOf i with
  | none => true
  | some x => x.sk ∈ [.alu0, .alu1, .mul, .prd, .valu0, .valu1, .vsfu, .perm]

/-- A timed result that clocks bring nearer, and not issue cycles alone (R24). -/
def InFlight.drifts (f : InFlight) : Bool := f.free && !f.locked

/-- Stall clocks do not change what the port comes to hold: of its results that clocks bring nearer, a later one lands later (R20, R23). -/
def inStep : List InFlight → Bool
  | [] => true
  | f :: r => r.all (fun g => !(f.drifts && g.drifts && f.sk = g.sk && f.port = g.port) || f.rem < g.rem) && inStep r

/-- What some slots read is the same whatever stall clocks come before: no result on its way to a port that they read drifts (R23, R24). -/
def State.steadyReads (s : State) (is : List Instr) : Bool :=
  is.all (fun i => match s.ready 0 0 i with
    | none => true
    | some r => r.ports.all (fun x => !s.tile.core.flight.any (fun f => f.drifts && (f.sk, f.port) = x)))

/-- The tile of the step runs one clock by itself; none where it stalls or traps, where another tile, a memory or an engine may have a
part in what it does, or where a stall clock of its set could change what it reads (R23, R53; log 56). -/
def State.aheadClock (s : State) : Option State :=
  let v := s.landDue
  let pass (u : State) : Option State :=
    if u.tile.frozen || u.tile.issue = v.tile.issue || !inStep u.tile.core.flight then none else some { u with clock := u.clock + 1 }
  let own (b : BitVec 512) : Bool :=
    let is := (looseSlots b).map (·.2) ++ (v.tile.replay 0).map (·.2.2)
    is.all ownSlot && v.steadyReads is
  match v.seqTurn with
  | .skewed => let u := (v.modTile (fun t => t.mapSeq Seq.unskew)).stallClock; some { u with clock := u.clock + 1 }
  | .empty => if own 0 then pass v.emptyCycle else none
  | .issue b => if own b then pass (v.issueBundle b) else none
  | _ => none

/-- The tile of the step, left to itself, comes behind bundle n with the outcome e within the given clocks (R53; log 56). -/
def State.comesTo (n : Nat) (e : BitVec 56 × Bool) : Nat → State → Bool
  | 0, _ => false
  | f + 1, s => match s.aheadClock with
    | none => false
    | some v =>
      if n < v.tile.towN then (v.tile.core.seq.pc, v.tile.core.seq.target.isSome) = e else State.comesTo n e f v

/-- A follower that has not issued bundle n yet may decide otherwise than its leader, as far as can be told now (R53; log 56). -/
def State.undecided (s : State) (n : Nat) (k : TileKey) : Bool :=
  let t := s.tileAt k
  t.towN ≤ n && (match assocGet t.trace n with
    | none => true
    | some e => !State.comesTo n e 64 { s with cur := k })

/-- An episode of a barrier object awaits a tile of the tow set whose leader, or another tile, has arrived (R256). -/
def State.awaitedBy (s : State) (k : TileKey) (ob : BarObj) : Bool :=
  !((s.ctxAt k.ctx).hasArrived ob k.die k.tid) && (match ob with
    | .group _ g => k.tid ∈ (s.group k g).members
    | .cluster _ => true
    | .course _ _ => true)

/-- The tiles of a tow set that have not issued the bundle before the one at which tile k stands. -/
def State.notYet (s : State) (set : List TileKey) (k : TileKey) : List TileKey :=
  set.filter (fun j => (s.tileAt j).towN < (s.tileAt k).towN)

/-- The tiles of a tow set that have still to arrive at a barrier in which another waits for them: that wait does not hold them, or it
would never end (R52, R256; DEDUCED, log 27). -/
def State.comingTo (s : State) (set : List TileKey) : List TileKey :=
  set.filter (fun j => (s.tileAt j).core.seq.barrier.isNone && set.any (fun k => match (s.tileAt k).core.seq.barrier with
    | some ob => (s.tileAt j).towN < (s.tileAt k).towN && s.awaitedBy j ob
    | none => false))

/-- The tiles of a tow set that go on while the others wait for them, where some wait: for those that have not issued the branch at which
a follower has diverged; for those that have still to arrive at a barrier; for those that may decide otherwise at the branch that the
leader has issued; for those that have not come to the safe point at which a tile is held (R53, R256, R394). -/
def State.towWaits (s : State) (set : List TileKey) : Option (List TileKey) :=
  match set.find? (fun k => (s.tileAt k).core.seq.diverged.isSome) with
  | some k => some (s.notYet set k)
  | none =>
    if s.comingTo set ≠ [] then some (s.comingTo set)
    else if set.any (fun k => (s.tileAt k).core.seq.barrier.isSome) then none
    else match set.find? (fun k =>
      let t := s.tileAt k
      t.towing && t.towDist = 0 && t.core.seq.chose && t.towN ≠ 0 && set.any (s.undecided (t.towN - 1))) with
    | some k => some (s.notYet set k)
    | none => (set.find? (fun k => s.heldSafe k && (s.tileAt k).towN ≠ 0)).map (fun k => s.notYet set k)

/-- The tile of the step waits in this clock for others of its tow set. -/
def TowTurn.holds (x : TowTurn) (k : TileKey) : Bool :=
  match x with
  | .only ks => k.tid ∉ ks
  | .stall => true
  | .freeze => true
  | .go => false

/-- A follower waits again the issue cycles that it has gained on a leader that waited (R51). -/
def Tile.settleAhead (t : Tile) : Tile := { t.mapSeq (fun q => { q with skew := q.skew + t.ahead }) with ahead := 0 }

/-- A follower has gained an issue cycle on its leader. -/
def Tile.gain (t : Tile) : Tile := if t.towDist = 0 then t else { t with ahead := t.ahead + 1 }

/-- What a tow set of which no tile is frozen does in a clock (R51-R53). -/
def State.towChoice (s : State) (set : List TileKey) (w : Option (List TileKey)) : TowTurn :=
  let free := w.getD set
  let freezes (k : TileKey) : Bool := ({ s with cur := k } : State).wouldFreeze
  if free.any (fun k => ({ s with cur := k } : State).wouldStall) then .stall
  else if free.any freezes || (free = [] && set.any (fun k => (s.tileAt k).core.seq.diverged.isSome && freezes k)) then .freeze
  else match w with
    | some l => .only (l.map (·.tid))
    | none => .go

/-- What the tile's tow set does in this clock, noted at every tile of the set with whether it traps by itself (R51-R53). -/
def State.towDecide (s : State) : TowTurn × State :=
  let set := s.towSet s.cur
  let w := s.towWaits set
  let s := if w.isSome then s else set.foldl (fun s k => s.modTileAt k Tile.settleAhead) s
  let turn := s.towChoice set w
  let traps (k : TileKey) : Bool :=
    let v : State := { s with cur := k }
    if turn.holds k then turn = .freeze && v.wouldFreeze else v.issuesAndFreezes
  let ts := set.map (fun k => (k, traps k))
  (turn, ts.foldl (fun s x => s.modTileAt x.1 (fun t => { t with towAt := some (s.clock, turn, x.2) })) s)

/-- What the tile's tow set does in this clock: decided once for the whole set, from the state at its first turn (R52). -/
def State.towTurn (s : State) : TowTurn × State :=
  if !s.tile.inTow then (.go, s)
  else match s.tile.towAt with
    | some (c, h, _) => if c = s.clock then (h, s) else s.towDecide
    | none => s.towDecide

/-- Another tile of the tow set has frozen in an earlier clock, in which this one was to trap by itself and did not (R52). -/
def State.leftBehind (s : State) : Bool :=
  s.tile.inTow && (match s.tile.towAt with | some x => x.1 ≠ s.clock && x.2.2 | none => false) &&
    (s.towSet s.cur).any (fun k => (s.tileAt k).frozen)

/-- A clock of a tile that its tow set does not hold; one that its leader waits for gains on it. -/
def State.gainClock (s : State) (x : TowTurn) : State :=
  match x with
  | .only _ => s.modTile Tile.gain
  | _ => s

/-- The turn of the tile of the step (R23, R52). -/
def State.tileTurn (s : State) : Next :=
  if s.leftBehind then .pass (s.modTile (Tile.freeze false))
  else
  let r := s.towTurn
  let s := r.2
  let hold := r.1.holds s.cur
  if r.1 = .freeze && !s.wouldFreeze then .pass s
  else match s.turnKind with
  | .rest => .pass s
  | .tail => .pass (s.clockTick false true)
  | .skewed => .pass (if hold then s.stallClock else ((s.gainClock r.1).modTile (fun t => t.mapSeq Seq.unskew)).stallClock)
  | .stalled => .pass s.stallClock
  | .draining => .pass (s.clockTick false true)
  | .owed => .pass (s.modTile (fun t => t.mapSeq Seq.pay)).stallClock
  | .wait i => .run s i
  | .fetch => .pass s.wantBundle.stallClock
  | .empty => .pass (if hold && r.1 ≠ .freeze then s.stallClock else (s.gainClock r.1).emptyCycle)
  | .issue b =>
    if hold && r.1 ≠ .freeze && !(r.1 = .stall && s.wouldStall) then .pass s.stallClock else .run (s.gainClock r.1) (.bundleIssue b)

/-! ### Steps that a state enables -/

/-- The first ring position at which a line of a tile can be delivered (R187, R188). -/
def State.sendNow (s : State) (k : TileKey) : Option Instr :=
  if (s.tileAt k).sends.isEmpty then none
  else ((List.range 16).find? (fun i => (s.readySend k (BitVec.ofNat 4 i)).isSome)).map (fun i => .nsendDelivery (BitVec.ofNat 4 i))

/-- The event of a matrix engine that is due (R152, R157). -/
def MxCore.dueEvent (m : MxCore) : Option Instr :=
  let load : Option Instr := match m.loadHead with
    | some (.wld _ due _ _ _ _ _ _) => if due ≤ m.clk then some .wldPageWritten else none
    | _ => none
  load <|> (match m.streamHead with
    | some (.pass _ due _ _ _ _ _ _ _ _) => if due ≤ m.clk then some .astrPassEntered else none
    | some (.clr _ due _) => if due ≤ m.clk then some .mxclrTakesEffect else none
    | some (.drainst _ due _ _ _ _ _ _ _) => if due ≤ m.clk then some .drainstComplete else none
    | _ => none)

/-- A wait finds its condition outside the turns of its tile: the tile is switched out or frozen, runs a stub, or is in a handler (R189,
R359, R371, R395). -/
def State.outWait (s : State) (k : TileKey) : Bool :=
  let t := s.tileAt k
  (if t.out || t.frozen then t.core.seq.waitb.toList else []).any (s.waitOver k) || t.sideWaits.any (s.waitOver k)

/-- The station of a tile releases now (R170). -/
def State.releaseReady (s : State) (k : TileKey) : Bool :=
  let t := s.tileAt k
  match (s.ctxAt k.ctx).orbit? (keyCluster k) with
  | none => false
  | some o => !t.station.released && o.stepDue.isNone && t.conjQ.isEmpty && t.station.holding.isEmpty &&
      (match t.task with | some k => k.conj.isNone | none => true)

/-- What a tile that is on its cluster does without an issue cycle: results, waits, lines to send, the matrix engine, the station. A line
on its way waits for its head cell alone, not for its sender (R187). -/
def State.tileStep (s : State) (k : TileKey) (t : Tile) : Option Instr :=
  if t.out then (if s.activeAt k then some .switchIn else if s.outWait k then some .waitbSatisfied else s.sendNow k)
  else if t.frozen then (if s.outWait k then some .waitbSatisfied else s.sendNow k)
  else if t.landing ≠ [] then some .timedResultLands
  else if t.core.seq.drain && t.emptied then some .drainBitWaitEnd
  else
    (if s.outWait k then some .waitbSatisfied else none) <|>
    (if t.core.flight.isEmpty then none else (allSocks.find? (fun sk => (t.deliverable? s.clock sk).isSome)).map .interlockedResultDelivered) <|>
    s.sendNow k <|>
    (if t.priv then none else t.core.mx.dueEvent) <|>
    (if s.releaseReady k then some .stationRelease else none) <|>
    (if s.conjReady k then some .conjunctionTaskStart else none)

/-- One tile comes before another: ascending die, then ascending tid, which within a cluster is the ring position (R79, R252). -/
def keyBefore (a b : TileKey) : Bool := a.die < b.die || (a.die = b.die && a.tid ≤ b.tid)

/-- A tile put at its place among tiles in that order. -/
def putInOrder (k : TileKey) : List TileKey → List TileKey
  | [] => [k]
  | x :: r => if keyBefore k x then k :: x :: r else x :: putInOrder k r

/-- Tiles in that order. -/
def inRingOrder (l : List TileKey) : List TileKey := l.foldr putInOrder []

/-- The cell that a slot's operation names. -/
def Ready.cell (s : State) (r : Ready) : Option Place :=
  match s.place .cell (lowWord r.t) 8 8 with
  | .ok p => some p
  | .error _ => none

/-- The cell operations of the bundle that a tile would issue: those that act at once, and at a bundle that closes its region those that
the region commits; with each whether it is a CELLW, which can trap (R56, R78). -/
def State.cellOps (s : State) (k : TileKey) : List (Place × Bool) :=
  let v : State := { s with cur := k }
  let t := v.tile
  match t.buffered t.core.seq.pc with
  | none => []
  | some b =>
    let mark := marksRegion b
    let rs := (looseSlots b).filterMap (fun x => v.ready x.1 (bundleHdr b) x.2)
    let cells := rs.filterMap (fun r => match r.i with
      | .cellr _ _ _ => (r.cell v).map (fun p => (p, false))
      | .cellp _ _ _ => (r.cell v).map (fun p => (p, false))
      | .cellw _ _ _ => if mark then (r.cell v).map (fun p => (p, true)) else none
      | .cellwr _ _ _ => if mark then (r.cell v).map (fun p => (p, false)) else none
      | _ => none)
    cells ++ (if mark then t.gated.filterMap (fun g => match g.kind with
      | .cellw _ => some (g.place, true)
      | .cellwr _ => some (g.place, false)
      | .cellr _ => some (g.place, false)
      | _ => none) else [])

/-- On a bank, one tile's operation comes before another's of the same clock: an owner's own before those through the window, and then in
the order of the ring (R79, R252). -/
def bankFirst (a b : TileKey) (tid : BitVec 6) : Bool :=
  let own (k : TileKey) : Bool := k.tid = tid
  (own a && !own b) || (own a == own b && keyBefore a b)

/-- Tile o's operation on a cell comes before tile k's of the same clock (R79). -/
def cellFirst (o k : TileKey) (p : Place) : Bool :=
  match p with
  | .scratch tid _ => o ≠ k && o.ctx = k.ctx && o.die = k.die && bankFirst o k tid
  | .phys _ => false

/-- A tile whose turn of this clock is still to come reaches a cell before tile k (R79). -/
def State.cellAwaits (s : State) (turn : List TileKey) (k : TileKey) (p : Place) : Bool :=
  turn.any (fun o => cellFirst o k p && (s.cellOps o).any (fun x => x.1 = p))

/-- The waiting cell read of a tile that runs, if its cell is full and no tile of this clock comes before it there (R79). -/
def State.waitingCell (s : State) (k : TileKey) : Option CellRd :=
  let t := s.tileAt k
  if t.out || t.frozen then none
  else match s.readyCell k with
    | some r => if s.cellAwaits s.turn k (.scratch r.tid r.off) then none else some r
    | none => none

/-- The tile whose waiting cell read is served next: an owner's own before those through the window, and then in the order of the ring
(R79). -/
def State.cellSteps (s : State) : Option (TileKey × Instr) :=
  let ks := inRingOrder ((s.tiles.filter (fun x => x.2.core.cellRds ≠ [] && (s.waitingCell x.1).isSome)).map (·.1))
  let own (k : TileKey) : Bool := match s.waitingCell k with | some r => r.tid = k.tid | none => false
  (ks.find? own <|> ks.head?).map (fun k => (k, .cellReadSatisfied))

/-- The committed cell operation that takes its effect now: no tile of this clock comes before it any more, nor another that waits (R79). -/
def State.lateCell (s : State) : Option (TileKey × Gated) :=
  let l := s.lateCells.filter (fun x => !s.cellAwaits s.turn x.1 x.2.place)
  l.find? (fun x => !l.any (fun y => y.2.place = x.2.place && cellFirst y.1 x.1 x.2.place)) <|> l.head?

/-- It takes its effect. -/
def State.performLate (s : State) (x : TileKey × Gated) : State :=
  { ({ s with lateCells := s.lateCells.erase x, cur := x.1 } : State).commitNow x.2 with cur := s.cur }

/-- The first enabled step of a tile. -/
def State.tileSteps (s : State) : Option (TileKey × Instr) :=
  s.tiles.findSome? (fun x => (s.tileStep x.1 x.2).map (fun i => (x.1, i))) <|> s.cellSteps

/-- The key of a context's steps that name no tile, on a die. -/
def ctxKey (c : CtxId) (d : DieId) : TileKey := { ctx := c, die := d, tid := 0 }

/-- The tile that stands for a cluster in a step of a context. -/
def clusterKey (c : CtxId) (cl : ClusterId) : TileKey := { ctx := c, die := cl.die, tid := tidOf cl.cid 0 }

/-- The step of an orbit that is due (R163, R166, R172). -/
def State.orbitStep (s : State) (c : Ctx) (o : Orbit) : Option (TileKey × Instr) :=
  let k := clusterKey c.id o.cl
  let v : State := { s with cur := k }
  if (match o.stepDue with | some d => d ≤ o.clk && s.residentAt k | none => false) then some (k, .orbitStepComplete)
  else if v.stepReady o then some (k, .orbitStepBegin)
  else if v.lapReady o then some (k, .lapEnd)
  else none

/-- A walker's step on a die of a context (R40, R390). -/
def State.walkerStep (s : State) (c : Ctx) (d : DieId) : Option (TileKey × Instr) :=
  if c.queues.any (fun u => u.courses.any (fun x => x.starves d)) then some (ctxKey c.id d, .starvationPromotion)
  else if (s.dieAt d).hot || !(s.dieAt d).cs || (s.nextOffer c d).isNone then none
  else some (ctxKey c.id d, .gateDispatch)

/-- A course whose generation has ended asks for its growth (R42). -/
def State.growReady (s : State) (c : Ctx) : Bool :=
  (c.queues.zip (List.range c.queues.length)).any (fun u => u.1.courses.any (fun x => s.extends c (BitVec.ofNat 4 u.2) x))

/-- No such step is on its way. -/
def State.noneComing (s : State) (i : Instr) : Bool := !s.events.any (fun e => e.step = i) && !s.walks.any (fun w => w.2 = i)

/-- What a context does by itself: barriers, orbits, the lodge's and the walkers' work on its courses. -/
def State.ctxStep (s : State) (c : Ctx) : Option (TileKey × Instr) :=
  let one (b : Bool) (i : Instr) : Option (TileKey × Instr) := if b then some (ctxKey c.id 0, i) else none
  one (s.readyEpisode c).isSome .barrierEpisodeComplete <|>
  c.orbits.findSome? (s.orbitStep c) <|>
  one (s.growReady c) .growExtension <|>
  one (s.retiring c).isSome .courseRetire <|>
  one c.nextStart.isSome .courseStart <|>
  (maskDies c.dies).findSome? (s.walkerStep c) <|>
  one c.oldImage.isSome .retranslationSwap

/-- A tile of an overrun cluster that may leave it now, with those that switch together with it (R394, R395). -/
def State.leaver (s : State) (id : CtxId) (cl : ClusterId) : Option TileKey :=
  (s.clusterKeys id cl).find? (fun k => !(s.tileAt k).out && (!(s.tileAt k).vacant || s.allOut id cl) && (s.switchSet k).all s.maySwitch)

/-- The scheduler's step on a cluster (R392-R394). -/
def State.clusterStep (s : State) (cl : ClusterId) : Option (TileKey × Instr) :=
  let c := s.clusterAt cl
  match c.resident with
  | none => if s.runnable cl = [] || s.clock < c.withheld then none else some (clusterKey 0xFFFF cl, .sliceEnd)
  | some id =>
    if !c.overrun then (if c.sliceEnd ≤ s.clock then some (clusterKey id cl, .sliceEnd) else none)
    else match s.leaver id cl with
      | some k => some (k, .switchOut)
      | none =>
        if c.sliceEnd + 4 * s.sliceLen cl.die ≤ s.clock && (s.clusterKeys id cl).any s.straggler then
          some (clusterKey id cl, .forcedPreemption)
        else none

/-- The dies that some context is on. -/
def State.usedDies (s : State) : List DieId := maskDies (s.ctxs.foldl (fun m c => m ||| c.dies) 0)

/-- The first step of the scheduler that is due. -/
def State.clusterSteps (s : State) : Option (TileKey × Instr) :=
  s.usedDies.findSome? (fun d => ([0, 1, 2, 3] : List (BitVec 2)).findSome? (fun i => s.clusterStep { die := d, cid := i }))

/-- The instruction that handles a message of the lodge (R383, R427). -/
def lodgeInstr (ty : Nat) : Instr :=
  match ty with
  | 0x01 => .ctxcreate
  | 0x02 => .ctxdestroy
  | 0x03 => .launch
  | 0x04 => .signal
  | 0x05 => .qstat
  | 0x06 => .qresume
  | 0x07 => .inbox
  | 0x08 => .load
  | 0x09 => .attest
  | 0x0A => .linkmap
  | 0x0B => .diereset
  | _ => .badMessage

/-- The instruction that handles a message of a groomer core (R426). -/
def groomerInstr (ty : Nat) : Instr :=
  match ty with
  | 0x10 => .diestat
  | 0x11 => .errread
  | 0x12 => .telem
  | _ => .badMessage

/-- The next message of the lodge, or else of a groomer core, is handled; one at the aperture of a die outside the partition is discarded
(R382, R397, R425, R429). A groomer's message waits while a bad
one of the lodge does. -/
def State.messageStep (s : State) : Option (TileKey × Instr) :=
  if !s.booted then none
  else match s.lodgeMsg with
    | some m => some (ctxKey 0xFFFF 0, if s.lodgeOk m then lodgeInstr m.ty else .badMessage)
    | none => s.msgs.findSome? (fun (m : Msg) =>
        let d : DieId := BitVec.ofNat 6 (m.ep.toNat - 1)
        if m.ep.toNat = 0 then none
        else if !s.apertureOk m.part m.ep 0 64 then some (ctxKey 0xFFFF 0, .apertureBadWrite m.part m.ep 0 64)
        else match s.dieMsg d with
          | none => none
          | some n => some (ctxKey 0xFFFF d, if s.groomerOk d n && !(s.dieAt d).out then groomerInstr n.ty else .badMessage))

/-- The lodge's work on pages that nothing else will start (R406, R413). -/
def State.pageStep (s : State) : Option (TileKey × Instr) :=
  if s.nextPage.isSome && s.noneComing .revokeHandles then some (ctxKey 0xFFFF 0, .revokeHandles) else none

/-- The first step that the state enables. -/
def State.enabled (s : State) : Option (TileKey × Instr) :=
  s.tileSteps <|> s.ctxs.findSome? s.ctxStep <|> s.clusterSteps <|> s.messageStep <|> s.pageStep

/-! ### The clock -/

/-- The tiles whose turns make up the next clock, in the order of the ring (R79). -/
def State.newTurn (s : State) : List TileKey := inRingOrder ((s.tiles.filter (fun x => s.takesTurn x.1)).map (·.1))

/-- Tile o's turn comes before tile k's in one clock. A tile whose bundle issues and traps goes behind the others of its tow set, which issue
in the same clock (R52, R236). One that acts on a cell goes behind those whose operations on it come first (R79), `hard` where its own is a
CELLW, which can trap. -/
def State.turnFirst (s : State) (hard : Bool) (o k : TileKey) : Bool :=
  (({ s with cur := k } : State).tile.inTow && o ∈ s.towSet k && o ≠ k && ({ s with cur := k } : State).issuesAndFreezes &&
    !({ s with cur := o } : State).issuesAndFreezes) ||
  (s.cellOps k).any (fun x => (x.2 || !hard) && cellFirst o k x.1 && (s.cellOps o).any (fun y => y.1 = x.1))

/-- The tile that takes the next turn of the clock: in the order of the ring, the first behind which none must come; where cells of two
tiles ask for either order, the one whose operations can wait for the other's (R79; log 2). -/
def State.nextTurn (s : State) : Option TileKey :=
  let free (hard : Bool) (k : TileKey) : Bool := !s.turn.any (fun o => s.turnFirst hard o k)
  s.turn.find? (free false) <|> s.turn.find? (free true) <|> s.turn.head?

/-- A tile takes its turn: the cells are noted that it must reach behind tiles whose turns are still to come (R79). -/
def State.atTurn (s : State) (k : TileKey) : State :=
  let r := s.turn.erase k
  let ps := ((s.cellOps k).filter (fun x => s.cellAwaits r k x.1)).map (·.1)
  { s with turn := r, cur := k, behind := if ps = [] then s.behind else (s.clock, k, ps) }

/-- An orbit's clock stops while its cluster is switched out (R166). -/
def State.orbitClock (s : State) (c : Ctx) (o : Orbit) : Orbit :=
  if s.residentAt (clusterKey c.id o.cl) then { o with clk := o.clk + 1 } else o

/-- What a clock does in a context: its orbits' clocks go on, and its queues note which accesses of ended courses are over (R106, R166). -/
def State.ctxClock (s : State) (c : Ctx) : Ctx :=
  { c with orbits := c.orbits.map (s.orbitClock c), queues := c.queues.map (fun q => { q with tails := s.unfinished q.tails }) }

/-- An OCNT or OMISS that stands in a handler's frame gets its value when it arrives there (R302, R371). -/
def State.frameRead (s : State) (k : TileKey) (f : InFlight) : InFlight :=
  if f.due ≤ s.clock then
    match f.live with
    | .ocnt => { f with value := BitVec.ofNat 512 (s.orbitRead k false), live := .plain }
    | .omiss => { f with value := BitVec.ofNat 512 (s.orbitRead k true), live := .plain }
    | _ => f
  else f

/-- Those that arrive in the frame of a tile, and in its save area (R302, R371). -/
def State.frameReadsAt (s : State) (k : TileKey) : State :=
  match (s.tileAt k).frame with
  | none => s
  | some f =>
    let l := f.flight.map (s.frameRead k)
    if l = f.flight then s
    else (s.modTileAt k (fun t => { t with frame := some { f with flight := l } })).writeEntries k true false

/-- Those of all tiles. -/
def State.frameReads (s : State) : State :=
  ((s.tiles.filter (fun x => x.2.frame.isSome)).map (·.1)).foldl (fun s k => s.frameReadsAt k) s

/-- One clock passes. -/
def State.tick (s : State) : State :=
  let s : State := ({ s with clock := s.clock + 1, ctxs := s.ctxs.map s.ctxClock } : State).frameReads
  { s with turn := s.newTurn }

/-! ### The choice -/

/-- A committed LS operation reaches its bank or its memory-side unit. -/
def Event.reaches (e : Event) : Bool := e.step = .atomicPerform || e.step = .storePerformed

/-- Where a committed LS operation acts. -/
def LsOp.place : LsOp → Place
  | .store g => g.place
  | .atom a => a.place

/-- Of two tiles' operations, the first comes before the second where both reach one bank, or one memory-side line, in the same clock
(R252). -/
def LsOp.first (a : TileKey) (o : LsOp) (b : TileKey) (p : LsOp) : Bool :=
  match o.place, p.place with
  | .scratch t i, .scratch u j => keyPeer a t = keyPeer b u && i / bankSize = j / bankSize && a ≠ b && bankFirst a b t
  | .phys i, .phys j => i / 64 = j / 64 && a ≠ b && keyBefore a b
  | _, _ => false

/-- The committed LS operations that arrive in this clock. -/
def State.arrivals (s : State) : List Event := s.events.filter (fun e => e.due ≤ s.clock && e.reaches)

/-- The operations of a tile that arrive in this clock, in program order. -/
def State.arriving (s : State) (k : TileKey) : List LsOp := (s.tileAt k).lsq.take (s.arrivals.filter (fun e => e.at_ = k)).length

/-- Those of a tile that an arrival performs. -/
def State.performs (s : State) (e : Event) : List LsOp :=
  let l := (s.tileAt e.at_).lsq
  if e.step = .atomicPerform then l.take (throughAtom l) else l.take 1

/-- An operation of another tile that arrives in this clock comes before some of tile k (R252). -/
def State.arrivesFirst (s : State) (k : TileKey) (ops : List LsOp) (j : TileKey) : Bool :=
  (s.arriving j).any (fun o => ops.any (fun p => o.first j k p))

/-- The arrival that is next: the first in the order of the ring whose operations none of another tile comes before, bank by bank and line
by line (R101, R252). -/
def State.firstArrival (s : State) (l : List Event) : Option Event :=
  let sorted := (inRingOrder ((l.map (·.at_)).eraseDups)).filterMap (fun k => l.find? (fun e => e.at_ = k))
  sorted.find? (fun e => !l.any (fun x => x.at_ ≠ e.at_ && s.arrivesFirst e.at_ (s.performs e) x.at_)) <|> sorted.head?

/-- The arrivals that come before what the tile of the next turn still has to perform, and would perform in its turn (R252). -/
def State.aheadOfTurn (s : State) : List Event :=
  match s.nextTurn with
  | none => []
  | some k => s.arrivals.filter (fun e => e.at_ ≠ k && s.arrivesFirst k (s.tileAt k).lsq e.at_)

/-- The first step that is due, the oldest. Committed LS operations arrive at the end of the clock, once every tile of it has had its
turn, or before a turn in which a later one would be performed (R252; log 2). -/
def State.dueEvent (s : State) : Option Event :=
  match s.events.find? (fun e => e.due ≤ s.clock && !e.reaches) with
  | some e => some e
  | none => if s.arrivals = [] then none else s.firstArrival (if s.turn = [] then s.arrivals else s.aheadOfTurn)

/-- What comes next: a due step, then a cell operation that has waited for its turn, then a step that the state enables, then the next
turn of the clock, then the next clock (log 2). -/
def State.choose (s : State) : Next :=
  match s.dueEvent with
  | some e => .run { s with events := s.events.erase e, cur := e.at_ } e.step
  | none => match s.lateCell with
    | some x => .pass (s.performLate x)
    | none => match s.enabled with
      | some x => .run { s with cur := x.1 } x.2
      | none => match s.nextTurn with
        | some k => (s.atTurn k).tileTurn
        | none => .pass s.tick

/-! ### Placing an instruction (log 31, log 36) -/

/-- A bundle that holds one slot word: a control word in the control slot, a scalar word in scalar slot 0; MARK is set where the
operation may only issue in a MARK bundle (R191, R205). -/
def scalarBundle (w : BitVec 32) : BitVec 512 :=
  let mark (i : Instr) : BitVec 16 := if i.isIrrevocable then 1 else 0
  match decodeTableWord32 w with
  | none => packBundle 0 w 0 0 0 0 0 0 0 0 0 0 0
  | some i =>
    if (ctlOf i).isSome then packBundle 0 w 0 0 0 0 0 0 0 0 0 0 0
    else packBundle (mark i) 0 0 w 0 0 0 0 0 0 0 0 0

/-- A bundle that holds one vector word in vector slot 0 (R191). -/
def vectorBundle (w : BitVec 48) : BitVec 512 :=
  let mark : BitVec 16 := match decodeVector 0 w with
    | .ok i => if i.isIrrevocable then 1 else 0
    | .error _ => 0
  packBundle mark 0 0 0 0 0 0 w 0 0 0 0 0

/-- The bundle that holds a word of the table (log 6). -/
def tableBundle (nbits w : Nat) : BitVec 512 :=
  if nbits ≤ 32 then scalarBundle (BitVec.ofNat 32 w)
  else if nbits ≤ 48 then vectorBundle (BitVec.ofNat 48 w)
  else BitVec.ofNat 512 w

/-- The tile that runs a placed bundle. -/
def placeKey : TileKey := { ctx := 0, die := 0, tid := 0 }

/-- The address of a placed bundle. -/
def placeVa : BitVec 56 := 0x100000

/-- The gate task of a placed bundle. -/
def placeTask : Task :=
  { conj := none, q := 0, course := 0, gate := 0, pos := 0, code := placeVa, pro := 0, ker := 0, epi := 0, trip := 0, cluster := false,
    tow := 0, dist := 0, pins := [], step := 0 }

/-- A fresh tile that runs a gate task and whose instruction buffer holds a bundle at its program counter. -/
def placeTile (b : BitVec 512) : Tile :=
  let c : TileCore := { TileCore.reset with seq := { Seq.reset with pc := placeVa, kernelDone := true } }
  { Tile.reset with core := c, mark := c, task := some placeTask, ibuf := [(placeVa, b)], dispatched := true }

/-- A machine whose next step issues a bundle on tile 0 of die 0: context 0 is resident there, and nothing else is to be done
(log 36). -/
def State.placeBundle (s : State) (b : BitVec 512) : State :=
  { s with
    events := [], msgs := [], pageReqs := [], cur := placeKey, turn := [placeKey], tiles := [(placeKey, placeTile b)],
    ctxs := [{ Ctx.blank 0 with dies := 1 }],
    dies := [(0, { Die.reset with c0 := { Cluster.reset with resident := some 0, sliceEnd := s.clock + 1600000 } })] }

end Sys2Proof.Machine
end

