-- ==== Sys2Proof/Machine/Dispatch.lean ====
section
/-! DEFINITION. The dispatch of an instruction to its meaning: one arm for each constructor of Instr. -/

namespace Sys2Proof.Machine

/-- What an instruction does. -/
def exec (i : Instr) (s : State) : Host.Outcome State Fault Refusal :=
  match i with
  | .bundleIssue b => Sys2Proof.Machine.execBundleIssue b s
  | .interlockedResultDelivered sk => Sys2Proof.Machine.execInterlockedResultDelivered sk s
  | .move d src g => Sys2Proof.Machine.execMove d src g s
  | .moveVector d md src g => Sys2Proof.Machine.execMoveVector d md src g s
  | .nop g => Sys2Proof.Machine.execNop g s
  | .br off g => Sys2Proof.Machine.execBr off g s
  | .brp off g => Sys2Proof.Machine.execBrp off g s
  | .brn off g => Sys2Proof.Machine.execBrn off g s
  | .call off g => Sys2Proof.Machine.execCall off g s
  | .ret n g => Sys2Proof.Machine.execRet n g s
  | .loop n len g => Sys2Proof.Machine.execLoop n len g s
  | .spin n step k g => Sys2Proof.Machine.execSpin n step k g s
  | .wait count g => Sys2Proof.Machine.execWait count g s
  | .waitu n g => Sys2Proof.Machine.execWaitu n g s
  | .waitb n g => Sys2Proof.Machine.execWaitb n g s
  | .taskend g => Sys2Proof.Machine.execTaskend g s
  | .safe g => Sys2Proof.Machine.execSafe g s
  | .trapu code g => Sys2Proof.Machine.execTrapu code g s
  | .ilock pk n g => Sys2Proof.Machine.execIlock pk n g s
  | .iunlock pk n g => Sys2Proof.Machine.execIunlock pk n g s
  | .aluAdd u src g => Sys2Proof.Machine.execAluAdd u src g s
  | .aluSub u src g => Sys2Proof.Machine.execAluSub u src g s
  | .aluAnd u src g => Sys2Proof.Machine.execAluAnd u src g s
  | .aluOr u src g => Sys2Proof.Machine.execAluOr u src g s
  | .aluXor u src g => Sys2Proof.Machine.execAluXor u src g s
  | .aluAndn u src g => Sys2Proof.Machine.execAluAndn u src g s
  | .aluShl u src g => Sys2Proof.Machine.execAluShl u src g s
  | .aluShr u src g => Sys2Proof.Machine.execAluShr u src g s
  | .aluSar u src g => Sys2Proof.Machine.execAluSar u src g s
  | .aluRol u src g => Sys2Proof.Machine.execAluRol u src g s
  | .aluMinS u src g => Sys2Proof.Machine.execAluMinS u src g s
  | .aluMinN u src g => Sys2Proof.Machine.execAluMinN u src g s
  | .aluMaxS u src g => Sys2Proof.Machine.execAluMaxS u src g s
  | .aluMaxN u src g => Sys2Proof.Machine.execAluMaxN u src g s
  | .aluEq u src g => Sys2Proof.Machine.execAluEq u src g s
  | .aluNe u src g => Sys2Proof.Machine.execAluNe u src g s
  | .aluLtS u src g => Sys2Proof.Machine.execAluLtS u src g s
  | .aluLtN u src g => Sys2Proof.Machine.execAluLtN u src g s
  | .aluLeS u src g => Sys2Proof.Machine.execAluLeS u src g s
  | .aluLeN u src g => Sys2Proof.Machine.execAluLeN u src g s
  | .aluSel u src g => Sys2Proof.Machine.execAluSel u src g s
  | .aluClz u src g => Sys2Proof.Machine.execAluClz u src g s
  | .aluCtz u src g => Sys2Proof.Machine.execAluCtz u src g s
  | .aluPopc u src g => Sys2Proof.Machine.execAluPopc u src g s
  | .aluSext u src g => Sys2Proof.Machine.execAluSext u src g s
  | .aluZext u src g => Sys2Proof.Machine.execAluZext u src g s
  | .aluExtr u src g => Sys2Proof.Machine.execAluExtr u src g s
  | .aluIns u src g => Sys2Proof.Machine.execAluIns u src g s
  | .aluPass u src g => Sys2Proof.Machine.execAluPass u src g s
  | .aluCat32 u src g => Sys2Proof.Machine.execAluCat32 u src g s
  | .aluAddsh u src g => Sys2Proof.Machine.execAluAddsh u src g s
  | .mulMul src g => Sys2Proof.Machine.execMulMul src g s
  | .mulMulhS src g => Sys2Proof.Machine.execMulMulhS src g s
  | .mulMulhN src g => Sys2Proof.Machine.execMulMulhN src g s
  | .mulMac src g => Sys2Proof.Machine.execMulMac src g s
  | .mulDivS src g => Sys2Proof.Machine.execMulDivS src g s
  | .mulDivN src g => Sys2Proof.Machine.execMulDivN src g s
  | .mulRemS src g => Sys2Proof.Machine.execMulRemS src g s
  | .mulRemN src g => Sys2Proof.Machine.execMulRemN src g s
  | .pand src g => Sys2Proof.Machine.execPand src g s
  | .por src g => Sys2Proof.Machine.execPor src g s
  | .pxor src g => Sys2Proof.Machine.execPxor src g s
  | .pandn src g => Sys2Proof.Machine.execPandn src g s
  | .pnot src g => Sys2Proof.Machine.execPnot src g s
  | .pall src g => Sys2Proof.Machine.execPall src g s
  | .pany src g => Sys2Proof.Machine.execPany src g s
  | .pcnt src g => Sys2Proof.Machine.execPcnt src g s
  | .pfirst src g => Sys2Proof.Machine.execPfirst src g s
  | .pmask src g => Sys2Proof.Machine.execPmask src g s
  | .pfrom src g => Sys2Proof.Machine.execPfrom src g s
  | .pto src g => Sys2Proof.Machine.execPto src g s
  | .xlat src g => Sys2Proof.Machine.execXlat src g s
  | .xlatw src g => Sys2Proof.Machine.execXlatw src g s
  | .hrel src g => Sys2Proof.Machine.execHrel src g s
  | .hqry src g => Sys2Proof.Machine.execHqry src g s
  | .hbase src g => Sys2Proof.Machine.execHbase src g s
  | .ldS8 u src g => Sys2Proof.Machine.execLdS8 u src g s
  | .ldN8 u src g => Sys2Proof.Machine.execLdN8 u src g s
  | .ldS16 u src g => Sys2Proof.Machine.execLdS16 u src g s
  | .ldN16 u src g => Sys2Proof.Machine.execLdN16 u src g s
  | .ldS32 u src g => Sys2Proof.Machine.execLdS32 u src g s
  | .ldN32 u src g => Sys2Proof.Machine.execLdN32 u src g s
  | .ld64 u src g => Sys2Proof.Machine.execLd64 u src g s
  | .st8 u src g => Sys2Proof.Machine.execSt8 u src g s
  | .st16 u src g => Sys2Proof.Machine.execSt16 u src g s
  | .st32 u src g => Sys2Proof.Machine.execSt32 u src g s
  | .st64 u src g => Sys2Proof.Machine.execSt64 u src g s
  | .vld u src g => Sys2Proof.Machine.execVld u src g s
  | .vldr u src g => Sys2Proof.Machine.execVldr u src g s
  | .vst u src g => Sys2Proof.Machine.execVst u src g s
  | .vstr u src g => Sys2Proof.Machine.execVstr u src g s
  | .vldg u src g => Sys2Proof.Machine.execVldg u src g s
  | .vsts u src g => Sys2Proof.Machine.execVsts u src g s
  | .gld u src g => Sys2Proof.Machine.execGld u src g s
  | .gldt u src g => Sys2Proof.Machine.execGldt u src g s
  | .cellw u src g => Sys2Proof.Machine.execCellw u src g s
  | .cellwr u src g => Sys2Proof.Machine.execCellwr u src g s
  | .cellr u src g => Sys2Proof.Machine.execCellr u src g s
  | .cellp u src g => Sys2Proof.Machine.execCellp u src g s
  | .aadd w u src g => Sys2Proof.Machine.execAadd w u src g s
  | .aminS w u src g => Sys2Proof.Machine.execAminS w u src g s
  | .aminN w u src g => Sys2Proof.Machine.execAminN w u src g s
  | .amaxS w u src g => Sys2Proof.Machine.execAmaxS w u src g s
  | .amaxN w u src g => Sys2Proof.Machine.execAmaxN w u src g s
  | .aand w u src g => Sys2Proof.Machine.execAand w u src g s
  | .aor w u src g => Sys2Proof.Machine.execAor w u src g s
  | .axor w u src g => Sys2Proof.Machine.execAxor w u src g s
  | .aswap w u src g => Sys2Proof.Machine.execAswap w u src g s
  | .acas w u src g => Sys2Proof.Machine.execAcas w u src g s
  | .afadd u src g => Sys2Proof.Machine.execAfadd u src g s
  | .osaddF32 u src g => Sys2Proof.Machine.execOsaddF32 u src g s
  | .osaddS32 u src g => Sys2Proof.Machine.execOsaddS32 u src g s
  | .join src g => Sys2Proof.Machine.execJoin src g s
  | .leave src g => Sys2Proof.Machine.execLeave src g s
  | .gbar src g => Sys2Proof.Machine.execGbar src g s
  | .cbar src g => Sys2Proof.Machine.execCbar src g s
  | .dbar src g => Sys2Proof.Machine.execDbar src g s
  | .release src g => Sys2Proof.Machine.execRelease src g s
  | .acquire src g => Sys2Proof.Machine.execAcquire src g s
  | .xfence src g => Sys2Proof.Machine.execXfence src g s
  | .spawn src g => Sys2Proof.Machine.execSpawn src g s
  | .grow src g => Sys2Proof.Machine.execGrow src g s
  | .mode src g => Sys2Proof.Machine.execMode src g s
  | .frmset src g => Sys2Proof.Machine.execFrmset src g s
  | .bfset src g => Sys2Proof.Machine.execBfset src g s
  | .bfget src g => Sys2Proof.Machine.execBfget src g s
  | .evrd src g => Sys2Proof.Machine.execEvrd src g s
  | .evclr src g => Sys2Proof.Machine.execEvclr src g s
  | .evgath src g => Sys2Proof.Machine.execEvgath src g s
  | .vadd u ty md src g => Sys2Proof.Machine.execVadd u ty md src g s
  | .vsub u ty md src g => Sys2Proof.Machine.execVsub u ty md src g s
  | .vmul u ty md src g => Sys2Proof.Machine.execVmul u ty md src g s
  | .vfma u ty md src g => Sys2Proof.Machine.execVfma u ty md src g s
  | .vfms u ty md src g => Sys2Proof.Machine.execVfms u ty md src g s
  | .vfnma u ty md src g => Sys2Proof.Machine.execVfnma u ty md src g s
  | .vmin u ty md src g => Sys2Proof.Machine.execVmin u ty md src g s
  | .vmax u ty md src g => Sys2Proof.Machine.execVmax u ty md src g s
  | .vclamp u ty md src g => Sys2Proof.Machine.execVclamp u ty md src g s
  | .veq u ty md src g => Sys2Proof.Machine.execVeq u ty md src g s
  | .vne u ty md src g => Sys2Proof.Machine.execVne u ty md src g s
  | .vlt u ty md src g => Sys2Proof.Machine.execVlt u ty md src g s
  | .vle u ty md src g => Sys2Proof.Machine.execVle u ty md src g s
  | .vsel u ty md src g => Sys2Proof.Machine.execVsel u ty md src g s
  | .vand u md src g => Sys2Proof.Machine.execVand u md src g s
  | .vor u md src g => Sys2Proof.Machine.execVor u md src g s
  | .vxor u md src g => Sys2Proof.Machine.execVxor u md src g s
  | .vshl u ty md src g => Sys2Proof.Machine.execVshl u ty md src g s
  | .vshr u ty md src g => Sys2Proof.Machine.execVshr u ty md src g s
  | .vsar u ty md src g => Sys2Proof.Machine.execVsar u ty md src g s
  | .vadds u ty md src g => Sys2Proof.Machine.execVadds u ty md src g s
  | .vsubs u ty md src g => Sys2Proof.Machine.execVsubs u ty md src g s
  | .vdot4 u md src g => Sys2Proof.Machine.execVdot4 u md src g s
  | .vscale u ty md src g => Sys2Proof.Machine.execVscale u ty md src g s
  | .vabs u md src g => Sys2Proof.Machine.execVabs u md src g s
  | .vneg u md src g => Sys2Proof.Machine.execVneg u md src g s
  | .vcvt u md src g => Sys2Proof.Machine.execVcvt u md src g s
  | .vrsum u md src g => Sys2Proof.Machine.execVrsum u md src g s
  | .vrmax u md src g => Sys2Proof.Machine.execVrmax u md src g s
  | .vrmin u md src g => Sys2Proof.Machine.execVrmin u md src g s
  | .vexp2 ty md src g => Sys2Proof.Machine.execVexp2 ty md src g s
  | .vlog2 ty md src g => Sys2Proof.Machine.execVlog2 ty md src g s
  | .vrcp ty md src g => Sys2Proof.Machine.execVrcp ty md src g s
  | .vrsqrt ty md src g => Sys2Proof.Machine.execVrsqrt ty md src g s
  | .vsqrt ty md src g => Sys2Proof.Machine.execVsqrt ty md src g s
  | .vtanh ty md src g => Sys2Proof.Machine.execVtanh ty md src g s
  | .vsigm ty md src g => Sys2Proof.Machine.execVsigm ty md src g s
  | .vshuf ty md src g => Sys2Proof.Machine.execVshuf ty md src g s
  | .vzip ty md src g => Sys2Proof.Machine.execVzip ty md src g s
  | .vunzip ty md src g => Sys2Proof.Machine.execVunzip ty md src g s
  | .vpack ty md src g => Sys2Proof.Machine.execVpack ty md src g s
  | .vwiden ty md src g => Sys2Proof.Machine.execVwiden ty md src g s
  | .unpk5 md src g => Sys2Proof.Machine.execUnpk5 md src g s
  | .pack5 md src g => Sys2Proof.Machine.execPack5 md src g s
  | .unpkg ty md src g => Sys2Proof.Machine.execUnpkg ty md src g s
  | .qntg ty md src g => Sys2Proof.Machine.execQntg ty md src g s
  | .vcmpr ty md src g => Sys2Proof.Machine.execVcmpr ty md src g s
  | .vtopk ty md src g => Sys2Proof.Machine.execVtopk ty md src g s
  | .vsort ty md src g => Sys2Proof.Machine.execVsort ty md src g s
  | .vbcast ty md src g => Sys2Proof.Machine.execVbcast ty md src g s
  | .vextr ty md src g => Sys2Proof.Machine.execVextr ty md src g s
  | .vins ty md src g => Sys2Proof.Machine.execVins ty md src g s
  | .viota ty md src g => Sys2Proof.Machine.execViota ty md src g s
  | .vslide ty md src g => Sys2Proof.Machine.execVslide ty md src g s
  | .mxcfg md src g => Sys2Proof.Machine.execMxcfg md src g s
  | .wld md src g => Sys2Proof.Machine.execWld md src g s
  | .wpage md src g => Sys2Proof.Machine.execWpage md src g s
  | .astr md src g => Sys2Proof.Machine.execAstr md src g s
  | .drain src g => Sys2Proof.Machine.execDrain src g s
  | .drainVector md src g => Sys2Proof.Machine.execDrainVector md src g s
  | .drainst md src g => Sys2Proof.Machine.execDrainst md src g s
  | .mxclr md src g => Sys2Proof.Machine.execMxclr md src g s
  | .mxstat md src g => Sys2Proof.Machine.execMxstat md src g s
  | .scrubRow mac page row parityFails => Sys2Proof.Machine.execScrubRow mac page row parityFails s
  | .oatt src g => Sys2Proof.Machine.execOatt src g s
  | .oeph src g => Sys2Proof.Machine.execOeph src g s
  | .oinj src g => Sys2Proof.Machine.execOinj src g s
  | .ostep src g => Sys2Proof.Machine.execOstep src g s
  | .oslot src g => Sys2Proof.Machine.execOslot src g s
  | .ocnt src g => Sys2Proof.Machine.execOcnt src g s
  | .omiss src g => Sys2Proof.Machine.execOmiss src g s
  | .olap src g => Sys2Proof.Machine.execOlap src g s
  | .odet src g => Sys2Proof.Machine.execOdet src g s
  | .dld src g => Sys2Proof.Machine.execDld src g s
  | .dst src g => Sys2Proof.Machine.execDst src g s
  | .dcpy src g => Sys2Proof.Machine.execDcpy src g s
  | .dmaTransferComplete tag => Sys2Proof.Machine.execDmaTransferComplete tag s
  | .dprom src g => Sys2Proof.Machine.execDprom src g s
  | .dstat src g => Sys2Proof.Machine.execDstat src g s
  | .nsend src g => Sys2Proof.Machine.execNsend src g s
  | .nsendDelivery rp => Sys2Proof.Machine.execNsendDelivery rp s
  | .rld src g => Sys2Proof.Machine.execRld src g s
  | .cqpost src g => Sys2Proof.Machine.execCqpost src g s
  | .cqstat src g => Sys2Proof.Machine.execCqstat src g s
  | .nflag src g => Sys2Proof.Machine.execNflag src g s
  | .sysrd src g => Sys2Proof.Machine.execSysrd src g s
  | .syswr src g => Sys2Proof.Machine.execSyswr src g s
  | .snapsv src g => Sys2Proof.Machine.execSnapsv src g s
  | .snapld src g => Sys2Proof.Machine.execSnapld src g s
  | .rfsv src g => Sys2Proof.Machine.execRfsv src g s
  | .rfld src g => Sys2Proof.Machine.execRfld src g s
  | .hinv src g => Sys2Proof.Machine.execHinv src g s
  | .iflush src g => Sys2Proof.Machine.execIflush src g s
  | .stub e => Sys2Proof.Machine.execStub e s
  | .ptwdlWrite v => Sys2Proof.Machine.execPtwdlWrite v s
  | .csrWrite csr v => Sys2Proof.Machine.execCsrWrite csr v s
  | .revocationAck die pg => Sys2Proof.Machine.execRevocationAck die pg s
  | .uncorrectableError e => Sys2Proof.Machine.execUncorrectableError e s
  | .correctedError e => Sys2Proof.Machine.execCorrectedError e s
  | .poisonConsumed e => Sys2Proof.Machine.execPoisonConsumed e s
  | .selfTestComplete e passed => Sys2Proof.Machine.execSelfTestComplete e passed s
  | .networkFlitFailure die ring => Sys2Proof.Machine.execNetworkFlitFailure die ring s
  | .ucieEdgeFailure die south => Sys2Proof.Machine.execUcieEdgeFailure die south s
  | .thermalThreshold die t => Sys2Proof.Machine.execThermalThreshold die t s
  | .inboxConsumerIndex part ep v => Sys2Proof.Machine.execInboxConsumerIndex part ep v s
  | .apertureBadWrite part ep off len => Sys2Proof.Machine.execApertureBadWrite part ep off len s
  | .forwardedWriteArrival port off unit poison => Sys2Proof.Machine.execForwardedWriteArrival port off unit poison s
  | .asidnew part => Sys2Proof.Machine.execAsidnew part s
  | .asidfree asid => Sys2Proof.Machine.execAsidfree asid s
  | .tableset pa entry => Sys2Proof.Machine.execTableset pa entry s
  | .leafset part pg pa entry => Sys2Proof.Machine.execLeafset part pg pa entry s
  | .imgcheck img => Sys2Proof.Machine.execImgcheck img s
  | .packageLinkFailure port => Sys2Proof.Machine.execPackageLinkFailure port s
  | .pairingActive port key station => Sys2Proof.Machine.execPairingActive port key station s
  | .patrolScratchpadAccess rp off size write data => Sys2Proof.Machine.execPatrolScratchpadAccess rp off size write data s
  | .bundleFetch => Sys2Proof.Machine.execBundleFetch s
  | .timedResultLands => Sys2Proof.Machine.execTimedResultLands s
  | .drainBitWaitEnd => Sys2Proof.Machine.execDrainBitWaitEnd s
  | .waituEnd => Sys2Proof.Machine.execWaituEnd s
  | .promiseMissed => Sys2Proof.Machine.execPromiseMissed s
  | .waitbSatisfied => Sys2Proof.Machine.execWaitbSatisfied s
  | .waitExpired => Sys2Proof.Machine.execWaitExpired s
  | .groupLoadCombine => Sys2Proof.Machine.execGroupLoadCombine s
  | .cellReadSatisfied => Sys2Proof.Machine.execCellReadSatisfied s
  | .atomicPerform => Sys2Proof.Machine.execAtomicPerform s
  | .osaddUpdateArrival => Sys2Proof.Machine.execOsaddUpdateArrival s
  | .barrierEpisodeComplete => Sys2Proof.Machine.execBarrierEpisodeComplete s
  | .wldPageWritten => Sys2Proof.Machine.execWldPageWritten s
  | .astrPassEntered => Sys2Proof.Machine.execAstrPassEntered s
  | .drainstComplete => Sys2Proof.Machine.execDrainstComplete s
  | .mxclrTakesEffect => Sys2Proof.Machine.execMxclrTakesEffect s
  | .oephTableLoaded => Sys2Proof.Machine.execOephTableLoaded s
  | .oinjCopyComplete => Sys2Proof.Machine.execOinjCopyComplete s
  | .stationArmed => Sys2Proof.Machine.execStationArmed s
  | .orbitStepBegin => Sys2Proof.Machine.execOrbitStepBegin s
  | .orbitStepComplete => Sys2Proof.Machine.execOrbitStepComplete s
  | .stationRelease => Sys2Proof.Machine.execStationRelease s
  | .conjunctionTaskStart => Sys2Proof.Machine.execConjunctionTaskStart s
  | .lapEnd => Sys2Proof.Machine.execLapEnd s
  | .rldServe => Sys2Proof.Machine.execRldServe s
  | .copyEntryStart => Sys2Proof.Machine.execCopyEntryStart s
  | .copyEntryRetire => Sys2Proof.Machine.execCopyEntryRetire s
  | .tret => Sys2Proof.Machine.execTret s
  | .resume => Sys2Proof.Machine.execResume s
  | .deliver => Sys2Proof.Machine.execDeliver s
  | .ack => Sys2Proof.Machine.execAck s
  | .abandon => Sys2Proof.Machine.execAbandon s
  | .ptwdlRead => Sys2Proof.Machine.execPtwdlRead s
  | .courseEndByFault => Sys2Proof.Machine.execCourseEndByFault s
  | .ctxcreate => Sys2Proof.Machine.execCtxcreate s
  | .ctxdestroy => Sys2Proof.Machine.execCtxdestroy s
  | .launch => Sys2Proof.Machine.execLaunch s
  | .courseStart => Sys2Proof.Machine.execCourseStart s
  | .gateDispatch => Sys2Proof.Machine.execGateDispatch s
  | .growExtension => Sys2Proof.Machine.execGrowExtension s
  | .courseRetire => Sys2Proof.Machine.execCourseRetire s
  | .signal => Sys2Proof.Machine.execSignal s
  | .qstat => Sys2Proof.Machine.execQstat s
  | .qresume => Sys2Proof.Machine.execQresume s
  | .load => Sys2Proof.Machine.execLoad s
  | .retranslationSwap => Sys2Proof.Machine.execRetranslationSwap s
  | .starvationPromotion => Sys2Proof.Machine.execStarvationPromotion s
  | .sliceEnd => Sys2Proof.Machine.execSliceEnd s
  | .switchOut => Sys2Proof.Machine.execSwitchOut s
  | .forcedPreemption => Sys2Proof.Machine.execForcedPreemption s
  | .switchIn => Sys2Proof.Machine.execSwitchIn s
  | .pageTableWalk => Sys2Proof.Machine.execPageTableWalk s
  | .handleFaultService => Sys2Proof.Machine.execHandleFaultService s
  | .revokeHandles => Sys2Proof.Machine.execRevokeHandles s
  | .migratePage => Sys2Proof.Machine.execMigratePage s
  | .duplicatePage => Sys2Proof.Machine.execDuplicatePage s
  | .duplicationEnd => Sys2Proof.Machine.execDuplicationEnd s
  | .packageReset => Sys2Proof.Machine.execPackageReset s
  | .diereset => Sys2Proof.Machine.execDiereset s
  | .diestat => Sys2Proof.Machine.execDiestat s
  | .errread => Sys2Proof.Machine.execErrread s
  | .telem => Sys2Proof.Machine.execTelem s
  | .inbox => Sys2Proof.Machine.execInbox s
  | .attest => Sys2Proof.Machine.execAttest s
  | .linkmap => Sys2Proof.Machine.execLinkmap s
  | .linkmapTimeout => Sys2Proof.Machine.execLinkmapTimeout s
  | .attestsign => Sys2Proof.Machine.execAttestsign s
  | .storePerformed => Sys2Proof.Machine.execStorePerformed s
  | .badMessage => Sys2Proof.Machine.execBadMessage s

end Sys2Proof.Machine
end

