-- ==== Sys2Proof/Machine/Step.lean ====
section
/-! DEFINITION. One step of the machine, and the placing of an instruction where the next step runs it. -/

namespace Sys2Proof.Machine

/-- One step: the instruction that comes next, or a change of the clock (log 2). -/
def step (s : State) : Host.Outcome State Fault Refusal :=
  match s.choose with
  | .run s' i => exec i s'
  | .pass s' => .next s'

/-- The state with an instruction placed so that the very next step issues a bundle that holds it (log 36). -/
def State.withFetchWord (s : State) (nbits w : Nat) : State := s.placeBundle (tableBundle nbits w)

end Sys2Proof.Machine
end

