-- ==== Sys2Proof/Safety.lean ====
section
/-! DEFINITION. What counts as a safe run, the invariant of the memories, and the conditions under which a slot's operation issues:
the terms in which claims are stated. -/

namespace Sys2Proof.Machine

/-- Every memory of the machine has its canonical form: DRAM with host memory, and every scratchpad. -/
def State.canonical (s : State) : Prop :=
  Memory.wf s.mem = true ∧ ∀ x ∈ s.tiles, Memory.wf x.2.scratch = true

/-- No tile holds a trap cause: nothing has gone wrong that a handler, the lodge or the host has to see (R361). -/
def State.untrapped (s : State) : Bool := s.tiles.all (fun x => !x.2.tv)

/-- A safe run of n steps: every step answers a next state, and no tile traps. -/
def Safe : Nat → State → Prop
  | 0, s => s.untrapped = true
  | n + 1, s => s.untrapped = true ∧ ∃ t, step s = .next t ∧ Safe n t

/-- A scalar slot's trigger of a unit issues on the tile of the step: the tile runs, its guard holds, it is not in privileged mode
unless the unit is sys, and its source is a result that is there and that no debug check or group load stops (R21, R25, R30, R74,
R97, R359). -/
structure ScalarIssues (sk : Sock) (src : Src) (g : Guard) (s : State) : Prop where
  runs : s.tile.frozen = false
  on : s.tile.core.guardOn g = true
  mode : s.tile.priv = false ∨ sk = .sys
  ready : ∀ x ∈ srcPorts src, s.portWait x = false
  late : s.earlyPort src = false
  sound : ∀ x ∈ srcPorts src, s.portCause x = none

/-- A vector slot's trigger issues on the tile of the step; its guard is the lane mask (R31). -/
structure VectorIssues (src : Src) (s : State) : Prop where
  runs : s.tile.frozen = false
  mode : s.tile.priv = false
  ready : ∀ x ∈ srcPorts src, s.portWait x = false
  late : s.earlyPort src = false
  sound : ∀ x ∈ srcPorts src, s.portCause x = none

/-- A control operation issues on the tile of the step (R25, R225, R359). -/
structure ControlIssues (g : Guard) (s : State) : Prop where
  runs : s.tile.frozen = false
  mode : s.tile.priv = false
  on : s.tile.core.guardOn g = true

/-- The state from which a trigger's operation takes its effect: its source port is read (R20, R27). -/
def State.taken (s : State) (src : Src) : State := s.consume (srcPorts src)

end Sys2Proof.Machine
end

