-- ==== Sys2Proof/Certificates/Slice0/Obligations.lean ====
section
/-! DEFINITION. The statements about the machine, each from the rules of spec/ that its docstring names. -/

open Sys2Proof Sys2Proof.Machine

namespace Sys2Proof.Claims

/-! ### Terms -/

/-- Every byte of memory and of every scratchpad reads as before. -/
def SameBytes (s t : State) : Prop :=
  (∀ pa, t.memByte pa = s.memByte pa) ∧ ∀ k off, (t.tileAt k).byte off = (s.tileAt k).byte off

/-- The register files, the handles, the operand ports and the settings of a tile hold what they held. -/
def SameFiles (a b : TileCore) : Prop :=
  b.m = a.m ∧ b.o = a.o ∧ b.p = a.p ∧ b.h = a.h ∧ b.opnd = a.opnd ∧ b.opMask = a.opMask ∧ b.lockmask = a.lockmask ∧ b.frm = a.frm ∧
  b.bf = a.bf

/-- Every register of a tile other than the result ports and the sequencer holds what it held: those, and the counters of events. -/
def SameRegisters (a b : TileCore) : Prop := SameFiles a b ∧ b.ev = a.ev

/-- The registers of a trap of a tile hold what they held (R361). -/
def SameTrap (a b : Tile) : Prop :=
  b.tv = a.tv ∧ b.code = a.code ∧ b.tepc = a.tepc ∧ b.tinfo = a.tinfo ∧ b.frozen = a.frozen ∧ b.priv = a.priv

/-- A plain load of n bytes goes through: its unit is free, its address names a place, and it meets no race, no poison and no store that is
not visible yet (R74, R81, R109, R243, R416). -/
structure LoadReady (u : Twin) (src : Src) (s : State) (p : Place) (align n : Nat) : Prop where
  free : s.lsStall u (wideOfWord (s.scalarSrc src)) = false
  place : s.place .load (s.scalarSrc src) align n = .ok p
  seen : s.loadEarly u (s.scalarSrc src) p n = none
  clean : s.loadCause u (s.scalarSrc src) p n = none

/-- A load that went through: the tile's committed operations are performed, and the value made of its bytes is its result (R101, R243). -/
def loadDone (u : Twin) (src : Src) (s : State) (p : Place) (n lat : Nat) (f : Nat → Wide) : State :=
  let s1 := (s.taken src).flushLs s.cur
  (s1.noteLoad p n).loadResult u (s.scalarSrc src) lat (f (s1.loadPlace p n)) EvCount.zero

/-- The operation that was triggered at s has an interlocked result with its value, which is delivered when its time comes (R21). -/
def Delivers (s t : State) (sk : Sock) (p : RPort) (v : Wide) : Prop :=
  ∃ f ∈ t.tile.core.flight, f.id = s.nextOp ∧ f.sk = sk ∧ f.port = p ∧ f.locked = true ∧ f.ready = true ∧ f.live = .plain ∧ f.value = v

/-- That operation's result takes its value at its delivery: here the value that a delivery at t gives it (R295, R302). -/
def DeliversLive (s t : State) (sk : Sock) (l : Delivery) (v : Wide) : Prop :=
  ∃ f ∈ t.tile.core.flight, f.id = s.nextOp ∧ f.sk = sk ∧ f.port = .q ∧ f.locked = true ∧ f.ready = true ∧ f.live = l ∧
    (t.atDelivery f).value = v

/-- Neither the frame of a tile nor its save area awaits results of an operation, so that their arrival writes no memory (R371, R377). -/
def Unsaved (s : State) (k : TileKey) (id : Nat) : Prop :=
  (∀ f, (s.tileAt k).frame = some f → awaits f.flight id = false) ∧
  ∀ b ∈ s.saved, b.pa = (s.tileAt k).area → awaits b.snap id = false

/-- A trigger that a scalar slot or a vector slot may hold issues (R289). -/
def EitherIssues (sk : Sock) (md : Option SrcMod) (src : Src) (g : Guard) (s : State) : Prop :=
  match md with
  | none => ScalarIssues sk src g s
  | some _ => VectorIssues src s

/-- The trigger operand of an mx operation: 64 bits from a scalar slot, 32 from a vector slot (R289). -/
def mxOperand (md : Option SrcMod) (src : Src) (s : State) : Word :=
  match md with
  | none => s.scalarSrc src
  | some m => ((s.vectorSrc m src).truncate 32 : BitVec 32).zeroExtend 64


/-- The lane operations of a vector slot: lane i of the result is f of the rounding mode and of lanes i of a, b and the source, under
the guard, after the unit's latency (R264, R265). -/
def laneDone (s : State) (md : SrcMod) (src : Src) (g : Guard) (sk : Sock) (lat w : Nat) (f : Nat → Nat → Nat → Nat → Res) : State :=
  (s.taken src).laneResult sk lat w (s.tile.core.guardWord g) (fun i =>
    f s.tile.core.rm (laneOf w (s.opA sk).toNat i) (laneOf w (s.opB sk).toNat i) (laneOf w (s.vectorSrc md src).toNat i))

/-- A scalar result of a unit from the low words of a, b and the source (R219). -/
def scalarDone (s : State) (src : Src) (sk : Sock) (lat : Nat) (f : Word → Word → Word → Word) : State :=
  (s.taken src).scalarResult sk lat (f (lowWord (s.opA sk)) (lowWord (s.opB sk)) (s.scalarSrc src)) EvCount.zero

/-- A flag of a unit from the low words of a and the source (R220). -/
def flagDone (s : State) (src : Src) (sk : Sock) (f : Word → Word → Bool) : State :=
  (s.taken src).flagResult sk 1 (f (lowWord (s.opA sk)) (s.scalarSrc src))

/-- A compare of the lanes of a and the source: the bits of qp of an active lane, all ones or all zeros (R264, R269). -/
def compareDone (s : State) (md : SrcMod) (src : Src) (g : Guard) (sk : Sock) (op : Cmp) (ty : ElTy) : State :=
  let r (i : Nat) : Res := laneCmp op ty (laneOf ty.width (s.opA sk).toNat i) (laneOf ty.width (s.vectorSrc md src).toNat i)
  (s.taken src).timed sk 2
    [(.qp, BitVec.ofNat 512 (ofLanes (ty.width / 8) (fun i => if (r i).val = 1 then 2 ^ (ty.width / 8) - 1 else 0) (512 / ty.width)),
      laneMaskQp (s.tile.core.guardWord g) (ty.width / 8))]
    (laneEvents (fun i => laneOn (s.tile.core.guardWord g) (ty.width / 8) i) r (512 / ty.width))

/-- The scalar operations of an alu with what each computes of a, b and t (R221). -/
def aluOps (u : Twin) : List ((Src → Guard → Instr) × (Word → Word → Word → Word)) :=
  [(.aluAdd u, fun a _ t => a + t), (.aluSub u, fun a _ t => a - t), (.aluAnd u, fun a _ t => a &&& t),
   (.aluOr u, fun a _ t => a ||| t), (.aluXor u, fun a _ t => a ^^^ t), (.aluAndn u, fun a _ t => a &&& ~~~ t),
   (.aluShl u, fun a _ t => a <<< (t.toNat % 64)), (.aluShr u, fun a _ t => a >>> (t.toNat % 64)),
   (.aluSar u, fun a _ t => a.sshiftRight (t.toNat % 64)), (.aluRol u, fun a _ t => a.rotateLeft (t.toNat % 64)),
   (.aluMinS u, fun a _ t => if a.sle t then a else t), (.aluMinN u, fun a _ t => if a.ule t then a else t),
   (.aluMaxS u, fun a _ t => if t.sle a then a else t), (.aluMaxN u, fun a _ t => if t.ule a then a else t),
   (.aluSel u, fun a b t => if t.getLsbD 0 then a else b), (.aluPass u, fun _ _ t => t),
   (.aluClz u, fun _ _ t => BitVec.ofNat 64 (64 - bitLen t.toNat)),
   (.aluCtz u, fun _ _ t => BitVec.ofNat 64 (lowestSet t)),
   (.aluPopc u, fun _ _ t => BitVec.ofNat 64 (countBelow (fun i => t.getLsbD i) 64)),
   (.aluSext u, fun a _ t => sextField a (t.toNat % 128)), (.aluZext u, fun a _ t => zextField a (t.toNat % 128)),
   (.aluExtr u, fun a _ t => extrField a t), (.aluIns u, fun a b t => insField a b t),
   (.aluCat32 u, fun a _ t => BitVec.ofNat 64 ((a.toNat % 2 ^ 32) * 2 ^ 32 + t.toNat % 2 ^ 32)),
   (.aluAddsh u, fun a b t => a + (t <<< (b.toNat % 64)))]

/-- The compares of an alu (R221). -/
def aluFlags (u : Twin) : List ((Src → Guard → Instr) × (Word → Word → Bool)) :=
  [(.aluEq u, fun a t => decide (a = t)), (.aluNe u, fun a t => decide (a ≠ t)), (.aluLtS u, fun a t => a.slt t),
   (.aluLtN u, fun a t => a.ult t), (.aluLeS u, fun a t => a.sle t), (.aluLeN u, fun a t => a.ule t)]

/-- The multiplications, with their latencies (R222). -/
def mulOps : List ((Src → Guard → Instr) × Nat × (Word → Word → Word → Word)) :=
  [(.mulMul, 3, fun a _ t => a * t), (.mulMulhS, 3, fun a _ t => BitVec.ofInt 64 (a.toInt * t.toInt / 2 ^ 64)),
   (.mulMulhN, 3, fun a _ t => BitVec.ofNat 64 (a.toNat * t.toNat / 2 ^ 64)), (.mulMac, 4, fun a b t => a * b + t)]

/-- The divisions (R223): by zero the quotients are all ones and the remainders a. -/
def divOps : List ((Src → Guard → Instr) × (Word → Word → Word)) :=
  [(.mulDivS, fun a t => if t = 0 then BitVec.allOnes 64 else a.sdiv t), (.mulDivN, fun a t => if t = 0 then BitVec.allOnes 64 else a / t),
   (.mulRemS, fun a t => if t = 0 then a else a.srem t), (.mulRemN, fun a t => if t = 0 then a else a % t)]

/-- The predicate operations (R224). -/
def prdOps : List ((Src → Guard → Instr) × (Word → Word → Word)) :=
  [(.pand, fun a t => a &&& t), (.por, fun a t => a ||| t), (.pxor, fun a t => a ^^^ t), (.pandn, fun a t => a &&& ~~~ t),
   (.pnot, fun _ t => ~~~ t), (.pcnt, fun a t => BitVec.ofNat 64 (countBelow (fun i => (a &&& t).getLsbD i) 64)),
   (.pfirst, fun a t => BitVec.ofNat 64 (lowestSet (a &&& t))),
   (.pmask, fun _ t => bitsBy (fun j => j < min 64 (t.toNat % 128 * prdBytes (bitsOf t.toNat 8 2)))),
   (.pfrom, fun a t => bitsBy (fun j => t.getLsbD (j / prdBytes a.toNat))),
   (.pto, fun a t => bitsBy (fun i => decide (i < 64 / prdBytes a.toNat) && t.getLsbD (prdBytes a.toNat * i)))]

/-- The predicate flags (R224). -/
def prdFlags : List ((Src → Guard → Instr) × (Word → Word → Bool)) :=
  [(.pall, fun a t => decide ((a &&& t) = a)), (.pany, fun a t => decide ((a &&& t) ≠ 0))]

end Sys2Proof.Claims

open Sys2Proof.Claims

/-! ### Scalar results -/

/-- R19, R219-R221: every operation of an alu that issues completes, its result enters the pipeline with latency 1, and its compares set
the flag. -/
def Sys2Proof.Claims.AluResults : Prop :=
  ∀ (u : Twin) (src : Src) (g : Guard) (s : State), ScalarIssues (aluOfTwin u) src g s →
    (∀ e ∈ aluOps u, exec (e.1 src g) s = .next (scalarDone s src (aluOfTwin u) 1 e.2)) ∧
    (∀ e ∈ aluFlags u, exec (e.1 src g) s = .next (flagDone s src (aluOfTwin u) e.2))

/-- R222, R223: the multiplications and the divisions complete with their results; a division by zero runs, with the results the rule
names, and counts ev8; one whose guard is false does nothing. -/
def Sys2Proof.Claims.MulResults : Prop :=
  (∀ (src : Src) (g : Guard) (s : State), ScalarIssues .mul src g s →
    (∀ e ∈ mulOps, exec (e.1 src g) s = .next (scalarDone s src .mul e.2.1 e.2.2)) ∧
    (∀ e ∈ divOps, exec (e.1 src g) s = .next ((s.taken src).scalarResult .mul 34 (e.2 (lowWord (s.opA .mul)) (s.scalarSrc src))
      (if s.scalarSrc src = 0 then { EvCount.zero with div := 1 } else EvCount.zero)))) ∧
  (∀ (src : Src) (g : Guard) (s : State), s.tile.core.guardOn g = false →
    ∀ i ∈ [Instr.mulDivS src g, .mulDivN src g, .mulRemS src g, .mulRemN src g], exec i s = .next s)

/-- R224: every operation of prd completes with its result or its flag. -/
def Sys2Proof.Claims.PrdResults : Prop :=
  ∀ (src : Src) (g : Guard) (s : State), ScalarIssues .prd src g s →
    (∀ e ∈ prdOps, exec (e.1 src g) s = .next (scalarDone s src .prd 1 (fun a _ t => e.2 a t))) ∧
    (∀ e ∈ prdFlags, exec (e.1 src g) s = .next (flagDone s src .prd e.2))

/-- R219-R224: every operation of alu0, alu1, mul and prd that issues completes with its result, its latency and its flag. -/
def Obligations.ScalarResults : Prop := AluResults ∧ MulResults ∧ PrdResults

/-! ### Lane results -/

/-- R266-R268: the arithmetic lane operations of a valu complete with the result of each active lane. -/
def Sys2Proof.Claims.VectorArithmetic : Prop :=
  ∀ (u : Twin) (md : SrcMod) (src : Src) (g : Guard) (s : State), VectorIssues src s →
    (∀ ty : FI6, exec (.vadd u ty md src g) s =
      .next (laneDone s md src g u.valu (arithLat (tyFI6 ty)) (tyFI6 ty).width (fun m a _ t => laneArith 0 (tyFI6 ty) m a t))) ∧
    (∀ ty : FI6, exec (.vsub u ty md src g) s =
      .next (laneDone s md src g u.valu (arithLat (tyFI6 ty)) (tyFI6 ty).width (fun m a _ t => laneArith 1 (tyFI6 ty) m a t))) ∧
    (∀ ty : FI6, exec (.vmul u ty md src g) s =
      .next (laneDone s md src g u.valu (arithLat (tyFI6 ty)) (tyFI6 ty).width (fun m a _ t => laneArith 2 (tyFI6 ty) m a t))) ∧
    (∀ ty : F3, exec (.vfma u ty md src g) s =
      .next (laneDone s md src g u.valu 4 (fmtF3 ty).width (fun m a b t =>
        (fmtF3 ty).fma m ((fmtF3 ty).decode a) ((fmtF3 ty).decode b) ((fmtF3 ty).decode t)))) ∧
    (∀ ty : F3, exec (.vfms u ty md src g) s =
      .next (laneDone s md src g u.valu 4 (fmtF3 ty).width (fun m a b t =>
        (fmtF3 ty).fma m ((fmtF3 ty).decode a) ((fmtF3 ty).decode b) ((fmtF3 ty).decode t).negate))) ∧
    (∀ ty : F3, exec (.vfnma u ty md src g) s =
      .next (laneDone s md src g u.valu 4 (fmtF3 ty).width (fun m a b t =>
        (fmtF3 ty).fma m ((fmtF3 ty).decode a).negate ((fmtF3 ty).decode b) ((fmtF3 ty).decode t)))) ∧
    (∀ ty : FSN9, exec (.vmin u ty md src g) s =
      .next (laneDone s md src g u.valu 2 (tyFSN9 ty).width (fun _ a _ t => laneMinmax false (tyFSN9 ty) a t))) ∧
    (∀ ty : FSN9, exec (.vmax u ty md src g) s =
      .next (laneDone s md src g u.valu 2 (tyFSN9 ty).width (fun _ a _ t => laneMinmax true (tyFSN9 ty) a t))) ∧
    (∀ ty : FSN9, exec (.vclamp u ty md src g) s =
      .next (laneDone s md src g u.valu 2 (tyFSN9 ty).width (fun _ a b t => laneClamp (tyFSN9 ty) a b t))) ∧
    (∀ ty : F3, exec (.vscale u ty md src g) s =
      .next (laneDone s md src g u.valu 3 (fmtF3 ty).width (fun m a _ t => laneScale (fmtF3 ty) m a t)))

/-- R270-R272: the selections, bitwise operations, shifts, saturating sums and dot products of a valu complete with the result of each
active lane. -/
def Sys2Proof.Claims.VectorBits : Prop :=
  ∀ (u : Twin) (md : SrcMod) (src : Src) (g : Guard) (s : State), VectorIssues src s →
    (∀ ty : W3, exec (.vsel u ty md src g) s =
      .next (laneDone s md src g u.valu 2 (widthW3 ty) (fun _ a b t => Res.pure (if t % 2 = 1 then a else b)))) ∧
    exec (.vand u md src g) s = .next ((s.taken src).timed u.valu 2
      [(.q, s.opA u.valu &&& s.vectorSrc md src, laneMask (s.tile.core.guardWord g) 4)] EvCount.zero) ∧
    exec (.vor u md src g) s = .next ((s.taken src).timed u.valu 2
      [(.q, s.opA u.valu ||| s.vectorSrc md src, laneMask (s.tile.core.guardWord g) 4)] EvCount.zero) ∧
    exec (.vxor u md src g) s = .next ((s.taken src).timed u.valu 2
      [(.q, s.opA u.valu ^^^ s.vectorSrc md src, laneMask (s.tile.core.guardWord g) 4)] EvCount.zero) ∧
    (∀ ty : W3, exec (.vshl u ty md src g) s = .next (laneDone s md src g u.valu 2 (widthW3 ty) (fun _ a _ t =>
      Res.pure (if widthW3 ty ≤ t then 0 else a * 2 ^ t % 2 ^ widthW3 ty)))) ∧
    (∀ ty : W3, exec (.vshr u ty md src g) s = .next (laneDone s md src g u.valu 2 (widthW3 ty) (fun _ a _ t =>
      Res.pure (if widthW3 ty ≤ t then 0 else a / 2 ^ t)))) ∧
    (∀ ty : W3, exec (.vsar u ty md src g) s = .next (laneDone s md src g u.valu 2 (widthW3 ty) (fun _ a _ t =>
      Res.pure (wrapInt (widthW3 ty) (sInt (widthW3 ty) a / 2 ^ min t (widthW3 ty)))))) ∧
    (∀ ty : SN6, exec (.vadds u ty md src g) s =
      .next (laneDone s md src g u.valu 2 (tySN6 ty).w (fun _ a _ t => laneSat false (tySN6 ty) a t))) ∧
    (∀ ty : SN6, exec (.vsubs u ty md src g) s =
      .next (laneDone s md src g u.valu 2 (tySN6 ty).w (fun _ a _ t => laneSat true (tySN6 ty) a t))) ∧
    exec (.vdot4 u md src g) s = .next (laneDone s md src g u.valu 4 32 (fun _ a _ t => laneDot4 a t))

/-- R264, R269: the compares of a valu write only qp: all ones in the bits of an active lane where the compare holds, zeros where it does
not. -/
def Sys2Proof.Claims.VectorCompares : Prop :=
  ∀ (u : Twin) (md : SrcMod) (src : Src) (g : Guard) (s : State), VectorIssues src s →
    (∀ ty : FI6, exec (.veq u ty md src g) s = .next (compareDone s md src g u.valu .eq (tyFI6 ty))) ∧
    (∀ ty : FI6, exec (.vne u ty md src g) s = .next (compareDone s md src g u.valu .ne (tyFI6 ty))) ∧
    (∀ ty : FSN9, exec (.vlt u ty md src g) s = .next (compareDone s md src g u.valu .lt (tyFSN9 ty))) ∧
    (∀ ty : FSN9, exec (.vle u ty md src g) s = .next (compareDone s md src g u.valu .le (tyFSN9 ty)))

/-- R264-R273: the arithmetic, the selections and bit operations, and the compares of a valu complete. -/
def Obligations.VectorResults : Prop := VectorArithmetic ∧ VectorBits ∧ VectorCompares

/-- R214, R274-R276: where port a holds a type word that the operation knows, VABS, VNEG, VCVT and the reductions complete; where it
does not, they raise "illegal operand". How often the additions of one VRSUM count an event is the model's reading of R143 (log 34), and so is
the value of a VCVT between integer types of one width and different signs, for which R132 has no row (log 14). -/
def Sys2Proof.Claims.VectorTyped : Prop :=
  ∀ (u : Twin) (md : SrcMod) (src : Src) (g : Guard) (s : State), VectorIssues src s →
    (absOk (s.opA u.valu) = true → ∀ neg : Bool,
      exec (if neg then .vneg u md src g else .vabs u md src g) s =
        .next (laneDone s md src g u.valu 2 (codeTy (typeOf (s.opA u.valu))).width (fun _ _ _ t =>
          laneAbsNeg neg (codeTy (typeOf (s.opA u.valu))) t))) ∧
    (cvtOk (s.opA u.valu) = true →
      let dst := codeTy (typeOf (s.opA u.valu))
      let from_ := codeTy (stypeOf (s.opA u.valu))
      let n := 512 / max from_.width dst.width
      let on (i : Nat) : Bool := laneOn (s.tile.core.guardWord g) (from_.width / 8) i
      let r (i : Nat) : Res := convert s.tile.core.rm s.tile.core.fsat from_ dst (laneOf from_.width (s.vectorSrc md src).toNat i)
      exec (.vcvt u md src g) s = .next ((s.taken src).timed u.valu 3 [(.q, BitVec.ofNat 512 (ofLanes dst.width (fun i => (r i).val) n),
        wideOfLanes dst.width (fun i => if n ≤ i || on i then 2 ^ dst.width - 1 else 0))] (laneEvents on r n))) ∧
    (reduceOk (s.opA u.valu) = true →
      ∀ x ∈ [(Instr.vrsum u md src g, 0, 6), (.vrmax u md src g, 1, 4), (.vrmin u md src g, 2, 4)],
        let ty := codeTy (typeOf (s.opA u.valu))
        let r := reduceLanes x.2.1 ty (hdrNprof s.tile.core.seq.hdr).toNat ((List.range (512 / ty.width)).map (fun i =>
          if laneOn (s.tile.core.guardWord g) (ty.width / 8) i then some (laneOf ty.width (s.vectorSrc md src).toNat i) else none))
        exec x.1 s = .next ((s.taken src).timed u.valu x.2.2 [(.q, BitVec.ofNat 512 r.val, BitVec.allOnes 512)] r.ev)) ∧
    (absOk (s.opA u.valu) = false →
      exec (.vabs u md src g) s = .next (s.takeTrap (s.illegalOperand u.valu (s.vectorSrc md src))) ∧
      exec (.vneg u md src g) s = .next (s.takeTrap (s.illegalOperand u.valu (s.vectorSrc md src)))) ∧
    (cvtOk (s.opA u.valu) = false → exec (.vcvt u md src g) s = .next (s.takeTrap (s.illegalOperand u.valu (s.vectorSrc md src)))) ∧
    (reduceOk (s.opA u.valu) = false → ∀ i ∈ [Instr.vrsum u md src g, .vrmax u md src g, .vrmin u md src g],
      exec i s = .next (s.takeTrap (s.illegalOperand u.valu (s.vectorSrc md src))))

/-- R277, R278: the special functions complete, lane by lane, with latency 10. That their values are computed as series of 256 fractional bits
is the model's (log 18). -/
def Sys2Proof.Claims.SpecialFunctions : Prop :=
  ∀ (ty : F3) (md : SrcMod) (src : Src) (g : Guard) (s : State), VectorIssues src s →
    ∀ x ∈ [(Instr.vexp2 ty md src g, Sfu.exp2), (.vlog2 ty md src g, .log2), (.vrcp ty md src g, .rcp), (.vrsqrt ty md src g, .rsqrt),
        (.vsqrt ty md src g, .sqrt), (.vtanh ty md src g, .tanh), (.vsigm ty md src g, .sigm)],
      exec x.1 s = .next (laneDone s md src g .vsfu 10 (fmtF3 ty).width (fun m _ _ t => (fmtF3 ty).special m x.2 ((fmtF3 ty).decode t)))

/-- R214, R274-R278: the typed operations of a valu and the special functions complete (logs 14, 18, 34). -/
def Obligations.TypedVectorResults : Prop := VectorTyped ∧ SpecialFunctions

/-- R279, R280: the element permutes, the packs and the widenings complete with the element that each lane names. -/
def Obligations.Permutes : Prop :=
  ∀ (md : SrcMod) (src : Src) (g : Guard) (s : State), VectorIssues src s →
    (∀ ty : W3,
      let w := widthW3 ty
      let n := 512 / w
      let a := laneOf w (s.opA .perm).toNat
      let b := laneOf w (s.opB .perm).toNat
      let t := laneOf w (s.vectorSrc md src).toNat
      ∀ x ∈ [(Instr.vshuf ty md src g, fun i => if t i % (2 * n) < n then a (t i % (2 * n)) else b (t i % (2 * n) - n)),
          (.vzip ty md src g, fun i => if i % 2 = 0 then a (i / 2) else t (i / 2)),
          (.vunzip ty md src g, fun i => if i < n / 2 then a (2 * i) else t (2 * (i - n / 2))),
          (.vbcast ty md src g, fun _ => a (t 0 % n)), (.vextr ty md src g, fun i => if i = 0 then a (t 0 % n) else 0),
          (.vins ty md src g, fun i => if i = t 0 % n then b 0 else a i), (.viota ty md src g, fun i => t 0 + i),
          (.vslide ty md src g, fun i =>
            let d := min (bitsOf (s.opB .perm).toNat 0 8) n
            if i + d < n then a (i + d) else t (i + d - n))],
        exec x.1 s = .next ((s.taken src).laneResult .perm 2 w (s.tile.core.guardWord g) (fun i => Res.pure (x.2 i)))) ∧
    (∀ ty : SN4, exec (.vpack ty md src g) s =
      .next ((s.taken src).laneResult .perm 2 ((tySN4 ty).w / 2) (s.tile.core.guardWord g) (fun i =>
        let n := 512 / (tySN4 ty).w
        let x := (tySN4 ty).decode (if i < n then laneOf (tySN4 ty).w (s.opA .perm).toNat i
          else laneOf (tySN4 ty).w (s.vectorSrc md src).toNat (i - n))
        let r := satInt (halfFmt (tySN4 ty)).lo (halfFmt (tySN4 ty)).hi x
        { val := wrapInt ((tySN4 ty).w / 2) r.val, ev := r.ev }))) ∧
    (∀ ty : SN4, exec (.vwiden ty md src g) s = .next ((s.taken src).laneResult .perm 2 (tySN4 ty).w (s.tile.core.guardWord g) (fun i =>
      Res.pure (wrapInt (tySN4 ty).w ((halfFmt (tySN4 ty)).decode (laneOf ((tySN4 ty).w / 2) (s.vectorSrc md src).toNat i))))))

/-- The quotients of a TRN5 byte by multiplication and shift, and its digits (R281). -/
def Sys2Proof.Claims.trn5Digit (b i : Nat) : Nat :=
  let c : List Nat := [65536, 21846, 7282, 2428, 810, 270]
  let qq (k : Nat) : Nat := b * c.getD k 0 / 2 ^ 16
  qq i - 3 * qq (i + 1)

/-- R281: UNPK5 decodes elements E on of the TRN5 bytes in t; an illegal byte gives zeros with the qp bits of its lanes set, and counts ev5
once where it feeds an active lane. -/
def Sys2Proof.Claims.Unpk5Values : Prop :=
  ∀ (md : SrcMod) (src : Src) (g : Guard) (s : State), VectorIssues src s →
    let t := s.vectorSrc md src
    let w := s.tile.core.guardWord g
    let c := ctlWord (s.opA .perm)
    let ok : Prop := bitsOf c 12 20 = 0 ∧ bitsOf c 9 2 ≠ 3 ∧ bitsOf c 0 9 ≤ 319
    let n := if bitsOf c 9 2 = 0 then 32 else if bitsOf c 9 2 = 1 then 16 else 8
    let el (i : Nat) : Nat := bitsOf c 0 9 + i
    let byte (k : Nat) : Nat := laneOf 8 t.toNat k
    let bad (i : Nat) : Bool := decide (el i ≤ 319) && decide (243 ≤ byte (el i / 5))
    let lane (i : Nat) : Nat :=
      if 319 < el i ∨ bad i = true then 0
      else
        let d := trn5Digit (byte (el i / 5)) (el i % 5)
        if bitsOf c 11 1 = 1 then d else if d = 2 then 2 ^ n - 1 else d
    let feeds (k : Nat) : Bool := (List.range (512 / n)).any (fun i => laneOn w (n / 8) i && decide (el i ≤ 319) && decide (el i / 5 = k))
    (ok → exec (.unpk5 md src g) s = .next ((s.taken src).timed .perm 3
      [(.q, wideOfLanes n lane, laneMask w (n / 8)),
       (.qp, BitVec.ofNat 512 (ofLanes (n / 8) (fun i => if bad i then 2 ^ (n / 8) - 1 else 0) (512 / n)), laneMaskQp w (n / 8))]
      { EvCount.zero with trn := countBelow (fun k => decide (243 ≤ byte k) && feeds k) 64 })) ∧
    (¬ok → exec (.unpk5 md src g) s = .next (s.takeTrap (s.illegalOperand .perm t)))

/-- R282: PACK5 packs the signs of the active lanes of t, five digits to a byte, and counts ev4 for each value outside -1, 0 and 1. -/
def Sys2Proof.Claims.Pack5Values : Prop :=
  ∀ (md : SrcMod) (src : Src) (g : Guard) (s : State), VectorIssues src s →
    let t := s.vectorSrc md src
    let c := ctlWord (s.opA .perm)
    let ok : Prop := bitsOf c 9 2 ≠ 3 ∧ bitsOf c 0 9 = 0 ∧ bitsOf c 11 21 = 0
    let n := if bitsOf c 9 2 = 0 then 32 else if bitsOf c 9 2 = 1 then 16 else 8
    let v (i : Nat) : Int := if i < 512 / n ∧ laneOn (s.tile.core.guardWord g) (n / 8) i = true then sInt n (laneOf n t.toNat i) else 0
    let d (i : Nat) : Nat := if v i = 0 then 0 else if 0 < v i then 1 else 2
    (ok → exec (.pack5 md src g) s = .next ((s.taken src).timed .perm 3
      [(.q, BitVec.ofNat 512 (ofLanes 8 (fun k => ((List.range 5).map (fun i => d (5 * k + i) * 3 ^ i)).sum) ((512 / n + 4) / 5)),
        BitVec.allOnes 512)]
      { EvCount.zero with sat := countBelow (fun i => decide (v i ≠ -1 ∧ v i ≠ 0 ∧ v i ≠ 1)) (512 / n) })) ∧
    (¬ok → exec (.pack5 md src g) s = .next (s.takeTrap (s.illegalOperand .perm t)))

/-- R283, R284: UNPKG multiplies sixteen elements of a stream by their group's scale; QNTG gives a group of 64 elements its scale and
quantises each by it. -/
def Sys2Proof.Claims.GroupValues : Prop :=
  ∀ (md : SrcMod) (src : Src) (g : Guard) (s : State), VectorIssues src s →
    let t := s.vectorSrc md src
    let w := s.tile.core.guardWord g
    let bad := s.takeTrap (s.illegalOperand .perm t)
    (∀ ty : GT2,
      let c := ctlWord (s.opA .perm)
      let k := if ty = .s4g then 4 else 3
      let ok : Prop := bitsOf c 9 7 = 0 ∧ bitsOf c 0 8 ≤ (if ty = .s4g then 112 else 154)
      let scale : FVal := if bitsOf c 8 1 = 1 then Fmt.bf16.decode (bitsOf c 16 16) else Fmt.f16.decode (bitsOf c 16 16)
      (ok → exec (.unpkg ty md src g) s = .next ((s.taken src).laneResult .perm 3 32 w (fun i =>
        f32MulRne (FVal.ofInt (sInt k (bitsOf t.toNat (k * (bitsOf c 0 8 + i)) k))) scale))) ∧
      (¬ok → exec (.unpkg ty md src g) s = .next bad)) ∧
    (∀ ty : GT3,
      let f : Fmt := if (s.opB .perm).getLsbD 0 then .bf16 else .f16
      let k := match ty with
        | .s4g => 4
        | .s3g => 3
        | .s8 => 8
      let hi : Nat := 2 ^ (k - 1) - 1
      let x (j : Nat) : Nat := if j < 32 then laneOf 16 (s.opA .perm).toNat j else laneOf 16 t.toNat (j - 32)
      let on (j : Nat) : Bool := laneOn w 2 (j % 32)
      let finite (j : Nat) : Bool := on j && decide (x j % 2 ^ 15 < f.infBits)
      (1 < ctlWord (s.opB .perm) → exec (.qntg ty md src g) s = .next bad) ∧
      (ctlWord (s.opB .perm) ≤ 1 → ∃ amax, (amax = 0 ∨ ∃ j < 64, finite j = true ∧ amax = x j % 2 ^ 15) ∧
        (∀ j < 64, finite j = true → x j % 2 ^ 15 ≤ amax) ∧
        ∀ neg m e, f.decode amax = .fin neg m e →
          let scale := f.round s.tile.core.rm false false (Mag.ofRat m hi e)
          let q (j : Nat) : IRes := if on j = false ∨ amax = 0 then { val := 0, ev := EvCount.zero }
            else quantInt s.tile.core.rm (-(hi + 1 : Nat)) hi (f.decode (x j)) (f.decode scale.val)
          exec (.qntg ty md src g) s = .next ((s.taken src).timed .perm 4
            [(.q, BitVec.ofNat 512 (ofLanes k (fun j => wrapInt k (q j).val) 64), BitVec.allOnes 512),
             (.q1, BitVec.ofNat 512 scale.val, BitVec.allOnes 512)]
            (scale.ev.add (laneEvents (fun _ => true) (fun j => { val := 0, ev := (q j).ev }) 64)))))

/-- R140, R285: VCMPR keeps in each block the lanes that rank highest by magnitude, the lower lane first, with their indices. -/
def Sys2Proof.Claims.CompressValues : Prop :=
  ∀ (ty : FSN9) (md : SrcMod) (src : Src) (g : Guard) (s : State), VectorIssues src s →
    let t := s.vectorSrc md src
    let c := ctlWord (s.opA .perm)
    let n := (tyFSN9 ty).width
    let m := 2 ^ bitsOf c 8 3
    let ok : Prop := bitsOf c 11 21 = 0 ∧ bitsOf c 7 1 = 0 ∧ 1 ≤ bitsOf c 8 3 ∧ m ≤ 512 / n ∧ 1 ≤ bitsOf c 0 7 ∧ bitsOf c 0 7 ≤ m
    let on (i : Nat) : Bool := laneOn (s.tile.core.guardWord g) (n / 8) i
    let v (i : Nat) : Nat := if on i then laneOf n t.toNat i else 0
    let rank (i : Nat) : Nat := if on i then magKey (tyFSN9 ty) (v i) + 1 else 0
    let above (j i : Nat) : Bool := decide (j / m = i / m) && (decide (rank i < rank j) || (decide (rank i = rank j) && decide (j < i)))
    let kept := (List.range (512 / n)).filter (fun i => decide (((List.range (512 / n)).filter (fun j => above j i)).length < bitsOf c 0 7))
    (ok → exec (.vcmpr ty md src g) s = .next ((s.taken src).timed .perm 4
      [(.q, wideOfLanes n (fun i => ((kept[i]?).map v).getD 0), BitVec.allOnes 512),
       (.q1, wideOfLanes 8 (fun i => ((kept[i]?).map (fun j => j % m)).getD 0), BitVec.allOnes 512)] EvCount.zero)) ∧
    (¬ok → exec (.vcmpr ty md src g) s = .next (s.takeTrap (s.illegalOperand .perm t)))

/-- R141, R286, R287: VTOPK gives the k highest of the active lanes with their indices, and VSORT all of them with their lanes, in the order
of R141 or, for VSORT, its reverse. -/
def Sys2Proof.Claims.SortedValues : Prop :=
  ∀ (ty : FSN9) (md : SrcMod) (src : Src) (g : Guard) (s : State), VectorIssues src s →
    let t := s.vectorSrc md src
    let w := s.tile.core.guardWord g
    let bad := s.takeTrap (s.illegalOperand .perm t)
    let n := (tyFSN9 ty).width
    let c := ctlWord (s.opA .perm)
    let b := (s.opB .perm).toNat
    (c < 32 → (c < 16 ∨ n = 32) → ∃ l : List SortEl,
      l.Perm (sortLanes (tyFSN9 ty) t w (fun i => if 16 ≤ c then laneOf 32 b i else (b % 2 ^ 32 + i) % 2 ^ 32)) ∧
      l.Pairwise (fun x y => y.key < x.key ∨ (x.key = y.key ∧ x.g ≤ y.g)) ∧
      exec (.vtopk ty md src g) s = .next ((s.taken src).timed .perm 8
        [(.q, wideOfLanes n (fun i => if i < c % 16 + 1 then ((l[i]?).map SortEl.bits).getD 0 else 0), BitVec.allOnes 512),
         (.q1, wideOfLanes 32 (fun i => if i < c % 16 + 1 then ((l[i]?).map SortEl.g).getD 0xFFFFFFFF else 0xFFFFFFFF), BitVec.allOnes 512)]
        EvCount.zero)) ∧
    (32 ≤ c ∨ (16 ≤ c ∧ n ≠ 32) → exec (.vtopk ty md src g) s = .next bad) ∧
    (c ≤ 1 → ∃ l : List SortEl, l.Perm (sortLanes (tyFSN9 ty) t w (fun i => i)) ∧
      l.Pairwise (fun x y => (if c = 1 then x.key < y.key else y.key < x.key) ∨ (x.key = y.key ∧ x.lane < y.lane)) ∧
      exec (.vsort ty md src g) s = .next ((s.taken src).timed .perm 6
        [(.q, wideOfLanes n (fun i => ((l[i]?).map SortEl.bits).getD 0), BitVec.allOnes 512),
         (.q1, wideOfLanes n (fun i => ((l[i]?).map SortEl.lane).getD (2 ^ n - 1)), BitVec.allOnes 512)] EvCount.zero)) ∧
    (1 < c → exec (.vsort ty md src g) s = .next bad)

/-- R281-R287: the packing, compress, top-k and sort operations complete with their values where their control words are legal, and raise
"illegal operand" elsewhere. -/
def Obligations.PackAndSort : Prop := Unpk5Values ∧ Pack5Values ∧ GroupValues ∧ CompressValues ∧ SortedValues

/-! ### Moves, landings, frames -/

/-- R195, R196, R200: a scalar move that issues writes its destination with bits [511:64] cleared; p0 stays all ones; a move to the null
destination, or under a false guard, moves nothing. -/
def Sys2Proof.Claims.MoveScalar : Prop :=
  (∀ (d : Dst) (src : Src) (g : Guard) (s : State), ScalarIssues .alu0 src g s → d ≠ .null →
    exec (.move d src g) s = .next ((s.taken src).modTile (fun t => t.mapCore (fun c => c.scalarWrite d (s.scalarSrc src))))) ∧
  (∀ (d : Dst) (src : Src) (g : Guard) (s : State), s.tile.core.guardOn g = false → exec (.move d src g) s = .next s) ∧
  (∀ (src : Src) (g : Guard) (s : State), exec (.move .null src g) s = .next s) ∧
  (∀ (c : TileCore) (v : Word),
    (∀ n, (c.scalarWrite (.o n) v).o.get n.toFin = v.zeroExtend 512) ∧
    (∀ n, (c.scalarWrite (.m n) v).m.get n.toFin = v.zeroExtend 512) ∧
    (∀ n, (c.scalarWrite (.p n) v).pred n = if n = 0 then BitVec.allOnes 64 else v) ∧
    (∀ sk pt, (c.scalarWrite (.port sk pt) v).opnd' sk pt = v.zeroExtend 512))

/-- R31, R200, R202: a vector move that issues writes the lanes of an m or o register that its guard holds, by its modifier's granule, and
a port whole, with the mask of its guard (R239). That a port takes the value of inactive lanes too is the model's reading (log 19). -/
def Sys2Proof.Claims.MoveVector : Prop :=
  (∀ (d : Dst) (md : SrcMod) (src : Src) (g : Guard) (s : State), VectorIssues src s → d ≠ .null →
    exec (.moveVector d md src g) s = .next ((s.taken src).modTile (fun t => t.mapCore (fun c =>
      c.vectorWrite d (modGranule md) (s.tile.core.guardWord g) (s.vectorSrc md src))))) ∧
  (∀ (md : SrcMod) (src : Src) (g : Guard) (s : State), exec (.moveVector .null md src g) s = .next s) ∧
  (∀ (c : TileCore) (gr : Nat) (w : Word) (v : Wide),
    (∀ n, (c.vectorWrite (.o n) gr w v).o.get n.toFin = mergeBits (laneMask w gr) (c.o.get n.toFin) v) ∧
    (∀ n, (c.vectorWrite (.m n) gr w v).m.get n.toFin = mergeBits (laneMask w gr) (c.m.get n.toFin) v) ∧
    (∀ sk pt, (c.vectorWrite (.port sk pt) gr w v).opnd' sk pt = v ∧ (c.vectorWrite (.port sk pt) gr w v).mask' sk pt = w))

/-- A source that a bundle in privileged mode may read: an immediate, or the result port of sys (R359). -/
def Sys2Proof.Claims.StubSource (src : Src) : Prop :=
  (∃ v, src = .imm8 v) ∨ (∃ v, src = .limmS v ∨ src = .limmZ v ∨ src = .limmHi v) ∨ src = .port .sys .q

/-- R358, R359: in privileged mode a move that reads an immediate or the result of sys and writes a port of sys completes; one with any
other source or destination raises "privilege violation", with the trigger information of no unit. -/
def Sys2Proof.Claims.MovePrivileged : Prop :=
  ∀ (d : Dst) (src : Src) (g : Guard) (s : State), s.tile.frozen = false → s.tile.priv = true → d ≠ .null →
    (StubSource src → (∃ pt, d = .port .sys pt) → ScalarIssues .sys src g s →
      exec (.move d src g) s = .next ((s.taken src).modTile (fun t => t.mapCore (fun c => c.scalarWrite d (s.scalarSrc src))))) ∧
    (¬StubSource src ∨ (∀ pt, d ≠ .port .sys pt) →
      (s.tile.core.guardOn g = true → exec (.move d src g) s = .next (s.takeTrap (s.cause 0x12 0 0))) ∧
      ∀ md, exec (.moveVector d md src g) s = .next (s.takeTrap (s.cause 0x12 0 0)))

/-- R31, R195-R202, R359: the moves complete, in user mode and, where a stub may make them, in privileged mode. -/
def Obligations.MoveResults : Prop := MoveScalar ∧ MoveVector ∧ MovePrivileged

/-- Frame of the moves, whatever their guard: a move writes its destination alone; every other register and port with its recorded mask,
every byte of memory and the trap registers stand. -/
def Obligations.MoveFrame : Prop :=
  ∀ (d : Dst) (md : SrcMod) (src : Src) (g : Guard) (s t : State), VectorIssues src s →
    (exec (.move d src g) s = .next t ∨ exec (.moveVector d md src g) s = .next t) →
    SameBytes s t ∧ SameTrap s.tile t.tile ∧ t.tile.core.h = s.tile.core.h ∧ t.tile.core.ev = s.tile.core.ev ∧
    t.tile.core.frm = s.tile.core.frm ∧ t.tile.core.bf = s.tile.core.bf ∧ t.tile.core.lockmask = s.tile.core.lockmask ∧
    t.tile.core.res = s.tile.core.res ∧ t.tile.core.flight = s.tile.core.flight ∧
    (∀ n, d ≠ .o n → t.tile.core.o.get n.toFin = s.tile.core.o.get n.toFin) ∧
    (∀ n, d ≠ .m n → t.tile.core.m.get n.toFin = s.tile.core.m.get n.toFin) ∧
    (∀ n, d ≠ .p n → t.tile.core.pred n = s.tile.core.pred n) ∧
    (∀ sk pt, d ≠ .port sk pt → t.tile.core.opnd' sk pt = s.tile.core.opnd' sk pt ∧ t.tile.core.mask' sk pt = s.tile.core.mask' sk pt)

/-- Frame of the scalar units and of the lane operations: where one of them has its result, every register and every byte of memory stands,
and so does every result port until the result lands. -/
def Obligations.ResultFrame : Prop :=
  ∀ (u : Twin) (md : SrcMod) (src : Src) (g : Guard) (s t : State),
    ((ScalarIssues (aluOfTwin u) src g s ∧ (∃ i ∈ (aluOps u).map (·.1) ++ (aluFlags u).map (·.1), exec (i src g) s = .next t)) ∨
      (ScalarIssues .mul src g s ∧ (∃ i ∈ mulOps.map (·.1) ++ divOps.map (·.1), exec (i src g) s = .next t)) ∨
      (ScalarIssues .prd src g s ∧ (∃ i ∈ prdOps.map (·.1) ++ prdFlags.map (·.1), exec (i src g) s = .next t)) ∨
      (VectorIssues src s ∧ ((∃ ty, exec (.vadd u ty md src g) s = .next t ∨ exec (.vsub u ty md src g) s = .next t ∨
          exec (.vmul u ty md src g) s = .next t ∨ exec (.veq u ty md src g) s = .next t ∨ exec (.vne u ty md src g) s = .next t) ∨
        (∃ ty, exec (.vfma u ty md src g) s = .next t ∨ exec (.vscale u ty md src g) s = .next t) ∨
        (∃ ty, exec (.vlt u ty md src g) s = .next t ∨ exec (.vle u ty md src g) s = .next t ∨ exec (.vmin u ty md src g) s = .next t ∨
          exec (.vmax u ty md src g) s = .next t) ∨
        (∃ ty, exec (.vshuf ty md src g) s = .next t ∨ exec (.vsel u ty md src g) s = .next t ∨ exec (.vshl u ty md src g) s = .next t)))) →
    SameBytes s t ∧ SameRegisters s.tile.core t.tile.core ∧ SameTrap s.tile t.tile ∧ t.tile.core.res = s.tile.core.res ∧
    t.tile.core.seq = s.tile.core.seq

/-- R19, R20, R31: a timed result whose latency has run lands in its port under its mask, leaves the pipeline, counts its events, and
changes no other port and no register. -/
def Sys2Proof.Claims.TimedLands : Prop :=
  ∀ (s : State) (f : InFlight), s.tile.frozen = false → s.ctx.debug = false → s.tile.landing = [f] → f.live = .plain →
    s.raced f.id = false →
    ∃ t, exec .timedResultLands s = .next t ∧
      t.tile.core.res' f.sk f.port = mergeBits f.mask (s.tile.core.res' f.sk f.port) f.value ∧
      (∀ sk p, (sk, p) ≠ (f.sk, f.port) → t.tile.core.res' sk p = s.tile.core.res' sk p) ∧
      t.tile.core.flight = s.tile.core.flight.filter (fun x => decide (x ≠ f)) ∧
      (∀ i : Fin 16, t.tile.core.ev.get i = satCount (s.tile.core.ev.get i) (f.evs.of i.val)) ∧
      t.tile.core.m = s.tile.core.m ∧ t.tile.core.o = s.tile.core.o ∧ t.tile.core.p = s.tile.core.p ∧ t.tile.core.h = s.tile.core.h ∧
      t.tile.core.opnd = s.tile.core.opnd ∧ t.tile.core.seq = s.tile.core.seq ∧ SameBytes s t ∧ SameTrap s.tile t.tile

/-- R21: an interlocked result that is ready and due is delivered: it lands in its port and is pending no longer. -/
def Sys2Proof.Claims.LockedDelivered : Prop :=
  ∀ (s : State) (sk : Sock) (f : InFlight), s.tile.frozen = false → f.live = .plain → s.raced f.id = false →
    s.tile.deliverable? s.clock sk = some f → s.tile.core.flight.filter (fun e => e.sk = sk && e.locked && e.id = f.id) = [f] →
    ∃ t, exec (.interlockedResultDelivered sk) s = .next t ∧
      t.tile.core.res' f.sk f.port = mergeBits f.mask (s.tile.core.res' f.sk f.port) f.value ∧
      t.tile.core.flight = s.tile.core.flight.filter (fun e => !(e.sk = sk && e.locked && e.id = f.id)) ∧
      (∀ sk p, (sk, p) ≠ (f.sk, f.port) → t.tile.core.res' sk p = s.tile.core.res' sk p) ∧ SameBytes s t

/-- R19-R21, R31: timed results land and interlocked results are delivered. -/
def Obligations.ResultsArrive : Prop := TimedLands ∧ LockedDelivered

/-! ### The control slot -/

/-- R193, R226, R228, R232, R235: a control operation that issues acts as its rule says: NOP does nothing; BR and CALL go to the bundle at
their offset, CALL with the address of the bundle after it in o7; RET goes to bits [55:6] of its register; WAIT counts empty bundles; SAFE
marks a safe point. -/
def Sys2Proof.Claims.ControlBranches : Prop :=
  ∀ (g : Guard) (s : State), ControlIssues g s →
    let goes (f : Seq → Seq) : State := (s.atSlot 10).modTile (fun t => t.mapSeq f)
    exec (.nop g) s = .next (s.atSlot 10) ∧
    (∀ off,
      let a := s.tile.core.seq.here + 64 * off.signExtend 56
      exec (.br off g) s = .next (goes (fun q => { q with pc := a, target := some a, loops := popOutside a q.loops }))) ∧
    (∀ off, ∃ t, exec (.call off g) s = .next t ∧ t.tile.core.seq.pc = s.tile.core.seq.here + 64 * off.signExtend 56 ∧
      t.tile.core.o.get 7 = ((s.tile.core.seq.here + 64).zeroExtend 64 : Word).zeroExtend 512 ∧
      t.tile.core.seq.loops = s.tile.core.seq.loops ∧ SameBytes s t) ∧
    (∀ n, ∃ t, exec (.ret n g) s = .next t ∧ SameBytes s t ∧ SameRegisters s.tile.core t.tile.core ∧
      t.tile.core.seq.pc = ((lowWord (s.tile.core.o.get n.toFin) &&& 0x00FFFFFFFFFFFFC0).truncate 56 : BitVec 56)) ∧
    (∀ count, exec (.wait count g) s = .next (goes (fun q => { q with waitLeft := count.toNat }))) ∧
    exec (.safe g) s = .next (goes (fun q => { q with safe := true }))

/-- R225: a false guard makes a control operation, other than BRP and BRN whose guard is their predicate, a NOP. -/
def Sys2Proof.Claims.ControlGuard : Prop :=
  ∀ (g : Guard) (s : State) (off count : BitVec 19) (n : BitVec 3) (len : BitVec 11) (sn : BitVec 9) (step : BitVec 6) (k : BitVec 4)
    (code : BitVec 16) (pk : BitVec 5), s.tile.priv = false → s.tile.core.guardOn g = false →
    ∀ i ∈ [Instr.nop g, .br off g, .call off g, .ret n g, .loop n len g, .spin sn step k g, .wait count g, .waitu n g, .waitb n g,
        .taskend g, .safe g, .trapu code g, .ilock pk n g, .iunlock pk n g], exec i s = .next s

/-- R227: BRP and BRN branch where every tested lane of their predicate is set, go on where none is, and trap with "non-uniform branch"
elsewhere. -/
def Sys2Proof.Claims.LaneBranch : Prop :=
  ∀ (half : Bool) (off : BitVec 19) (g : Guard) (s : State), s.tile.frozen = false → s.tile.priv = false →
    let i := if half then Instr.brn off g else .brp off g
    let w := s.tile.core.guardWord g
    let lanes := if half then (List.range 32).map (fun i => w.getLsbD (2 * i)) else (List.range 16).map (fun i => w.getLsbD (4 * i))
    ((∀ b ∈ lanes, b = true) → ∃ t, exec i s = .next t ∧ t.tile.core.seq.pc = s.tile.core.seq.here + 64 * off.signExtend 56 ∧
      SameBytes s t ∧ SameRegisters s.tile.core t.tile.core) ∧
    ((∀ b ∈ lanes, b = false) → exec i s = .next (s.atSlot 10)) ∧
    (true ∈ lanes → false ∈ lanes → exec i s = .next ((s.atSlot 10).takeTrap
      { code := 0x0E, tepc := s.tile.core.seq.here, i0 := addrWord s.tile.core.seq.here, i1 := w, i2 := if half then 1 else 0, i3 := 0 }))

/-- R225, R226, R232, R359: in privileged mode NOP, BR and WAIT complete as in user mode; every other control operation but TRAPU raises
"privilege violation". -/
def Sys2Proof.Claims.ControlPrivileged : Prop :=
  ∀ (g : Guard) (s : State), s.tile.frozen = false → s.tile.priv = true →
    let goes (f : Seq → Seq) : State := (s.atSlot 10).modTile (fun t => t.mapSeq f)
    (s.tile.core.guardOn g = true → exec (.nop g) s = .next (s.atSlot 10) ∧
      (∀ off,
        let a := s.tile.core.seq.here + 64 * off.signExtend 56
        exec (.br off g) s = .next (goes (fun q => { q with pc := a, target := some a, loops := popOutside a q.loops }))) ∧
      ∀ count, exec (.wait count g) s = .next (goes (fun q => { q with waitLeft := count.toNat }))) ∧
    (∀ (off : BitVec 19) (n : BitVec 3) (len : BitVec 11) (sn : BitVec 9) (step : BitVec 6) (k : BitVec 4) (pk : BitVec 5),
      ∀ i ∈ [Instr.brp off g, .brn off g, .call off g, .ret n g, .loop n len g, .spin sn step k g, .waitu n g, .waitb n g, .taskend g, .safe g,
          .ilock pk n g, .iunlock pk n g], exec i s = .next ((s.atSlot 10).takeTrap ((s.atSlot 10).cause 0x12 0 0)))

/-- R193, R226-R228, R232, R235, R359: the control operations that steer the sequencer complete; BRP and BRN decide by their lanes;
privileged mode runs only some. -/
def Obligations.BranchResults : Prop := ControlBranches ∧ LaneBranch ∧ ControlPrivileged

/-- R229-R231: LOOP with count 0 passes its body; with a count it enters the loop, unless four stand already, which raises "loop overflow";
SPIN starts the replay of its K entries, N times. -/
def Obligations.LoopSpin : Prop :=
  ∀ (g : Guard) (s : State), ControlIssues g s →
    (∀ (n : BitVec 3) (len : BitVec 11),
      let c := ((s.tile.core.o.get n.toFin).extractLsb' 0 32 : BitVec 32).toNat
      let stop (q : Machine.Seq) : BitVec 56 := q.here + 64 * (len.zeroExtend 56 + 2)
      (c = 0 → exec (.loop n len g) s = .next ((s.atSlot 10).modTile (fun t => t.mapSeq (fun q => { q with pc := stop q })))) ∧
      (c ≠ 0 → s.tile.core.seq.loops.length < 4 → exec (.loop n len g) s = .next ((s.atSlot 10).modTile (fun t => t.mapSeq (fun q =>
        { q with loops := { start := q.here + 64, stop := stop q, left := c, implicit := false } :: q.loops })))) ∧
      (c ≠ 0 → 4 ≤ s.tile.core.seq.loops.length → exec (.loop n len g) s = .next ((s.atSlot 10).takeTrap
        { code := 0x10, tepc := s.tile.core.seq.here, i0 := addrWord s.tile.core.seq.here, i1 := 0, i2 := 0, i3 := 0 }))) ∧
    (∀ n step k, exec (.spin n step k g) s = .next ((s.atSlot 10).modTile (fun t => t.mapCore (fun c =>
      { c with spin := some { k := k.toNat + 1, n := n.toNat + 1, step := step.toNat, done := 0,
                              first := (c.recIdx.toNat + 15 - k.toNat) % 16 } }))))

/-- R55, R179, R180: a WAITU waits for the promise of its transfer; it ends at the promised cycle where the transfer is complete by then; where
it was not, "promise missed" is raised, and a transfer that is complete since is dealt with at once. A DRAIN bit holds the next bundle until every operation is out. -/
def Sys2Proof.Claims.Waitu : Prop :=
  (∀ (n : BitVec 3) (g : Guard) (s : State), ControlIssues g s →
    (s.tile.transfer? ((s.tile.core.o.get n.toFin).extractLsb' 48 16) = none → s.tile.core.seq.waitu = none →
      exec (.waitu n g) s = .next (s.atSlot 10)) ∧
    (∀ d, s.tile.transfer? ((s.tile.core.o.get n.toFin).extractLsb' 48 16) = some d → s.cycle s.cur.die < d.promise →
      exec (.waitu n g) s = .next ((s.atSlot 10).modTile (fun t => t.mapSeq (fun q =>
        { q with waitu := some { start := s.cycle s.cur.die, p := d.promise, done := d.done,
                                 tag := (s.tile.core.o.get n.toFin).extractLsb' 48 16 } }))))) ∧
  (∀ (s : State) (w : WaitU), s.tile.core.seq.waitu = some w → w.p ≤ s.cycle s.cur.die →
    (w.inTime = true → ∃ t, exec .waituEnd s = .next t ∧ t.tile.core.seq.waitu = none ∧
      t.tile.core.seq.pc = s.tile.core.seq.pc ∧ SameRegisters s.tile.core t.tile.core ∧ SameBytes s t) ∧
    (w.inTime = false → exec .promiseMissed s = .next ((s.clearWaitu.takeTrap
      { code := 0x21, tepc := s.tile.core.seq.pc, i0 := addrWord s.tile.core.seq.here, i1 := w.tag.zeroExtend 64,
        i2 := BitVec.ofNat 64 w.p, i3 := 0 }).promiseKept s.cur w.tag w.done))) ∧
  (∀ s : State, s.tile.core.seq.drain = true → s.tile.emptied = true →
    exec .drainBitWaitEnd s = .next (s.modTile (fun t => t.mapSeq (fun q => { q with drain := false }))))

/-- R189, R190: a WAITB with a lawful word waits; it ends where its condition holds, and takes "wait expired" when its last clock has
passed without. -/
def Sys2Proof.Claims.Waitb : Prop :=
  (∀ (n : BitVec 3) (g : Guard) (s : State), ControlIssues g s →
    let p := s.atSlot 10
    let v := s.tile.core.o.get n.toFin
    let w := p.newWait v
    let t := p.modTile (fun t => t.mapSeq (fun q => { q with waitb := some w }))
    (waitKind (waitWord v 0) = 2 → p.handlePending (waitWord v 1) = false) → p.waitbCause v = none →
    t.waitHolds s.cur w = false → s.cycle s.cur.die < w.stop → exec (.waitb n g) s = .next t) ∧
  (∀ (s : State) (w : WaitB), s.tile.core.seq.waitb = some w →
    (s.cycle s.cur.die ≤ w.stop → s.waitHolds s.cur w = true → ∃ t, exec .waitbSatisfied s = .next t ∧ t.tile.core.seq.waitb = none ∧
      t.tile.core.seq.pc = s.tile.core.seq.pc ∧ SameRegisters s.tile.core t.tile.core ∧ SameBytes s t) ∧
    (w.stop ≤ s.cycle s.cur.die → s.waitHolds s.cur w = false → exec .waitExpired s = .next ((s.clearWaitb w).takeTrap (s.expiredCause s.cur w))))

/-- R179, R180, R189, R190, R233: WAITU and WAITB wait, and their waits end. -/
def Obligations.Waits : Prop := Waitu ∧ Waitb

/-- R234, R236, R359: TASKEND ends the task of the tile; TRAPU takes "user trap" with its code in user mode, and in privileged mode the service
cause "stub stop" with its code in tinfo1. The words of that cause to which the rules give nothing are free (log 50). -/
def Obligations.TaskendTrapu : Prop :=
  (∀ (g : Guard) (s : State), ControlIssues g s → s.tile.core.spin = none →
    ∃ t, exec (.taskend g) s = .next t ∧ t.tile.task = none ∧ t.tile.core.seq.ending = true ∧ t.tile.core.seq.loops = [] ∧
      t.tile.core.recIdx = 0 ∧ t.tile.core.m = s.tile.core.m ∧ t.tile.core.h = s.tile.core.h ∧ t.tile.core.frm = s.tile.core.frm ∧
      SameBytes s t) ∧
  (∀ (code : BitVec 16) (g : Guard) (s : State), ControlIssues g s → exec (.trapu code g) s = .next ((s.atSlot 10).takeTrap
    { code := 0x23, tepc := s.tile.core.seq.pc, i0 := addrWord s.tile.core.seq.here, i1 := code.zeroExtend 64, i2 := 0, i3 := 0 })) ∧
  (∀ (code : BitVec 16) (g : Guard) (s : State), s.tile.frozen = false → s.tile.priv = true → s.tile.core.guardOn g = true →
    exec (.trapu code g) s = .next ((s.atSlot 10).takeTrap
      { code := 0x33, tepc := s.tile.core.seq.pc, i0 := Config.freeInfo s.free 0, i1 := code.zeroExtend 64,
        i2 := Config.freeInfo s.free 2, i3 := Config.freeInfo s.free 3 }))

/-- R85, R237: ILOCK adds its range where it is well formed and the table and its 1,024 bundles have room, and IUNLOCK takes out a range
that stands; the predicate says whether it was done, and nothing else of the tile changes. -/
def Obligations.InstructionLocks : Prop :=
  ∀ (pk : BitVec 5) (n : BitVec 3) (g : Guard) (s : State), ControlIssues g s →
    let p := s.atSlot 10
    let no := p.lockFlag pk false
    let r := lockRange (s.tile.core.o.get n.toFin)
    (r = none → exec (.ilock pk n g) s = .next no ∧ exec (.iunlock pk n g) s = .next no) ∧
    (∀ x, r = some x →
      (exec (.ilock pk n g) s = .next (if 8 ≤ s.tile.locks.length ∨ 1024 < lockTotal s.tile.locks + x.2 then no
        else (p.modTile (fun t => { t with locks := t.locks ++ [x] })).lockFlag pk true)) ∧
      (exec (.iunlock pk n g) s = .next (if x ∈ s.tile.locks then (p.modTile (fun t => { t with locks := t.locks.erase x })).lockFlag pk true
        else no)))

/-! ### Translation -/

/-- R240-R242: where xlt has nothing before it, a translation of a legal address that hits the die's cache writes its handle register; one
that misses leaves the register pending and asks for a walker; HREL clears a register; HQRY and HBASE answer its descriptor and the address of its page. -/
def Obligations.XltResults : Prop :=
  ∀ (src : Src) (g : Guard) (s : State), ScalarIssues .xlt src g s → s.tile.core.xlats = [] →
    let n : BitVec 4 := (s.opA .xlt).extractLsb' 0 4
    let va : BitVec 56 := (s.scalarSrc src).extractLsb' 0 56
    let m : BitVec 4 := (s.scalarSrc src).extractLsb' 0 4
    (bitsOf (lowWord (s.opA .xlt)).toNat 4 60 = 0 → bitsOf (s.scalarSrc src).toNat 56 8 = 0 →
      ∀ w : Bool, let i := if w then Instr.xlatw src g else .xlat src g
        (∀ l, s.tlbHit s.cur.die s.ctx.asid va (if w then .write else .read) = some l →
          ∃ t, exec i s = .next t ∧ t.tile.core.h.get n.toFin = s.granted s.cur l w false va ∧ t.tile.core.xlats = [] ∧
            (Unsaved s s.cur s.nextOp → SameBytes s t)) ∧
        (s.tlbHit s.cur.die s.ctx.asid va (if w then .write else .read) = none →
          ∃ t, exec i s = .next t ∧ (t.tile.core.h.get n.toFin).pend = true ∧
            ((s.cur, .pageTableWalk) ∈ t.walks ∨ ∃ e ∈ t.events, e.step = .pageTableWalk ∧ e.at_ = s.cur) ∧ SameBytes s t)) ∧
    (bitsOf (s.scalarSrc src).toNat 4 60 = 0 →
      (∃ t, exec (.hrel src g) s = .next t ∧ t.tile.core.h.get m.toFin = Handle.reset ∧ t.tile.core.xlats = [] ∧ SameBytes s t) ∧
      (∃ t, exec (.hqry src g) s = .next t ∧ t.tile.core.h = s.tile.core.h ∧ (Unsaved s s.cur s.nextOp → SameBytes s t) ∧
        ∃ f ∈ t.tile.core.flight, f.sk = .xlt ∧ f.port = .q ∧ f.ready = true ∧ f.value = wideOfWord (s.tile.core.h.get m.toFin).word) ∧
      (∃ t, exec (.hbase src g) s = .next t ∧ t.tile.core.h = s.tile.core.h ∧ (Unsaved s s.cur s.nextOp → SameBytes s t) ∧
        ∃ f ∈ t.tile.core.flight, f.sk = .xlt ∧ f.port = .q ∧ f.ready = true ∧ f.value = wideOfWord (s.tile.core.h.get m.toFin).base)) ∧
    (bitsOf (lowWord (s.opA .xlt)).toNat 4 60 ≠ 0 ∨ bitsOf (s.scalarSrc src).toNat 56 8 ≠ 0 →
      exec (.xlat src g) s = .next (s.takeTrap (s.illegalOperand .xlt (wideOfWord (s.scalarSrc src)))) ∧
      exec (.xlatw src g) s = .next (s.takeTrap (s.illegalOperand .xlt (wideOfWord (s.scalarSrc src))))) ∧
    (bitsOf (s.scalarSrc src).toNat 4 60 ≠ 0 → ∀ i ∈ [Instr.hrel src g, .hqry src g, .hbase src g],
      exec i s = .next (s.takeTrap (s.illegalOperand .xlt (wideOfWord (s.scalarSrc src)))))

/-- R402, R405, R409, R413: where it is its turn on the page, a walker that finds a leaf with the right writes the handle of the translation
at the head of xlt, and one that finds no entry writes a handle without a grant (R240); the service of a handle fault writes anew the handle
that the access used, and the tile goes on (R408); a fetch that hits the cache puts the bundle into the instruction buffer. That a walk
reads the tables in one step is the model's (log 40), and so is that the service leaves a register in which the rollback restored another
translation (log 97). -/
def Obligations.TranslationAgents : Prop :=
  (∀ (s : State) (r : XlatReq), s.tile.core.xlats = [r] → r.walk = true → r.op = .read ∨ r.op = .write →
    r.got = none → s.tile.frozen = false → s.tile.out = false → s.tile.priv = false →
    s.pageTurn s.cur .pageTableWalk s.ctx.asid r.va = true →
    let w : Bool := decide (r.op = .write)
    (∀ l a, s.walk s.ctx.asid r.va = .leaf l a → l.gives (if w then .write else .read) = true → l.mig = false → (l.dup && w) = false →
      ∃ t, exec .pageTableWalk s = .next t ∧ t.tile.core.h.get r.h.toFin = s.granted s.cur l w false r.va ∧ t.tile.core.xlats = []) ∧
    (s.walk s.ctx.asid r.va = .absent →
      ∃ t, exec .pageTableWalk s = .next t ∧ t.tile.core.h.get r.h.toFin = ungranted w r.va ∧ t.tile.core.xlats = [] ∧
        (Unsaved s s.cur r.id → SameBytes s t))) ∧
  (∀ (s : State) (l : Leaf) (a : Nat), s.tile.frozen = true → s.tile.tv = true → s.tile.code = 0x30 → s.tile.heldCauses = [] →
    s.towSet s.cur = [s.cur] →
    let n : BitVec 4 := (s.tile.tinfo.get 1).extractLsb' 0 4
    let h := s.tile.faultH.getD (s.tile.core.h.get n.toFin)
    s.pageTurn s.cur .handleFaultService s.ctx.asid h.va = true →
    s.walk s.ctx.asid h.va = .leaf l a → l.gives (if h.w then .write else .read) = true → l.mig = false → (l.dup && h.w) = false →
      let old := s.tile.core.h.get n.toFin
      ∃ t, exec .handleFaultService s = .next t ∧ t.tile.frozen = false ∧ SameBytes s t ∧
        t.tile.core.h.get n.toFin =
          if old.t = true ∧ old.vpn = h.vpn ∧ old.w = h.w then { s.granted s.cur l h.w (h.sz = 0) h.va with pend := old.pend } else old) ∧
  (∀ (s : State) (l : Leaf), s.tile.frozen = false → s.tile.out = false → s.tile.buffered s.tile.core.seq.pc = none →
    s.tlbHit s.cur.die s.ctx.asid s.tile.core.seq.pc .fetch = some l →
      ∃ t, exec .bundleFetch s = .next t ∧ SameBytes s t ∧
        t.tile.buffered s.tile.core.seq.pc = some (s.bundleAt (l.frame + (s.tile.core.seq.pc.toNat - l.va.toNat))))

/-! ### Loads and stores -/

/-- R101, R243-R245: a load whose place is in order, free of a race and of poison, completes: what the tile sees at its place, extended as its
name says, is its result. That the tile's committed operations are performed at the load is the model's reading (log 20), and so is
the latency 7 of a VLD of a raw bank (log 95); which value a load reads that races where races are not checked is its choice (log 15). -/
def Sys2Proof.Claims.LoadResults : Prop :=
  ∀ (u : Twin) (src : Src) (g : Guard) (s : State) (p : Place), ScalarIssues (lsuOfTwin u) src g s →
    (∀ x ∈ [(Instr.ldS8 u src g, 1, fun v => wrapInt 64 (sInt 8 v)), (.ldN8 u src g, 1, fun v => v),
        (.ldS16 u src g, 2, fun v => wrapInt 64 (sInt 16 v)), (.ldN16 u src g, 2, fun v => v),
        (.ldS32 u src g, 4, fun v => wrapInt 64 (sInt 32 v)), (.ldN32 u src g, 4, fun v => v), (.ld64 u src g, 8, fun v => v)],
      LoadReady u src s p x.2.1 x.2.1 → exec x.1 s = .next (loadDone u src s p x.2.1 5 (fun v => wideOfWord (BitVec.ofNat 64 (x.2.2 v))))) ∧
    (LoadReady u src s p 64 64 → exec (.vldr u src g) s = .next (loadDone u src s p 64 5 (fun v => BitVec.ofNat 512 v))) ∧
    (LoadReady u src s p 64 64 → s.runAt (s.scalarSrc src) = none → s.trnBank (s.scalarSrc src) = false →
      exec (.vld u src g) s = .next (loadDone u src s p 64 7 (fun v => BitVec.ofNat 512 v)))

/-- R246, R247: a typed load decodes the run of its bank and completes, and a gather of lawful addresses completes with the words of its
active lanes. That the bytes and the bank's format are those of the clock of the trigger is the model's choice (log 68), and so is the value read in
a race that is not checked (log 15). -/
def Sys2Proof.Claims.TypedLoads : Prop :=
  ∀ (u : Twin) (src : Src) (g : Guard) (s : State), ScalarIssues (lsuOfTwin u) src g s → s.lsStall u (wideOfWord (s.scalarSrc src)) = false →
    (∀ r p, s.runAt (s.scalarSrc src) = some r → s.runPlace .load (s.scalarSrc src) r everyLane = .ok p →
      s.loadEarly u (s.scalarSrc src) p r.bytes = none → s.loadCause u (s.scalarSrc src) p r.bytes = none →
      s.scalesEarly u (s.scalarSrc src) (runScales p (s.bankWord (s.scalarSrc src)) r everyLane) = none →
      s.scalesCause u (s.scalarSrc src) (runScales p (s.bankWord (s.scalarSrc src)) r everyLane) = none →
      ∃ t, exec (.vld u src g) s = .next t ∧
        (s.tile.lsq = [] → SameBytes s t ∧ t.tile.core.m = s.tile.core.m ∧ t.tile.core.o = s.tile.core.o ∧ t.tile.core.h = s.tile.core.h ∧ ∃ f ∈ t.tile.core.flight, f.sk = lsuOfTwin u ∧ f.port = .q ∧
          f.value = wideOfLanes r.width (fun i => if i < r.elems then
            (decodeElem (bfFmt (s.bankWord (s.scalarSrc src))) (bfGrouped (s.bankWord (s.scalarSrc src)))
              (bitsOf (s.loadPlace p r.bytes) (r.bits * i) r.bits) (s.runScale p (s.bankWord (s.scalarSrc src)) r i)).val else 0))) ∧
    (let lanes := (List.range 16).filter (fun i => laneOn (s.maskA u) 4 i)
     let at_ (i : Nat) : Place := .scratch s.cur.tid (addrOff (s.scalarSrc src) + laneOf 32 (s.opA (lsuOfTwin u)).toNat i)
     gatherBad s.tile .load (wideOfWord (s.scalarSrc src)) (s.opA (lsuOfTwin u)) (s.maskA u) = false →
      (∀ i ∈ lanes, s.loadEarly u (s.scalarSrc src) (at_ i) 4 = none ∧ s.loadCause u (s.scalarSrc src) (at_ i) 4 = none) →
      ∃ t, exec (.vldg u src g) s = .next t ∧
        (s.tile.lsq = [] → SameBytes s t ∧ SameRegisters s.tile.core t.tile.core ∧ ∃ f ∈ t.tile.core.flight, f.sk = lsuOfTwin u ∧ f.port = .q ∧ f.mask = laneMask (s.maskA u) 4 ∧
          f.value = wideOfLanes 32 (fun i => if laneOn (s.maskA u) 4 i then s.loadPlace (at_ i) 4 else 0)))

/-- R243-R247: the loads complete (logs 15, 20, 68, 95). -/
def Obligations.LoadsComplete : Prop := LoadResults ∧ TypedLoads

/-- R57, R127, R239, R244-R247: a store whose place is in order is gated with its bytes until its region commits: those of its value, of the
active lanes, or of the elements that the active lanes encode to, each with the bits it writes; no byte of memory changes before that. -/
def Sys2Proof.Claims.StoresGate : Prop :=
  ∀ (u : Twin) (src : Src) (g : Guard) (s : State) (p : Place), ScalarIssues (lsuOfTwin u) src g s →
    s.lsStall u (wideOfWord (s.scalarSrc src)) = false →
    let a := s.opA (lsuOfTwin u)
    let gated (bs : List (Nat × Byte × Byte)) (q : Place) : State := (s.taken src).gate u q (.write bs) (s.scalarSrc src)
    (∀ x ∈ [(Instr.st8 u src g, 1), (.st16 u src g, 2), (.st32 u src g, 4), (.st64 u src g, 8)],
      s.place .store (s.scalarSrc src) x.2 x.2 = .ok p → exec x.1 s = .next (gated (fullBytes a.toNat x.2) p)) ∧
    (s.place .store (s.scalarSrc src) 64 64 = .ok p →
      exec (.vstr u src g) s = .next (gated (maskedBytes a (s.maskA u) 4 64) p) ∧
      (s.runAt (s.scalarSrc src) = none → s.trnBank (s.scalarSrc src) = false →
        exec (.vst u src g) s = .next (gated (maskedBytes a (s.maskA u) 4 64) p))) ∧
    (∀ r, s.runAt (s.scalarSrc src) = some r →
      let on (i : Nat) : Bool := laneOn (s.maskA u) (r.width / 8) i
      let scales := runScales p (s.bankWord (s.scalarSrc src)) r on
      s.runPlace .store (s.scalarSrc src) r on = .ok p → s.scalesEarly u (s.scalarSrc src) scales = none →
      s.scalesCause u (s.scalarSrc src) scales = none →
      let b := s.bankWord (s.scalarSrc src)
      let bits (i : Nat) : Nat := (encodeElem (bfFmt b) (bfGrouped b) s.tile.core.rm s.tile.core.fsat (laneOf r.width a.toNat i)
        (s.runScale p b r i)).val
      ∃ t vc rel, exec (.vst u src g) s = .next t ∧ SameBytes s t ∧ t.tile.gated = s.tile.gated ++
        [{ place := p, kind := .write (runBytes r on bits), here := s.tile.core.seq.here, slot := s.tile.core.seq.slot, u := u,
           addr := s.scalarSrc src, num := s.nextOp, vc := vc, rel := rel }]) ∧
    (gatherBad s.tile .store (wideOfWord (s.scalarSrc src)) (s.opB (lsuOfTwin u)) (s.maskA u) = false →
      exec (.vsts u src g) s = .next (gated
        (((List.range 16).filter (fun i => laneOn (s.maskA u) 4 i)).flatMap (fun i =>
          (fullBytes (laneOf 32 a.toNat i) 4).map (fun b =>
            (b.1 + (addrOff (s.scalarSrc src) + laneOf 32 (s.opB (lsuOfTwin u)).toNat i), b.2)))) (.scratch s.cur.tid 0))) ∧
    (∀ q bs, SameBytes s (gated bs q) ∧ SameRegisters s.tile.core (gated bs q).tile.core)

/-- A byte at an offset after the bytes of a store: each of them that names the offset replaces the bits under its mask. -/
def Sys2Proof.Claims.storedByte (bs : List (Nat × Byte × Byte)) (i : Nat) (old : Byte) : Byte :=
  bs.foldl (fun b x => if x.1 = i then (b &&& ~~~ x.2.2) ||| (x.2.1 &&& x.2.2) else b) old

/-- R57, R101: a committed store that is performed writes the bytes it names, each under its mask, and no other byte of memory; one that
reaches a lost memory side ends without its write (R423). -/
def Sys2Proof.Claims.StorePerformed : Prop :=
  ∀ (s : State) (g : Gated) (r : List LsOp) (bs : List (Nat × Byte × Byte)), s.canonical → s.tile.lsq = .store g :: r → g.kind = .write bs →
    (s.placeLost g.place = true → ∃ t, exec .storePerformed s = .next t ∧ t.tile.lsq = r ∧ SameBytes s t) ∧
    (s.placeLost g.place = false → ∃ t, exec .storePerformed s = .next t ∧ t.tile.lsq = r ∧
      (∀ i, match g.place with
        | .phys pa => t.memByte (pa + i) = storedByte bs i (s.memByte (pa + i))
        | .scratch tid o => (t.tileAt (keyPeer s.cur tid)).byte (o + i) = storedByte bs i ((s.tileAt (keyPeer s.cur tid)).byte (o + i))) ∧
      (∀ pa, (∀ x ∈ bs, g.place.shift x.1 ≠ .phys pa) → t.memByte pa = s.memByte pa) ∧
      (∀ k off, (∀ x ∈ bs, ∀ tid o, g.place.shift x.1 = .scratch tid o → ¬(keyPeer s.cur tid = k ∧ o = off)) →
        (t.tileAt k).byte off = (s.tileAt k).byte off) ∧
      (∀ v n, bs = fullBytes v n → ∀ i, i < n →
        (match g.place with
         | .phys pa => t.memByte (pa + i)
         | .scratch tid o => (t.tileAt (keyPeer s.cur tid)).byte (o + i)) = byteOf v i))

/-- R57, R101, R239, R244-R247: stores are gated, and write their bytes when they are performed. -/
def Obligations.StoresComplete : Prop := StoresGate ∧ StorePerformed

/-- R64, R365: a load or a store whose address is refused raises its cause and does nothing else. -/
def Sys2Proof.Claims.AddressFaults : Prop :=
  ∀ (u : Twin) (src : Src) (g : Guard) (s : State) (e : AddrFail), ScalarIssues (lsuOfTwin u) src g s →
    s.lsStall u (wideOfWord (s.scalarSrc src)) = false →
    let bad := s.takeTrap (s.addrCause (lsuOfTwin u) (s.scalarSrc src) e)
    (∀ x ∈ [(Instr.ldS8 u src g, 1), (.ldN8 u src g, 1), (.ldS16 u src g, 2), (.ldN16 u src g, 2), (.ldS32 u src g, 4),
        (.ldN32 u src g, 4), (.ld64 u src g, 8), (.vldr u src g, 64)],
      s.place .load (s.scalarSrc src) x.2 x.2 = .error e → exec x.1 s = .next bad) ∧
    (∀ x ∈ [(Instr.st8 u src g, 1), (.st16 u src g, 2), (.st32 u src g, 4), (.st64 u src g, 8), (.vstr u src g, 64)],
      s.place .store (s.scalarSrc src) x.2 x.2 = .error e → exec x.1 s = .next bad)

/-- R63-R65, R243: a plain local address is refused where a bit [59:21] is set, where the access passes the scratchpad's end, leaves its
bank or is misaligned; a store also in the banks of the cells. -/
def Sys2Proof.Claims.LocalPlaces : Prop :=
  ∀ (s : State) (use : Use) (addr : Word) (align n : Nat), addrSpace addr = 0 → 0 < n →
    ((∃ p, s.place use addr align n = .ok p) →
      s.place use addr align n = .ok (.scratch s.cur.tid (addrOff addr)) ∧ (addr.extractLsb' 21 39 : BitVec 39) = 0 ∧
      addrOff addr + n ≤ 0x180000 ∧ addrOff addr / 0x10000 = (addrOff addr + n - 1) / 0x10000 ∧ addrOff addr % align = 0 ∧
      (use = .store ∨ use = .atomic → addrOff addr < 22 * 0x10000) ∧ (use = .cell → 22 * 0x10000 ≤ addrOff addr)) ∧
    ((addr.extractLsb' 21 39 : BitVec 39) = 0 → addrOff addr + n ≤ 0x180000 →
      addrOff addr / 0x10000 = (addrOff addr + n - 1) / 0x10000 → addrOff addr % align = 0 → use = .load →
      s.place use addr align n = .ok (.scratch s.cur.tid (addrOff addr)))

/-- R63-R65, R243, R365: which addresses name a place, and what a refused one raises. -/
def Obligations.AddressRules : Prop := AddressFaults ∧ LocalPlaces

/-! ### Group loads, cells, atomics, ordered adds -/

/-- R87-R93: a group load of a lawful address and reduction word takes its members and their lines as they stand and completes; the
combination gives q, qp and q1 their values. R91 fixes the members at the trigger; that their lines are read then too is the model's reading
(log 20). -/
def Obligations.GroupLoads : Prop :=
  (∀ (trap : Bool) (u : Twin) (src : Src) (g : Guard) (s : State), ScalarIssues (lsuOfTwin u) src g s → s.lsuBusy u = false →
    s.fenceStall pathGR = false → s.tile.core.inFlight (lsuOfTwin u) .q1 < 4 → groupAddrOk (s.scalarSrc src) = true →
    reductionOk (s.opA (lsuOfTwin u)) = true → s.tile.lsq = [] →
    ∃ t x, exec (if trap then .gld u src g else .gldt u src g) s = .next t ∧ t.tile.core.gloads = (s.taken src).tile.core.gloads ++ [x] ∧
      x.trapping = trap ∧ x.combined = false ∧ x.members = (s.group s.cur (groupOfAddr (s.scalarSrc src))).membersAt s.clock ∧
      x.leaves = x.members.map (fun m => s.leafLine m (addrOff (s.scalarSrc src))) ∧
      (∀ p ∈ [RPort.q, .qp, .q1], t.tile.core.pending (lsuOfTwin u) p = true) ∧
      (∃ e ∈ t.events, e.step = .groupLoadCombine ∧ e.at_ = s.cur) ∧ SameBytes s t ∧ SameRegisters s.tile.core t.tile.core) ∧
  (∀ (s : State) (x : GLoad), s.tile.core.gloads.find? (fun y => !y.combined) = some x →
    ∃ t, exec .groupLoadCombine s = .next t ∧ (Unsaved s s.cur x.id → SameBytes s t) ∧ (∀ y ∈ t.tile.core.gloads, y.id = x.id → y.combined = true) ∧
      ∀ f ∈ s.tile.core.flight, f.id = x.id → f.locked = true → f.ready = false →
        ∃ f' ∈ t.tile.core.flight, f'.id = f.id ∧ f'.port = f.port ∧ f'.ready = true ∧
          (f.port = .q → f'.value = if x.leaves.all (·.isNone) then 0 else wideOfLanes (codeTy x.ty.toNat).width (fun i =>
            (groupLane x.op.toNat (codeTy x.ty.toNat) x.leaves i).val)) ∧
          (f.port = .qp → f'.value = if absentMask x.leaves = 0 then 0 else 1) ∧
          (f.port = .q1 → f'.value = BitVec.ofNat 512 (absentMask x.leaves)))

/-- R77, R78, R248: cell writes are gated; a cell read of a cell that is ready reads at once, unless another tile's operation on it comes first in this
clock, and one that is not waits until the cell is full; a CELLR holds the cell. -/
def Obligations.CellOperations : Prop :=
  (∀ (u : Twin) (src : Src) (g : Guard) (s : State) (tid : BitVec 6) (off : Nat), ScalarIssues (lsuOfTwin u) src g s →
    s.lsStall u (wideOfWord (s.scalarSrc src)) = false → s.place .cell (s.scalarSrc src) 8 8 = .ok (.scratch tid off) →
    let v := lowWord (s.opA (lsuOfTwin u))
    exec (.cellw u src g) s = .next ((s.taken src).gate u (.scratch tid off) (.cellw v) (s.scalarSrc src)) ∧
    exec (.cellwr u src g) s = .next ((s.taken src).gate u (.scratch tid off) (.cellwr v) (s.scalarSrc src)) ∧
    (∀ consume : Bool, s.cellPoison (wideOfWord (s.scalarSrc src)) consume = none → s.tile.lsq = [] →
      ∃ t, exec (if consume then .cellr u src g else .cellp u src g) s = .next t ∧ (Unsaved s s.cur s.nextOp → SameBytes s t) ∧
        ∃ r ∈ t.tile.core.cellRds, r.id = s.nextOp ∧ r.tid = tid ∧ r.off = off ∧ r.consume = consume ∧
          r.done = ((s.tileAt (s.ownerKey tid)).cellReady off consume && !s.goesBehind (.scratch tid off)))) ∧
  (∀ (s : State) (r : CellRd), s.readyCell s.cur = some r → s.poisonCause (.scratch r.tid r.off) 8 = none →
    ∃ t, exec .cellReadSatisfied s = .next t ∧ (Unsaved s s.cur r.id → SameBytes s t) ∧ (∀ x ∈ t.tile.core.cellRds, x.id = r.id → x.done = true) ∧
      (r.consume = true → (r.off, s.cur) ∈ (t.tileAt (s.ownerKey r.tid)).held) ∧
      ∀ f ∈ s.tile.core.flight, f.id = r.id → f.locked = true → f.ready = false → f.port = .q →
        ∃ f' ∈ t.tile.core.flight, f'.id = f.id ∧ f'.ready = true ∧
          f'.value = BitVec.ofNat 512 ((s.tileAt (s.ownerKey r.tid)).spRead r.off 8))

/-- R104, R113, R250, R251: an atomic with a lawful place, which no RELEASE holds back, joins the tile's committed operations and its old
value is pending. -/
def Sys2Proof.Claims.AtomicsJoin : Prop :=
  ∀ (u : Twin) (w : AWidth) (src : Src) (g : Guard) (s : State), ScalarIssues (lsuOfTwin u) src g s →
    s.lsStall u (wideOfWord (s.scalarSrc src)) = false → s.releaseHolds s.nextOp = false →
    let p0 := s.taken src
    let joined (op : AtomOp) (wide : Bool) (p : Place) : State :=
      ((p0.pend (lsuOfTwin u) (if op = .cas then [.q, .qp] else [.q])).modTile (fun t => { t with lsq := t.lsq ++ [.atom
        { id := s.nextOp, sk := lsuOfTwin u, op := op, wide := wide, place := p, a := lowWord (s.opA (lsuOfTwin u)),
          b := lowWord (s.opB (lsuOfTwin u)), vc := s.tile.vcOf pathLS, rel := s.tile.rel }] })).addLater s.cur .atomicPerform
    let n := if w = .w64 then 8 else 4
    (∀ p, s.place .atomic (s.scalarSrc src) n n = .ok p → s.poisonCause p n = none →
      ∀ x ∈ [(Instr.aadd w u src g, AtomOp.add), (.aminS w u src g, .minS), (.aminN w u src g, .minN), (.amaxS w u src g, .maxS),
          (.amaxN w u src g, .maxN), (.aand w u src g, .and), (.aor w u src g, .or), (.axor w u src g, .xor), (.aswap w u src g, .swap),
          (.acas w u src g, .cas)], exec x.1 s = .next (joined x.2 (w = .w64) p)) ∧
    (∀ p, s.place .atomic (s.scalarSrc src) 4 4 = .ok p → s.poisonCause p 4 = none →
      exec (.afadd u src g) s = .next (if s.detCourse s.cur then
        s.takeTrap (s.detViolation u (s.scalarSrc src)) else joined .fadd false p))

/-- R113, R251: an atomic that is performed replaces the value at its place by its result and delivers the old one; no other byte of memory
changes. One that meets poison, or a lost memory side, raises the uncorrectable error of a consumed poison (R415, R416, R423). -/
def Sys2Proof.Claims.AtomicPerformed : Prop :=
  ∀ (s : State) (a : AtomReq), s.canonical → s.tile.lsq = [.atom a] → Unsaved s s.cur a.id →
    let n := if a.wide then 8 else 4
    let old := s.readPlaceAt s.cur a.place n
    let empty := s.modTile (fun t => { t with lsq := [] })
    (∀ unit, s.atomPoison s.cur a = some unit → exec .atomicPerform s =
      .next (empty.takeTrap (empty.softError s.cur.die 1 (poisonLoc a.place unit).1 (poisonLoc a.place unit).2))) ∧
    (s.atomPoison s.cur a = none → ∃ t, exec .atomicPerform s = .next t ∧ t.tile.lsq = [] ∧
      t.readPlaceAt s.cur a.place n = (atomNew a.op (8 * n) old a.a.toNat a.b.toNat).val % 2 ^ (8 * n) ∧
      (∀ pa, (∀ i, i < n → a.place.shift i ≠ .phys pa) → t.memByte pa = s.memByte pa) ∧
      (∀ k off, (∀ i, i < n → ∀ tid o, a.place.shift i = .scratch tid o → ¬(keyPeer s.cur tid = k ∧ o = off)) →
        (t.tileAt k).byte off = (s.tileAt k).byte off) ∧
      ∀ f ∈ s.tile.core.flight, f.id = a.id → f.locked = true → f.ready = false →
        ∃ f' ∈ t.tile.core.flight, f'.id = f.id ∧ f'.port = f.port ∧ f'.ready = true ∧
          (f.port = .q → f'.value = BitVec.ofNat 512 old) ∧
          (f.port = .qp → f'.value = if old = a.b.toNat % 2 ^ (8 * n) then 1 else 0))

/-- R113, R250, R251: atomics join the committed operations, and replace the value at their place when they are performed. -/
def Obligations.Atomics : Prop := AtomicsJoin ∧ AtomicPerformed

/-- R115, R116, R253: an OSADD with a lawful handle and lanes sends one update for each active lane, with the tile's next sequence number,
and changes no memory; the oldest update on its way reaches its course's memory side, where those of a line that has sixteen already spill.
That a spilled update is kept as data of its course and writes no byte of the spill area is the model's (log 44). -/
def Obligations.OrderedAdds : Prop :=
  (∀ (isF : Bool) (u : Twin) (src : Src) (g : Guard) (s : State) (p : Place) (k : Task) (c : Ctx), ScalarIssues (lsuOfTwin u) src g s →
    s.lsStall u (wideOfWord (s.scalarSrc src)) = false → s.releaseHolds s.nextOp = false → addrSpace (s.scalarSrc src) = 8 →
    s.place .atomic (s.scalarSrc src) 4 4 = .ok p → s.tile.core.osSeq < 2 ^ 28 → s.tile.task = some k → s.ctxAt? s.cur.ctx = some c →
    s.tile.lsq = [] →
    let lanes := (List.range 16).filter (fun i => laneOn (s.maskA u) 4 i)
    let off (i : Nat) : Nat := addrPageOff (s.scalarSrc src) + laneOf 32 (s.opB (lsuOfTwin u)).toNat i
    let h := s.tile.core.h.get (addrHandle (s.scalarSrc src)).toFin
    (∀ i ∈ lanes, off i % 4 = 0 ∧ off i + 4 ≤ pageSize h.sz) →
      ∃ t ups, exec (if isF then .osaddF32 u src g else .osaddS32 u src g) s = .next t ∧ t.ctx.transit = c.transit ++ ups ∧
        t.tile.core.osSeq = s.tile.core.osSeq + 1 ∧ SameBytes s t ∧ SameRegisters s.tile.core t.tile.core ∧
        ups.map (fun x => (x.lane, x.pa, x.val, x.seq)) =
          lanes.map (fun i => (i, h.frame + off i, BitVec.ofNat 32 (laneOf 32 (s.opA (lsuOfTwin u)).toNat i), s.tile.core.osSeq)) ∧
        (∀ x ∈ ups, x.float = isF ∧ x.src = s.cur ∧ x.q = k.q ∧ x.course = k.course)) ∧
  (∀ (s : State) (x : OsUpd) (r : List OsUpd), s.ctx.transit = x :: r →
    let s1 := s.modCtx s.cur.ctx (fun c => { c with transit := c.transit.erase x })
    let out := (s1.lineUpds x).any (·.spilled) || decide (16 ≤ (s1.lineUpds x).length)
    let t := (if out then s1.spillLine x else s1).modCtx s.cur.ctx (fun c =>
      c.modCourse x.q x.course (fun y => { y with updates := y.updates ++ [{ x with spilled := out }] }))
    t.ctx.spillUsed ≤ t.ctx.spillSz → exec .osaddUpdateArrival s = .next t)

/-! ### Synchronization, settings -/

/-- R48, R255: JOIN and LEAVE with a lawful group make the tile a member or not, and deliver the group's generation; a join of a group that
is full raises "group full". -/
def Obligations.GroupMembership : Prop :=
  ∀ (src : Src) (g : Guard) (s : State), ScalarIssues .sync src g s → (s.ctxAt? s.cur.ctx).isSome = true →
    let n : BitVec 8 := (s.scalarSrc src).extractLsb' 0 8
    let old := s.group s.cur n
    (s.scalarSrc src).toNat < 256 →
      (s.cur.tid ∈ old.members ∨ old.members.length < 64 → ∃ t, exec (.join src g) s = .next t ∧
        t.group s.cur n = old.changeAt s.clock (fun x => x.join s.cur.tid s.tile.queueNo) ∧ SameBytes s t ∧ SameRegisters s.tile.core t.tile.core ∧
        Delivers s t .sync .q ((old.join s.cur.tid s.tile.queueNo).gen.zeroExtend 512)) ∧
      (s.cur.tid ∉ old.members → 64 ≤ old.members.length → exec (.join src g) s = .next (s.takeTrap
        { code := 0x11, tepc := s.tile.core.seq.here, i0 := addrWord s.tile.core.seq.here, i1 := s.scalarSrc src &&& 0xFF, i2 := 0, i3 := 0 })) ∧
      (∃ t, exec (.leave src g) s = .next t ∧ t.group s.cur n = old.changeAt s.clock (fun x => x.remove s.cur.tid) ∧ SameBytes s t ∧
        SameRegisters s.tile.core t.tile.core ∧ Delivers s t .sync .q ((old.remove s.cur.tid).gen.zeroExtend 512))

/-- R50, R98, R256: a barrier that the tile may use records its arrival and holds its next bundle; GBAR and EVGATH outside the group, and
CBAR outside a cluster-shaped gate, raise "course violation". -/
def Sys2Proof.Claims.BarrierArrivals : Prop :=
  ∀ (src : Src) (g : Guard) (s : State), ScalarIssues .sync src g s →
    let n : BitVec 8 := (s.scalarSrc src).extractLsb' 0 8
    let p := s.taken src
    let bad := s.takeTrap (s.courseViolation .sync (wideOfWord (s.scalarSrc src)))
    ((s.scalarSrc src).toNat < 256 → s.cur.tid ∈ (s.group s.cur n).members →
      exec (.gbar src g) s = .next (p.arrive (.group s.cur.die n) none false false) ∧
      (gatherOffOk s.tile (lowWord (s.opA .sync)) = true → s.fenceStall pathGR = false → exec (.evgath src g) s = .next
        ((p.pend .sync [.q, .qp]).arrive (.group s.cur.die n) (some ((lowWord (s.opA .sync)).toNat, s.nextOp)) false false))) ∧
    ((s.scalarSrc src).toNat < 256 → s.cur.tid ∉ (s.group s.cur n).members →
      exec (.gbar src g) s = .next bad ∧ exec (.evgath src g) s = .next bad) ∧
    (s.scalarSrc src = 0 →
      exec (.cbar src g) s = .next (if s.tile.inCluster then p.arrive (.cluster (keyCluster s.cur)) none false false else bad) ∧
      exec (.dbar src g) s = .next (p.arrive (.course s.tile.queueNo (if 3 ≤ s.scope.toNat then none else some s.cur.die)) none
        (decide (3 ≤ s.scope.toNat)) (decide (s.scope.toNat = 4)))) ∧
    (∀ ob ga c y, (p.arrive ob ga c y).tile.core.seq.barrier = some ob ∧ SameBytes s (p.arrive ob ga c y) ∧
      SameRegisters s.tile.core (p.arrive ob ga c y).tile.core)

/-- R256: an episode whose condition holds completes: each of its participants goes on, and its arrivals are gone. -/
def Sys2Proof.Claims.EpisodeCompletes : Prop :=
  ∀ (s : State) (ob : BarObj), s.readyEpisode s.ctx = some ob →
    exec .barrierEpisodeComplete s = .next (s.endEpisode s.cur.ctx ob) ∧
    ((∀ q d, ob ≠ .course q d) → (∀ a ∈ s.ctx.arrived ob, a.gather = none) →
      (∀ a ∈ s.ctx.arrived ob, ((s.endEpisode s.cur.ctx ob).tileAt { ctx := s.cur.ctx, die := a.die, tid := a.tid }).core.seq.barrier = none) ∧
      (s.endEpisode s.cur.ctx ob).ctx.arrived ob = [])

/-- R50, R98, R256: barriers record arrivals, and an episode completes. -/
def Obligations.Barriers : Prop := BarrierArrivals ∧ EpisodeCompletes

/-- R103-R105: RELEASE adds what the tile did so far to what its later writes publish at the bundle's scope; ACQUIRE takes in what the
writes it has read published; XFENCE orders its later paths behind its earlier ones. None of them changes a register or memory. -/
def Obligations.Fences : Prop :=
  ∀ (src : Src) (g : Guard) (s : State), ScalarIssues .sync src g s →
    (s.scalarSrc src = 0 →
      (∃ t, exec (.release src g) s = .next t ∧ SameBytes s t ∧ SameRegisters s.tile.core t.tile.core ∧
        assocGet t.tile.rel s.scope = some (vcJoin ((assocGet s.tile.rel s.scope).getD []) (t.tile.vcOf pathLS))) ∧
      (∃ t, exec (.acquire src g) s = .next t ∧ SameBytes s t ∧ SameRegisters s.tile.core t.tile.core ∧
        t.tile.vcOf pathLS = vcJoin (s.tile.vcOf pathLS) (acquired s.cur s.scope s.tile.acq) ∧
        ∃ f, t.tile.core.seq.fences.getLast? = some f ∧ f.acq = true ∧ f.scope = s.scope ∧ f.early = 1 ∧ f.late = 1)) ∧
    (pathWordOk (wideOfWord (s.scalarSrc src)) = true →
      ∃ t f, exec (.xfence src g) s = .next t ∧ SameBytes s t ∧ SameRegisters s.tile.core t.tile.core ∧
        t.tile.core.seq.fences.getLast? = some f ∧ f.early = (s.scalarSrc src).extractLsb' 0 6 ∧
        f.late = (s.scalarSrc src).extractLsb' 8 6 ∧ f.acq = false ∧ f.region = true) ∧
    (pathWordOk (wideOfWord (s.scalarSrc src)) = false →
      exec (.xfence src g) s = .next (s.takeTrap (s.illegalOperand .sync (wideOfWord (s.scalarSrc src)))))

/-- R42, R257, R258: SPAWN hands its descriptor to its queue and delivers the serial, the offset of a bad field, or that the queue is full;
GROW lengthens a course that may grow, and says so; of a course whose record does not let it grow it raises "course violation". That both take
effect at their trigger, after the tile's committed operations, is the model's (logs 43, 20). -/
def Obligations.Launches : Prop :=
  ∀ (src : Src) (g : Guard) (s : State), ScalarIssues .sync src g s →
    (bitsOf (lowWord (s.opA .sync)).toNat 4 60 = 0 → (lowWord (s.opA .sync)).toNat < s.ctx.queues.length →
      bitsOf (s.scalarSrc src).toNat 56 8 = 0 →
      let r := ((s.taken src).flushLs s.cur).enqueue s.cur.ctx ((s.opA .sync).extractLsb' 0 4) ((s.scalarSrc src).extractLsb' 0 56)
      exec (.spawn src g) s = .next (match r.1 with
        | .serial n => r.2.locked .sync [(.q, BitVec.ofNat 512 n), (.qp, 1)]
        | .bad off => r.2.locked .sync [(.q, BitVec.ofNat 512 off), (.qp, 0)]
        | .full => r.2.locked .sync [(.q, BitVec.ofNat 512 (2 ^ 64 - 1)), (.qp, 0)])) ∧
    (∀ x, s.courseAt s.cur = some x → x.cr.growok = true → 0 < (s.scalarSrc src).toNat → (s.scalarSrc src).toNat < 2 ^ 32 →
      (x.tooBig (s.scalarSrc src).toNat = true → ∃ t, exec (.grow src g) s = .next t ∧ t.ctxs = s.ctxs ∧ Delivers s t .sync .qp 0) ∧
      (x.tooBig (s.scalarSrc src).toNat = false → ∃ t, exec (.grow src g) s = .next t ∧ Delivers s t .sync .qp 1 ∧ SameBytes s t ∧
        t.ctxs = (s.modCtx s.cur.ctx (fun y => y.modCourse s.tile.queueNo x.serial (fun z => z.grow s.ctx (s.scalarSrc src).toNat))).ctxs)) ∧
    ((s.courseAt s.cur = none ∨ ∃ x, s.courseAt s.cur = some x ∧ x.cr.growok = false) →
      0 < (s.scalarSrc src).toNat → (s.scalarSrc src).toNat < 2 ^ 32 →
      exec (.grow src g) s = .next (s.takeTrap (s.courseViolation .sync (wideOfWord (s.scalarSrc src))))) ∧
    ((s.scalarSrc src).toNat = 0 ∨ 2 ^ 32 ≤ (s.scalarSrc src).toNat →
      exec (.grow src g) s = .next (s.takeTrap (s.illegalOperand .sync (wideOfWord (s.scalarSrc src)))))

/-- R68, R129, R259-R261: MODE writes lockmask; FRMSET and BFSET write their register where the value is lawful, and say so; BFGET and EVRD
deliver theirs; EVCLR clears the counters of its mask. Other values of MODE, BFGET, EVRD and EVCLR raise "illegal operand". -/
def Obligations.Settings : Prop :=
  ∀ (src : Src) (g : Guard) (s : State), ScalarIssues .sync src g s →
    let v := s.scalarSrc src
    let a := lowWord (s.opA .sync)
    let bad := s.takeTrap (s.illegalOperand .sync (wideOfWord v))
    (exec (.mode src g) s = .next (if v &&& ~~~ 0x7EDE = 0 then (s.taken src).modTile (fun t => t.mapCore (fun c => { c with lockmask := v })) else bad)) ∧
    (∃ t, exec (.frmset src g) s = .next t ∧ SameBytes s t ∧ t.tile.core.frm = (if frmOk v then v else s.tile.core.frm) ∧
      t.tile.core.m = s.tile.core.m ∧ t.tile.core.bf = s.tile.core.bf ∧ t.tile.core.lockmask = s.tile.core.lockmask ∧
      Delivers s t .sync .qp (if frmOk v then 1 else 0)) ∧
    (a.toNat < 24 → ∃ t, exec (.bfset src g) s = .next t ∧ SameBytes s t ∧ t.tile.core.frm = s.tile.core.frm ∧
      (∀ b, t.tile.core.bfOf b = if bfOk v = true ∧ b = a.toNat then v.truncate 32 else s.tile.core.bfOf b) ∧
      Delivers s t .sync .qp (if bfOk v then 1 else 0)) ∧
    (24 ≤ a.toNat → exec (.bfset src g) s = .next bad) ∧
    (v.toNat < 24 → ∃ t, exec (.bfget src g) s = .next t ∧ SameBytes s t ∧ SameRegisters s.tile.core t.tile.core ∧
      Delivers s t .sync .q ((s.tile.core.bfOf v.toNat).zeroExtend 512)) ∧
    (24 ≤ v.toNat → exec (.bfget src g) s = .next bad) ∧
    (∀ h : v.toNat < 16, ∃ t, exec (.evrd src g) s = .next t ∧ SameBytes s t ∧ SameRegisters s.tile.core t.tile.core ∧
      Delivers s t .sync .q ((s.tile.core.ev.get ⟨v.toNat, h⟩).zeroExtend 512)) ∧
    (16 ≤ v.toNat → exec (.evrd src g) s = .next bad) ∧
    (v.toNat < 2 ^ 16 → ∃ t, exec (.evclr src g) s = .next t ∧ SameBytes s t ∧ t.tile.core.frm = s.tile.core.frm ∧
      ∀ i : Fin 16, t.tile.core.ev.get i = if v.getLsbD i.val then 0 else s.tile.core.ev.get i) ∧
    (2 ^ 16 ≤ v.toNat → exec (.evclr src g) s = .next bad)

/-! ### What holds of every trigger -/

/-- R25, R30, R359: a frozen tile issues no trigger; a false guard cancels one of a scalar slot; in privileged mode a trigger of another unit
than sys raises "privilege violation". -/
def Sys2Proof.Claims.TriggerRules : Prop :=
  ∀ (i : Instr) (x : Trig) (s : State), trigOf i = some x →
    (s.tile.frozen = true → exec i s = .next s) ∧
    (x.vec = false → s.tile.core.guardOn x.g = false → exec i s = .next s) ∧
    (s.tile.frozen = false → (x.vec = false → s.tile.core.guardOn x.g = true) → s.tile.priv = true → x.sk ≠ .sys →
      exec i s = .next (s.takeTrap (s.privViolation (sockIdx x.sk).val
        (if x.vec then lowWord (s.vectorSrc x.md x.src) else s.scalarSrc x.src))))

/-- R21: a trigger whose source is an interlocked result that is not delivered leaves the state as it is; so does a control operation of a
frozen tile. -/
def Sys2Proof.Claims.WaitsForResults : Prop :=
  (∀ (i : Instr) (x : Trig) (s : State), trigOf i = some x → s.tile.priv = false → (∃ y ∈ srcPorts x.src, s.portWait y = true) →
    exec i s = .next s) ∧
  (∀ (i : Instr) (x : CtlOp) (s : State), ctlOf i = some x → s.tile.frozen = true → exec i s = .next s)

/-- R21, R25, R30, R225, R359: when an operation does not issue. -/
def Obligations.IssueRules : Prop := ControlGuard ∧ TriggerRules ∧ WaitsForResults

/-! ### The matrix engine -/

/-- R145, R146, R153, R292, R295: MXCFG and WPAGE write their fields of mxcfg, MXCLR joins the stream queue, and MXSTAT behind nothing
delivers mxstat as it stands then and with it clears CIM where it asks; an operand beyond its limit raises "illegal operand". -/
def Sys2Proof.Claims.MatrixSettings : Prop :=
  ∀ (md : Option SrcMod) (src : Src) (g : Guard) (s : State), EitherIssues .mx md src g s →
    let w := mxOperand md src s
    let bad := s.takeTrap (s.illegalOperand .mx (wideOfWord w))
    (exec (.mxcfg md src g) s = .next (if w.toNat ≤ 2 then (s.taken src).modMx (fun m => { m with mxcfg := (m.mxcfg &&& ~~~ 3) ||| (w &&& 3) }) else bad)) ∧
    (w.toNat ≤ 63 → ∃ t, exec (.wpage md src g) s = .next t ∧ SameBytes s t ∧ SameRegisters s.tile.core t.tile.core ∧
      t.mx.mode = s.mx.mode ∧ ∀ i < 4, t.mx.active i = if w.getLsbD 5 = true ∨ bitsOf w.toNat 3 2 = i then w.truncate 3 else s.mx.active i) ∧
    (63 < w.toNat → exec (.wpage md src g) s = .next bad) ∧
    (w.toNat < 65536 → ∃ t, exec (.mxclr md src g) s = .next t ∧ (s.tile.lsq = [] → SameBytes s t ∧ SameRegisters s.tile.core t.tile.core) ∧
      t.mx.queue = s.mx.queue ++ [.clr s.nextOp (max s.mx.clk s.mx.lastEvent + 1) (w.truncate 16)]) ∧
    (65536 ≤ w.toNat → exec (.mxclr md src g) s = .next bad) ∧
    (w.toNat ≤ 1 → s.mx.queue = [] → ∃ t, exec (.mxstat md src g) s = .next t ∧ (Unsaved s s.cur s.nextOp → SameBytes s t) ∧
      SameRegisters s.tile.core t.tile.core ∧ t.mx = s.mx ∧
      DeliversLive s t .mx (.mxstat (w.getLsbD 0)) (BitVec.ofNat 512 s.mx.mxstat) ∧
      ∀ f, f.live = .mxstat (w.getLsbD 0) → (t.tile.core.delivered f).mx.cim = (s.mx.cim && !w.getLsbD 0)) ∧
    (1 < w.toNat → exec (.mxstat md src g) s = .next bad)

/-- R148-R152, R155, R157: a lawful WLD, ASTR or DRAINST joins its queue: the load with its page, one pass for each streamed row with the
accumulator row it enters, the drain with its slices; an unlawful one raises its cause. Which of two causes of one operation it raises is the model's choice (log 87). -/
def Sys2Proof.Claims.MatrixTriggers : Prop :=
  ∀ (md : Option SrcMod) (src : Src) (g : Guard) (s : State), EitherIssues .mx md src g s → s.fenceStall pathMX = false →
    let w := mxOperand md src s
    let a := lowWord (s.opA .mx)
    let bf := s.tile.core.bfOf (addrOff w / bankSize)
    (s.wldCause w = none → ∃ t due, exec (.wld md src g) s = .next t ∧
      (s.tile.lsq = [] → SameBytes s t ∧ SameRegisters s.tile.core t.tile.core) ∧
      t.mx.queue = s.mx.queue ++ [.wld s.nextOp due (wldMac a) (wldPage a) (addrOff w) (wldStride a) (wldSidx a) bf] ∧
      t.mx.desc.head? = some { mac := wldMac a, page := wldPage a, fmt := BitVec.ofNat 4 (bfFmt bf), gsz := grouped bf }) ∧
    (∀ c, s.wldCause w = some c → exec (.wld md src g) s = .next (s.takeTrap c)) ∧
    (∀ fmt gsz, s.astrCause w = none → s.mx.activeFmt = some (fmt, gsz) → ∃ t ps, exec (.astr md src g) s = .next t ∧
      t.mx.queue = s.mx.queue ++ ps ∧ ps.length = astrRows a ∧ (s.tile.lsq = [] → SameBytes s t ∧ SameRegisters s.tile.core t.tile.core) ∧
      ∀ j (h : j < ps.length), ∃ due stop, ps[j] = .pass s.nextOp due stop ((astrAcc a + j) % 16) (addrOff w + j * astrStride a) (astrSf a)
        s.mx.mode (BitVec.ofNat 4 fmt) s.mx.actives s.nprof) ∧
    (∀ c, s.astrCause w = some c → exec (.astr md src g) s = .next (s.takeTrap c)) ∧
    (s.drainstCause w = none → ∃ t due, exec (.drainst md src g) s = .next t ∧
      (s.tile.lsq = [] → SameBytes s t ∧ SameRegisters s.tile.core t.tile.core) ∧
      t.mx.queue = s.mx.queue ++ [.drainst s.nextOp due (addrOff w) (bitsOf a.toNat 6 4) (bitsOf a.toNat 0 6) (bitsOf a.toNat 11 6 + 1)
        (decide (bitsOf a.toNat 10 1 = 1)) bf (s.tile.core.frm.truncate 4)]) ∧
    (∀ c, s.drainstCause w = some c → exec (.drainst md src g) s = .next (s.takeTrap c))

/-- R145-R157, R292-R295: the settings and the triggers of the matrix engine complete (log 87). -/
def Obligations.MatrixOperations : Prop := MatrixSettings ∧ MatrixTriggers

/-- R154, R294: a DRAIN that no pass or clear of its row precedes delivers the slice of its accumulator row, flags a NaN among its lanes,
and clears the lanes where it asks for that. -/
def Obligations.MatrixDrain : Prop :=
  ∀ (src : Src) (md : SrcMod) (g : Guard) (s : State) (v : Bool),
    (if v then VectorIssues src s else ScalarIssues .mx src g s) →
    let i := if v then Instr.drainVector md src g else .drain src g
    let w := mxOperand (if v then some md else none) src s
    let lanes := if v then s.tile.core.guardWord g else BitVec.allOnes 64
    let row := bitsOf w.toNat 6 4
    let slice := bitsOf w.toNat 0 6
    let col (j : Nat) : Res := (s.mx.colAt row (16 * slice + j)).read
    s.mx.drainWaits row = false →
    (w.toNat < 2048 →
      let t := (s.taken src).timed .mx 4 [(.q, wideOfLanes 32 (fun j => (col j).val), laneMask lanes 4),
        (.qp, if (List.range 16).any (fun j => laneOn lanes 4 j && (Fmt.f32.decode (col j).val).isNan) then 1 else 0, BitVec.allOnes 512)]
        (laneEvents (fun j => laneOn lanes 4 j) col 16)
      exec i s = .next (if w.getLsbD 10 then t.modMx (fun m => m.clearSlice row slice (fun j => laneOn lanes 4 j)) else t)) ∧
    (2048 ≤ w.toNat → exec i s = .next (s.takeTrap (s.illegalOperand .mx (wideOfWord w))))

/-- R138, R144, R147, R151, R153, R155: the engine's steps take their effect when their time has come: a page is filled with its image, a pass
is entered into its row or poisons its columns (one whose page was emptied while it streamed changes its own columns alone, R419), rows are
cleared, and a drain writes the elements that its columns encode to to the scratchpad, and nothing else, and clears its slices where it asks
for that. -/
def Obligations.MatrixSteps : Prop :=
  ∀ s : State, s.tile.frozen = false → (∀ id, MxOp.stat id ∈ s.mx.queue → Unsaved s s.cur id) →
    (∀ id due mac page off stride sidx bf neff rb, s.mx.loadHead = some (.wld id due mac page off stride sidx bf) → due ≤ s.mx.clk →
      s.tile.poison = [] → resident (bfFmt bf) = some (neff, rb) →
      let so (i : Nat) : Nat := scaleBank bf (off / bankSize) * bankSize + scaleOff bf (sidx + i)
      let rows := (List.range 256).map (fun k => s.tile.spRead (off + k * stride) rb)
      let scales := if grouped bf then (List.range (4 * neff)).map (fun i => scaleVal (bfSfmt bf) (s.tile.spRead (so i) 2)) else []
      ∃ t, exec .wldPageWritten s = .next t ∧ SameBytes s t ∧
        t.mx.pages.find? (fun p => p.mac = mac && p.page = page) =
          some { (fillPage mac page (bfFmt bf) neff rb rows scales).1 with ver := id }) ∧
    (∀ id due stop row off sf mode fmt pages np, s.mx.streamHead = some (.pass id due stop row off sf mode fmt pages np) → due ≤ s.mx.clk →
      s.tile.poison = [] →
      let o : MxOp := .pass id due stop row off sf mode fmt pages np
      let elems := rowElems mode.toNat (neffOf fmt.toNat)
      let stripes := rowStripes sf.toNat (streamWa sf.toNat np.toNat) elems (s.tile.spRead off (rowBytes sf.toNat elems))
      (∀ st im, stripes = some st → s.mx.images id stop pages = some im → ∃ t, exec .astrPassEntered s = .next t ∧ SameBytes s t ∧
        t.mx.acc = ((s.mx.remove o).enter np.toNat row (passColumns mode.toNat (neffOf fmt.toNat) im st)).1.acc) ∧
      (stripes ≠ none → s.mx.images id stop pages = none → ∃ t, exec .astrPassEntered s = .next t ∧ SameBytes s t ∧
        ∀ r c, ¬(r = row ∧ c ∈ passTargets mode.toNat (neffOf fmt.toNat)) → t.mx.colAt r c = s.mx.colAt r c) ∧
      (stripes = none → ∃ t, exec .astrPassEntered s = .next t ∧ SameBytes s t ∧
        ∀ c ∈ passTargets mode.toNat (neffOf fmt.toNat), (t.mx.colAt row c).poison = true)) ∧
    (∀ id due rows, s.mx.streamHead = some (.clr id due rows) → due ≤ s.mx.clk → ∃ t, exec .mxclrTakesEffect s = .next t ∧ SameBytes s t ∧
      ∀ r c, t.mx.colAt r c = if rows.getLsbD r then AccCol.clear r c else s.mx.colAt r c) ∧
    (∀ id due dst row slice count clear bf frm, s.mx.streamHead = some (.drainst id due dst row slice count clear bf frm) →
      due ≤ s.mx.clk →
      let n := 16 * count
      let sz := drainSize (bfFmt bf)
      let scale (i : Nat) : FVal := scaleVal (bfSfmt bf) (s.tile.spRead (scaleBank bf (dst / bankSize) * bankSize +
        scaleOff bf (groupOf (bfOrient bf) (dst % bankSize + i))) 2)
      let elem (i : Nat) : Nat := (drainEncode bf frm (s.mx.colAt row (16 * slice + i)).read.val
        (if grouped bf then scale i else .fin false 1 0)).val
      ∃ t, exec .drainstComplete s = .next t ∧ (∀ pa, t.memByte pa = s.memByte pa) ∧
        (s.canonical → ∀ i, i < n * sz → t.tile.byte (dst + i) = byteOf (ofLanes (8 * sz) elem n) i) ∧
        (∀ r c, t.mx.colAt r c = if clear && decide (r = row ∧ 16 * slice ≤ c ∧ c < 16 * (slice + count)) then AccCol.clear r c
          else s.mx.colAt r c) ∧
        ∀ k off, ¬(k = s.cur ∧ dst ≤ off ∧ off < dst + 16 * count * drainSize (bfFmt bf)) → (t.tileAt k).byte off = (s.tileAt k).byte off)

/-- R150, R418, R419: the scrubber passes over a row that is in order; a row that fails parity empties its page, but for the descriptor of a
load that is still to come, and is logged with its macro, page and row (R417). While the tile is frozen or switched out it stands still with the engine (R25, R144). -/
def Obligations.ScrubRow : Prop :=
  ∀ (mac : BitVec 2) (page : BitVec 3) (row : BitVec 8) (s : State),
    (s.tile.frozen = false → s.tile.out = false → exec (.scrubRow mac page row false) s = .next s ∧
      ((∃ p ∈ s.mx.pages, p.mac = mac ∧ p.page = page ∧ p.gone = none) → ∃ t, exec (.scrubRow mac page row true) s = .next t ∧
        (∀ p ∈ t.mx.pages, p.mac = mac → p.page = page → p.gone ≠ none) ∧
        (s.mx.loading mac page = false → ∀ x ∈ t.mx.desc, ¬(x.mac = mac ∧ x.page = page)) ∧
        (s.mx.loading mac page = true → t.mx.desc = s.mx.desc) ∧
        (∀ p, ¬(p.mac = mac ∧ p.page = page) → (p ∈ t.mx.pages ↔ p ∈ s.mx.pages)) ∧
        t.errLog = s.errLog ++ [(s.ctx.part, s.cur.die, errRec (s.cycle s.cur.die) 0 0x05 (macroLoc mac page row) 0)] ∧ SameBytes s t ∧
        SameRegisters s.tile.core t.tile.core)) ∧
    (∀ fails : Bool, s.tile.frozen = true ∨ s.tile.out = true →
      exec (.scrubRow mac page row fails) s = .next (s.addEvent (s.clock + 1) s.cur (.scrubRow mac page row fails)))

/-! ### Orbits -/

/-- R159-R163, R296-R303: each orb operation that its station may make completes: OATT attaches the station with vacant bodies, in slots that the model chooses (log 23), and leaves every
byte outside the station buffer; OEPH, OINJ and OSTEP join the station's operations; OSLOT, OCNT, OMISS, OLAP and ODET deliver. -/
def Sys2Proof.Claims.OrbitTriggers : Prop :=
  ∀ (src : Src) (g : Guard) (s : State), ScalarIssues .orb src g s →
    let w := s.scalarSrc src
    let t0 := wideOfWord w
    let n := (lowWord (s.opA .orb)).toNat
    (s.oattWaits w = false → s.oattCause t0 = none → ∃ t, exec (.oatt src g) s = .next t ∧ t.tile.station = Station.fresh w ∧
      (∃ o, t.orbit? = some o ∧ o.word = w) ∧ (s.tile.lsq = [] → (∀ pa, t.memByte pa = s.memByte pa) ∧
        SameRegisters s.tile.core t.tile.core ∧
        ∀ k off, ¬(k = s.cur ∧ 0x120000 ≤ off ∧ off < 0x160000) → (t.tileAt k).byte off = (s.tileAt k).byte off)) ∧
    (s.fenceStall pathOB = false → s.beforeArming = true → s.tile.lsq = [] →
      (0 < n → n ≤ 256 → lowRange w 16 (16 * n) = true → ∃ t, exec (.oeph src g) s = .next t ∧ SameBytes s t ∧
        t.tile.station.ops = s.tile.station.ops ++ [.oeph s.nextOp (addrOff w) n] ∧ t.tile.core.pending .orb .qp = true) ∧
      (∀ o, n < 2 ^ 17 → s.orbit? = some o → lowRange w 64 (slotSize o.word) = true → ∃ t, exec (.oinj src g) s = .next t ∧ SameBytes s t ∧
        t.tile.station.ops = s.tile.station.ops ++ [.oinj s.nextOp (addrOff w) ((lowWord (s.opA .orb)).getLsbD 16) ((lowWord (s.opA .orb)).truncate 16)])) ∧
    (s.beforeArming = true → w = 0 → ∃ t, exec (.ostep src g) s = .next t ∧ SameBytes s t ∧ t.tile.station.stepped = true ∧
      t.tile.station.ops = s.tile.station.ops ++ [.ostep s.nextOp]) ∧
    (s.tile.station.attached = true →
      (w.toNat ≤ 2 → exec (.oslot src g) s = .next ((s.taken src).timed .orb 2 [(.q, BitVec.ofNat 512 (match w.toNat with
        | 0 => s.tile.station.pro.slot
        | 1 => s.tile.station.ret.slot
        | _ => (s.tile.station.held.map Body.slot).getD 0), BitVec.allOnes 512)] EvCount.zero)) ∧
      (w = 0 → ∀ miss : Bool, ∃ t, exec (if miss then .omiss src g else .ocnt src g) s = .next t ∧ SameBytes s t ∧
        SameRegisters s.tile.core t.tile.core ∧
        DeliversLive s t .orb (if miss then .omiss else .ocnt) (BitVec.ofNat 512 (s.orbitRead s.cur miss)))) ∧
    (s.lapCause t0 = none → ∀ det : Bool, ∃ t, exec (if det then .odet src g else .olap src g) s = .next t ∧ SameBytes s t ∧
      (w.getLsbD 0 = true → Delivers s t .orb .q (if det then 0 else BitVec.ofNat 512 s.allMisses.length)) ∧
      (w.getLsbD 0 = false → t.tile.core.pending .orb .q = true ∧
        ∀ o, t.orbit? = some o → (s.cur, s.nextOp) ∈ (if det then o.odet else o.olap)))

/-- R160, R297-R303: an orb operation that the station may not make raises its cause. -/
def Sys2Proof.Claims.OrbitFaults : Prop :=
  ∀ (src : Src) (g : Guard) (s : State), ScalarIssues .orb src g s →
    let t0 := wideOfWord (s.scalarSrc src)
    (∀ c, s.oattWaits (s.scalarSrc src) = false → s.oattCause t0 = some c → exec (.oatt src g) s = .next (s.takeTrap c)) ∧
    (s.beforeArming = false → s.fenceStall pathOB = false →
      ∀ i ∈ [Instr.oeph src g, .oinj src g, .ostep src g], exec i s = .next (s.takeTrap (s.orbitFault .orb t0))) ∧
    (s.tile.station.attached = false →
      ∀ i ∈ [Instr.oslot src g, .ocnt src g, .omiss src g, .olap src g, .odet src g], exec i s = .next (s.takeTrap (s.orbitFault .orb t0)))

/-- R159-R163, R296-R303: the orb operations complete where the station may make them, and raise their cause elsewhere. -/
def Obligations.OrbitOperations : Prop := OrbitTriggers ∧ OrbitFaults

/-- R162, R163, R167, R298-R300: the oldest operation of a station that runs completes: the table is loaded where every entry is well formed,
the body stands in its slot, the station is armed. -/
def Sys2Proof.Claims.StationOperations : Prop :=
  ∀ (s : State) (r : List OrbOp), s.tile.frozen = false → s.tile.out = false → s.tile.poison = [] →
    (∀ id off n, s.tile.station.ops = .oeph id off n :: r →
      let ws := (List.range n).map (fun i => s.tile.ephWords off i)
      ∃ t, exec .oephTableLoaded s = .next t ∧ (Unsaved s s.cur id → SameBytes s t) ∧ t.tile.station.ops = r ∧
        t.tile.station.eph = if ws.all ephOk then ws.map ephOf else s.tile.station.eph) ∧
    (∀ id off retro bid o, s.tile.station.ops = .oinj id off retro bid :: r → s.orbit? = some o →
      let slot := if retro then s.tile.station.ret.slot else s.tile.station.pro.slot
      ∃ t, exec .oinjCopyComplete s = .next t ∧ t.tile.station.ops = r ∧
        (if retro then t.tile.station.ret.id else t.tile.station.pro.id) = bid ∧
        (s.canonical → ∀ i, i < slotSize o.word → t.tile.byte (slot + i) = s.tile.byte (off + i)) ∧
        ∀ k a, ¬(k = s.cur ∧ slot ≤ a ∧ a < slot + slotSize o.word) → (t.tileAt k).byte a = (s.tileAt k).byte a) ∧
    (∀ id o, s.tile.station.ops = .ostep id :: r → s.orbit? = some o →
      ∃ t, exec .stationArmed s = .next t ∧ (Unsaved s s.cur id → SameBytes s t) ∧ t.tile.station.armed = true ∧ t.tile.station.ops = r)

/-- R164-R166, R170: a step begins where the orbit is ready, and lasts 16 clocks and one for each 64 bytes of a slot, where no transfer yields;
when it completes, every station holds its lower neighbour's prograde body and its upper neighbour's retrograde body, with their bytes, and
its own old retrograde body; a station without a task of the step releases. Which slots the bodies take is the model's (log 23): two slots
that differ do not overlap. -/
def Sys2Proof.Claims.OrbitSteps : Prop :=
  ∀ (s : State) (o : Orbit), s.orbit? = some o →
    let k (i : Nat) : TileKey := keyPeer s.cur (tidOf (tidCluster s.cur.tid) (BitVec.ofNat 4 i))
    (s.stepReady o = true → ∃ t o', exec .orbitStepBegin s = .next t ∧ SameBytes s t ∧ t.orbit? = some o' ∧
      o'.stepDue = some (o.clk + 16 + slotSize o.word / 64) ∧ o'.step = o.step ∧ o'.total = o.total) ∧
    (∀ d, o.stepDue = some d → d ≤ o.clk → s.residentAt s.cur = true → ∃ t o', exec .orbitStepComplete s = .next t ∧
      t.orbit? = some o' ∧ o'.stepDue = none ∧ o'.step = o.step + 1 ∧ o'.total = o.total + 1 ∧
      ∀ i < 16, (t.tileAt (k i)).station.pro.id = (s.tileAt (k (i + 15))).station.pro.id ∧
        (t.tileAt (k i)).station.ret.id = (s.tileAt (k (i + 1))).station.ret.id ∧
        (t.tileAt (k i)).station.held = some (s.tileAt (k i)).station.ret ∧
        (s.canonical → ∀ j, j < slotSize o.word →
          (t.tileAt (k i)).byte ((t.tileAt (k i)).station.ret.slot + j) =
            (s.tileAt (k (i + 1))).byte ((s.tileAt (k (i + 1))).station.ret.slot + j) ∧
          ((t.tileAt (k i)).station.pro.slot ≠ (t.tileAt (k i)).station.ret.slot →
            (t.tileAt (k i)).byte ((t.tileAt (k i)).station.pro.slot + j) =
              (s.tileAt (k (i + 15))).byte ((s.tileAt (k (i + 15))).station.pro.slot + j)))) ∧
    (s.tile.station.released = false → o.stepDue = none → s.tile.conjQ = [] → s.tile.station.holding = [] →
      (∀ x, s.tile.task = some x → x.conj = none) → ∃ t, exec .stationRelease s = .next t ∧ t.tile.station.released = true ∧ SameBytes s t)

/-- R162-R167, R170, R298-R300: the steps of stations and orbits complete. -/
def Obligations.StationSteps : Prop := StationOperations ∧ OrbitSteps

/-- R45, R46, R169: the tile that is free starts the oldest conjunction of its station as a task at 64 times its task number from the code
of the course, with m56 to m59 preloaded. -/
def Sys2Proof.Claims.ConjunctionStarts : Prop :=
  ∀ (s : State) (c : Conj) (r : List Conj) (o : Orbit) (x : Course), s.conjReady s.cur = true → s.tile.conjQ = c :: r → s.orbit? = some o →
    s.ctx.course? o.q o.course = some x →
    ∃ t k, exec .conjunctionTaskStart s = .next t ∧ t.tile.task = some k ∧ k.conj = some c.serial ∧ k.q = o.q ∧ k.course = o.course ∧
      t.tile.core.seq.pc = x.cr.code + BitVec.ofNat 56 (64 * c.task) ∧ t.tile.core.seq.loops = [] ∧ t.tile.mark = t.tile.core ∧
      t.tile.core.m.get 56 = wideOfWord (BitVec.ofNat 64 c.pro) ∧ t.tile.core.m.get 57 = wideOfWord (BitVec.ofNat 64 c.ret) ∧
      t.tile.core.m.get 58 = wideOfWord (c.arg.zeroExtend 64) ∧ t.tile.core.m.get 59 = wideOfWord (c.serial.zeroExtend 64) ∧ SameBytes s t

/-- R172, R173: when a lap ends, a self-running orbit without misses detaches and one with misses starts a recovery lap; another orbit waits
until it is told to go on or to end. -/
def Sys2Proof.Claims.LapEnds : Prop :=
  ∀ (s : State) (o : Orbit), s.orbit? = some o → s.lapReady o = true →
    (attachAuto o.word = true → s.allMisses = [] → ∃ t, exec .lapEnd s = .next t ∧ t.orbit? = none) ∧
    ((attachAuto o.word = true ∨ o.wantsLap = true) → s.allMisses ≠ [] → ∃ t o', exec .lapEnd s = .next t ∧ t.orbit? = some o' ∧
      o'.lap = o.lap + 1 ∧ o'.step = 0 ∧ o'.total = o.total) ∧
    (attachAuto o.word = false → o.wantsLap = false → o.wantsEnd = true → ∃ t, exec .lapEnd s = .next t ∧ t.orbit? = none) ∧
    (attachAuto o.word = false → (o.wantsLap = false ∨ s.allMisses = []) → o.wantsEnd = false → ∃ t o', exec .lapEnd s = .next t ∧
      t.orbit? = some o' ∧ o'.lapOver = true ∧ o'.lap = o.lap)

/-- R45, R46, R169, R172, R173: conjunction tasks start and laps end. -/
def Obligations.ConjunctionsAndLaps : Prop := ConjunctionStarts ∧ LapEnds

/-! ### Transfers, copies, the network -/

/-- R177, R304-R307: a DMA trigger with lawful ranges takes the next TAG, delivers its promise word with qp set, and its transfer is
outstanding; an unlawful length raises "illegal operand"; DPROM and DSTAT deliver what is known of a TAG. -/
def Obligations.DmaTriggers : Prop :=
  (∀ (src : Src) (g : Guard) (s : State), ScalarIssues .dma src g s →
    let a := lowWord (s.opA .dma)
    let b := lowWord (s.opB .dma)
    let d := s.scalarSrc src
    let bad := s.takeTrap (s.illegalOperand .dma (wideOfWord d))
    let bf (x : Word) : BitVec 32 := s.tile.core.bfOf (addrOff x / bankSize)
    (s.dmaStall [a] = false → dmaLenOk b = true → dmaDestOk s.tile d b.toNat = true → s.handleCause .dma .load a 64 b.toNat = none →
      exec (.dld src g) s = .next ((s.taken src).startTransfer (.load (s.physOf .load a b.toNat) (addrOff d) b.toNat))) ∧
    (s.dmaStall [d] = false → dmaLenOk b = true → dmaLocalOk a b.toNat = true → s.handleCause .dma .store d 64 b.toNat = none →
      exec (.dst src g) s = .next ((s.taken src).startTransfer (.store (addrOff a) (s.physOf .store d b.toNat) b.toNat))) ∧
    (s.dmaStall [] = false → 0 < b.toNat → b.toNat ≤ 65536 → dmaLocalOk a 1 = true → dmaLocalOk d 1 = true →
      addrOff a / bankSize ≠ addrOff d / bankSize → copyFmtOk (bf a) (bf d) = true →
      inOneBank (addrOff a) (b.toNat * copyWidth (bf a)) = true → inOneBank (addrOff d) (b.toNat * copyWidth (bf d)) = true →
      dmaDestOk s.tile d (b.toNat * copyWidth (bf d)) = true →
      exec (.dcpy src g) s = .next ((s.taken src).startTransfer
        (.copy (addrOff a) (addrOff d) b.toNat (bf a) (bf d) (s.tile.core.frm.truncate 4)))) ∧
    (s.dmaStall [a] = false → dmaLenOk b = false → exec (.dld src g) s = .next bad) ∧
    (s.dmaStall [d] = false → dmaLenOk b = false → exec (.dst src g) s = .next bad) ∧
    (d.toNat < 65536 → ∃ t, exec (.dprom src g) s = .next t ∧ SameBytes s t ∧ SameRegisters s.tile.core t.tile.core ∧
      Delivers s t .dma .q (BitVec.ofNat 512 (promiseWord (d.truncate 16) (((s.tile.transfer? (d.truncate 16)).map Transfer.promise).getD 0)))) ∧
    (d.toNat < 65536 → ∃ t, exec (.dstat src g) s = .next t ∧ SameBytes s t ∧ SameRegisters s.tile.core t.tile.core ∧
      Delivers s t .dma .q (BitVec.ofNat 512 (s.tile.dstat (d.truncate 16)))) ∧
    (65536 ≤ d.toNat → exec (.dprom src g) s = .next bad ∧ exec (.dstat src g) s = .next bad)) ∧
  (∀ (s : State) (kind : DmaKind), s.tile.lsq = [] →
    let t := s.startTransfer kind
    t.tile.nextTag = s.tile.nextTag + 1 ∧ SameBytes s t ∧ SameRegisters s.tile.core t.tile.core ∧
    (∃ x ∈ t.tile.dma, x.tag = s.tile.nextTag ∧ x.kind = kind ∧ x.done = none ∧ s.cycle s.cur.die ≤ x.promise ∧
      Delivers s t .dma .q (BitVec.ofNat 512 (promiseWord s.tile.nextTag x.promise)) ∧ Delivers s t .dma .qp 1) ∧
    (∃ e ∈ t.events, e.step = .dmaTransferComplete s.tile.nextTag ∧ e.at_ = s.cur))

/-- R178, R305, R306: when a transfer completes, its destination holds the source's bytes, or for a DCPY the source's elements converted to the
destination bank's type, as the rounding and saturation of its frm say; no other byte of memory has changed, and the transfer is done. That
the bytes move at the completion, in one step, is the model's (log 45). -/
def Obligations.DmaCompletes : Prop :=
  ∀ (s : State) (tag : BitVec 16) (d : Transfer), s.tile.dma.find? (fun x => x.tag = tag && x.done.isNone) = some d →
    (s.dieAt s.cur.die).cs = true →
    ∃ t, exec (.dmaTransferComplete tag) s = .next t ∧ (∀ x ∈ t.tile.dma, x.id = d.id → x.done = some (s.cycle s.cur.die)) ∧
      (∀ pa dst n, d.kind = .load pa dst n → s.sideLost pa = false →
        (s.canonical → ∀ i, i < n → t.tile.byte (dst + i) = s.memByte (pa + i)) ∧ (∀ a, t.memByte a = s.memByte a) ∧
        ∀ k off, ¬(k = s.cur ∧ dst ≤ off ∧ off < dst + n) → (t.tileAt k).byte off = (s.tileAt k).byte off) ∧
      (∀ from_ pa n, d.kind = .store from_ pa n → s.sideLost pa = false →
        (s.canonical → ∀ i, i < n → t.memByte (pa + i) = s.tile.byte (from_ + i)) ∧
        (∀ a, ¬(pa ≤ a ∧ a < pa + n) → t.memByte a = s.memByte a) ∧ ∀ k off, (t.tileAt k).byte off = (s.tileAt k).byte off) ∧
      (∀ from_ dst n bfs bfd frm, d.kind = .copy from_ dst n bfs bfd frm →
        (∀ a b, s.canonical → copyTy bfs = some a → copyTy bfd = some b → ∀ i, i < n * copyWidth bfd →
          t.tile.byte (dst + i) = byteOf (ofLanes b.width (fun j => (convert (frm.extractLsb' 0 3 : BitVec 3).toNat (frm.getLsbD 3) a b
            (laneOf a.width (s.tile.spRead from_ (n * copyWidth bfs)) j)).val) n) i) ∧ (∀ a, t.memByte a = s.memByte a) ∧
        ∀ k off, ¬(k = s.cur ∧ dst ≤ off ∧ off < dst + n * copyWidth bfd) → (t.tileAt k).byte off = (s.tileAt k).byte off)

/-- R185-R188, R309, R310: NSEND and RLD with lawful words are on their way; a line that arrives at an empty head cell is written there, fills
the cell and changes no other byte; a remote load delivers the line of its target. -/
def Obligations.NetworkOperations : Prop :=
  (∀ (src : Src) (g : Guard) (s : State), ScalarIssues .net src g s → s.fenceStall pathNT = false → s.tile.lsq = [] →
    let w := s.scalarSrc src
    let a := lowWord (s.opA .net)
    (s.tile.sends.length < 4 → sendWordOk w = true → ∃ t x, exec (.nsend src g) s = .next t ∧ SameBytes s t ∧
      SameRegisters s.tile.core t.tile.core ∧ t.tile.sends = s.tile.sends ++ [x] ∧ x.mask = w.extractLsb' 48 16 ∧
      x.cl = w.extractLsb' 46 2 ∧ x.off = addrOff w ∧ x.line = s.opB .net) ∧
    (s.tile.sends.length < 4 → sendWordOk w = false → exec (.nsend src g) s = .next (s.takeTrap (s.illegalOperand .net (wideOfWord w)))) ∧
    (s.tile.core.rlds.length < 8 → a.toNat < 64 → addrSpace w = 0 → (w.extractLsb' 21 39 : BitVec 39) = 0 → addrOff w % 64 = 0 →
      addrOff w < spSize → ∃ t, exec (.rld src g) s = .next t ∧ SameBytes s t ∧ SameRegisters s.tile.core t.tile.core ∧
        t.tile.core.rlds = s.tile.core.rlds ++ [{ id := s.nextOp, tid := a.truncate 6, off := addrOff w }] ∧
        t.tile.core.pending .net .q = true ∧ t.tile.core.pending .net .qp = true)) ∧
  (∀ (s : State) (rp : BitVec 4) (x : Send), s.readySend s.cur rp = some x →
    let k := keyPeer s.cur (tidOf x.cl rp)
    ∃ t, exec (.nsendDelivery rp) s = .next t ∧ (t.tileAt k).cellFull x.off = true ∧ (∀ pa, t.memByte pa = s.memByte pa) ∧
      (s.canonical → ∀ i, i < 64 → (t.tileAt k).byte (x.off + i) = byteOf x.line.toNat i) ∧
      ∀ j off, ¬(j = k ∧ x.off ≤ off ∧ off < x.off + 64) → (t.tileAt j).byte off = (s.tileAt j).byte off) ∧
  (∀ (s : State) (x : RldReq) (r : List RldReq), s.tile.core.rlds = x :: r → (s.dieAt s.cur.die).cs = true →
    s.poisonAt s.cur (.scratch x.tid x.off) 64 = none →
    ∃ t, exec .rldServe s = .next t ∧ (Unsaved s s.cur x.id → SameBytes s t) ∧ t.tile.core.rlds = r.filter (fun y => y.id ≠ x.id) ∧
      ∀ f ∈ s.tile.core.flight, f.id = x.id → f.locked = true → f.ready = false →
        ∃ f' ∈ t.tile.core.flight, f'.id = f.id ∧ f'.port = f.port ∧ f'.ready = true ∧
          (f.port = .q → f'.value = BitVec.ofNat 512 ((s.tileAt (keyPeer s.cur x.tid)).spRead x.off 64)) ∧ (f.port = .qp → f'.value = 0))

/-- R181-R184, R311-R313 (a started entry's bytes move in one step: the model's reading, log 45): CQPOST of a lawful descriptor enters it where its queue has room and delivers its index and whether it was entered;
CQSTAT and NFLAG deliver; the engine copies the oldest entry that has not started, and retires the oldest one. -/
def Obligations.CopyQueues : Prop :=
  (∀ (src : Src) (g : Guard) (s : State), ScalarIssues .net src g s →
    let w := s.scalarSrc src
    let x := s.ctx.copyQ s.cur.die (w.getLsbD 0)
    (s.fenceStall pathDM = false → s.handlePending (descWord (s.opB .net) 0) = false → s.handlePending (descWord (s.opB .net) 1) = false →
      (s.cqpostCause (wideOfWord w) = none → s.tile.lsq = [] →
        (x.space = 0 → ∃ t, exec (.cqpost src g) s = .next t ∧ SameBytes s t ∧ t.ctxs = s.ctxs ∧ Delivers s t .net .qp 0) ∧
        (x.space ≠ 0 → ∃ t e, exec (.cqpost src g) s = .next t ∧ SameBytes s t ∧
          t.ctxs = (s.modCtx s.cur.ctx (fun c => c.setCopyQ { x with entries := x.entries ++ [e], prod := x.prod + 1 })).ctxs ∧
          e.idx = x.prod ∧ e.len = descLen (s.opB .net) ∧ e.started = false ∧
          Delivers s t .net .q (BitVec.ofNat 512 x.prod.toNat) ∧ Delivers s t .net .qp 1)) ∧
      (∀ c, s.cqpostCause (wideOfWord w) = some c → exec (.cqpost src g) s = .next (s.takeTrap c))) ∧
    (w.toNat < 4 → ∃ t, exec (.cqstat src g) s = .next t ∧ SameBytes s t ∧ SameRegisters s.tile.core t.tile.core ∧
      Delivers s t .net .q (BitVec.ofNat 512 (x.prod.toNat + x.cons.toNat * 2 ^ 32 + (if x.fovw then 2 ^ 64 else 0) + (if x.ferr then 2 ^ 65 else 0)))) ∧
    (w.toNat < 2 ^ 33 → ∃ t, exec (.nflag src g) s = .next t ∧ SameBytes s t ∧ SameRegisters s.tile.core t.tile.core ∧
      Delivers s t .net .q (BitVec.ofNat 512 ((s.ctx.copyQ s.cur.die (w.getLsbD 32)).flagCode (w.truncate 32))))) ∧
  (∀ (s : State) (x : CopyQ) (e : CopyEntry),
    s.dieQueues.findSome? (fun x => (x.entries.find? (fun e => !e.started)).map (fun e => (x, e))) = some (x, e) →
    s.sideLost e.src = false → s.sideLost e.dst = false →
    ∃ t, exec .copyEntryStart s = .next t ∧ (s.canonical → ∀ i, i < e.len → t.memByte (e.dst + i) = s.memByte (e.src + i)) ∧
      (∀ a, ¬(e.dst ≤ a ∧ a < e.dst + e.len) → t.memByte a = s.memByte a) ∧ (∀ k off, (t.tileAt k).byte off = (s.tileAt k).byte off) ∧
      ∃ ev ∈ t.events, ev.step = .copyEntryRetire ∧ ev.at_ = s.cur) ∧
  (∀ (s : State) (x : CopyQ) (e : CopyEntry) (r : List CopyEntry) (c : Ctx), s.ctxAt? s.cur.ctx = some c →
    s.dieQueues.findSome? (fun x => match x.entries with
      | e :: r => if e.started then some (x, e, r) else none
      | [] => none) = some (x, e, r) →
    ∃ t, exec .copyEntryRetire s = .next t ∧ (t.ctx.copyQ x.die x.q).entries = r ∧ (t.ctx.copyQ x.die x.q).cons = x.cons + 1 ∧
      (e.fv = false → e.failed = false → SameBytes s t))


/-! ### System registers, traps, handlers, the patrol core -/

/-- R358-R360, R380: SYSRD delivers a system register, in user mode one below tret; SYSWR in privileged mode writes one and delivers what it
held; a write of 0 to tret returns from the handler or the stub; an access that user mode may not make raises "privilege violation", a reserved number or value "illegal operand". A write of
a register that is only read is ignored (R6; log 47). -/
def Obligations.SystemRegisters : Prop :=
  ∀ (src : Src) (g : Guard) (s : State), ScalarIssues .sys src g s → (s.tile.priv = true → privSrcOk src = true) →
    let w := s.scalarSrc src
    let a := (lowWord (s.opA .sys)).toNat
    let denied := s.takeTrap (s.privViolation (sockIdx .sys).val w)
    let bad := s.takeTrap (s.illegalOperand .sys (wideOfWord w))
    ((s.tile.priv = true ∨ w.toNat < 7) → w.toNat < 4096 → sysNumber w.toNat = true →
      ∃ t, exec (.sysrd src g) s = .next t ∧ SameBytes s t ∧ SameRegisters s.tile.core t.tile.core ∧ SameTrap s.tile t.tile ∧
        Delivers s t .sys .q (wideOfWord (s.sysGet s.cur w.toNat))) ∧
    (s.tile.priv = false → 7 ≤ w.toNat % 4096 → exec (.sysrd src g) s = .next denied) ∧
    (s.tile.priv = true → (4096 ≤ w.toNat ∨ sysNumber (w.toNat % 4096) = false) → exec (.sysrd src g) s = .next bad) ∧
    (s.tile.priv = true → a < 4096 → sysNumber a = true → sysValueOk s.tile a w = true → a ≠ 7 →
      ∃ t, exec (.syswr src g) s = .next t ∧ SameBytes s t ∧ SameRegisters s.tile.core t.tile.core ∧
        Delivers s t .sys .q (wideOfWord (s.sysGet s.cur a)) ∧
        (a = 0 → t.tile.tv = w.getLsbD 15 ∧ t.tile.inh = w.getLsbD 14 ∧ t.tile.nest = w.getLsbD 13 ∧
          t.tile.code = (w.extractLsb' 0 8 : BitVec 8) ∧ t.tile.priv = true) ∧
        (a = 1 → t.tile.tepc = w &&& 0x00FFFFFFFFFFFFC0) ∧
        ((∃ i : Fin 4, a = 2 + i.val) → t.sysGet s.cur a = w) ∧
        (a = 0x20 → t.tile.savebase = w) ∧ (a = 0x21 → t.tile.stubbase = w) ∧
        ((s.ctxAt? s.cur.ctx).isSome = true → (a = 6 → t.ctx.tvec = w &&& tvecBits) ∧ (a = 0x23 → t.ctx.debug = w.getLsbD 0))) ∧
    (a = 7 → w = 0 → (s.tile.priv = true ∨ s.tile.inh = true) → exec (.syswr src g) s = .next (s.taken src).doTret) ∧
    (s.tile.priv = false → a % 4096 ≠ 7 → exec (.syswr src g) s = .next denied) ∧
    (s.tile.priv = true → (4096 ≤ a ∨ sysNumber (a % 4096) = false ∨ sysValueOk s.tile (a % 4096) w = false) →
      exec (.syswr src g) s = .next bad)

/-- R358, R374, R376-R378, R381: in privileged mode with operand 0, SNAPSV takes the parked results out of the pipelines and SNAPLD parks them
again, RFSV writes the tile's state to its save area and no other byte, and RFLD reads it back, IFLUSH leaves no bundle in the instruction buffer
but those of locked ranges; HINV
clears V in the registers of its mask; each raises "illegal operand" elsewhere and "privilege violation" in user mode. A save area outside
the populated ranges (R398) stops RFSV and RFLD by name, and SNAPSV where it has entries for it. -/
def Obligations.SaveAndRestore : Prop :=
  ∀ (src : Src) (g : Guard) (s : State), ScalarIssues .sys src g s →
    let w := s.scalarSrc src
    let all := [Instr.snapsv src g, .snapld src g, .rfsv src g, .rfld src g, .hinv src g, .iflush src g]
    (s.tile.priv = false → ∀ i ∈ all, exec i s = .next (s.takeTrap (s.privViolation (sockIdx .sys).val w))) ∧
    (s.tile.priv = true → privSrcOk src = true →
      (w ≠ 0 → ∀ i ∈ [Instr.snapsv src g, .snapld src g, .rfsv src g, .rfld src g, .iflush src g],
        exec i s = .next (s.takeTrap (s.illegalOperand .sys (wideOfWord w)))) ∧
      (65536 ≤ w.toNat → exec (.hinv src g) s = .next (s.takeTrap (s.illegalOperand .sys (wideOfWord w)))) ∧
      (w.toNat < 65536 → ∃ t, exec (.hinv src g) s = .next t ∧ SameBytes s t ∧
        (∀ i : Fin 16, t.tile.core.h.get i = if w.getLsbD i.val then { s.tile.core.h.get i with v := false } else s.tile.core.h.get i) ∧
        Delivers s t .sys .q (BitVec.ofNat 512 s.tile.core.vBits)) ∧
      (w = 0 →
        (∃ t, exec (.iflush src g) s = .next t ∧ SameBytes s t ∧ SameRegisters s.tile.core t.tile.core ∧
          (∀ x ∈ t.tile.ibuf, ∃ r ∈ s.tile.locks, ∃ i, i < r.2 ∧ x.1 = r.1 + BitVec.ofNat 56 (64 * i)) ∧
          Delivers s t .sys .q 0) ∧
        (s.areaOk = true ∨ s.snapSpills = false →
          ∃ t, exec (.snapsv src g) s = .next t ∧ (∀ f ∈ s.tile.parked, f.landed = false → f ∈ t.tile.snap) ∧
          t.tile.snap.length = (s.tile.parked.filter (fun f => !f.landed)).length ∧
          (∀ f ∈ t.tile.core.flight, f.id = s.nextOp ∨ s.tile.stubFrom ≤ f.id) ∧ (s.tile.parked.length ≤ 48 → SameBytes s t) ∧
          Delivers s t .sys .q (BitVec.ofNat 512 (s.tile.parked.filter (fun f => !f.landed)).length)) ∧
        (s.areaOk = false → s.snapSpills = true → exec (.snapsv src g) s = .fault (.unpopulatedPhysical s.tile.area)) ∧
        (∃ t, exec (.snapld src g) s = .next t ∧ t.tile.snap = [] ∧ SameBytes s t ∧ (∀ f ∈ s.tile.snap, f.atOnce ∈ t.tile.core.flight) ∧
          Delivers s t .sys .q (BitVec.ofNat 512 s.tile.snap.length)) ∧
        (s.areaOk = true →
          (∃ t, exec (.rfsv src g) s = .next t ∧ Delivers s t .sys .q 0 ∧
            (∀ a, a < s.tile.area ∨ s.tile.area + 0x8800 ≤ a → t.memByte a = s.memByte a) ∧
            (∀ k off, (t.tileAt k).byte off = (s.tileAt k).byte off) ∧
            (s.canonical → ∀ (n : Fin 64) (i : Nat), i < 64 →
              t.memByte (s.tile.area + 64 * n.val + i) = byteOf (s.tile.core.m.get n).toNat i)) ∧
          (∃ t, exec (.rfld src g) s = .next t ∧ Delivers s t .sys .q 0 ∧ SameBytes s t ∧
            (∀ n : Fin 64, t.tile.core.m.get n = BitVec.ofNat 512 (s.memRead (s.tile.area + 64 * n.val) 64)) ∧
            (∀ n : Fin 8, t.tile.core.o.get n = BitVec.ofNat 512 (s.memRead (s.tile.area + 0x1000 + 64 * n.val) 64)) ∧
            (∀ n : BitVec 5, t.tile.core.pred n = if n = 0 then BitVec.allOnes 64
              else BitVec.ofNat 64 (s.memRead (s.tile.area + 0x1200 + 8 * n.toNat) 8)))) ∧
        (s.areaOk = false → exec (.rfsv src g) s = .fault (.unpopulatedPhysical s.tile.area) ∧
          exec (.rfld src g) s = .fault (.unpopulatedPhysical s.tile.area))))

/-- R25, R58, R361-R363, R365, R366: a tile outside a tow set that takes a cause which does not roll back is frozen, with the cause in its trap
registers, NEST where a handler ran, and its registers, ports and memory as they were; one that takes a handle fault or a soft error has its
state at the mark point with none of the region's gated stores, releases the cells that it held, and is frozen with the mark point as its
tepc; a frozen tile holds the cause for later, but for one that its replay will raise again. -/
def Obligations.TrapTaken : Prop :=
  ∀ (s : State) (c : Cause),
    (s.tile.frozen = false → s.towSet s.cur = [s.cur] → isRollbackCause c.code = false →
      let t := s.takeTrap c
      t.tile.frozen = true ∧ t.tile.tv = true ∧ t.tile.code = c.code ∧ t.tile.tepc = addrWord c.tepc ∧
      t.tile.tinfo = #v[c.i0, c.i1, c.i2, c.i3] ∧ t.tile.nest = s.tile.inh ∧ t.tile.inh = s.tile.inh ∧
      t.tile.priv = s.tile.priv ∧ t.tile.core = s.tile.core ∧ t.tile.gated = s.tile.gated ∧ SameBytes s t ∧
      (∀ k, k ≠ s.cur → t.tileAt k = s.tileAt k)) ∧
    (s.tile.frozen = false → s.tile.priv = false → s.towSet s.cur = [s.cur] → isRollbackCause c.code = true →
      let t := s.takeTrap c
      t.tile.frozen = true ∧ t.tile.tv = true ∧ t.tile.code = c.code ∧ t.tile.tepc = addrWord s.tile.mark.seq.pc ∧
      t.tile.tinfo = #v[c.i0, c.i1, c.i2, c.i3] ∧
      t.tile.core = { s.tile.mark with seq := { s.tile.mark.seq with skew := s.tile.core.seq.skew } } ∧ t.tile.gated = [] ∧ SameBytes s t ∧
      (∀ k, k.ctx = s.cur.ctx → k.die = s.cur.die → (t.tileAt k).held = (s.tileAt k).held.filter (fun x => x.2 ≠ s.cur)) ∧
      (∀ k off, (t.tileAt k).cellFull off = (s.tileAt k).cellFull off)) ∧
    (s.tile.frozen = true →
      let u := if isService c.code then s.spend else s
      s.takeTrap c = if s.tile.replays c then u else u.modTile (fun t => { t with heldCauses := t.heldCauses ++ [c] }))

/-- R370-R373: DELIVER enters the handler of a tile that is frozen with a recoverable cause: the tile goes on at tvec's address with
INH set, nothing in flight and no loop, its frame kept, where the save area can hold it; the return brings the frame back and continues at tepc with INH and V clear; the
return from a stub leaves privileged mode. A tile that is not frozen with such a cause answers DELIVER with the patrol core's exception, and a
save area outside the populated ranges stops it by name (R398). Where neither a handler nor a stub runs, the return does nothing: that is the
model's choice (log 39). -/
def Obligations.HandlerEntry : Prop :=
  (∀ s : State, s.towSet s.cur = [s.cur] →
    (s.tile.deliverable = false → exec .deliver s = .next (s.patrolExc s.cur .illegalInstruction)) ∧
    (s.tile.deliverable = true → s.tile.out = false → s.deliverWaits s.cur = false → s.deliverCause s.cur = none → s.areaOk = false →
      exec .deliver s = .fault (.unpopulatedPhysical s.tile.area)) ∧
    (s.tile.deliverable = true → s.tile.out = false → s.deliverWaits s.cur = false → s.deliverCause s.cur = none → s.areaOk = true →
      s.tile.heldCauses = [] →
      ∃ t, exec .deliver s = .next t ∧ t.tile.core.seq.pc = ((s.ctx.tvec &&& 0x00FFFFFFFFFFFFC0).truncate 56 : BitVec 56) ∧
        t.tile.inh = true ∧ t.tile.frozen = false ∧ t.tile.tepc = s.tile.tepc ∧ t.tile.code = s.tile.code ∧ t.tile.tinfo = s.tile.tinfo ∧
        t.tile.frame.isSome = true ∧ t.tile.core.flight = [] ∧ t.tile.core.seq.loops = [] ∧ t.tile.core.spin = none ∧
        t.tile.gated = [] ∧ t.tile.core.m = s.tile.core.m ∧ t.tile.core.opnd = s.tile.core.opnd)) ∧
  (∀ s : State, s.tile.frozen = false → s.tile.heldCauses = [] →
    (s.tile.priv = true → s.tile.under = none → ∃ t, exec .tret s = .next t ∧ t.tile.priv = false ∧ t.tile.tv = false ∧
      t.tile.core.seq.pc = (s.tile.tepc.truncate 56 : BitVec 56) ∧ t.tile.core.m = s.tile.core.m ∧ SameBytes s t) ∧
    (∀ f, s.tile.priv = false → s.tile.inh = true → s.tile.frame = some f → s.tile.gated = [] → s.tile.lsq = [] →
      ∃ t, exec .tret s = .next t ∧ t.tile.inh = false ∧ t.tile.tv = false ∧ t.tile.frame = none ∧
        t.tile.core.seq.pc = (s.tile.tepc.truncate 56 : BitVec 56) ∧ t.tile.core.opnd = f.opnd ∧ t.tile.core.res = f.res ∧
        t.tile.core.lockmask = f.lockmask ∧ t.tile.core.frm = f.frm ∧ t.tile.core.flight = f.flight.map InFlight.atOnce ∧
        t.tile.core.seq.loops = f.seq.loops ∧ t.tile.core.m = s.tile.core.m ∧ t.tile.core.o = s.tile.core.o ∧
        t.tile.core.p = s.tile.core.p ∧ SameBytes s t) ∧
    (s.tile.priv = false → s.tile.inh = false → exec .tret s = .next s)) ∧
  (∀ s : State, s.tile.frozen = true → exec .tret s = .next s)

/-- R370: RESUME of a frozen tile completes: every tile of its tow set that holds no further cause runs again at its tepc; outside a tow
set V is clear, the registers hold what they held, and the events owed since the freeze have counted (R25). -/
def Sys2Proof.Claims.ResumeCompletes : Prop :=
  ∀ s : State, s.tile.frozen = true → (∀ k ∈ s.towSet s.cur, (s.tileAt k).heldCauses = []) →
    ∃ t, exec .resume s = .next t ∧ SameBytes s t ∧ (∀ k ∈ s.towSet s.cur, (t.tileAt k).frozen = false) ∧
      (s.towSet s.cur = [s.cur] → s.tile.under = none → t.tile.tv = false ∧
        t.tile.core.seq.pc = (s.tile.tepc.truncate 56 : BitVec 56) ∧ SameFiles s.tile.core t.tile.core ∧
        ∀ i : Fin 16, t.tile.core.ev.get i = satCount (s.tile.core.ev.get i) (s.tile.owed.of i.val))

/-- R358, R370: STUB of a frozen tile completes: every tile of its tow set runs in privileged mode at entry e of its stub; outside a tow
set its registers hold what they held. -/
def Sys2Proof.Claims.StubCompletes : Prop :=
  ∀ (s : State) (e : BitVec 6), s.tile.frozen = true →
    ∃ t, exec (.stub e) s = .next t ∧ SameBytes s t ∧
      (∀ k ∈ s.towSet s.cur, (t.tileAt k).priv = true ∧ (t.tileAt k).frozen = false ∧
        (t.tileAt k).core.seq.pc = ((s.tileAt k).stubbase.truncate 56 : BitVec 56) + BitVec.ofNat 56 (0x400 * e.toNat)) ∧
      (s.towSet s.cur = [s.cur] → SameRegisters s.tile.core t.tile.core)

/-- R370: ACK completes in every state: V of the tile, and of its tow set, is clear, and nothing else of it changes. -/
def Sys2Proof.Claims.AckCompletes : Prop :=
  ∀ s : State, ∃ t, exec .ack s = .next t ∧ SameBytes s t ∧ (∀ k ∈ s.towSet s.cur, (t.tileAt k).tv = false) ∧
    (∀ k, (t.tileAt k).core = (s.tileAt k).core ∧ (t.tileAt k).frozen = (s.tileAt k).frozen) ∧
    (s.towSet s.cur = [s.cur] → t = s.modTile (fun x => { x with tv := false }))

/-- R370: ABANDON completes in every state: the tile and its tow set have no task, no region and nothing in flight, and are not frozen;
outside a tow set the register files and every other tile's registers hold what they held. -/
def Sys2Proof.Claims.AbandonCompletes : Prop :=
  ∀ s : State, ∃ t, exec .abandon s = .next t ∧ SameBytes s t ∧
    (∀ k ∈ s.towSet s.cur, (t.tileAt k).task = none ∧ (t.tileAt k).frozen = false ∧ (t.tileAt k).tv = false ∧ (t.tileAt k).gated = [] ∧
      (t.tileAt k).core.flight = []) ∧
    (s.towSet s.cur = [s.cur] → t.tile.core.m = s.tile.core.m ∧ t.tile.core.o = s.tile.core.o ∧ t.tile.core.p = s.tile.core.p ∧
      ∀ k, k ≠ s.cur → (t.tileAt k).core = (s.tileAt k).core)

/-- R368, R369: a read of ptwdl completes where the window may be used: ptwdl and the reader receive the lower half of the addressed word,
ptwdh its upper half, and no tile and no memory changes. A word of the opaque block is no value of the manual (log 13). -/
def Sys2Proof.Claims.PtwdlReadCompletes : Prop :=
  ∀ (s : State) (it : WinItem), s.winNow = some it →
    ∃ t v, exec .ptwdlRead s = .next t ∧ t.tiles = s.tiles ∧ t.mem = s.mem ∧
      (t.clusterAt (keyCluster s.cur)).ptwdl = v.truncate 32 ∧ (t.clusterAt (keyCluster s.cur)).ptwdh = v.extractLsb' 32 32 ∧
      (t.clusterAt (keyCluster s.cur)).rdata = v.truncate 32 ∧ ((∀ i, it ≠ .opaqueBlock i) → v = s.winRead s.selected it)

/-- R368, R369: a write of ptwdl completes where the window may be used: the addressed word reads back as ptwdh and ptwdl together, in the
bits that exist (R6, R28, R34, R361); the items that are only read keep their value: handles, event counters, mxstat and ctxid (R80, R142,
R146, R360). Which bits a reserved value keeps, and the words of the opaque block, are the model's (logs 76, 85, 86, 13): the last word of a
copy of the block brings that copy back, any other write of it changes nothing. -/
def Sys2Proof.Claims.PtwdlWriteCompletes : Prop :=
  ∀ (s : State) (it : WinItem) (v : BitVec 32), s.winNow = some it →
    let w : Word := (s.clusterAt (keyCluster s.cur)).ptwdh ++ v
    ∃ t, exec (.ptwdlWrite v) s = .next t ∧ SameBytes s t ∧
      ((∃ i w, w < 8 ∧ it = .m i w) ∨ (∃ i w, w < 8 ∧ it = .o i w) ∨ (∃ i w, w < 8 ∧ it = .opnd i w) ∨ (∃ i w, w < 8 ∧ it = .res i w) →
        t.winRead s.selected it = w) ∧
      (∀ i, it = .p i → t.winRead s.selected it = if i = 0 then BitVec.allOnes 64 else w) ∧
      (it = .lockmask → t.winRead s.selected it = w &&& lockmaskBits) ∧ (it = .frm → t.winRead s.selected it = w &&& 0xF) ∧
      (it = .mxcfg → t.winRead s.selected it = w &&& mxcfgBits) ∧
      ((∃ i, it = .bf i) → t.winRead s.selected it = w &&& 0xFFFF01FF) ∧
      (it = .cfill ∨ it = .cdrain → t.winRead s.selected it = w &&& 0xFFFFFFFF) ∧
      ((∃ i, it = .h i) ∨ (∃ i, it = .ev i) ∨ it = .mxstat ∨ it = .sys 0x22 → t.winRead s.selected it = s.winRead s.selected it) ∧
      (it = .sys 0 → t.winRead s.selected it = (w &&& 0xE0FF) ||| (s.winRead s.selected it &&& 0x1000)) ∧
      (it = .sys 1 → t.winRead s.selected it = w &&& 0x00FFFFFFFFFFFFC0) ∧
      ((∃ n, (2 ≤ n ∧ n ≤ 5 ∨ n = 0x20 ∨ n = 0x21) ∧ it = .sys n) → t.winRead s.selected it = w) ∧
      ((s.ctxAt? s.selected.ctx).isSome = true → (it = .sys 6 → t.winRead s.selected it = w &&& tvecBits) ∧
        (it = .sys 0x23 → t.winRead s.selected it = w &&& 1)) ∧
      (∀ i, it = .opaqueBlock i →
        let a := t.tileAt s.selected
        let b := s.tileAt s.selected
        match s.copies.find? (fun c => c.at_ = s.selected && i = 1023 && w = Config.freeWord (c.base + i)) with
        | some c => a.core.seq = c.block.core.seq ∧ a.core.spin = c.block.core.spin ∧ a.mark = c.block.mark ∧ a.gated = c.block.gated
        | none => a.core.seq = b.core.seq ∧ a.core.spin = b.core.spin ∧ a.mark = b.mark ∧ a.gated = b.gated)

/-- R368, R370: a write of a custom register of the patrol core completes: ptsel, ptwa and, where the window may be used, ptwdh take the
value, ptwdl writes the window, ptcmd does its command, where the save area that the command writes is populated (R398); a write of a
register that is only read is ignored, and one that is only written reads as 0 (R6). The writing instruction reads the old value (log 25). -/
def Sys2Proof.Claims.CsrWriteCompletes : Prop :=
  ∀ (s : State) (v : BitVec 32),
    let put (csr : BitVec 12) (f : Cluster → Cluster) : State :=
      s.modCluster (keyCluster s.cur) (fun c => { f c with rdata := s.csrValue csr })
    exec (.csrWrite 0x7C0 v) s = .next (put 0x7C0 (fun c => { c with ptsel := v &&& 0xF })) ∧
    exec (.csrWrite 0x7C1 v) s = .next (put 0x7C1 (fun c => { c with ptwa := v })) ∧
    (s.winNow.isSome = true → exec (.csrWrite 0x7C3 v) s = .next (put 0x7C3 (fun c => { c with ptwdh := v }))) ∧
    (s.winNow.isSome = true → ∃ t, exec (.csrWrite 0x7C2 v) s = .next t ∧ exec (.ptwdlWrite v) s = .next t) ∧
    (s.commandRefused v = none → exec (.csrWrite 0x7C4 v) s =
      .next (if s.runsCommand v then (s.command v).modCluster (keyCluster s.cur) (fun c => { c with rdata := 0 }) else s.command v)) ∧
    (∀ a, s.commandRefused v = some a → exec (.csrWrite 0x7C4 v) s = .fault (.unpopulatedPhysical a)) ∧
    (∀ csr, csr = 0xFC0 ∨ csr = 0xFC1 → exec (.csrWrite csr v) s = .next (put csr id))

/-- R367: the patrol core's access to the scratchpad of a frozen tile of its cluster completes where its 1, 2 or 4 bytes are aligned and
inside: a read returns them, a write stores them and changes no other byte. -/
def Sys2Proof.Claims.ScratchpadAccessCompletes : Prop :=
  ∀ (s : State) (rp : BitVec 4) (off : BitVec 21) (size : BitVec 3) (data : BitVec 32),
    let k : TileKey := { ctx := s.residentId s.cur, die := s.cur.die, tid := tidOf (tidCluster s.cur.tid) rp }
    (s.tileAt k).frozen = true → size ∈ [1, 2, 4] → off.toNat % size.toNat = 0 → off.toNat + size.toNat ≤ spSize →
      (∃ t, exec (.patrolScratchpadAccess rp off size false data) s = .next t ∧ SameBytes s t ∧
        (t.clusterAt (keyCluster s.cur)).rdata = BitVec.ofNat 32 ((s.tileAt k).spRead off.toNat size.toNat)) ∧
      (∃ t, exec (.patrolScratchpadAccess rp off size true data) s = .next t ∧ (∀ pa, t.memByte pa = s.memByte pa) ∧
        (s.canonical → ∀ i, i < size.toNat → (t.tileAt k).byte (off.toNat + i) = byteOf data.toNat i) ∧
        (∀ j a, ¬(j = k ∧ off.toNat ≤ a ∧ a < off.toNat + size.toNat) → (t.tileAt j).byte a = (s.tileAt j).byte a))

/-- R367, R368, R370: where the patrol core may not do what it asks for, it takes its own exception, and no tile changes: a command for a
tile that is not frozen, the window of such a tile or at a reserved address, a scratchpad access that is not aligned, not inside, or of a
tile that is not frozen. -/
def Sys2Proof.Claims.PatrolExceptions : Prop :=
  ∀ s : State,
    (s.tile.frozen = false → exec .resume s = .next (s.patrolExc s.cur .illegalInstruction) ∧
      ∀ e, exec (.stub e) s = .next (s.patrolExc s.cur .illegalInstruction)) ∧
    (s.winNow = none → exec .ptwdlRead s = .next (s.patrolExc s.cur .illegalInstruction) ∧
      ∀ v, exec (.ptwdlWrite v) s = .next (s.patrolExc s.cur .illegalInstruction) ∧
        exec (.csrWrite 0x7C2 v) s = .next (s.patrolExc s.cur .illegalInstruction) ∧
        exec (.csrWrite 0x7C3 v) s = .next (s.patrolExc s.cur .illegalInstruction)) ∧
    (∀ (rp : BitVec 4) (off : BitVec 21) (size : BitVec 3) (write : Bool) (data : BitVec 32),
      let k : TileKey := { ctx := s.residentId s.cur, die := s.cur.die, tid := tidOf (tidCluster s.cur.tid) rp }
      (s.tileAt k).frozen = false ∨ size ∉ [1, 2, 4] ∨ off.toNat % size.toNat ≠ 0 ∨ spSize < off.toNat + size.toNat →
        exec (.patrolScratchpadAccess rp off size write data) s = .next (s.patrolExc s.cur .accessFault))

/-- R358, R367-R370: RESUME, STUB, ACK, ABANDON, the read and the write of ptwdl, the write of a custom register and the scratchpad access of
the patrol core complete, each where its rule lets it; elsewhere the core takes its exception. -/
def Obligations.PatrolCore : Prop :=
  ResumeCompletes ∧ StubCompletes ∧ AckCompletes ∧ AbandonCompletes ∧ PtwdlReadCompletes ∧ PtwdlWriteCompletes ∧ CsrWriteCompletes ∧
  ScratchpadAccessCompletes ∧ PatrolExceptions

/-! ### The host's messages, courses -/

/-- R382-R384, R389, R391, R397, R426: the lodge answers its next message: SIGNAL raises a token, QSTAT tells a queue's state, QRESUME makes a
queue run again, each naming a context of the partition; a message about any other context gets status 4, an ill-formed one status 3. -/
def Sys2Proof.Claims.HostMessages : Prop :=
  ∀ (s : State) (m : Msg), s.lodgeMsg = some m →
    let u := s.takeMsg m
    (s.lodgeOk m = false → exec .badMessage s = .next (u.reply m 3 0 [])) ∧
    (s.lodgeOk m = true → s.ctxOf m.part m.ctx = none →
      ∀ x ∈ [(0x02, Instr.ctxdestroy), (0x03, .launch), (0x04, .signal), (0x05, .qstat), (0x06, .qresume), (0x08, .load), (0x0A, .linkmap)],
        m.ty = x.1 → exec x.2 s = .next (u.reply m 4 0 [])) ∧
    (∀ c, s.lodgeOk m = true → s.ctxOf m.part m.ctx = some c →
      let tok : BitVec 32 := m.w1.truncate 32
      (m.ty = 0x04 → c.tokenRoom tok = true → exec .signal s = .next ((u.modCtx c.id (fun c => c.raise tok [])).reply m 0
        (if c.tokenCount tok = 0xFFFFFFFF then 0xFFFFFFFF else (c.tokenCount tok).toNat + 1) [])) ∧
      (m.ty = 0x04 → c.tokenRoom tok = false → exec .signal s = .next (u.reply m 5 0 [])) ∧
      (m.ty = 0x02 → ∃ t : State, exec .ctxdestroy s = .next (t.reply m 0 0 []) ∧ (∀ x ∈ t.ctxs, x.id ≠ c.id) ∧ (∀ x ∈ t.tiles, x.1.ctx ≠ c.id) ∧
        (∀ p ∈ t.pairings, p.ctx ≠ c.id) ∧ ((∀ x ∈ s.tiles, x.1.ctx = c.id → x.2.lsq = []) →
          (∀ p ∈ s.pairings, p.ctx = c.id → p.active = true) → t.mem = s.mem)) ∧
      (∀ q, c.queue? m.queue = some q →
        (m.ty = 0x05 → exec .qstat s = .next (u.reply m 0 0 [serialWord q.lastAdm, serialWord q.lastStart, serialWord q.lastRet,
          BitVec.ofNat 64 (q.courses.length * 2 ^ 16 + (if q.halted then 1 else 0))])) ∧
        (m.ty = 0x06 → exec .qresume s =
          .next ((u.modCtx c.id (fun c => c.modQueue m.queue (fun q => { q with halted := false }))).reply m 0 0 []))) ∧
      (c.queue? m.queue = none → (m.ty = 0x05 → exec .qstat s = .next (u.reply m 3 0 [])) ∧
        (m.ty = 0x06 → exec .qresume s = .next (u.reply m 3 0 [])) ∧ (m.ty = 0x03 → exec .launch s = .next (u.reply m 3 0 []))))

/-- R326, R327, R331: an object that passes every check is loaded where a free range and frames are left for its code and its data, with status
0 and its address: the pages hold the relocated code, or for a Derura image the template of it, and the relocated data, and the context
knows a translated image by its address and size. Where a range or a frame is missing the status is 5, where the relocated body fails 6,
and then memory stands. The range is the model's free choice, and a template's bundles are those of the model's translation (log 11). -/
def Sys2Proof.Claims.LoadPlaces (s u : State) (m : Msg) (c : Ctx) (o : Tfo) (code data : Nat × TfoImage) : Prop :=
  let size := if code.2.kind = 2 then (translated c.qmode code.2.bytes).length else code.2.size
  let x := u.takeSpan c.asid size
  let refused (status value : Nat) : Prop := ∃ t : State, exec .load s = .next (t.reply m status value []) ∧ t.mem = s.mem ∧ t.ctxs = s.ctxs
  (x.1 = none → refused 5 0) ∧
  (∀ base, x.1 = some base →
    let v := x.2.placeBytes c.id c.asid base 5 (List.replicate size 0)
    let y := v.takeSpan c.asid data.2.size
    (v.spanMapped c.asid base size = false ∨ y.1 = none → refused 5 0) ∧
    (∀ dbase, v.spanMapped c.asid base size = true → y.1 = some dbase →
      let bases := [(code.1, base), (data.1, dbase)]
      let patched := s.relocate c.asid o bases code.2
      (∀ off, code.2.bodyFail patched = some off → refused 6 off) ∧
      (code.2.bodyFail patched = none →
        let final := if code.2.kind = 2 then templateOf c.qmode code.2.bytes patched else patched
        let w := (y.2.placeBytes c.id c.asid base 5 final).placeBytes c.id c.asid dbase 3 (s.relocate c.asid o bases data.2)
        (w.spanMapped c.asid dbase data.2.size = false → refused 5 0) ∧
        (w.spanMapped c.asid dbase data.2.size = true → ∃ t : State, exec .load s = .next (t.reply m 0 base []) ∧ t.mem = w.mem ∧
          (code.2.kind ≠ 2 → t = w) ∧
          (code.2.kind = 2 → ∀ z ∈ t.ctxs, z.id = c.id → ∃ i ∈ z.imgs, i.base = BitVec.ofNat 56 base ∧ i.size = size ∧ i.cur = none)))))

/-- R36, R37, R326, R385, R386: CTXCREATE makes a context with the next identifier that none has where its dies are in service and each has room; LAUNCH
admits a record that passes every check, with the queue's next serial, names the first word that fails, or says that the queue is full;
LOAD names the first failing word of an object, or places it. A record that fails is answered before a full queue is (log 84). -/
def Sys2Proof.Claims.HostWork : Prop :=
  ∀ (s : State) (m : Msg), s.lodgeMsg = some m → s.lodgeOk m = true →
    let u := s.takeMsg m
    (m.ty = 0x01 →
      ((∃ d ∈ maskDies m.w7, (s.dieAt d).cs = false ∨ (s.dieAt d).ms = false) → exec .ctxcreate s = .next (u.reply m 5 0 [])) ∧
      (∀ l, (∀ d ∈ maskDies m.w7, (s.dieAt d).cs = true ∧ (s.dieAt d).ms = true) → s.newSlots m.w7 = some l →
        exec .ctxcreate s = .next (({ u with
          ctxs := s.ctxs ++ [newCtxOf m s.freshCtx l]
          nextCtx := if s.freshCtx + 1 = 0xFFFF then 0 else s.freshCtx + 1 } : State).reply m 0 s.freshCtx.toNat [])) ∧
      (s.ctxs.length < 65535 → ∀ c ∈ s.ctxs, c.id ≠ s.freshCtx)) ∧
    (∀ c, s.ctxOf m.part m.ctx = some c →
      (m.ty = 0x03 → ∀ q, c.queue? m.queue = some q →
        let va : BitVec 56 := m.w2.truncate 56
        (va.toNat % 128 ≠ 0 → exec .launch s = .next (u.reply m 1 0 [])) ∧
        (va.toNat % 128 = 0 → s.virtPa c.asid va .read = none → exec .launch s = .next ((u.noteWalk c.asid va).reply m 1 0x80 [])) ∧
        (∀ pa, va.toNat % 128 = 0 → s.virtPa c.asid va .read = some pa →
          let w (i : Nat) : Nat := s.memRead (pa + 8 * i) 8
          (∀ off, recordFail w c.dieList.length = some off → exec .launch s = .next (u.reply m 1 off [])) ∧
          (recordFail w c.dieList.length = none → 256 ≤ q.courses.length → exec .launch s = .next (u.reply m 2 0 [])) ∧
          (recordFail w c.dieList.length = none → q.courses.length < 256 →
            ∃ t : State, exec .launch s = .next (t.reply m 0 q.next []) ∧ t.mem = s.mem ∧
              (∃ x ∈ t.ctxs, x.id = c.id ∧ ∃ q', x.queue? m.queue = some q' ∧ q'.lastAdm = some q.next ∧ q'.next = (q.next + 1) % 2 ^ 48 ∧
                ∃ y, q'.courses = q.courses ++ [y] ∧ y.serial = q.next ∧ y.started = false ∧ y.gates = (CourseRec.ofWords w).gates)))) ∧
      (m.ty = 0x08 →
        let va := (m.w1.truncate 56 : BitVec 56).toNat
        let u := (u.tfoRanges c.asid va).foldl (fun u x => u.noteRange c.asid x.1 x.2) u
        (∀ off, s.readTfo c.asid va = .error off → exec .load s = .next (u.reply m 6 off [])) ∧
        (∀ o, s.readTfo c.asid va = .ok o →
          (o.select c.qmode = none → exec .load s = .next (u.reply m 6 0x20 [])) ∧
          (∀ code data, o.select c.qmode = some code → o.data = some data →
            (∀ off, s.relocFail c.asid o = some off →
              exec .load s = .next (u.reply m 6 ((earlier (some off) (code.2.bodyFail code.2.bytes)).getD off) [])) ∧
            (s.relocFail c.asid o = none →
              (∀ off, code.2.bodyFail (s.unplaced c.asid o code.2) = some off → exec .load s = .next (u.reply m 6 off [])) ∧
              (code.2.bodyFail (s.unplaced c.asid o code.2) = none → LoadPlaces s u m c o code data))))))

/-- R326: a page that the lodge has mapped for an image of one page holds the image's bytes. -/
def Sys2Proof.Claims.PagesHoldBytes : Prop :=
  ∀ (s : State) (a : AddrSpace) (id : CtxId) (asid : BitVec 16) (va rights pa : Nat) (bs : List Byte), s.canonical →
    s.asids.find? (fun x => x.asid = asid) = some a → bs.length ≤ 16384 →
    (s.mapPage a (BitVec.ofNat 56 va) rights).virtPa asid (BitVec.ofNat 56 va) .read = some pa →
    ∀ i, i < bs.length → some ((s.placeBytes id asid va rights bs).memByte (pa + i)) = bs[i]?

/-- R36, R37, R326, R331, R382-R386, R389, R391, R397: the lodge answers the host's messages. That a die with one side lost takes no context
is the model's (log 57), and so are the place and the bytes of a translation (log 11). -/
def Obligations.LodgeMessages : Prop := HostMessages ∧ HostWork ∧ PagesHoldBytes

/-- R40, R41, R66, R390, R441: the walker of a die that is in service and not hot starts the next gate of its context: every tile of the
unit runs the gate, with its indices, its serial and the course's argument in m60-m63, m59 and m58; a tile of the unit that the context is
first dispatched to starts with a scratchpad of zeros, and every other byte stands. -/
def Sys2Proof.Claims.GateDispatch : Prop :=
  (∀ (s : State) (q : BitVec 4) (cls : Nat) (x : Course) (y : Share) (lead : BitVec 6) (g : Nat),
    (s.dieAt s.cur.die).hot = false → (s.dieAt s.cur.die).cs = true → s.nextOffer s.ctx s.cur.die = some (q, cls, x) →
    s.offer s.ctx x s.cur.die = some (y, lead, g) →
    let key (tid : BitVec 6) : TileKey := { ctx := s.cur.ctx, die := s.cur.die, tid := tid }
    ∃ t, exec .gateDispatch s = .next t ∧ (∀ pa, t.memByte pa = s.memByte pa) ∧
      (∀ k off, ((s.tileAt k).dispatched = true ∨ ∀ tid ∈ unitTiles x.cr lead, k ≠ key tid) →
        (t.tileAt k).byte off = (s.tileAt k).byte off) ∧
      (∀ tid ∈ unitTiles x.cr lead, (s.tileAt (key tid)).dispatched = false → ∀ off, (t.tileAt (key tid)).byte off = 0) ∧
      ∀ tid ∈ unitTiles x.cr lead,
      let b := t.tileAt (key tid)
      (∃ k, b.task = some k ∧ k.q = q ∧ k.course = x.serial ∧ k.gate = g ∧ k.conj = none) ∧
      b.core.m.get 60 = wideOfWord (BitVec.ofNat 64 (gateIdx x.cr g 0)) ∧ b.core.m.get 61 = wideOfWord (BitVec.ofNat 64 (gateIdx x.cr g 1)) ∧
      b.core.m.get 62 = wideOfWord (BitVec.ofNat 64 (gateIdx x.cr g 2)) ∧ b.core.m.get 63 = wideOfWord (BitVec.ofNat 64 (gateIdx x.cr g 3)) ∧
      b.core.m.get 59 = wideOfWord (BitVec.ofNat 64 g) ∧ b.core.m.get 58 = wideOfWord x.cr.arg) ∧
  (∀ s : State, (s.dieAt s.cur.die).hot = true ∨ (s.dieAt s.cur.die).cs = false → exec .gateDispatch s = .next s)

/-- R39, R42, R47, R331, R364, R387-R391: the lodge starts a course whose turn has come, grows one whose generation has ended, retires one
whose work is done, ends one whose tile holds a cause that is neither a service cause, nor a handler's, nor a debugger's, promotes one that has waited, swaps in a retranslation that is done,
and frees a template that its last course has left. Where a retranslation is placed and what it holds is the model's choice (log 11). -/
def Sys2Proof.Claims.CourseSteps : Prop :=
  (∀ (s : State) (q : BitVec 4) (u : Queue) (x : Course), s.ctx.nextStart = some q → s.ctx.queue? q = some u → s.ctx.headReady u = some x →
    (∀ d ∈ courseDies s.ctx x.cr, (s.dieAt d).cs = true ∧ (s.dieAt d).ms = true) → x.gates ≠ 0 →
    ∃ t, exec .courseStart s = .next t ∧ t.ctxs = (s.modCtx s.cur.ctx (fun c => c.startCourse q u x)).ctxs ∧ t.tiles = s.tiles ∧
      t.mem = s.mem) ∧
  (∀ (s : State) (q : BitVec 4) (x : Course),
    (s.ctx.queues.zip (List.range s.ctx.queues.length)).findSome? (fun u =>
      (u.1.courses.find? (fun x => s.extends s.ctx (BitVec.ofNat 4 u.2) x)).map (fun x => (BitVec.ofNat 4 u.2, x))) = some (q, x) →
    ∃ t, exec .growExtension s = .next t ∧ t.tiles = s.tiles ∧ t.mem = s.mem ∧
      t.ctxs = (s.modCtx s.cur.ctx (fun c => c.modCourse q x.serial (fun z =>
        { (z.give c z.gates z.growth) with gates := z.gates + z.growth, growth := 0 }))).ctxs) ∧
  (∀ (s : State) (q : BitVec 4) (n : Nat), s.retiring s.ctx = some (q, n) →
    ∃ t, exec .courseRetire s = .next t ∧ t.ctx.course? q n = none) ∧
  (∀ (s : State) (k : Task) (x : Course), s.tile.frozen = true → s.tile.tv = true → isService s.tile.code = false → s.ctx.debug = false →
    (isRecoverable s.tile.code = true → s.ctx.tvecOn = false ∨ s.tile.inh = true) → s.tile.task = some k →
    s.ctx.course? k.q k.course = some x →
    ∃ t, exec .courseEndByFault s = .next t ∧ t.ctx.course? k.q k.course = none ∧ t.tile.task = none ∧ t.tile.frozen = false ∧
      ∀ u, t.ctx.queue? k.q = some u → u.halted = true) ∧
  (∀ (s : State) (u : Queue) (x : Course), u ∈ s.ctx.queues → x ∈ u.courses → x.starves s.cur.die = true →
    ∃ t, exec .starvationPromotion s = .next t ∧ t.tiles = s.tiles ∧ t.mem = s.mem ∧ ∃ v ∈ t.ctx.queues, ∃ y ∈ v.courses,
      y.serial = x.serial ∧ y.cr = x.cr ∧ ∀ cls, y.classOn cls s.cur.die = 7) ∧
  (∀ (s : State) (j : RetransJob), s.job = some j → s.swapComing = false →
    let place := (({ s with job := none } : State).takeSpan (s.ctxAt j.ctx).asid (retranslated (s.ctxAt j.ctx).qmode j.code).length).1
    ∃ t, exec .retranslationSwap s = .next t ∧ t.tiles = s.tiles ∧ (place = none → t.ctxs = s.ctxs ∧ t.mem = s.mem) ∧
      ∀ v, place = some v → ∀ c ∈ t.ctxs, c.id = j.ctx → ∀ m ∈ c.imgs, m.base = j.base → m.cur = some (BitVec.ofNat 56 v)) ∧
  (∀ (s : State) (m : CtxImage), s.job = none ∨ s.swapComing = true → s.ctx.oldImage = some m →
    ∃ t, exec .retranslationSwap s = .next t ∧ t.tiles = s.tiles ∧
      t.ctx.imgs = s.ctx.imgs.map (fun x => if x = m then { x with freed := true } else x))

/-- R39-R42, R47, R331, R364, R387-R391: gates are dispatched; courses start, grow, retire and end. -/
def Obligations.Courses : Prop := GateDispatch ∧ CourseSteps

/-! ### Slices, pages, errors -/

/-- R392-R396: the only runnable context of a cluster receives a new slice when its slice ends, an idle cluster grants one to the only runnable
context, and with another one runnable the cluster is overrun; tiles that may leave it leave it together, without their buffers; at 4S the
others are frozen; a tile comes back when its context is resident again; a save area outside the populated ranges stops a switch by name (R398). A slice chosen among contexts goes to one of them, for at most S.
Where the lodge keeps a partition under its power cap, a cluster that would grant a slice waits (R441); when it does so is free (log 93). -/
def Obligations.Slices : Prop :=
  (∀ (s : State) (id : CtxId), let cl := keyCluster s.cur
    (s.clusterAt cl).resident = some id → (s.clusterAt cl).overrun = false → (s.clusterAt cl).sliceEnd ≤ s.clock → s.runnable cl = [id] →
    ∃ t, exec .sliceEnd s = .next t ∧
      (s.capHolds cl.die = false → (t.clusterAt cl).resident = some id ∧ (t.clusterAt cl).sliceEnd = s.clock + s.sliceLen cl.die ∧
        (t.clusterAt cl).overrun = false ∧ t.tiles = s.tiles ∧ t.mem = s.mem) ∧
      (s.capHolds cl.die = true → s.allOut id cl = false → (t.clusterAt cl).resident = some id ∧ (t.clusterAt cl).overrun = true ∧
        t.tiles = s.tiles)) ∧
  (∀ (s : State) (id : CtxId), let cl := keyCluster s.cur
    (s.clusterAt cl).resident = none → s.runnable cl = [id] → ((s.clusterAt cl).passOf id).2 < s.sliceLen cl.die →
    (s.clusterAt cl).withheld ≤ s.clock →
    ∃ t, exec .sliceEnd s = .next t ∧ t.tiles = s.tiles ∧ t.mem = s.mem ∧
      (s.capHolds cl.die = false → (t.clusterAt cl).resident = some id ∧
        (t.clusterAt cl).sliceEnd = s.clock + (s.sliceLen cl.die - ((s.clusterAt cl).passOf id).2)) ∧
      (s.capHolds cl.die = true → (t.clusterAt cl).resident = none ∧ s.clock < (t.clusterAt cl).withheld)) ∧
  (∀ (s : State) (id : CtxId), let cl := keyCluster s.cur
    (s.clusterAt cl).resident = some id → (s.clusterAt cl).overrun = false → (s.clusterAt cl).sliceEnd ≤ s.clock → s.runnable cl ≠ [id] →
    s.allOut id cl = false →
    ∃ t, exec .sliceEnd s = .next t ∧ (t.clusterAt cl).resident = some id ∧ (t.clusterAt cl).overrun = true ∧ t.tiles = s.tiles) ∧
  (∀ s : State, (s.clusterAt (keyCluster s.cur)).overrun = true → s.residentAt s.cur = true → s.tile.out = false →
    (∀ k ∈ s.switchSet s.cur, s.maySwitch k = true) →
    (∀ a, s.switchRefused ((s.switchSet s.cur).filter (fun k => !(s.tileAt k).out)) = some a → exec .switchOut s = .fault (.unpopulatedPhysical a)) ∧
    (s.switchRefused ((s.switchSet s.cur).filter (fun k => !(s.tileAt k).out)) = none → ∃ t, exec .switchOut s = .next t ∧ ∀ k ∈ s.switchSet s.cur, (t.tileAt k).out = true ∧ ((s.tileAt k).out = false → (t.tileAt k).ibuf = []))) ∧
  (∀ (s : State) (id : CtxId), let cl := keyCluster s.cur
    (s.clusterAt cl).resident = some id → (s.clusterAt cl).overrun = true → (s.clusterAt cl).sliceEnd + 4 * s.sliceLen cl.die ≤ s.clock →
    ∃ t, exec .forcedPreemption s = .next t ∧ SameBytes s t ∧
      ∀ k ∈ s.clusterKeys id cl, (s.tileAt k).out = false → (s.tileAt k).vacant = false → (t.tileAt k).frozen = true) ∧
  (∀ s : State, s.tile.out = true → s.activeAt s.cur = true →
    (∀ a, s.switchRefused ((s.switchSet s.cur).filter (fun k => (s.tileAt k).out)) = some a → exec .switchIn s = .fault (.unpopulatedPhysical a)) ∧
    (s.switchRefused ((s.switchSet s.cur).filter (fun k => (s.tileAt k).out)) = none →
      ∃ t, exec .switchIn s = .next t ∧ SameBytes s t ∧ ∀ k ∈ s.switchSet s.cur, (t.tileAt k).out = false)) ∧
  (∀ (slice n : Nat) (w : CtxId → Nat) (ids : List CtxId) (c c' : Cluster) (i : CtxId) (k : Nat),
    chooseSlice slice w ids n c = (c', some (i, k)) → i ∈ ids ∧ 0 < k ∧ k ≤ slice)

/-- R406, R410-R413: a page request that begins takes V from every handle of its page that it revokes; a die acknowledges once nothing depends
on them; the page is then copied to its new frame, duplicated on its dies, or its copies are freed, and the request is over. Which frame a
page goes to is free, and a die without a free frame takes none (log 16). -/
def Obligations.PageWork : Prop :=
  (∀ (s : State) (r : PageReq) (frame : Nat) (sz : BitVec 2), s.nextPage = some r → r.begun = false → s.workOk r = true →
    (∀ k i, r.work ≠ .serve k i) → (∀ a e, r.work ≠ .change a e) → s.frameOf r = some (frame, sz) →
    ∃ t, exec .revokeHandles s = .next t ∧ ∀ (k : TileKey) (i : Fin 16), (s.ctxAt k.ctx).asid = r.pg.asid →
      ((s.tileAt k).core.h.get i).ofPage r.pg.va sz = true → r.work.takes ((s.tileAt k).core.h.get i) = true →
      ((t.tileAt k).core.h.get i).v = false) ∧
  (∀ (s : State) (die : DieId) (pg : PageRef) (r : PageReq),
    s.pageReqs.find? (fun r => r.pg = pg && r.begun && die ∈ r.waiting) = some r →
    (∀ f ∈ s.framesOf r, s.dependent die pg.asid f.1 (pageSize f.2) = false) →
    ∃ t, exec (.revocationAck die pg) s = .next t ∧ t.tiles = s.tiles ∧ t.mem = s.mem ∧
      t.pageReqs = s.pageReqs.map (fun x => if x = r then { x with waiting := r.waiting.filter (· ≠ die) } else x)) ∧
  (∀ (s : State) (r : PageReq) (dst : DieId) (l : Leaf) (at_ : Nat),
    s.pageWork (fun w => match w with | .migrate _ => true | _ => false) = some r → r.work = .migrate dst → s.pageLeaf r.pg = some (l, at_) →
    s.workOk r = true → r.begun = true → r.waiting = [] → (∀ c ∈ s.ctxs, c.asid = r.pg.asid → c.updates = []) →
    ∃ t, exec .migratePage s = .next t ∧ t.pageReqs = s.pageReqs.erase r ∧
      ((s.takeFrame dst l.sz).1 = none → ∀ a, ¬(at_ ≤ a ∧ a < at_ + 8) → t.memByte a = s.memByte a) ∧
      (∀ new, (s.takeFrame dst l.sz).1 = some new →
        t.dups = s.dups.map (fun d => if d.frame = l.frame then { d with frame := new } else d)) ∧
      (s.canonical → ∀ new, (s.takeFrame dst l.sz).1 = some new → ∀ i, i < pageSize l.sz → ¬(at_ ≤ new + i ∧ new + i < at_ + 8) → t.memByte (new + i) = s.memByte (l.frame + i))) ∧
  (∀ (s : State) (r : PageReq) (dies : Word) (l : Leaf) (at_ : Nat),
    s.pageWork (fun w => match w with | .duplicate _ => true | _ => false) = some r → r.work = .duplicate dies →
    s.pageLeaf r.pg = some (l, at_) → l.mig = false → s.workOk r = true → r.begun = true → r.waiting = [] →
    let copies := (s.makeCopies l (dupDies dies l.frame)).1
    ∃ t, exec .duplicatePage s = .next t ∧ t.pageReqs = s.pageReqs.erase r ∧
      t.dups = { pg := { asid := l.asid, va := l.va }, frame := l.frame, sz := l.sz, copies := copies } :: s.dups ∧
      (∀ x ∈ copies, x.1.toNat ∈ dupDies dies l.frame) ∧
      (copies.length = (dupDies dies l.frame).length → copies.map (fun x => x.1.toNat) = dupDies dies l.frame)) ∧
  (∀ (s : State) (r : PageReq) (l : Leaf) (at_ : Nat), s.pageWork (fun w => w = .endDup) = some r → s.pageLeaf r.pg = some (l, at_) →
    r.begun = true → r.waiting = [] →
    ∃ t, exec .duplicationEnd s = .next t ∧ t.pageReqs = s.pageReqs.erase r ∧
      t.dups = s.dups.filter (fun x => !l.maps x.pg.asid x.pg.va))

/-- R414-R418, R420, R421, R441: an uncorrectable error freezes its tile with "soft error" and starts a self-test, which resumes the tile or
takes a side of the die or an edge out of service; a corrected one is logged; consumed poison freezes; a failed edge and heat act on the
service state of the dies, and a link whose retries are spent is tested. How long a test takes and how it ends is free (logs 3, 60). -/
def Obligations.Errors : Prop :=
  (∀ (s : State) (e : ErrSite), ∃ t, exec (.uncorrectableError e) s = .next t ∧
    (∀ k, siteTile e = some k → (s.tileAt k).frozen = false → (s.tileAt k).priv = false →
      (t.tileAt k).frozen = true ∧ (t.tileAt k).code = 0x31 ∧
      (t.tileAt k).tinfo.get 0 = BitVec.ofNat 64 ((if s.siteLost e then 512 else 0) + siteStruct e) ∧
      (t.tileAt k).tinfo.get 1 = siteLoc e) ∧
    (siteStruct e = 1 ∨ siteStruct e = 6 → t.sitePoisoned e = true) ∧
    (s.siteLost e = false → ∃ x ∈ (t.dieAt (siteDie e)).testing, x.1 = e ∧ x.2.2 = s.cycle (siteDie e))) ∧
  (∀ (s : State) (e : ErrSite), ∃ t, exec (.correctedError e) s = .next t ∧ t.tiles = s.tiles ∧ t.mem = s.mem ∧
    errRec (s.cycle (siteDie e)) 0 (siteStruct e) (siteLoc e) 0 ∈ (t.dieAt (siteDie e)).errs) ∧
  (∀ (s : State) (e : ErrSite), s.sitePoisoned e = true → s.tile.frozen = false → s.tile.priv = false →
    ∃ t, exec (.poisonConsumed e) s = .next t ∧ t.tile.frozen = true ∧ t.tile.code = 0x31 ∧
      t.tile.tinfo.get 0 = BitVec.ofNat 64 (256 + siteStruct e) ∧ t.tile.tinfo.get 1 = siteLoc e) ∧
  (∀ (s : State) (e : ErrSite) (x : ErrSite × Nat × Nat), (s.dieAt (siteDie e)).testing.find? (fun y => y.1 = e) = some x →
    (∃ t, exec (.selfTestComplete e false) s = .next t ∧ (siteSide e = some true → (t.dieAt (siteDie e)).cs = false) ∧
      (siteSide e = some false → (t.dieAt (siteDie e)).ms = false) ∧
      (∀ d, (e = .link d .edgeEast → (t.dieAt d).edgeE = false) ∧ (e = .link d .edgeSouth → (t.dieAt d).edgeS = false))) ∧
    (∃ t, exec (.selfTestComplete e true) s = .next t ∧ (t.dieAt (siteDie e)).cs = (s.dieAt (siteDie e)).cs ∧
      (t.dieAt (siteDie e)).ms = (s.dieAt (siteDie e)).ms ∧
      errRec x.2.2 0 (siteStruct e) (siteLoc e) 1 ∈ (t.dieAt (siteDie e)).errs ∧
      ∀ k, siteTile e = some k → (s.tileAt k).frozenFor (errRec x.2.2 0 (siteStruct e) (siteLoc e) 1) = true →
        s.towSet k = [k] → (s.tileAt k).heldCauses = [] → (t.tileAt k).frozen = false)) ∧
  (∀ (s : State) (die : DieId) (ring : Bool), ∃ t, exec (.networkFlitFailure die ring) s = .next t ∧ t.tiles = s.tiles ∧ t.mem = s.mem ∧
    t.ctxs = s.ctxs ∧ (t.dieAt die).cs = (s.dieAt die).cs ∧ (t.dieAt die).ms = (s.dieAt die).ms ∧
    ∃ x ∈ (t.dieAt die).testing, x.1 = .link die (if ring then .ring else .net)) ∧
  (∀ (s : State) (die : DieId) (south : Bool), ∃ t, exec (.ucieEdgeFailure die south) s = .next t ∧
    (if south then (t.dieAt die).edgeS else (t.dieAt die).edgeE) = false ∧
    ∀ n, n < 64 → n ∉ (s.modDie die (fun d => if south then { d with edgeS := false } else { d with edgeE := false })).routed 63 →
      (t.dieAt (BitVec.ofNat 6 n)).cs = false ∧ (t.dieAt (BitVec.ofNat 6 n)).ms = false) ∧
  (∀ (s : State) (die : DieId),
    (∃ t, exec (.thermalThreshold die .hot105) s = .next t ∧ (t.dieAt die).hot = true ∧ t.tiles = s.tiles ∧ t.ctxs = s.ctxs) ∧
    (∃ t, exec (.thermalThreshold die .cool100) s = .next t ∧ (t.dieAt die).hot = false ∧ t.tiles = s.tiles ∧ t.ctxs = s.ctxs) ∧
    (∃ t, exec (.thermalThreshold die .junction115) s = .next t ∧ (t.dieAt die).cs = false) ∧
    (∃ t, exec (.thermalThreshold die .stack115) s = .next t ∧ (t.dieAt die).ms = false))

/-! ### The federation -/

/-- R422, R425-R427, R438-R440: a groomer core answers DIESTAT, ERRREAD and TELEM; the lodge sets inboxes, writes the signed report where it is
asked for, resets a die, whose switched-out tiles stand in its stack until that is reset too, of which a free value says whether it passes its bring-up test (log 3), and enters a pairing that waits for its peer.
Where the host's memory stands, how its inboxes lie and what becomes of a page that cannot serve a pairing are the model's choice, and that a
die with one side lost still answers is its reading (logs 21, 32, 33, 58). -/
def Obligations.DieMessages : Prop :=
  (∀ (s : State) (m : Msg), s.dieMsg s.cur.die = some m → s.groomerOk s.cur.die m = true → (s.dieAt s.cur.die).out = false →
    let u := s.takeMsg m
    let d := s.dieAt s.cur.die
    (m.ty = 0x10 → exec .diestat s = .next (u.reply m 0 0
      [BitVec.ofNat 64 ((if d.cs then 1 else 0) + (if d.ms then 2 else 0) + (if s.cur.die.toNat < 8 ∨ 56 ≤ s.cur.die.toNat then 4 else 0)),
       BitVec.ofNat 64 d.residents.length, BitVec.ofNat 64 (s.clock + d.cyc)])) ∧
    (m.ty = 0x11 → ∀ r, d.errs[m.w1.toNat]? = some r →
      exec .errread s = .next (u.reply m 0 0 [s.cur.die.zeroExtend 64, r.tcause, r.i0, r.i1, r.i2, r.i3])) ∧
    (m.ty = 0x12 → ∃ (t : State) (l : List Word), l.length = 4 ∧ exec .telem s = .next (t.reply m 0 0 l) ∧ t.mem = s.mem ∧ t.tiles = s.tiles)) ∧
  (∀ (s : State) (m : Msg), s.lodgeMsg = some m → s.lodgeOk m = true →
    let u := s.takeMsg m
    (m.ty = 0x07 → ∃ t : State, exec .inbox s = .next (t.reply m 0 0 []) ∧ t.tiles = s.tiles ∧ ∀ e : BitVec 7, e.toNat < 65 →
      ∃ i, t.inboxOf m.part e = some i ∧ i.base = bitsOf m.w1.toNat 12 44 * 4096 + 64 * m.w2.toNat * e.toNat ∧ i.slots = m.w2.toNat) ∧
    (m.ty = 0x09 → ∃ t : State, exec .attest s = .next (t.reply m 0 0x165F []) ∧ t.tiles = s.tiles ∧ t.buf.signed = true ∧
      (u.reportBody [m.w2, m.w3, m.w4, m.w5] m.part ∈ t.buf.reports) ∧
      (s.canonical → ∀ (i : Nat) (b : Byte), (u.reportBody [m.w2, m.w3, m.w4, m.w5] m.part)[i]? = some b →
        t.memByte (hostPa m.w1.toNat + i) = b)) ∧
    (m.ty = 0x0B →
      let d : DieId := m.w1.extractLsb' 0 6
      let ok : Bool := (Config.freeWord (u.resetSides d (m.w1.getLsbD 8)).free).getLsbD 0
      ∃ t : State, exec .diereset s = .next (t.reply m (if ok then 0 else 7) 0 []) ∧ 
        (∀ x ∈ t.tiles, x.1.die = d → x.2.out = true ∧ m.w1.getLsbD 8 = false) ∧ (∀ r ∈ s.checked, r ∈ t.images) ∧
        (t.dieAt d).cs = ok ∧ (t.dieAt d).inReset = !ok ∧ (t.dieAt d).errs = [] ∧
        (m.w1.getLsbD 8 = true → (t.dieAt d).ms = ok ∧ ∀ a, d.toNat * 2 ^ 36 ≤ a → a < (d.toNat + 1) * 2 ^ 36 → t.memByte a = 0)) ∧
    (m.ty = 0x0A → ∀ c, s.ctxOf m.part m.ctx = some c →
      let port : BitVec 4 := m.w1.extractLsb' 0 4
      let va : BitVec 56 := BitVec.ofNat 56 (bitsOf m.w1.toNat 14 42 * 2 ^ 14)
      ((s.dieAt (portDie port)).ms = false → exec .linkmap s = .next (u.reply m 5 0 [])) ∧
      ((s.dieAt (portDie port)).ms = true → ∀ f, (u.proxyFrame c.asid va (portDie port)).1 = some f →
        ∃ t, exec .linkmap s = .next t ∧ t.tiles = s.tiles ∧ ∃ p ∈ t.pairings, p.port = port ∧ p.ctx = c.id ∧ p.va = va ∧ p.frame = f ∧
          p.key = m.w3 ∧ p.active = false ∧ ∃ e ∈ t.events, e.due = s.clock + 2 ^ 32 ∧ e.step = .linkmapTimeout)))

/-- R422, R429, R431, R433-R435, R438, R440: a message to the host stands in its slot with its phase bit, or is held while no slot is free; a bad
aperture write, or a message to a die outside the partition, changes nothing but its log; forwarded units land in the page of their pairing; a
link's failure, a refusal of the peer and the end of its context fail the copies concerned; a matching peer makes a pairing active; a package
reset leaves no context, no tile and no byte of DRAM, and host memory as it was, with the dies of boot flash's record, which a free value says was written anew or not (log 4). Where the host's
memory stands among physical addresses is the model's choice (log 21), and so is how its inboxes lie (log 32). -/
def Obligations.HostSide : Prop :=
  (∀ (s : State) (part : BitVec 4) (ep : BitVec 7) (i : Inbox) (ws : List Word), s.outbox = [] → s.inboxOf part ep = some i →
    ((i.idx + 2 ^ 32 - i.cons) % 2 ^ 32 < i.slots → (s.post part ep ws).outbox = [] ∧ (s.post part ep ws).tiles = s.tiles ∧
      (s.post part ep ws).mem = cellsWrite s.mem (hostPa (i.base + 64 * (i.idx % i.slots))) (wordsBytes (slotWords ws i.idx i.slots))) ∧
    (i.slots ≤ (i.idx + 2 ^ 32 - i.cons) % 2 ^ 32 → s.post part ep ws = { s with outbox := [{ part := part, ep := ep, w := ws }] })) ∧
  (∀ (s : State) (part : BitVec 4) (ep : BitVec 7) (v : BitVec 32), s.apertureOk part ep 0x40 4 = false →
    exec (.inboxConsumerIndex part ep v) s = .next { s with advisories := s.advisories + 1 }) ∧
  (∀ (s : State) (part : BitVec 4) (ep : BitVec 7) (v : BitVec 32) (i : Inbox), s.apertureOk part ep 0x40 4 = true →
    s.inboxOf part ep = some i → ∃ t j, exec (.inboxConsumerIndex part ep v) s = .next t ∧ t.inboxOf part ep = some j ∧ j.cons = v.toNat ∧ j.base = i.base ∧
      j.slots = i.slots ∧ t.tiles = s.tiles) ∧
  (∀ (s : State) (part : BitVec 4) (ep : BitVec 7) (off len : BitVec 12),
    exec (.apertureBadWrite part ep off len) s =
      .next (if s.apertureOk part ep off len then s
        else { s with advisories := s.advisories + 1, msgs := s.dropForeign part ep })) ∧
  (∀ (s : State) (port : BitVec 4) (key : Word) (off : BitVec 14) (unit : Word) (poison : Bool) (p : Pairing),
    s.pairings.find? (fun p => p.port = port && p.key = key && p.active) = some p →
    let pa := p.frame + off.toNat / 8 * 8
    ∃ t, exec (.forwardedWriteArrival { port := port, key := key } off unit poison) s = .next t ∧ (t.memPoison.contains pa) = poison ∧
      (s.canonical → ∀ i, i < 8 → t.memByte (pa + i) = byteOf unit.toNat i) ∧ (∀ a, ¬(pa ≤ a ∧ a < pa + 8) → t.memByte a = s.memByte a) ∧
      (∀ k o, (t.tileAt k).byte o = (s.tileAt k).byte o)) ∧
  (∀ (s : State) (port : BitVec 4),
    (∃ t, exec (.packageLinkFailure { port := port, what := .link }) s = .next t ∧ SameBytes s t ∧
      (∀ p ∈ t.pairings, p.port = port → p.up = false) ∧
      ∀ c ∈ t.ctxs, ∀ q ∈ c.copyQs, ∀ e ∈ q.entries, e.port = some port → e.failed = true) ∧
    (∀ (q : Bool) (idx : BitVec 32), ∃ t, exec (.packageLinkFailure { port := port, what := .refused q idx }) s = .next t ∧ SameBytes s t ∧
      t.pairings = s.pairings ∧ ∀ c ∈ t.ctxs, c.id = s.cur.ctx → ∀ x ∈ c.copyQs, x.die = s.cur.die → x.q = q →
        ∀ e ∈ x.entries, e.idx = idx → e.port = some port → e.failed = true) ∧
    (∀ key : Word, ∃ t, exec (.packageLinkFailure { port := port, what := .peerEnd key }) s = .next t ∧ SameBytes s t ∧
      t.pairings = s.pairings.filter (fun p => !(p.port = port && p.key = key && p.active)) ∧
      ∀ p ∈ s.pairings, p.port = port → p.key = key → p.active = true → ∀ c ∈ t.ctxs, c.id = p.ctx → ∀ x ∈ c.copyQs,
        ∀ e ∈ x.entries, e.toPairing p = true → e.failed = true)) ∧
  (∀ (s : State) (port : BitVec 4) (key : Word) (station : BitVec 48) (p : Pairing), assocGet s.stations port = some station →
    s.pairings.find? (fun p => p.port = port && p.key = key && !p.active) = some p →
    ∃ t, exec (.pairingActive port key station) s = .next t ∧ t.tiles = s.tiles ∧ { p with active := true, up := true } ∈ t.pairings) ∧
  (∀ s : State, ∃ t, exec .linkmapTimeout s = .next t ∧ t.tiles = s.tiles ∧
    t.pairings = s.pairings.filter (fun p => !(!p.active && p.since + 2 ^ 32 ≤ s.clock))) ∧
  (∀ s : State, ∃ t, exec .packageReset s = .next t ∧ t.ctxs = [] ∧ t.tiles = [] ∧ t.asids = [] ∧ (∀ pa, pa < 2 ^ 49 → t.memByte pa = 0) ∧
    t.flashRec = (if (Config.freeWord (s.free + 69)).getLsbD 0 then Config.bootRecord s.free else s.flashRec) ∧
    t.parts = t.flashRec.parts.filter (fun x => x.1.toNat ∉ homeDies) ∧
    ∀ pa, 2 ^ 49 ≤ pa → t.memByte pa = s.memByte pa)

/-- R6, R401, R407, R413: the monitor's change r of the entry at pa is made at once where no request on a page that it concerns stands before
it: the entry is written, and every leaf that is gone or lost a right, a frame or its copies asks for its revocation; elsewhere the change
joins the requests. -/
def Sys2Proof.Claims.ChangesEntry (s : State) (r : PageReq) (pa e : Nat) (i : Instr) : Prop :=
  let u : State := { s with a0 := 0, pageReqs := s.pageReqs ++ [r] }
  (r ∉ s.pageReqs → u.firstOfPage r = true → ∃ t, exec i s = .next t ∧ t.a0 = 0 ∧ t.mem = (s.memWrite pa (bytesOf e 8)).mem ∧
    t.tiles = s.tiles ∧ ∀ l ∈ lostLeaves s.allLeaves t.allLeaves, l.revocation ∈ t.pageReqs) ∧
  (r ∈ s.pageReqs ∨ u.firstOfPage r = false → exec i s = .next u)

/-- R400-R402, R407, R413, R436, R437, R439: the monitor makes and frees address spaces, writes table entries and leaves, verifies images and
signs its report; a call that it refuses has a negative result and no effect: a table outside the home dies, a pointer in a level-0 table, an
entry with reserved bits, a leaf whose frame breaks its limits, an image that does not verify, a report that it did not build. A leaf that
loses a right or a frame asks for its handles to be revoked; a change of a page with requests waits for its turn. Reserved bits of a
leaf's or an invalid entry are not stored (R6); a groomer or patrol image runs from the next reset of its cores (R422). Which calls these are is the model's reading of R402 and R436 (log 61); which frame it takes, and where the save areas begin, are
its choice (logs 16, 31). -/
def Obligations.MonitorCalls : Prop :=
  ∀ s : State,
    let refuses (i : Instr) : Prop := ∃ t, exec i s = .next t ∧ t.a0.getLsbD 63 = true ∧ t.mem = s.mem ∧ t.asids = s.asids ∧
      t.images = s.images ∧ t.checked = s.checked ∧ t.buf = s.buf ∧ t.tiles = s.tiles
    (∀ part, s.asids.length < 4096 → (∃ n, n < 65536 ∧ ∀ a ∈ s.asids, a.asid.toNat ≠ n) →
      ∃ t, exec (.asidnew part) s = .next t ∧
        (∀ root, s.takeTable.1 = some root → ∃ n, n < 65536 ∧ t.a0 = BitVec.ofNat 64 n ∧ (∀ a ∈ s.asids, a.asid.toNat ≠ n) ∧
          t.asids = { asid := BitVec.ofNat 16 n, part := part, root := root } :: s.asids ∧
          (∀ i, i < 2 ^ 14 → t.memByte (root + i) = 0)) ∧
        (s.takeTable.1 = none → refuses (.asidnew part))) ∧
    (∀ part, 4096 ≤ s.asids.length → refuses (.asidnew part)) ∧
    (∀ asid, (∀ c ∈ s.ctxs, c.asid ≠ asid) → (∃ a ∈ s.asids, a.asid = asid) →
      ∃ t, exec (.asidfree asid) s = .next t ∧ t.a0 = 0 ∧ t.asids = s.asids.filter (fun a => a.asid ≠ asid) ∧ t.mem = s.mem) ∧
    (∀ asid, (∃ c ∈ s.ctxs, c.asid = asid) → refuses (.asidfree asid)) ∧
    (∀ (pa : BitVec 50) (e : Word),
      (pa.toNat % 8 = 0 → tableFrameOk (pa.toNat / 2 ^ 14 * 2 ^ 14) = true → tableEntryOk e.toNat = true →
        s.pointsTooLow pa.toNat e.toNat = false →
        ChangesEntry s { pg := { asid := 0, va := 0 }, work := .change pa.toNat (BitVec.ofNat 64 (entryWord e)), old := none, begun := false,
                         waiting := [] } pa.toNat (entryWord e) (.tableset pa e)) ∧
      (pa.toNat % 8 ≠ 0 ∨ tableFrameOk (pa.toNat / 2 ^ 14 * 2 ^ 14) = false ∨ tableEntryOk e.toNat = false ∨
        s.pointsTooLow pa.toNat e.toNat = true → refuses (.tableset pa e))) ∧
    (∀ (part : BitVec 4) (pg : PageRef) (pa : BitVec 50) (e : Word) (a : AddrSpace),
      s.asids.find? (fun a => a.asid = pg.asid && a.part = part) = some a →
      (∀ level, entryLevel s.mem pg.va pa.toNat 4 a.root = some level →
        (s.leafEntryOk part level (entryWord e) = true →
          ChangesEntry s { pg := pg, work := .change pa.toNat (BitVec.ofNat 64 (entryWord e)), old := none, begun := false, waiting := [] }
            pa.toNat (entryWord e) (.leafset part pg pa e)) ∧
        (s.leafEntryOk part level (entryWord e) = false → refuses (.leafset part pg pa e))) ∧
      (entryLevel s.mem pg.va pa.toNat 4 a.root = none → refuses (.leafset part pg pa e))) ∧
    (∀ (part : BitVec 4) (pg : PageRef) (pa : BitVec 50) (e : Word), (∀ a ∈ s.asids, a.asid = pg.asid → a.part ≠ part) →
      refuses (.leafset part pg pa e)) ∧
    (∀ img, s.imageOk img = true → ∃ t, exec (.imgcheck img) s = .next t ∧ t.a0 = 0 ∧ t.mem = s.mem ∧
      (imgWord img 4 2 = 3 ∨ imgWord img 4 2 = 4 → ∃ r ∈ t.checked, r.ty = BitVec.ofNat 16 (imgWord img 4 2) ∧
        r.version = BitVec.ofNat 32 (imgWord img 8 4) ∧ r.digest = BitVec.ofNat 384 (ofBytes (Config.digest img))) ∧
      (imgWord img 4 2 ≠ 3 → imgWord img 4 2 ≠ 4 → t.checked = s.checked) ∧ t.images = s.images) ∧
    (∀ img, s.imageOk img = false → refuses (.imgcheck img)) ∧
    (s.buf.asked ∈ s.buf.reports →
      exec .attestsign s = .next ({ s with buf := { s.buf with signed := true } }.callResult 0)) ∧
    (s.buf.asked ∉ s.buf.reports → refuses .attestsign)

/-! ### Reset, steps, encodings, memory -/

/-- R29, R66, R144, R145, R239, R422, R440: after reset no context and no tile is in use, every byte of memory reads 0 and every die is
in service; a tile that a context is first dispatched to has every register, port and predicate but p0 at zero, recorded masks of
ones, matrix mode 0b01 with no page and no accumulator in use, no task, no trap and empty cells. A value that the rules do not give is the
model's choice: log 8 for registers, log 4 for the package, log 7 for host memory. -/
def Obligations.ResetState : Prop :=
  State.reset.ctxs = [] ∧ State.reset.tiles = [] ∧ (∀ pa, State.reset.memByte pa = 0) ∧
  (∀ d, (State.reset.dieAt d).cs = true ∧ (State.reset.dieAt d).ms = true ∧ (State.reset.dieAt d).c0.resident = none) ∧
  (∀ k, State.reset.tileAt k = Tile.reset) ∧
  (∀ n : BitVec 6, Tile.reset.core.m.get n.toFin = 0) ∧ (∀ n : BitVec 3, Tile.reset.core.o.get n.toFin = 0) ∧
  (∀ n : BitVec 5, Tile.reset.core.pred n = if n = 0 then BitVec.allOnes 64 else 0) ∧
  (∀ n : BitVec 4, Tile.reset.core.h.get n.toFin = Handle.reset) ∧
  (∀ sk pt, Tile.reset.core.opnd' sk pt = 0 ∧ Tile.reset.core.mask' sk pt = BitVec.allOnes 64) ∧
  (∀ sk p, Tile.reset.core.res' sk p = 0 ∧ Tile.reset.core.pending sk p = false) ∧
  Tile.reset.core.mx.mxcfg = 1 ∧ Tile.reset.core.mx.pages = [] ∧ Tile.reset.core.mx.acc = [] ∧
  Tile.reset.task = none ∧ Tile.reset.frozen = false ∧ Tile.reset.tv = false ∧ Tile.reset.inh = false ∧ Tile.reset.priv = false ∧
  (∀ off, Tile.reset.byte off = 0 ∧ Tile.reset.cellFull off = false)

/-- R66, R440: the memories have their canonical form after reset. -/
def Obligations.ResetCanonical : Prop := State.reset.canonical

/-- R66, R101, R440: the invariant of the memories: every step that answers a next state keeps their canonical form. -/
def Obligations.StepKeepsCanonical : Prop := ∀ s t : State, s.canonical → step s = .next t → t.canonical

/-- The words of every well-formed instruction decode to it: no operand and no bit of an encoding is dropped (R191-R217, R225). -/
def Obligations.RoundTripAll : Prop := ∀ i : Instr, i.wf = true → ∀ e, encode i = some e → decode e = .ok i

/-- R192-R203, R225, R227-R237: words written out from the encodings decode to the instructions they stand for. -/
def Obligations.DecodeWords : Prop :=
  decodeControl 0x00000000 = .ok (.nop { p := 0, inv := false }) ∧
  decodeControl 0xFFFFA082 = .ok (.brp 0x7FFFD { p := 2, inv := false }) ∧
  decodeControl 0x0000E140 = .ok (.ret 7 { p := 0, inv := false }) ∧
  decodeControl 0x60000180 = .ok (.loop 3 0 { p := 0, inv := false }) ∧
  decodeControl 0x00054340 = .ok (.trapu 0x2A { p := 0, inv := false })

/-- R23, R52, R192, R204: a step that is due, or that the state enables, is taken; where there is none and it is the turn of a tile that runs and
whose next bundle is in its buffer, the step is the issue of that bundle, with its course's profile where it was translated; and a clock passes when every tile has had its turn. The order of
steps that fall due together is the model's choice (log 2). -/
def Obligations.StepIssuesBundle : Prop :=
  (∀ (s : State) (e : Event), s.dueEvent = some e → step s = exec e.step { s with events := s.events.erase e, cur := e.at_ }) ∧
  (∀ (s : State) (x : TileKey × Instr), s.dueEvent = none → s.lateCell = none → s.enabled = some x → step s = exec x.2 { s with cur := x.1 }) ∧
  (∀ (s : State) (k : TileKey) (b : BitVec 512), s.dueEvent = none → s.lateCell = none → s.enabled = none → s.nextTurn = some k →
    let v : State := s.atTurn k
    v.takesTurn k = true → (v.tile.task.isSome = true ∨ v.tile.priv = true) → v.tile.inTow = false →
    v.tile.core.seq.diverged = none → v.tile.core.seq.skew = 0 → v.tile.core.seq.barrier = none → v.tile.core.seq.waitu = none → v.tile.core.seq.waitb = none →
    v.tile.core.seq.drain = false → v.tile.core.seq.owe = 0 → v.tile.core.seq.waitLeft = 0 →
    v.tile.buffered v.tile.core.seq.pc = some b →
    step s = exec (.bundleIssue (v.profiled b)) v) ∧
  (∀ s : State, s.dueEvent = none → s.lateCell = none → s.enabled = none → s.turn = [] → ∃ t, step s = .next t ∧ t.clock = s.clock + 1 ∧ t.tiles = s.tiles ∧
    t.mem = s.mem)

/-- The state of a tile that reads a bundle: its address and its header are the sequencer's (R191). -/
def Sys2Proof.Claims.reading (s : State) (b : BitVec 512) : State :=
  s.modTile (fun t => t.mapSeq (fun q => { q with here := q.pc, hdr := bundleHdr b, slot := 11, target := none, safe := false }))

/-- R191, R192, R205: a user-mode bundle that fails a check of its encoding, and no check before it, raises "illegal bundle" with the code and
slot of the first failure and that slot's bits; for a reserved bit of the header or of bits [511:496] these are 0x01, slot 11, and both
fields. -/
def Sys2Proof.Claims.IllegalBundles : Prop :=
  ∀ (s : State) (b : BitVec 512), s.tile.frozen = false → s.tile.priv = false → s.tile.core.seq.diverged = none → s.tile.core.spin = none →
    s.tile.inTow = false → (reading s b).orbitFirst b = none → (reading s b).bundlePriv b = none → (hdrNprof (bundleHdr b)).toNat < 8 →
    let illegal (i1 i2 : Word) : Cause := { code := 0x01, tepc := s.tile.core.seq.pc, i0 := addrWord s.tile.core.seq.pc, i1 := i1, i2 := i2, i3 := 0 }
    (∀ e, checkBundle false false [] b = .error e →
      exec (.bundleIssue b) s = .next ((reading s b).takeTrap (illegal (BitVec.ofNat 64 (e.1.code.toNat * 256 + e.2)) (rawSlot b e.2)))) ∧
    ((bundleHdr b).extractLsb' 11 5 ≠ 0 ∨ bundleTop b ≠ 0 →
      exec (.bundleIssue b) s = .next ((reading s b).takeTrap (illegal 0x010B ((bundleTop b ++ bundleHdr b : BitVec 32).zeroExtend 64))))

/-- R56, R57, R58, R77, R78: a MARK bundle of no operation that neither stalls nor traps commits its region and takes the mark: stores to the
tile's own scratchpad write their bytes in program order; stores to the window and through handles join the tile's committed operations;
a CELLW or CELLWR sets its cell full and stores its word. -/
def Sys2Proof.Claims.RegionCommits : Prop :=
  ∀ (s : State) (b : BitVec 512) (hdr : BitVec 16) (h : Guard), s.canonical → (reading s b).checkIssue b = .ok { hdr := hdr, ctl := .nop h, moves := [] } →
    hdrMark hdr = true → hdrSpinrec hdr = false → s.tile.frozen = false → s.tile.priv = false → s.tile.core.seq.diverged = none →
    s.tile.inTow = false → s.tile.core.spin = none → s.ctx.qmode = false → s.tile.core.seq.loops = [] → s.tile.core.seq.kernelDone = true →
    s.tile.lsq = [] → s.tile.core.seq.fences = [] → (reading s b).closeStall = false → (reading s b).closeCause = none →
    ∃ t, exec (.bundleIssue b) s = .next t ∧ t.tile.gated = [] ∧ t.tile.stores = 0 ∧ t.tile.mark = t.tile.core ∧
      t.tile.core.seq.pc = s.tile.core.seq.pc + 64 ∧ SameFiles s.tile.core t.tile.core ∧
      ((∀ g ∈ s.tile.gated, addrSpace g.addr = 0 ∧ ∃ bs o, g.kind = .write bs ∧ g.place = .scratch s.cur.tid o) →
        ∀ off, t.tile.byte off = s.tile.gated.foldl (fun old g => match g.kind, g.place with
          | .write bs, .scratch _ o => if o ≤ off then storedByte bs (off - o) old else old
          | _, _ => old) (s.tile.byte off)) ∧
      ((∀ g ∈ s.tile.gated, addrSpace g.addr ≠ 0 ∧ ∃ bs, g.kind = .write bs) → t.tile.lsq = s.tile.gated.map .store ∧ SameBytes s t) ∧
      (∀ g v tid off, s.tile.gated = [g] → g.kind = .cellw v ∨ g.kind = .cellwr v → g.place = .scratch tid off →
        (g.kind = .cellwr v → s.goesBehind g.place = false) →
        (t.tileAt (keyPeer s.cur tid)).cellFull off = true ∧ (∀ i, i < 8 → (t.tileAt (keyPeer s.cur tid)).byte (off + i) = byteOf v.toNat i) ∧
        (∀ k o, ¬(k = keyPeer s.cur tid ∧ off ≤ o ∧ o < off + 8) → (t.tileAt k).byte o = (s.tileAt k).byte o) ∧
        (∀ k o, ¬(k = keyPeer s.cur tid ∧ o = off) → (t.tileAt k).cellFull o = (s.tileAt k).cellFull o))

/-- R19, R192, R204, R221: a bundle that passes its checks and holds one operation of an alu beside NOPs issues: its result is one clock from its port, the
sequencer goes on 64 bytes further, and no register and no byte of memory changes. -/
def Sys2Proof.Claims.AluBundles : Prop :=
  ∀ (u : Twin) (e : (Src → Guard → Instr) × (Word → Word → Word → Word)) (src : Src) (g h : Guard) (s : State) (b : BitVec 512) (hdr : BitVec 16)
    (j : Nat), e ∈ aluOps u →
    let p := reading s b
    p.checkIssue b = .ok { hdr := hdr, ctl := .nop h, moves := [(j, e.1 src g)] } → hdrMark hdr = false → hdrSpinrec hdr = false →
    ScalarIssues (aluOfTwin u) src g p → s.tile.core.seq.diverged = none → s.tile.inTow = false → s.tile.core.spin = none → s.ctx.qmode = false →
    s.tile.core.seq.loops = [] → s.tile.core.seq.kernelDone = true →
    ∃ t, exec (.bundleIssue b) s = .next t ∧ t.tile.core.seq.pc = s.tile.core.seq.pc + 64 ∧ t.tile.core.seq.drain = hdrDrain hdr ∧
      SameBytes s t ∧ SameRegisters s.tile.core t.tile.core ∧ SameTrap s.tile t.tile ∧
      ∃ f ∈ t.tile.core.flight, f.sk = aluOfTwin u ∧ f.port = .q ∧ f.locked = false ∧ f.rem = 0 ∧
        f.value = wideOfWord (e.2 (lowWord (s.opA (aluOfTwin u))) (lowWord (s.opB (aluOfTwin u))) (p.scalarSrc src))

/-- R19, R56-R58, R77, R78, R191, R192, R204, R205, R221: bundles issue, commit their regions, or raise "illegal bundle". -/
def Obligations.BundleIssues : Prop := AluBundles ∧ IllegalBundles ∧ RegionCommits
end

