-- ==== Sys2Proof/Laws/State.lean ====
section
/-! SUPPORT. What each update of the state leaves as it was and what it sets: one lemma for each field and update, and the lookups of
a tile, a context and a die behind an update. -/

namespace Sys2Proof.Machine

/-! ### Association lists -/

@[simp] theorem assocGet_assocSet_self {α β : Type} [DecidableEq α] (l : List (α × β)) (k : α) (v : β) :
    assocGet (assocSet l k v) k = some v := by
  induction l with
  | nil => simp [assocSet, assocGet]
  | cons x r ih =>
    obtain ⟨a, b⟩ := x
    by_cases h : a = k <;> simp [assocSet, assocGet, h, ih]

theorem assocGet_assocSet_ne {α β : Type} [DecidableEq α] (l : List (α × β)) {k j : α} (v : β) (h : j ≠ k) :
    assocGet (assocSet l k v) j = assocGet l j := by
  induction l with
  | nil => simp [assocSet, assocGet, Ne.symm h]
  | cons x r ih =>
    obtain ⟨a, b⟩ := x
    by_cases h1 : a = k
    · subst h1; simp [assocSet, assocGet, Ne.symm h]
    · by_cases h2 : a = j
      · subst h2; simp [assocSet, assocGet, h1]
      · simp [assocSet, assocGet, h1, h2, ih]

/-! ### The state -/

@[simp] theorem State.setTileAt_clock (s : State) (k : TileKey) (t : Tile) : (s.setTileAt k t).clock = s.clock := rfl
@[simp] theorem State.setTileAt_cur (s : State) (k : TileKey) (t : Tile) : (s.setTileAt k t).cur = s.cur := rfl
@[simp] theorem State.setTileAt_turn (s : State) (k : TileKey) (t : Tile) : (s.setTileAt k t).turn = s.turn := rfl
@[simp] theorem State.setTileAt_behind (s : State) (k : TileKey) (t : Tile) : (s.setTileAt k t).behind = s.behind := rfl
@[simp] theorem State.setTileAt_lateCells (s : State) (k : TileKey) (t : Tile) : (s.setTileAt k t).lateCells = s.lateCells := rfl
@[simp] theorem State.setTileAt_events (s : State) (k : TileKey) (t : Tile) : (s.setTileAt k t).events = s.events := rfl
@[simp] theorem State.setTileAt_free (s : State) (k : TileKey) (t : Tile) : (s.setTileAt k t).free = s.free := rfl
@[simp] theorem State.setTileAt_booted (s : State) (k : TileKey) (t : Tile) : (s.setTileAt k t).booted = s.booted := rfl
@[simp] theorem State.setTileAt_mem (s : State) (k : TileKey) (t : Tile) : (s.setTileAt k t).mem = s.mem := rfl
@[simp] theorem State.setTileAt_memPoison (s : State) (k : TileKey) (t : Tile) : (s.setTileAt k t).memPoison = s.memPoison := rfl
@[simp] theorem State.setTileAt_ctxs (s : State) (k : TileKey) (t : Tile) : (s.setTileAt k t).ctxs = s.ctxs := rfl
@[simp] theorem State.setTileAt_dies (s : State) (k : TileKey) (t : Tile) : (s.setTileAt k t).dies = s.dies := rfl
@[simp] theorem State.setTileAt_nextCtx (s : State) (k : TileKey) (t : Tile) : (s.setTileAt k t).nextCtx = s.nextCtx := rfl
@[simp] theorem State.setTileAt_parts (s : State) (k : TileKey) (t : Tile) : (s.setTileAt k t).parts = s.parts := rfl
@[simp] theorem State.setTileAt_hostWin (s : State) (k : TileKey) (t : Tile) : (s.setTileAt k t).hostWin = s.hostWin := rfl
@[simp] theorem State.setTileAt_slices (s : State) (k : TileKey) (t : Tile) : (s.setTileAt k t).slices = s.slices := rfl
@[simp] theorem State.setTileAt_stations (s : State) (k : TileKey) (t : Tile) : (s.setTileAt k t).stations = s.stations := rfl
@[simp] theorem State.setTileAt_etherTypes (s : State) (k : TileKey) (t : Tile) : (s.setTileAt k t).etherTypes = s.etherTypes := rfl
@[simp] theorem State.setTileAt_powerCaps (s : State) (k : TileKey) (t : Tile) : (s.setTileAt k t).powerCaps = s.powerCaps := rfl
@[simp] theorem State.setTileAt_bootLog (s : State) (k : TileKey) (t : Tile) : (s.setTileAt k t).bootLog = s.bootLog := rfl
@[simp] theorem State.setTileAt_flashRec (s : State) (k : TileKey) (t : Tile) : (s.setTileAt k t).flashRec = s.flashRec := rfl
@[simp] theorem State.setTileAt_flashNo (s : State) (k : TileKey) (t : Tile) : (s.setTileAt k t).flashNo = s.flashNo := rfl
@[simp] theorem State.setTileAt_asids (s : State) (k : TileKey) (t : Tile) : (s.setTileAt k t).asids = s.asids := rfl
@[simp] theorem State.setTileAt_pageReqs (s : State) (k : TileKey) (t : Tile) : (s.setTileAt k t).pageReqs = s.pageReqs := rfl
@[simp] theorem State.setTileAt_dups (s : State) (k : TileKey) (t : Tile) : (s.setTileAt k t).dups = s.dups := rfl
@[simp] theorem State.setTileAt_dramTags (s : State) (k : TileKey) (t : Tile) : (s.setTileAt k t).dramTags = s.dramTags := rfl
@[simp] theorem State.setTileAt_msgs (s : State) (k : TileKey) (t : Tile) : (s.setTileAt k t).msgs = s.msgs := rfl
@[simp] theorem State.setTileAt_lastPart (s : State) (k : TileKey) (t : Tile) : (s.setTileAt k t).lastPart = s.lastPart := rfl
@[simp] theorem State.setTileAt_walks (s : State) (k : TileKey) (t : Tile) : (s.setTileAt k t).walks = s.walks := rfl
@[simp] theorem State.setTileAt_walkers (s : State) (k : TileKey) (t : Tile) : (s.setTileAt k t).walkers = s.walkers := rfl
@[simp] theorem State.setTileAt_lastWalk (s : State) (k : TileKey) (t : Tile) : (s.setTileAt k t).lastWalk = s.lastWalk := rfl
@[simp] theorem State.setTileAt_jobs (s : State) (k : TileKey) (t : Tile) : (s.setTileAt k t).jobs = s.jobs := rfl
@[simp] theorem State.setTileAt_job (s : State) (k : TileKey) (t : Tile) : (s.setTileAt k t).job = s.job := rfl
@[simp] theorem State.setTileAt_lastJob (s : State) (k : TileKey) (t : Tile) : (s.setTileAt k t).lastJob = s.lastJob := rfl
@[simp] theorem State.setTileAt_inboxes (s : State) (k : TileKey) (t : Tile) : (s.setTileAt k t).inboxes = s.inboxes := rfl
@[simp] theorem State.setTileAt_outbox (s : State) (k : TileKey) (t : Tile) : (s.setTileAt k t).outbox = s.outbox := rfl
@[simp] theorem State.setTileAt_advisories (s : State) (k : TileKey) (t : Tile) : (s.setTileAt k t).advisories = s.advisories := rfl
@[simp] theorem State.setTileAt_pairings (s : State) (k : TileKey) (t : Tile) : (s.setTileAt k t).pairings = s.pairings := rfl
@[simp] theorem State.setTileAt_images (s : State) (k : TileKey) (t : Tile) : (s.setTileAt k t).images = s.images := rfl
@[simp] theorem State.setTileAt_checked (s : State) (k : TileKey) (t : Tile) : (s.setTileAt k t).checked = s.checked := rfl
@[simp] theorem State.setTileAt_minVer (s : State) (k : TileKey) (t : Tile) : (s.setTileAt k t).minVer = s.minVer := rfl
@[simp] theorem State.setTileAt_buf (s : State) (k : TileKey) (t : Tile) : (s.setTileAt k t).buf = s.buf := rfl
@[simp] theorem State.setTileAt_saved (s : State) (k : TileKey) (t : Tile) : (s.setTileAt k t).saved = s.saved := rfl
@[simp] theorem State.setTileAt_copies (s : State) (k : TileKey) (t : Tile) : (s.setTileAt k t).copies = s.copies := rfl
@[simp] theorem State.setTileAt_errLog (s : State) (k : TileKey) (t : Tile) : (s.setTileAt k t).errLog = s.errLog := rfl
@[simp] theorem State.setTileAt_a0 (s : State) (k : TileKey) (t : Tile) : (s.setTileAt k t).a0 = s.a0 := rfl

@[simp] theorem State.modTileAt_clock (s : State) (k : TileKey) (f : Tile → Tile) : (s.modTileAt k f).clock = s.clock := rfl
@[simp] theorem State.modTileAt_cur (s : State) (k : TileKey) (f : Tile → Tile) : (s.modTileAt k f).cur = s.cur := rfl
@[simp] theorem State.modTileAt_turn (s : State) (k : TileKey) (f : Tile → Tile) : (s.modTileAt k f).turn = s.turn := rfl
@[simp] theorem State.modTileAt_behind (s : State) (k : TileKey) (f : Tile → Tile) : (s.modTileAt k f).behind = s.behind := rfl
@[simp] theorem State.modTileAt_lateCells (s : State) (k : TileKey) (f : Tile → Tile) : (s.modTileAt k f).lateCells = s.lateCells := rfl
@[simp] theorem State.modTileAt_events (s : State) (k : TileKey) (f : Tile → Tile) : (s.modTileAt k f).events = s.events := rfl
@[simp] theorem State.modTileAt_free (s : State) (k : TileKey) (f : Tile → Tile) : (s.modTileAt k f).free = s.free := rfl
@[simp] theorem State.modTileAt_booted (s : State) (k : TileKey) (f : Tile → Tile) : (s.modTileAt k f).booted = s.booted := rfl
@[simp] theorem State.modTileAt_mem (s : State) (k : TileKey) (f : Tile → Tile) : (s.modTileAt k f).mem = s.mem := rfl
@[simp] theorem State.modTileAt_memPoison (s : State) (k : TileKey) (f : Tile → Tile) : (s.modTileAt k f).memPoison = s.memPoison := rfl
@[simp] theorem State.modTileAt_ctxs (s : State) (k : TileKey) (f : Tile → Tile) : (s.modTileAt k f).ctxs = s.ctxs := rfl
@[simp] theorem State.modTileAt_dies (s : State) (k : TileKey) (f : Tile → Tile) : (s.modTileAt k f).dies = s.dies := rfl
@[simp] theorem State.modTileAt_nextCtx (s : State) (k : TileKey) (f : Tile → Tile) : (s.modTileAt k f).nextCtx = s.nextCtx := rfl
@[simp] theorem State.modTileAt_parts (s : State) (k : TileKey) (f : Tile → Tile) : (s.modTileAt k f).parts = s.parts := rfl
@[simp] theorem State.modTileAt_hostWin (s : State) (k : TileKey) (f : Tile → Tile) : (s.modTileAt k f).hostWin = s.hostWin := rfl
@[simp] theorem State.modTileAt_slices (s : State) (k : TileKey) (f : Tile → Tile) : (s.modTileAt k f).slices = s.slices := rfl
@[simp] theorem State.modTileAt_stations (s : State) (k : TileKey) (f : Tile → Tile) : (s.modTileAt k f).stations = s.stations := rfl
@[simp] theorem State.modTileAt_etherTypes (s : State) (k : TileKey) (f : Tile → Tile) : (s.modTileAt k f).etherTypes = s.etherTypes := rfl
@[simp] theorem State.modTileAt_powerCaps (s : State) (k : TileKey) (f : Tile → Tile) : (s.modTileAt k f).powerCaps = s.powerCaps := rfl
@[simp] theorem State.modTileAt_bootLog (s : State) (k : TileKey) (f : Tile → Tile) : (s.modTileAt k f).bootLog = s.bootLog := rfl
@[simp] theorem State.modTileAt_flashRec (s : State) (k : TileKey) (f : Tile → Tile) : (s.modTileAt k f).flashRec = s.flashRec := rfl
@[simp] theorem State.modTileAt_flashNo (s : State) (k : TileKey) (f : Tile → Tile) : (s.modTileAt k f).flashNo = s.flashNo := rfl
@[simp] theorem State.modTileAt_asids (s : State) (k : TileKey) (f : Tile → Tile) : (s.modTileAt k f).asids = s.asids := rfl
@[simp] theorem State.modTileAt_pageReqs (s : State) (k : TileKey) (f : Tile → Tile) : (s.modTileAt k f).pageReqs = s.pageReqs := rfl
@[simp] theorem State.modTileAt_dups (s : State) (k : TileKey) (f : Tile → Tile) : (s.modTileAt k f).dups = s.dups := rfl
@[simp] theorem State.modTileAt_dramTags (s : State) (k : TileKey) (f : Tile → Tile) : (s.modTileAt k f).dramTags = s.dramTags := rfl
@[simp] theorem State.modTileAt_msgs (s : State) (k : TileKey) (f : Tile → Tile) : (s.modTileAt k f).msgs = s.msgs := rfl
@[simp] theorem State.modTileAt_lastPart (s : State) (k : TileKey) (f : Tile → Tile) : (s.modTileAt k f).lastPart = s.lastPart := rfl
@[simp] theorem State.modTileAt_walks (s : State) (k : TileKey) (f : Tile → Tile) : (s.modTileAt k f).walks = s.walks := rfl
@[simp] theorem State.modTileAt_walkers (s : State) (k : TileKey) (f : Tile → Tile) : (s.modTileAt k f).walkers = s.walkers := rfl
@[simp] theorem State.modTileAt_lastWalk (s : State) (k : TileKey) (f : Tile → Tile) : (s.modTileAt k f).lastWalk = s.lastWalk := rfl
@[simp] theorem State.modTileAt_jobs (s : State) (k : TileKey) (f : Tile → Tile) : (s.modTileAt k f).jobs = s.jobs := rfl
@[simp] theorem State.modTileAt_job (s : State) (k : TileKey) (f : Tile → Tile) : (s.modTileAt k f).job = s.job := rfl
@[simp] theorem State.modTileAt_lastJob (s : State) (k : TileKey) (f : Tile → Tile) : (s.modTileAt k f).lastJob = s.lastJob := rfl
@[simp] theorem State.modTileAt_inboxes (s : State) (k : TileKey) (f : Tile → Tile) : (s.modTileAt k f).inboxes = s.inboxes := rfl
@[simp] theorem State.modTileAt_outbox (s : State) (k : TileKey) (f : Tile → Tile) : (s.modTileAt k f).outbox = s.outbox := rfl
@[simp] theorem State.modTileAt_advisories (s : State) (k : TileKey) (f : Tile → Tile) : (s.modTileAt k f).advisories = s.advisories := rfl
@[simp] theorem State.modTileAt_pairings (s : State) (k : TileKey) (f : Tile → Tile) : (s.modTileAt k f).pairings = s.pairings := rfl
@[simp] theorem State.modTileAt_images (s : State) (k : TileKey) (f : Tile → Tile) : (s.modTileAt k f).images = s.images := rfl
@[simp] theorem State.modTileAt_checked (s : State) (k : TileKey) (f : Tile → Tile) : (s.modTileAt k f).checked = s.checked := rfl
@[simp] theorem State.modTileAt_minVer (s : State) (k : TileKey) (f : Tile → Tile) : (s.modTileAt k f).minVer = s.minVer := rfl
@[simp] theorem State.modTileAt_buf (s : State) (k : TileKey) (f : Tile → Tile) : (s.modTileAt k f).buf = s.buf := rfl
@[simp] theorem State.modTileAt_saved (s : State) (k : TileKey) (f : Tile → Tile) : (s.modTileAt k f).saved = s.saved := rfl
@[simp] theorem State.modTileAt_copies (s : State) (k : TileKey) (f : Tile → Tile) : (s.modTileAt k f).copies = s.copies := rfl
@[simp] theorem State.modTileAt_errLog (s : State) (k : TileKey) (f : Tile → Tile) : (s.modTileAt k f).errLog = s.errLog := rfl
@[simp] theorem State.modTileAt_a0 (s : State) (k : TileKey) (f : Tile → Tile) : (s.modTileAt k f).a0 = s.a0 := rfl

@[simp] theorem State.setTile_clock (s : State) (t : Tile) : (s.setTile t).clock = s.clock := rfl
@[simp] theorem State.setTile_cur (s : State) (t : Tile) : (s.setTile t).cur = s.cur := rfl
@[simp] theorem State.setTile_turn (s : State) (t : Tile) : (s.setTile t).turn = s.turn := rfl
@[simp] theorem State.setTile_behind (s : State) (t : Tile) : (s.setTile t).behind = s.behind := rfl
@[simp] theorem State.setTile_lateCells (s : State) (t : Tile) : (s.setTile t).lateCells = s.lateCells := rfl
@[simp] theorem State.setTile_events (s : State) (t : Tile) : (s.setTile t).events = s.events := rfl
@[simp] theorem State.setTile_free (s : State) (t : Tile) : (s.setTile t).free = s.free := rfl
@[simp] theorem State.setTile_booted (s : State) (t : Tile) : (s.setTile t).booted = s.booted := rfl
@[simp] theorem State.setTile_mem (s : State) (t : Tile) : (s.setTile t).mem = s.mem := rfl
@[simp] theorem State.setTile_memPoison (s : State) (t : Tile) : (s.setTile t).memPoison = s.memPoison := rfl
@[simp] theorem State.setTile_ctxs (s : State) (t : Tile) : (s.setTile t).ctxs = s.ctxs := rfl
@[simp] theorem State.setTile_dies (s : State) (t : Tile) : (s.setTile t).dies = s.dies := rfl
@[simp] theorem State.setTile_nextCtx (s : State) (t : Tile) : (s.setTile t).nextCtx = s.nextCtx := rfl
@[simp] theorem State.setTile_parts (s : State) (t : Tile) : (s.setTile t).parts = s.parts := rfl
@[simp] theorem State.setTile_hostWin (s : State) (t : Tile) : (s.setTile t).hostWin = s.hostWin := rfl
@[simp] theorem State.setTile_slices (s : State) (t : Tile) : (s.setTile t).slices = s.slices := rfl
@[simp] theorem State.setTile_stations (s : State) (t : Tile) : (s.setTile t).stations = s.stations := rfl
@[simp] theorem State.setTile_etherTypes (s : State) (t : Tile) : (s.setTile t).etherTypes = s.etherTypes := rfl
@[simp] theorem State.setTile_powerCaps (s : State) (t : Tile) : (s.setTile t).powerCaps = s.powerCaps := rfl
@[simp] theorem State.setTile_bootLog (s : State) (t : Tile) : (s.setTile t).bootLog = s.bootLog := rfl
@[simp] theorem State.setTile_flashRec (s : State) (t : Tile) : (s.setTile t).flashRec = s.flashRec := rfl
@[simp] theorem State.setTile_flashNo (s : State) (t : Tile) : (s.setTile t).flashNo = s.flashNo := rfl
@[simp] theorem State.setTile_asids (s : State) (t : Tile) : (s.setTile t).asids = s.asids := rfl
@[simp] theorem State.setTile_pageReqs (s : State) (t : Tile) : (s.setTile t).pageReqs = s.pageReqs := rfl
@[simp] theorem State.setTile_dups (s : State) (t : Tile) : (s.setTile t).dups = s.dups := rfl
@[simp] theorem State.setTile_dramTags (s : State) (t : Tile) : (s.setTile t).dramTags = s.dramTags := rfl
@[simp] theorem State.setTile_msgs (s : State) (t : Tile) : (s.setTile t).msgs = s.msgs := rfl
@[simp] theorem State.setTile_lastPart (s : State) (t : Tile) : (s.setTile t).lastPart = s.lastPart := rfl
@[simp] theorem State.setTile_walks (s : State) (t : Tile) : (s.setTile t).walks = s.walks := rfl
@[simp] theorem State.setTile_walkers (s : State) (t : Tile) : (s.setTile t).walkers = s.walkers := rfl
@[simp] theorem State.setTile_lastWalk (s : State) (t : Tile) : (s.setTile t).lastWalk = s.lastWalk := rfl
@[simp] theorem State.setTile_jobs (s : State) (t : Tile) : (s.setTile t).jobs = s.jobs := rfl
@[simp] theorem State.setTile_job (s : State) (t : Tile) : (s.setTile t).job = s.job := rfl
@[simp] theorem State.setTile_lastJob (s : State) (t : Tile) : (s.setTile t).lastJob = s.lastJob := rfl
@[simp] theorem State.setTile_inboxes (s : State) (t : Tile) : (s.setTile t).inboxes = s.inboxes := rfl
@[simp] theorem State.setTile_outbox (s : State) (t : Tile) : (s.setTile t).outbox = s.outbox := rfl
@[simp] theorem State.setTile_advisories (s : State) (t : Tile) : (s.setTile t).advisories = s.advisories := rfl
@[simp] theorem State.setTile_pairings (s : State) (t : Tile) : (s.setTile t).pairings = s.pairings := rfl
@[simp] theorem State.setTile_images (s : State) (t : Tile) : (s.setTile t).images = s.images := rfl
@[simp] theorem State.setTile_checked (s : State) (t : Tile) : (s.setTile t).checked = s.checked := rfl
@[simp] theorem State.setTile_minVer (s : State) (t : Tile) : (s.setTile t).minVer = s.minVer := rfl
@[simp] theorem State.setTile_buf (s : State) (t : Tile) : (s.setTile t).buf = s.buf := rfl
@[simp] theorem State.setTile_saved (s : State) (t : Tile) : (s.setTile t).saved = s.saved := rfl
@[simp] theorem State.setTile_copies (s : State) (t : Tile) : (s.setTile t).copies = s.copies := rfl
@[simp] theorem State.setTile_errLog (s : State) (t : Tile) : (s.setTile t).errLog = s.errLog := rfl
@[simp] theorem State.setTile_a0 (s : State) (t : Tile) : (s.setTile t).a0 = s.a0 := rfl

@[simp] theorem State.modTile_clock (s : State) (f : Tile → Tile) : (s.modTile f).clock = s.clock := rfl
@[simp] theorem State.modTile_cur (s : State) (f : Tile → Tile) : (s.modTile f).cur = s.cur := rfl
@[simp] theorem State.modTile_turn (s : State) (f : Tile → Tile) : (s.modTile f).turn = s.turn := rfl
@[simp] theorem State.modTile_behind (s : State) (f : Tile → Tile) : (s.modTile f).behind = s.behind := rfl
@[simp] theorem State.modTile_lateCells (s : State) (f : Tile → Tile) : (s.modTile f).lateCells = s.lateCells := rfl
@[simp] theorem State.modTile_events (s : State) (f : Tile → Tile) : (s.modTile f).events = s.events := rfl
@[simp] theorem State.modTile_free (s : State) (f : Tile → Tile) : (s.modTile f).free = s.free := rfl
@[simp] theorem State.modTile_booted (s : State) (f : Tile → Tile) : (s.modTile f).booted = s.booted := rfl
@[simp] theorem State.modTile_mem (s : State) (f : Tile → Tile) : (s.modTile f).mem = s.mem := rfl
@[simp] theorem State.modTile_memPoison (s : State) (f : Tile → Tile) : (s.modTile f).memPoison = s.memPoison := rfl
@[simp] theorem State.modTile_ctxs (s : State) (f : Tile → Tile) : (s.modTile f).ctxs = s.ctxs := rfl
@[simp] theorem State.modTile_dies (s : State) (f : Tile → Tile) : (s.modTile f).dies = s.dies := rfl
@[simp] theorem State.modTile_nextCtx (s : State) (f : Tile → Tile) : (s.modTile f).nextCtx = s.nextCtx := rfl
@[simp] theorem State.modTile_parts (s : State) (f : Tile → Tile) : (s.modTile f).parts = s.parts := rfl
@[simp] theorem State.modTile_hostWin (s : State) (f : Tile → Tile) : (s.modTile f).hostWin = s.hostWin := rfl
@[simp] theorem State.modTile_slices (s : State) (f : Tile → Tile) : (s.modTile f).slices = s.slices := rfl
@[simp] theorem State.modTile_stations (s : State) (f : Tile → Tile) : (s.modTile f).stations = s.stations := rfl
@[simp] theorem State.modTile_etherTypes (s : State) (f : Tile → Tile) : (s.modTile f).etherTypes = s.etherTypes := rfl
@[simp] theorem State.modTile_powerCaps (s : State) (f : Tile → Tile) : (s.modTile f).powerCaps = s.powerCaps := rfl
@[simp] theorem State.modTile_bootLog (s : State) (f : Tile → Tile) : (s.modTile f).bootLog = s.bootLog := rfl
@[simp] theorem State.modTile_flashRec (s : State) (f : Tile → Tile) : (s.modTile f).flashRec = s.flashRec := rfl
@[simp] theorem State.modTile_flashNo (s : State) (f : Tile → Tile) : (s.modTile f).flashNo = s.flashNo := rfl
@[simp] theorem State.modTile_asids (s : State) (f : Tile → Tile) : (s.modTile f).asids = s.asids := rfl
@[simp] theorem State.modTile_pageReqs (s : State) (f : Tile → Tile) : (s.modTile f).pageReqs = s.pageReqs := rfl
@[simp] theorem State.modTile_dups (s : State) (f : Tile → Tile) : (s.modTile f).dups = s.dups := rfl
@[simp] theorem State.modTile_dramTags (s : State) (f : Tile → Tile) : (s.modTile f).dramTags = s.dramTags := rfl
@[simp] theorem State.modTile_msgs (s : State) (f : Tile → Tile) : (s.modTile f).msgs = s.msgs := rfl
@[simp] theorem State.modTile_lastPart (s : State) (f : Tile → Tile) : (s.modTile f).lastPart = s.lastPart := rfl
@[simp] theorem State.modTile_walks (s : State) (f : Tile → Tile) : (s.modTile f).walks = s.walks := rfl
@[simp] theorem State.modTile_walkers (s : State) (f : Tile → Tile) : (s.modTile f).walkers = s.walkers := rfl
@[simp] theorem State.modTile_lastWalk (s : State) (f : Tile → Tile) : (s.modTile f).lastWalk = s.lastWalk := rfl
@[simp] theorem State.modTile_jobs (s : State) (f : Tile → Tile) : (s.modTile f).jobs = s.jobs := rfl
@[simp] theorem State.modTile_job (s : State) (f : Tile → Tile) : (s.modTile f).job = s.job := rfl
@[simp] theorem State.modTile_lastJob (s : State) (f : Tile → Tile) : (s.modTile f).lastJob = s.lastJob := rfl
@[simp] theorem State.modTile_inboxes (s : State) (f : Tile → Tile) : (s.modTile f).inboxes = s.inboxes := rfl
@[simp] theorem State.modTile_outbox (s : State) (f : Tile → Tile) : (s.modTile f).outbox = s.outbox := rfl
@[simp] theorem State.modTile_advisories (s : State) (f : Tile → Tile) : (s.modTile f).advisories = s.advisories := rfl
@[simp] theorem State.modTile_pairings (s : State) (f : Tile → Tile) : (s.modTile f).pairings = s.pairings := rfl
@[simp] theorem State.modTile_images (s : State) (f : Tile → Tile) : (s.modTile f).images = s.images := rfl
@[simp] theorem State.modTile_checked (s : State) (f : Tile → Tile) : (s.modTile f).checked = s.checked := rfl
@[simp] theorem State.modTile_minVer (s : State) (f : Tile → Tile) : (s.modTile f).minVer = s.minVer := rfl
@[simp] theorem State.modTile_buf (s : State) (f : Tile → Tile) : (s.modTile f).buf = s.buf := rfl
@[simp] theorem State.modTile_saved (s : State) (f : Tile → Tile) : (s.modTile f).saved = s.saved := rfl
@[simp] theorem State.modTile_copies (s : State) (f : Tile → Tile) : (s.modTile f).copies = s.copies := rfl
@[simp] theorem State.modTile_errLog (s : State) (f : Tile → Tile) : (s.modTile f).errLog = s.errLog := rfl
@[simp] theorem State.modTile_a0 (s : State) (f : Tile → Tile) : (s.modTile f).a0 = s.a0 := rfl

@[simp] theorem State.modDie_clock (s : State) (d : DieId) (f : Die → Die) : (s.modDie d f).clock = s.clock := rfl
@[simp] theorem State.modDie_cur (s : State) (d : DieId) (f : Die → Die) : (s.modDie d f).cur = s.cur := rfl
@[simp] theorem State.modDie_turn (s : State) (d : DieId) (f : Die → Die) : (s.modDie d f).turn = s.turn := rfl
@[simp] theorem State.modDie_behind (s : State) (d : DieId) (f : Die → Die) : (s.modDie d f).behind = s.behind := rfl
@[simp] theorem State.modDie_lateCells (s : State) (d : DieId) (f : Die → Die) : (s.modDie d f).lateCells = s.lateCells := rfl
@[simp] theorem State.modDie_events (s : State) (d : DieId) (f : Die → Die) : (s.modDie d f).events = s.events := rfl
@[simp] theorem State.modDie_free (s : State) (d : DieId) (f : Die → Die) : (s.modDie d f).free = s.free := rfl
@[simp] theorem State.modDie_booted (s : State) (d : DieId) (f : Die → Die) : (s.modDie d f).booted = s.booted := rfl
@[simp] theorem State.modDie_mem (s : State) (d : DieId) (f : Die → Die) : (s.modDie d f).mem = s.mem := rfl
@[simp] theorem State.modDie_memPoison (s : State) (d : DieId) (f : Die → Die) : (s.modDie d f).memPoison = s.memPoison := rfl
@[simp] theorem State.modDie_tiles (s : State) (d : DieId) (f : Die → Die) : (s.modDie d f).tiles = s.tiles := rfl
@[simp] theorem State.modDie_ctxs (s : State) (d : DieId) (f : Die → Die) : (s.modDie d f).ctxs = s.ctxs := rfl
@[simp] theorem State.modDie_nextCtx (s : State) (d : DieId) (f : Die → Die) : (s.modDie d f).nextCtx = s.nextCtx := rfl
@[simp] theorem State.modDie_parts (s : State) (d : DieId) (f : Die → Die) : (s.modDie d f).parts = s.parts := rfl
@[simp] theorem State.modDie_hostWin (s : State) (d : DieId) (f : Die → Die) : (s.modDie d f).hostWin = s.hostWin := rfl
@[simp] theorem State.modDie_slices (s : State) (d : DieId) (f : Die → Die) : (s.modDie d f).slices = s.slices := rfl
@[simp] theorem State.modDie_stations (s : State) (d : DieId) (f : Die → Die) : (s.modDie d f).stations = s.stations := rfl
@[simp] theorem State.modDie_etherTypes (s : State) (d : DieId) (f : Die → Die) : (s.modDie d f).etherTypes = s.etherTypes := rfl
@[simp] theorem State.modDie_powerCaps (s : State) (d : DieId) (f : Die → Die) : (s.modDie d f).powerCaps = s.powerCaps := rfl
@[simp] theorem State.modDie_bootLog (s : State) (d : DieId) (f : Die → Die) : (s.modDie d f).bootLog = s.bootLog := rfl
@[simp] theorem State.modDie_flashRec (s : State) (d : DieId) (f : Die → Die) : (s.modDie d f).flashRec = s.flashRec := rfl
@[simp] theorem State.modDie_flashNo (s : State) (d : DieId) (f : Die → Die) : (s.modDie d f).flashNo = s.flashNo := rfl
@[simp] theorem State.modDie_asids (s : State) (d : DieId) (f : Die → Die) : (s.modDie d f).asids = s.asids := rfl
@[simp] theorem State.modDie_pageReqs (s : State) (d : DieId) (f : Die → Die) : (s.modDie d f).pageReqs = s.pageReqs := rfl
@[simp] theorem State.modDie_dups (s : State) (d : DieId) (f : Die → Die) : (s.modDie d f).dups = s.dups := rfl
@[simp] theorem State.modDie_dramTags (s : State) (d : DieId) (f : Die → Die) : (s.modDie d f).dramTags = s.dramTags := rfl
@[simp] theorem State.modDie_msgs (s : State) (d : DieId) (f : Die → Die) : (s.modDie d f).msgs = s.msgs := rfl
@[simp] theorem State.modDie_lastPart (s : State) (d : DieId) (f : Die → Die) : (s.modDie d f).lastPart = s.lastPart := rfl
@[simp] theorem State.modDie_walks (s : State) (d : DieId) (f : Die → Die) : (s.modDie d f).walks = s.walks := rfl
@[simp] theorem State.modDie_walkers (s : State) (d : DieId) (f : Die → Die) : (s.modDie d f).walkers = s.walkers := rfl
@[simp] theorem State.modDie_lastWalk (s : State) (d : DieId) (f : Die → Die) : (s.modDie d f).lastWalk = s.lastWalk := rfl
@[simp] theorem State.modDie_jobs (s : State) (d : DieId) (f : Die → Die) : (s.modDie d f).jobs = s.jobs := rfl
@[simp] theorem State.modDie_job (s : State) (d : DieId) (f : Die → Die) : (s.modDie d f).job = s.job := rfl
@[simp] theorem State.modDie_lastJob (s : State) (d : DieId) (f : Die → Die) : (s.modDie d f).lastJob = s.lastJob := rfl
@[simp] theorem State.modDie_inboxes (s : State) (d : DieId) (f : Die → Die) : (s.modDie d f).inboxes = s.inboxes := rfl
@[simp] theorem State.modDie_outbox (s : State) (d : DieId) (f : Die → Die) : (s.modDie d f).outbox = s.outbox := rfl
@[simp] theorem State.modDie_advisories (s : State) (d : DieId) (f : Die → Die) : (s.modDie d f).advisories = s.advisories := rfl
@[simp] theorem State.modDie_pairings (s : State) (d : DieId) (f : Die → Die) : (s.modDie d f).pairings = s.pairings := rfl
@[simp] theorem State.modDie_images (s : State) (d : DieId) (f : Die → Die) : (s.modDie d f).images = s.images := rfl
@[simp] theorem State.modDie_checked (s : State) (d : DieId) (f : Die → Die) : (s.modDie d f).checked = s.checked := rfl
@[simp] theorem State.modDie_minVer (s : State) (d : DieId) (f : Die → Die) : (s.modDie d f).minVer = s.minVer := rfl
@[simp] theorem State.modDie_buf (s : State) (d : DieId) (f : Die → Die) : (s.modDie d f).buf = s.buf := rfl
@[simp] theorem State.modDie_saved (s : State) (d : DieId) (f : Die → Die) : (s.modDie d f).saved = s.saved := rfl
@[simp] theorem State.modDie_copies (s : State) (d : DieId) (f : Die → Die) : (s.modDie d f).copies = s.copies := rfl
@[simp] theorem State.modDie_errLog (s : State) (d : DieId) (f : Die → Die) : (s.modDie d f).errLog = s.errLog := rfl
@[simp] theorem State.modDie_a0 (s : State) (d : DieId) (f : Die → Die) : (s.modDie d f).a0 = s.a0 := rfl

@[simp] theorem State.modCluster_clock (s : State) (c : ClusterId) (f : Cluster → Cluster) : (s.modCluster c f).clock = s.clock := rfl
@[simp] theorem State.modCluster_cur (s : State) (c : ClusterId) (f : Cluster → Cluster) : (s.modCluster c f).cur = s.cur := rfl
@[simp] theorem State.modCluster_turn (s : State) (c : ClusterId) (f : Cluster → Cluster) : (s.modCluster c f).turn = s.turn := rfl
@[simp] theorem State.modCluster_behind (s : State) (c : ClusterId) (f : Cluster → Cluster) : (s.modCluster c f).behind = s.behind := rfl
@[simp] theorem State.modCluster_lateCells (s : State) (c : ClusterId) (f : Cluster → Cluster) : (s.modCluster c f).lateCells = s.lateCells := rfl
@[simp] theorem State.modCluster_events (s : State) (c : ClusterId) (f : Cluster → Cluster) : (s.modCluster c f).events = s.events := rfl
@[simp] theorem State.modCluster_free (s : State) (c : ClusterId) (f : Cluster → Cluster) : (s.modCluster c f).free = s.free := rfl
@[simp] theorem State.modCluster_booted (s : State) (c : ClusterId) (f : Cluster → Cluster) : (s.modCluster c f).booted = s.booted := rfl
@[simp] theorem State.modCluster_mem (s : State) (c : ClusterId) (f : Cluster → Cluster) : (s.modCluster c f).mem = s.mem := rfl
@[simp] theorem State.modCluster_memPoison (s : State) (c : ClusterId) (f : Cluster → Cluster) : (s.modCluster c f).memPoison = s.memPoison := rfl
@[simp] theorem State.modCluster_tiles (s : State) (c : ClusterId) (f : Cluster → Cluster) : (s.modCluster c f).tiles = s.tiles := rfl
@[simp] theorem State.modCluster_ctxs (s : State) (c : ClusterId) (f : Cluster → Cluster) : (s.modCluster c f).ctxs = s.ctxs := rfl
@[simp] theorem State.modCluster_nextCtx (s : State) (c : ClusterId) (f : Cluster → Cluster) : (s.modCluster c f).nextCtx = s.nextCtx := rfl
@[simp] theorem State.modCluster_parts (s : State) (c : ClusterId) (f : Cluster → Cluster) : (s.modCluster c f).parts = s.parts := rfl
@[simp] theorem State.modCluster_hostWin (s : State) (c : ClusterId) (f : Cluster → Cluster) : (s.modCluster c f).hostWin = s.hostWin := rfl
@[simp] theorem State.modCluster_slices (s : State) (c : ClusterId) (f : Cluster → Cluster) : (s.modCluster c f).slices = s.slices := rfl
@[simp] theorem State.modCluster_stations (s : State) (c : ClusterId) (f : Cluster → Cluster) : (s.modCluster c f).stations = s.stations := rfl
@[simp] theorem State.modCluster_etherTypes (s : State) (c : ClusterId) (f : Cluster → Cluster) : (s.modCluster c f).etherTypes = s.etherTypes := rfl
@[simp] theorem State.modCluster_powerCaps (s : State) (c : ClusterId) (f : Cluster → Cluster) : (s.modCluster c f).powerCaps = s.powerCaps := rfl
@[simp] theorem State.modCluster_bootLog (s : State) (c : ClusterId) (f : Cluster → Cluster) : (s.modCluster c f).bootLog = s.bootLog := rfl
@[simp] theorem State.modCluster_flashRec (s : State) (c : ClusterId) (f : Cluster → Cluster) : (s.modCluster c f).flashRec = s.flashRec := rfl
@[simp] theorem State.modCluster_flashNo (s : State) (c : ClusterId) (f : Cluster → Cluster) : (s.modCluster c f).flashNo = s.flashNo := rfl
@[simp] theorem State.modCluster_asids (s : State) (c : ClusterId) (f : Cluster → Cluster) : (s.modCluster c f).asids = s.asids := rfl
@[simp] theorem State.modCluster_pageReqs (s : State) (c : ClusterId) (f : Cluster → Cluster) : (s.modCluster c f).pageReqs = s.pageReqs := rfl
@[simp] theorem State.modCluster_dups (s : State) (c : ClusterId) (f : Cluster → Cluster) : (s.modCluster c f).dups = s.dups := rfl
@[simp] theorem State.modCluster_dramTags (s : State) (c : ClusterId) (f : Cluster → Cluster) : (s.modCluster c f).dramTags = s.dramTags := rfl
@[simp] theorem State.modCluster_msgs (s : State) (c : ClusterId) (f : Cluster → Cluster) : (s.modCluster c f).msgs = s.msgs := rfl
@[simp] theorem State.modCluster_lastPart (s : State) (c : ClusterId) (f : Cluster → Cluster) : (s.modCluster c f).lastPart = s.lastPart := rfl
@[simp] theorem State.modCluster_walks (s : State) (c : ClusterId) (f : Cluster → Cluster) : (s.modCluster c f).walks = s.walks := rfl
@[simp] theorem State.modCluster_walkers (s : State) (c : ClusterId) (f : Cluster → Cluster) : (s.modCluster c f).walkers = s.walkers := rfl
@[simp] theorem State.modCluster_lastWalk (s : State) (c : ClusterId) (f : Cluster → Cluster) : (s.modCluster c f).lastWalk = s.lastWalk := rfl
@[simp] theorem State.modCluster_jobs (s : State) (c : ClusterId) (f : Cluster → Cluster) : (s.modCluster c f).jobs = s.jobs := rfl
@[simp] theorem State.modCluster_job (s : State) (c : ClusterId) (f : Cluster → Cluster) : (s.modCluster c f).job = s.job := rfl
@[simp] theorem State.modCluster_lastJob (s : State) (c : ClusterId) (f : Cluster → Cluster) : (s.modCluster c f).lastJob = s.lastJob := rfl
@[simp] theorem State.modCluster_inboxes (s : State) (c : ClusterId) (f : Cluster → Cluster) : (s.modCluster c f).inboxes = s.inboxes := rfl
@[simp] theorem State.modCluster_outbox (s : State) (c : ClusterId) (f : Cluster → Cluster) : (s.modCluster c f).outbox = s.outbox := rfl
@[simp] theorem State.modCluster_advisories (s : State) (c : ClusterId) (f : Cluster → Cluster) : (s.modCluster c f).advisories = s.advisories := rfl
@[simp] theorem State.modCluster_pairings (s : State) (c : ClusterId) (f : Cluster → Cluster) : (s.modCluster c f).pairings = s.pairings := rfl
@[simp] theorem State.modCluster_images (s : State) (c : ClusterId) (f : Cluster → Cluster) : (s.modCluster c f).images = s.images := rfl
@[simp] theorem State.modCluster_checked (s : State) (c : ClusterId) (f : Cluster → Cluster) : (s.modCluster c f).checked = s.checked := rfl
@[simp] theorem State.modCluster_minVer (s : State) (c : ClusterId) (f : Cluster → Cluster) : (s.modCluster c f).minVer = s.minVer := rfl
@[simp] theorem State.modCluster_buf (s : State) (c : ClusterId) (f : Cluster → Cluster) : (s.modCluster c f).buf = s.buf := rfl
@[simp] theorem State.modCluster_saved (s : State) (c : ClusterId) (f : Cluster → Cluster) : (s.modCluster c f).saved = s.saved := rfl
@[simp] theorem State.modCluster_copies (s : State) (c : ClusterId) (f : Cluster → Cluster) : (s.modCluster c f).copies = s.copies := rfl
@[simp] theorem State.modCluster_errLog (s : State) (c : ClusterId) (f : Cluster → Cluster) : (s.modCluster c f).errLog = s.errLog := rfl
@[simp] theorem State.modCluster_a0 (s : State) (c : ClusterId) (f : Cluster → Cluster) : (s.modCluster c f).a0 = s.a0 := rfl

@[simp] theorem State.modCtx_clock (s : State) (id : CtxId) (f : Ctx → Ctx) : (s.modCtx id f).clock = s.clock := rfl
@[simp] theorem State.modCtx_cur (s : State) (id : CtxId) (f : Ctx → Ctx) : (s.modCtx id f).cur = s.cur := rfl
@[simp] theorem State.modCtx_turn (s : State) (id : CtxId) (f : Ctx → Ctx) : (s.modCtx id f).turn = s.turn := rfl
@[simp] theorem State.modCtx_behind (s : State) (id : CtxId) (f : Ctx → Ctx) : (s.modCtx id f).behind = s.behind := rfl
@[simp] theorem State.modCtx_lateCells (s : State) (id : CtxId) (f : Ctx → Ctx) : (s.modCtx id f).lateCells = s.lateCells := rfl
@[simp] theorem State.modCtx_events (s : State) (id : CtxId) (f : Ctx → Ctx) : (s.modCtx id f).events = s.events := rfl
@[simp] theorem State.modCtx_free (s : State) (id : CtxId) (f : Ctx → Ctx) : (s.modCtx id f).free = s.free := rfl
@[simp] theorem State.modCtx_booted (s : State) (id : CtxId) (f : Ctx → Ctx) : (s.modCtx id f).booted = s.booted := rfl
@[simp] theorem State.modCtx_mem (s : State) (id : CtxId) (f : Ctx → Ctx) : (s.modCtx id f).mem = s.mem := rfl
@[simp] theorem State.modCtx_memPoison (s : State) (id : CtxId) (f : Ctx → Ctx) : (s.modCtx id f).memPoison = s.memPoison := rfl
@[simp] theorem State.modCtx_tiles (s : State) (id : CtxId) (f : Ctx → Ctx) : (s.modCtx id f).tiles = s.tiles := rfl
@[simp] theorem State.modCtx_dies (s : State) (id : CtxId) (f : Ctx → Ctx) : (s.modCtx id f).dies = s.dies := rfl
@[simp] theorem State.modCtx_nextCtx (s : State) (id : CtxId) (f : Ctx → Ctx) : (s.modCtx id f).nextCtx = s.nextCtx := rfl
@[simp] theorem State.modCtx_parts (s : State) (id : CtxId) (f : Ctx → Ctx) : (s.modCtx id f).parts = s.parts := rfl
@[simp] theorem State.modCtx_hostWin (s : State) (id : CtxId) (f : Ctx → Ctx) : (s.modCtx id f).hostWin = s.hostWin := rfl
@[simp] theorem State.modCtx_slices (s : State) (id : CtxId) (f : Ctx → Ctx) : (s.modCtx id f).slices = s.slices := rfl
@[simp] theorem State.modCtx_stations (s : State) (id : CtxId) (f : Ctx → Ctx) : (s.modCtx id f).stations = s.stations := rfl
@[simp] theorem State.modCtx_etherTypes (s : State) (id : CtxId) (f : Ctx → Ctx) : (s.modCtx id f).etherTypes = s.etherTypes := rfl
@[simp] theorem State.modCtx_powerCaps (s : State) (id : CtxId) (f : Ctx → Ctx) : (s.modCtx id f).powerCaps = s.powerCaps := rfl
@[simp] theorem State.modCtx_bootLog (s : State) (id : CtxId) (f : Ctx → Ctx) : (s.modCtx id f).bootLog = s.bootLog := rfl
@[simp] theorem State.modCtx_flashRec (s : State) (id : CtxId) (f : Ctx → Ctx) : (s.modCtx id f).flashRec = s.flashRec := rfl
@[simp] theorem State.modCtx_flashNo (s : State) (id : CtxId) (f : Ctx → Ctx) : (s.modCtx id f).flashNo = s.flashNo := rfl
@[simp] theorem State.modCtx_asids (s : State) (id : CtxId) (f : Ctx → Ctx) : (s.modCtx id f).asids = s.asids := rfl
@[simp] theorem State.modCtx_pageReqs (s : State) (id : CtxId) (f : Ctx → Ctx) : (s.modCtx id f).pageReqs = s.pageReqs := rfl
@[simp] theorem State.modCtx_dups (s : State) (id : CtxId) (f : Ctx → Ctx) : (s.modCtx id f).dups = s.dups := rfl
@[simp] theorem State.modCtx_dramTags (s : State) (id : CtxId) (f : Ctx → Ctx) : (s.modCtx id f).dramTags = s.dramTags := rfl
@[simp] theorem State.modCtx_msgs (s : State) (id : CtxId) (f : Ctx → Ctx) : (s.modCtx id f).msgs = s.msgs := rfl
@[simp] theorem State.modCtx_lastPart (s : State) (id : CtxId) (f : Ctx → Ctx) : (s.modCtx id f).lastPart = s.lastPart := rfl
@[simp] theorem State.modCtx_walks (s : State) (id : CtxId) (f : Ctx → Ctx) : (s.modCtx id f).walks = s.walks := rfl
@[simp] theorem State.modCtx_walkers (s : State) (id : CtxId) (f : Ctx → Ctx) : (s.modCtx id f).walkers = s.walkers := rfl
@[simp] theorem State.modCtx_lastWalk (s : State) (id : CtxId) (f : Ctx → Ctx) : (s.modCtx id f).lastWalk = s.lastWalk := rfl
@[simp] theorem State.modCtx_jobs (s : State) (id : CtxId) (f : Ctx → Ctx) : (s.modCtx id f).jobs = s.jobs := rfl
@[simp] theorem State.modCtx_job (s : State) (id : CtxId) (f : Ctx → Ctx) : (s.modCtx id f).job = s.job := rfl
@[simp] theorem State.modCtx_lastJob (s : State) (id : CtxId) (f : Ctx → Ctx) : (s.modCtx id f).lastJob = s.lastJob := rfl
@[simp] theorem State.modCtx_inboxes (s : State) (id : CtxId) (f : Ctx → Ctx) : (s.modCtx id f).inboxes = s.inboxes := rfl
@[simp] theorem State.modCtx_outbox (s : State) (id : CtxId) (f : Ctx → Ctx) : (s.modCtx id f).outbox = s.outbox := rfl
@[simp] theorem State.modCtx_advisories (s : State) (id : CtxId) (f : Ctx → Ctx) : (s.modCtx id f).advisories = s.advisories := rfl
@[simp] theorem State.modCtx_pairings (s : State) (id : CtxId) (f : Ctx → Ctx) : (s.modCtx id f).pairings = s.pairings := rfl
@[simp] theorem State.modCtx_images (s : State) (id : CtxId) (f : Ctx → Ctx) : (s.modCtx id f).images = s.images := rfl
@[simp] theorem State.modCtx_checked (s : State) (id : CtxId) (f : Ctx → Ctx) : (s.modCtx id f).checked = s.checked := rfl
@[simp] theorem State.modCtx_minVer (s : State) (id : CtxId) (f : Ctx → Ctx) : (s.modCtx id f).minVer = s.minVer := rfl
@[simp] theorem State.modCtx_buf (s : State) (id : CtxId) (f : Ctx → Ctx) : (s.modCtx id f).buf = s.buf := rfl
@[simp] theorem State.modCtx_saved (s : State) (id : CtxId) (f : Ctx → Ctx) : (s.modCtx id f).saved = s.saved := rfl
@[simp] theorem State.modCtx_copies (s : State) (id : CtxId) (f : Ctx → Ctx) : (s.modCtx id f).copies = s.copies := rfl
@[simp] theorem State.modCtx_errLog (s : State) (id : CtxId) (f : Ctx → Ctx) : (s.modCtx id f).errLog = s.errLog := rfl
@[simp] theorem State.modCtx_a0 (s : State) (id : CtxId) (f : Ctx → Ctx) : (s.modCtx id f).a0 = s.a0 := rfl

@[simp] theorem State.mapCtxs_clock (s : State) (f : Ctx → Ctx) : (s.mapCtxs f).clock = s.clock := rfl
@[simp] theorem State.mapCtxs_cur (s : State) (f : Ctx → Ctx) : (s.mapCtxs f).cur = s.cur := rfl
@[simp] theorem State.mapCtxs_turn (s : State) (f : Ctx → Ctx) : (s.mapCtxs f).turn = s.turn := rfl
@[simp] theorem State.mapCtxs_behind (s : State) (f : Ctx → Ctx) : (s.mapCtxs f).behind = s.behind := rfl
@[simp] theorem State.mapCtxs_lateCells (s : State) (f : Ctx → Ctx) : (s.mapCtxs f).lateCells = s.lateCells := rfl
@[simp] theorem State.mapCtxs_events (s : State) (f : Ctx → Ctx) : (s.mapCtxs f).events = s.events := rfl
@[simp] theorem State.mapCtxs_free (s : State) (f : Ctx → Ctx) : (s.mapCtxs f).free = s.free := rfl
@[simp] theorem State.mapCtxs_booted (s : State) (f : Ctx → Ctx) : (s.mapCtxs f).booted = s.booted := rfl
@[simp] theorem State.mapCtxs_mem (s : State) (f : Ctx → Ctx) : (s.mapCtxs f).mem = s.mem := rfl
@[simp] theorem State.mapCtxs_memPoison (s : State) (f : Ctx → Ctx) : (s.mapCtxs f).memPoison = s.memPoison := rfl
@[simp] theorem State.mapCtxs_tiles (s : State) (f : Ctx → Ctx) : (s.mapCtxs f).tiles = s.tiles := rfl
@[simp] theorem State.mapCtxs_dies (s : State) (f : Ctx → Ctx) : (s.mapCtxs f).dies = s.dies := rfl
@[simp] theorem State.mapCtxs_nextCtx (s : State) (f : Ctx → Ctx) : (s.mapCtxs f).nextCtx = s.nextCtx := rfl
@[simp] theorem State.mapCtxs_parts (s : State) (f : Ctx → Ctx) : (s.mapCtxs f).parts = s.parts := rfl
@[simp] theorem State.mapCtxs_hostWin (s : State) (f : Ctx → Ctx) : (s.mapCtxs f).hostWin = s.hostWin := rfl
@[simp] theorem State.mapCtxs_slices (s : State) (f : Ctx → Ctx) : (s.mapCtxs f).slices = s.slices := rfl
@[simp] theorem State.mapCtxs_stations (s : State) (f : Ctx → Ctx) : (s.mapCtxs f).stations = s.stations := rfl
@[simp] theorem State.mapCtxs_etherTypes (s : State) (f : Ctx → Ctx) : (s.mapCtxs f).etherTypes = s.etherTypes := rfl
@[simp] theorem State.mapCtxs_powerCaps (s : State) (f : Ctx → Ctx) : (s.mapCtxs f).powerCaps = s.powerCaps := rfl
@[simp] theorem State.mapCtxs_bootLog (s : State) (f : Ctx → Ctx) : (s.mapCtxs f).bootLog = s.bootLog := rfl
@[simp] theorem State.mapCtxs_flashRec (s : State) (f : Ctx → Ctx) : (s.mapCtxs f).flashRec = s.flashRec := rfl
@[simp] theorem State.mapCtxs_flashNo (s : State) (f : Ctx → Ctx) : (s.mapCtxs f).flashNo = s.flashNo := rfl
@[simp] theorem State.mapCtxs_asids (s : State) (f : Ctx → Ctx) : (s.mapCtxs f).asids = s.asids := rfl
@[simp] theorem State.mapCtxs_pageReqs (s : State) (f : Ctx → Ctx) : (s.mapCtxs f).pageReqs = s.pageReqs := rfl
@[simp] theorem State.mapCtxs_dups (s : State) (f : Ctx → Ctx) : (s.mapCtxs f).dups = s.dups := rfl
@[simp] theorem State.mapCtxs_dramTags (s : State) (f : Ctx → Ctx) : (s.mapCtxs f).dramTags = s.dramTags := rfl
@[simp] theorem State.mapCtxs_msgs (s : State) (f : Ctx → Ctx) : (s.mapCtxs f).msgs = s.msgs := rfl
@[simp] theorem State.mapCtxs_lastPart (s : State) (f : Ctx → Ctx) : (s.mapCtxs f).lastPart = s.lastPart := rfl
@[simp] theorem State.mapCtxs_walks (s : State) (f : Ctx → Ctx) : (s.mapCtxs f).walks = s.walks := rfl
@[simp] theorem State.mapCtxs_walkers (s : State) (f : Ctx → Ctx) : (s.mapCtxs f).walkers = s.walkers := rfl
@[simp] theorem State.mapCtxs_lastWalk (s : State) (f : Ctx → Ctx) : (s.mapCtxs f).lastWalk = s.lastWalk := rfl
@[simp] theorem State.mapCtxs_jobs (s : State) (f : Ctx → Ctx) : (s.mapCtxs f).jobs = s.jobs := rfl
@[simp] theorem State.mapCtxs_job (s : State) (f : Ctx → Ctx) : (s.mapCtxs f).job = s.job := rfl
@[simp] theorem State.mapCtxs_lastJob (s : State) (f : Ctx → Ctx) : (s.mapCtxs f).lastJob = s.lastJob := rfl
@[simp] theorem State.mapCtxs_inboxes (s : State) (f : Ctx → Ctx) : (s.mapCtxs f).inboxes = s.inboxes := rfl
@[simp] theorem State.mapCtxs_outbox (s : State) (f : Ctx → Ctx) : (s.mapCtxs f).outbox = s.outbox := rfl
@[simp] theorem State.mapCtxs_advisories (s : State) (f : Ctx → Ctx) : (s.mapCtxs f).advisories = s.advisories := rfl
@[simp] theorem State.mapCtxs_pairings (s : State) (f : Ctx → Ctx) : (s.mapCtxs f).pairings = s.pairings := rfl
@[simp] theorem State.mapCtxs_images (s : State) (f : Ctx → Ctx) : (s.mapCtxs f).images = s.images := rfl
@[simp] theorem State.mapCtxs_checked (s : State) (f : Ctx → Ctx) : (s.mapCtxs f).checked = s.checked := rfl
@[simp] theorem State.mapCtxs_minVer (s : State) (f : Ctx → Ctx) : (s.mapCtxs f).minVer = s.minVer := rfl
@[simp] theorem State.mapCtxs_buf (s : State) (f : Ctx → Ctx) : (s.mapCtxs f).buf = s.buf := rfl
@[simp] theorem State.mapCtxs_saved (s : State) (f : Ctx → Ctx) : (s.mapCtxs f).saved = s.saved := rfl
@[simp] theorem State.mapCtxs_copies (s : State) (f : Ctx → Ctx) : (s.mapCtxs f).copies = s.copies := rfl
@[simp] theorem State.mapCtxs_errLog (s : State) (f : Ctx → Ctx) : (s.mapCtxs f).errLog = s.errLog := rfl
@[simp] theorem State.mapCtxs_a0 (s : State) (f : Ctx → Ctx) : (s.mapCtxs f).a0 = s.a0 := rfl

@[simp] theorem State.mapTiles_clock (s : State) (f : TileKey → Tile → Tile) : (s.mapTiles f).clock = s.clock := rfl
@[simp] theorem State.mapTiles_cur (s : State) (f : TileKey → Tile → Tile) : (s.mapTiles f).cur = s.cur := rfl
@[simp] theorem State.mapTiles_turn (s : State) (f : TileKey → Tile → Tile) : (s.mapTiles f).turn = s.turn := rfl
@[simp] theorem State.mapTiles_behind (s : State) (f : TileKey → Tile → Tile) : (s.mapTiles f).behind = s.behind := rfl
@[simp] theorem State.mapTiles_lateCells (s : State) (f : TileKey → Tile → Tile) : (s.mapTiles f).lateCells = s.lateCells := rfl
@[simp] theorem State.mapTiles_events (s : State) (f : TileKey → Tile → Tile) : (s.mapTiles f).events = s.events := rfl
@[simp] theorem State.mapTiles_free (s : State) (f : TileKey → Tile → Tile) : (s.mapTiles f).free = s.free := rfl
@[simp] theorem State.mapTiles_booted (s : State) (f : TileKey → Tile → Tile) : (s.mapTiles f).booted = s.booted := rfl
@[simp] theorem State.mapTiles_mem (s : State) (f : TileKey → Tile → Tile) : (s.mapTiles f).mem = s.mem := rfl
@[simp] theorem State.mapTiles_memPoison (s : State) (f : TileKey → Tile → Tile) : (s.mapTiles f).memPoison = s.memPoison := rfl
@[simp] theorem State.mapTiles_ctxs (s : State) (f : TileKey → Tile → Tile) : (s.mapTiles f).ctxs = s.ctxs := rfl
@[simp] theorem State.mapTiles_dies (s : State) (f : TileKey → Tile → Tile) : (s.mapTiles f).dies = s.dies := rfl
@[simp] theorem State.mapTiles_nextCtx (s : State) (f : TileKey → Tile → Tile) : (s.mapTiles f).nextCtx = s.nextCtx := rfl
@[simp] theorem State.mapTiles_parts (s : State) (f : TileKey → Tile → Tile) : (s.mapTiles f).parts = s.parts := rfl
@[simp] theorem State.mapTiles_hostWin (s : State) (f : TileKey → Tile → Tile) : (s.mapTiles f).hostWin = s.hostWin := rfl
@[simp] theorem State.mapTiles_slices (s : State) (f : TileKey → Tile → Tile) : (s.mapTiles f).slices = s.slices := rfl
@[simp] theorem State.mapTiles_stations (s : State) (f : TileKey → Tile → Tile) : (s.mapTiles f).stations = s.stations := rfl
@[simp] theorem State.mapTiles_etherTypes (s : State) (f : TileKey → Tile → Tile) : (s.mapTiles f).etherTypes = s.etherTypes := rfl
@[simp] theorem State.mapTiles_powerCaps (s : State) (f : TileKey → Tile → Tile) : (s.mapTiles f).powerCaps = s.powerCaps := rfl
@[simp] theorem State.mapTiles_bootLog (s : State) (f : TileKey → Tile → Tile) : (s.mapTiles f).bootLog = s.bootLog := rfl
@[simp] theorem State.mapTiles_flashRec (s : State) (f : TileKey → Tile → Tile) : (s.mapTiles f).flashRec = s.flashRec := rfl
@[simp] theorem State.mapTiles_flashNo (s : State) (f : TileKey → Tile → Tile) : (s.mapTiles f).flashNo = s.flashNo := rfl
@[simp] theorem State.mapTiles_asids (s : State) (f : TileKey → Tile → Tile) : (s.mapTiles f).asids = s.asids := rfl
@[simp] theorem State.mapTiles_pageReqs (s : State) (f : TileKey → Tile → Tile) : (s.mapTiles f).pageReqs = s.pageReqs := rfl
@[simp] theorem State.mapTiles_dups (s : State) (f : TileKey → Tile → Tile) : (s.mapTiles f).dups = s.dups := rfl
@[simp] theorem State.mapTiles_dramTags (s : State) (f : TileKey → Tile → Tile) : (s.mapTiles f).dramTags = s.dramTags := rfl
@[simp] theorem State.mapTiles_msgs (s : State) (f : TileKey → Tile → Tile) : (s.mapTiles f).msgs = s.msgs := rfl
@[simp] theorem State.mapTiles_lastPart (s : State) (f : TileKey → Tile → Tile) : (s.mapTiles f).lastPart = s.lastPart := rfl
@[simp] theorem State.mapTiles_walks (s : State) (f : TileKey → Tile → Tile) : (s.mapTiles f).walks = s.walks := rfl
@[simp] theorem State.mapTiles_walkers (s : State) (f : TileKey → Tile → Tile) : (s.mapTiles f).walkers = s.walkers := rfl
@[simp] theorem State.mapTiles_lastWalk (s : State) (f : TileKey → Tile → Tile) : (s.mapTiles f).lastWalk = s.lastWalk := rfl
@[simp] theorem State.mapTiles_jobs (s : State) (f : TileKey → Tile → Tile) : (s.mapTiles f).jobs = s.jobs := rfl
@[simp] theorem State.mapTiles_job (s : State) (f : TileKey → Tile → Tile) : (s.mapTiles f).job = s.job := rfl
@[simp] theorem State.mapTiles_lastJob (s : State) (f : TileKey → Tile → Tile) : (s.mapTiles f).lastJob = s.lastJob := rfl
@[simp] theorem State.mapTiles_inboxes (s : State) (f : TileKey → Tile → Tile) : (s.mapTiles f).inboxes = s.inboxes := rfl
@[simp] theorem State.mapTiles_outbox (s : State) (f : TileKey → Tile → Tile) : (s.mapTiles f).outbox = s.outbox := rfl
@[simp] theorem State.mapTiles_advisories (s : State) (f : TileKey → Tile → Tile) : (s.mapTiles f).advisories = s.advisories := rfl
@[simp] theorem State.mapTiles_pairings (s : State) (f : TileKey → Tile → Tile) : (s.mapTiles f).pairings = s.pairings := rfl
@[simp] theorem State.mapTiles_images (s : State) (f : TileKey → Tile → Tile) : (s.mapTiles f).images = s.images := rfl
@[simp] theorem State.mapTiles_checked (s : State) (f : TileKey → Tile → Tile) : (s.mapTiles f).checked = s.checked := rfl
@[simp] theorem State.mapTiles_minVer (s : State) (f : TileKey → Tile → Tile) : (s.mapTiles f).minVer = s.minVer := rfl
@[simp] theorem State.mapTiles_buf (s : State) (f : TileKey → Tile → Tile) : (s.mapTiles f).buf = s.buf := rfl
@[simp] theorem State.mapTiles_saved (s : State) (f : TileKey → Tile → Tile) : (s.mapTiles f).saved = s.saved := rfl
@[simp] theorem State.mapTiles_copies (s : State) (f : TileKey → Tile → Tile) : (s.mapTiles f).copies = s.copies := rfl
@[simp] theorem State.mapTiles_errLog (s : State) (f : TileKey → Tile → Tile) : (s.mapTiles f).errLog = s.errLog := rfl
@[simp] theorem State.mapTiles_a0 (s : State) (f : TileKey → Tile → Tile) : (s.mapTiles f).a0 = s.a0 := rfl

@[simp] theorem State.addEvent_clock (s : State) (n : Nat) (k : TileKey) (i : Instr) : (s.addEvent n k i).clock = s.clock := rfl
@[simp] theorem State.addEvent_cur (s : State) (n : Nat) (k : TileKey) (i : Instr) : (s.addEvent n k i).cur = s.cur := rfl
@[simp] theorem State.addEvent_turn (s : State) (n : Nat) (k : TileKey) (i : Instr) : (s.addEvent n k i).turn = s.turn := rfl
@[simp] theorem State.addEvent_behind (s : State) (n : Nat) (k : TileKey) (i : Instr) : (s.addEvent n k i).behind = s.behind := rfl
@[simp] theorem State.addEvent_lateCells (s : State) (n : Nat) (k : TileKey) (i : Instr) : (s.addEvent n k i).lateCells = s.lateCells := rfl
@[simp] theorem State.addEvent_free (s : State) (n : Nat) (k : TileKey) (i : Instr) : (s.addEvent n k i).free = s.free := rfl
@[simp] theorem State.addEvent_booted (s : State) (n : Nat) (k : TileKey) (i : Instr) : (s.addEvent n k i).booted = s.booted := rfl
@[simp] theorem State.addEvent_mem (s : State) (n : Nat) (k : TileKey) (i : Instr) : (s.addEvent n k i).mem = s.mem := rfl
@[simp] theorem State.addEvent_memPoison (s : State) (n : Nat) (k : TileKey) (i : Instr) : (s.addEvent n k i).memPoison = s.memPoison := rfl
@[simp] theorem State.addEvent_tiles (s : State) (n : Nat) (k : TileKey) (i : Instr) : (s.addEvent n k i).tiles = s.tiles := rfl
@[simp] theorem State.addEvent_ctxs (s : State) (n : Nat) (k : TileKey) (i : Instr) : (s.addEvent n k i).ctxs = s.ctxs := rfl
@[simp] theorem State.addEvent_dies (s : State) (n : Nat) (k : TileKey) (i : Instr) : (s.addEvent n k i).dies = s.dies := rfl
@[simp] theorem State.addEvent_nextCtx (s : State) (n : Nat) (k : TileKey) (i : Instr) : (s.addEvent n k i).nextCtx = s.nextCtx := rfl
@[simp] theorem State.addEvent_parts (s : State) (n : Nat) (k : TileKey) (i : Instr) : (s.addEvent n k i).parts = s.parts := rfl
@[simp] theorem State.addEvent_hostWin (s : State) (n : Nat) (k : TileKey) (i : Instr) : (s.addEvent n k i).hostWin = s.hostWin := rfl
@[simp] theorem State.addEvent_slices (s : State) (n : Nat) (k : TileKey) (i : Instr) : (s.addEvent n k i).slices = s.slices := rfl
@[simp] theorem State.addEvent_stations (s : State) (n : Nat) (k : TileKey) (i : Instr) : (s.addEvent n k i).stations = s.stations := rfl
@[simp] theorem State.addEvent_etherTypes (s : State) (n : Nat) (k : TileKey) (i : Instr) : (s.addEvent n k i).etherTypes = s.etherTypes := rfl
@[simp] theorem State.addEvent_powerCaps (s : State) (n : Nat) (k : TileKey) (i : Instr) : (s.addEvent n k i).powerCaps = s.powerCaps := rfl
@[simp] theorem State.addEvent_bootLog (s : State) (n : Nat) (k : TileKey) (i : Instr) : (s.addEvent n k i).bootLog = s.bootLog := rfl
@[simp] theorem State.addEvent_flashRec (s : State) (n : Nat) (k : TileKey) (i : Instr) : (s.addEvent n k i).flashRec = s.flashRec := rfl
@[simp] theorem State.addEvent_flashNo (s : State) (n : Nat) (k : TileKey) (i : Instr) : (s.addEvent n k i).flashNo = s.flashNo := rfl
@[simp] theorem State.addEvent_asids (s : State) (n : Nat) (k : TileKey) (i : Instr) : (s.addEvent n k i).asids = s.asids := rfl
@[simp] theorem State.addEvent_pageReqs (s : State) (n : Nat) (k : TileKey) (i : Instr) : (s.addEvent n k i).pageReqs = s.pageReqs := rfl
@[simp] theorem State.addEvent_dups (s : State) (n : Nat) (k : TileKey) (i : Instr) : (s.addEvent n k i).dups = s.dups := rfl
@[simp] theorem State.addEvent_dramTags (s : State) (n : Nat) (k : TileKey) (i : Instr) : (s.addEvent n k i).dramTags = s.dramTags := rfl
@[simp] theorem State.addEvent_msgs (s : State) (n : Nat) (k : TileKey) (i : Instr) : (s.addEvent n k i).msgs = s.msgs := rfl
@[simp] theorem State.addEvent_lastPart (s : State) (n : Nat) (k : TileKey) (i : Instr) : (s.addEvent n k i).lastPart = s.lastPart := rfl
@[simp] theorem State.addEvent_walks (s : State) (n : Nat) (k : TileKey) (i : Instr) : (s.addEvent n k i).walks = s.walks := rfl
@[simp] theorem State.addEvent_walkers (s : State) (n : Nat) (k : TileKey) (i : Instr) : (s.addEvent n k i).walkers = s.walkers := rfl
@[simp] theorem State.addEvent_lastWalk (s : State) (n : Nat) (k : TileKey) (i : Instr) : (s.addEvent n k i).lastWalk = s.lastWalk := rfl
@[simp] theorem State.addEvent_jobs (s : State) (n : Nat) (k : TileKey) (i : Instr) : (s.addEvent n k i).jobs = s.jobs := rfl
@[simp] theorem State.addEvent_job (s : State) (n : Nat) (k : TileKey) (i : Instr) : (s.addEvent n k i).job = s.job := rfl
@[simp] theorem State.addEvent_lastJob (s : State) (n : Nat) (k : TileKey) (i : Instr) : (s.addEvent n k i).lastJob = s.lastJob := rfl
@[simp] theorem State.addEvent_inboxes (s : State) (n : Nat) (k : TileKey) (i : Instr) : (s.addEvent n k i).inboxes = s.inboxes := rfl
@[simp] theorem State.addEvent_outbox (s : State) (n : Nat) (k : TileKey) (i : Instr) : (s.addEvent n k i).outbox = s.outbox := rfl
@[simp] theorem State.addEvent_advisories (s : State) (n : Nat) (k : TileKey) (i : Instr) : (s.addEvent n k i).advisories = s.advisories := rfl
@[simp] theorem State.addEvent_pairings (s : State) (n : Nat) (k : TileKey) (i : Instr) : (s.addEvent n k i).pairings = s.pairings := rfl
@[simp] theorem State.addEvent_images (s : State) (n : Nat) (k : TileKey) (i : Instr) : (s.addEvent n k i).images = s.images := rfl
@[simp] theorem State.addEvent_checked (s : State) (n : Nat) (k : TileKey) (i : Instr) : (s.addEvent n k i).checked = s.checked := rfl
@[simp] theorem State.addEvent_minVer (s : State) (n : Nat) (k : TileKey) (i : Instr) : (s.addEvent n k i).minVer = s.minVer := rfl
@[simp] theorem State.addEvent_buf (s : State) (n : Nat) (k : TileKey) (i : Instr) : (s.addEvent n k i).buf = s.buf := rfl
@[simp] theorem State.addEvent_saved (s : State) (n : Nat) (k : TileKey) (i : Instr) : (s.addEvent n k i).saved = s.saved := rfl
@[simp] theorem State.addEvent_copies (s : State) (n : Nat) (k : TileKey) (i : Instr) : (s.addEvent n k i).copies = s.copies := rfl
@[simp] theorem State.addEvent_errLog (s : State) (n : Nat) (k : TileKey) (i : Instr) : (s.addEvent n k i).errLog = s.errLog := rfl
@[simp] theorem State.addEvent_a0 (s : State) (n : Nat) (k : TileKey) (i : Instr) : (s.addEvent n k i).a0 = s.a0 := rfl

@[simp] theorem State.addLater_clock (s : State) (k : TileKey) (i : Instr) : (s.addLater k i).clock = s.clock := rfl
@[simp] theorem State.addLater_cur (s : State) (k : TileKey) (i : Instr) : (s.addLater k i).cur = s.cur := rfl
@[simp] theorem State.addLater_turn (s : State) (k : TileKey) (i : Instr) : (s.addLater k i).turn = s.turn := rfl
@[simp] theorem State.addLater_behind (s : State) (k : TileKey) (i : Instr) : (s.addLater k i).behind = s.behind := rfl
@[simp] theorem State.addLater_lateCells (s : State) (k : TileKey) (i : Instr) : (s.addLater k i).lateCells = s.lateCells := rfl
@[simp] theorem State.addLater_booted (s : State) (k : TileKey) (i : Instr) : (s.addLater k i).booted = s.booted := rfl
@[simp] theorem State.addLater_mem (s : State) (k : TileKey) (i : Instr) : (s.addLater k i).mem = s.mem := rfl
@[simp] theorem State.addLater_memPoison (s : State) (k : TileKey) (i : Instr) : (s.addLater k i).memPoison = s.memPoison := rfl
@[simp] theorem State.addLater_tiles (s : State) (k : TileKey) (i : Instr) : (s.addLater k i).tiles = s.tiles := rfl
@[simp] theorem State.addLater_ctxs (s : State) (k : TileKey) (i : Instr) : (s.addLater k i).ctxs = s.ctxs := rfl
@[simp] theorem State.addLater_dies (s : State) (k : TileKey) (i : Instr) : (s.addLater k i).dies = s.dies := rfl
@[simp] theorem State.addLater_nextCtx (s : State) (k : TileKey) (i : Instr) : (s.addLater k i).nextCtx = s.nextCtx := rfl
@[simp] theorem State.addLater_parts (s : State) (k : TileKey) (i : Instr) : (s.addLater k i).parts = s.parts := rfl
@[simp] theorem State.addLater_hostWin (s : State) (k : TileKey) (i : Instr) : (s.addLater k i).hostWin = s.hostWin := rfl
@[simp] theorem State.addLater_slices (s : State) (k : TileKey) (i : Instr) : (s.addLater k i).slices = s.slices := rfl
@[simp] theorem State.addLater_stations (s : State) (k : TileKey) (i : Instr) : (s.addLater k i).stations = s.stations := rfl
@[simp] theorem State.addLater_etherTypes (s : State) (k : TileKey) (i : Instr) : (s.addLater k i).etherTypes = s.etherTypes := rfl
@[simp] theorem State.addLater_powerCaps (s : State) (k : TileKey) (i : Instr) : (s.addLater k i).powerCaps = s.powerCaps := rfl
@[simp] theorem State.addLater_bootLog (s : State) (k : TileKey) (i : Instr) : (s.addLater k i).bootLog = s.bootLog := rfl
@[simp] theorem State.addLater_flashRec (s : State) (k : TileKey) (i : Instr) : (s.addLater k i).flashRec = s.flashRec := rfl
@[simp] theorem State.addLater_flashNo (s : State) (k : TileKey) (i : Instr) : (s.addLater k i).flashNo = s.flashNo := rfl
@[simp] theorem State.addLater_asids (s : State) (k : TileKey) (i : Instr) : (s.addLater k i).asids = s.asids := rfl
@[simp] theorem State.addLater_pageReqs (s : State) (k : TileKey) (i : Instr) : (s.addLater k i).pageReqs = s.pageReqs := rfl
@[simp] theorem State.addLater_dups (s : State) (k : TileKey) (i : Instr) : (s.addLater k i).dups = s.dups := rfl
@[simp] theorem State.addLater_dramTags (s : State) (k : TileKey) (i : Instr) : (s.addLater k i).dramTags = s.dramTags := rfl
@[simp] theorem State.addLater_msgs (s : State) (k : TileKey) (i : Instr) : (s.addLater k i).msgs = s.msgs := rfl
@[simp] theorem State.addLater_lastPart (s : State) (k : TileKey) (i : Instr) : (s.addLater k i).lastPart = s.lastPart := rfl
@[simp] theorem State.addLater_walks (s : State) (k : TileKey) (i : Instr) : (s.addLater k i).walks = s.walks := rfl
@[simp] theorem State.addLater_walkers (s : State) (k : TileKey) (i : Instr) : (s.addLater k i).walkers = s.walkers := rfl
@[simp] theorem State.addLater_lastWalk (s : State) (k : TileKey) (i : Instr) : (s.addLater k i).lastWalk = s.lastWalk := rfl
@[simp] theorem State.addLater_jobs (s : State) (k : TileKey) (i : Instr) : (s.addLater k i).jobs = s.jobs := rfl
@[simp] theorem State.addLater_job (s : State) (k : TileKey) (i : Instr) : (s.addLater k i).job = s.job := rfl
@[simp] theorem State.addLater_lastJob (s : State) (k : TileKey) (i : Instr) : (s.addLater k i).lastJob = s.lastJob := rfl
@[simp] theorem State.addLater_inboxes (s : State) (k : TileKey) (i : Instr) : (s.addLater k i).inboxes = s.inboxes := rfl
@[simp] theorem State.addLater_outbox (s : State) (k : TileKey) (i : Instr) : (s.addLater k i).outbox = s.outbox := rfl
@[simp] theorem State.addLater_advisories (s : State) (k : TileKey) (i : Instr) : (s.addLater k i).advisories = s.advisories := rfl
@[simp] theorem State.addLater_pairings (s : State) (k : TileKey) (i : Instr) : (s.addLater k i).pairings = s.pairings := rfl
@[simp] theorem State.addLater_images (s : State) (k : TileKey) (i : Instr) : (s.addLater k i).images = s.images := rfl
@[simp] theorem State.addLater_checked (s : State) (k : TileKey) (i : Instr) : (s.addLater k i).checked = s.checked := rfl
@[simp] theorem State.addLater_minVer (s : State) (k : TileKey) (i : Instr) : (s.addLater k i).minVer = s.minVer := rfl
@[simp] theorem State.addLater_buf (s : State) (k : TileKey) (i : Instr) : (s.addLater k i).buf = s.buf := rfl
@[simp] theorem State.addLater_saved (s : State) (k : TileKey) (i : Instr) : (s.addLater k i).saved = s.saved := rfl
@[simp] theorem State.addLater_copies (s : State) (k : TileKey) (i : Instr) : (s.addLater k i).copies = s.copies := rfl
@[simp] theorem State.addLater_errLog (s : State) (k : TileKey) (i : Instr) : (s.addLater k i).errLog = s.errLog := rfl
@[simp] theorem State.addLater_a0 (s : State) (k : TileKey) (i : Instr) : (s.addLater k i).a0 = s.a0 := rfl

@[simp] theorem State.memWrite_clock (s : State) (a : Nat) (bs : List Byte) : (s.memWrite a bs).clock = s.clock := rfl
@[simp] theorem State.memWrite_cur (s : State) (a : Nat) (bs : List Byte) : (s.memWrite a bs).cur = s.cur := rfl
@[simp] theorem State.memWrite_turn (s : State) (a : Nat) (bs : List Byte) : (s.memWrite a bs).turn = s.turn := rfl
@[simp] theorem State.memWrite_behind (s : State) (a : Nat) (bs : List Byte) : (s.memWrite a bs).behind = s.behind := rfl
@[simp] theorem State.memWrite_lateCells (s : State) (a : Nat) (bs : List Byte) : (s.memWrite a bs).lateCells = s.lateCells := rfl
@[simp] theorem State.memWrite_events (s : State) (a : Nat) (bs : List Byte) : (s.memWrite a bs).events = s.events := rfl
@[simp] theorem State.memWrite_free (s : State) (a : Nat) (bs : List Byte) : (s.memWrite a bs).free = s.free := rfl
@[simp] theorem State.memWrite_booted (s : State) (a : Nat) (bs : List Byte) : (s.memWrite a bs).booted = s.booted := rfl
@[simp] theorem State.memWrite_memPoison (s : State) (a : Nat) (bs : List Byte) : (s.memWrite a bs).memPoison = s.memPoison := rfl
@[simp] theorem State.memWrite_tiles (s : State) (a : Nat) (bs : List Byte) : (s.memWrite a bs).tiles = s.tiles := rfl
@[simp] theorem State.memWrite_ctxs (s : State) (a : Nat) (bs : List Byte) : (s.memWrite a bs).ctxs = s.ctxs := rfl
@[simp] theorem State.memWrite_dies (s : State) (a : Nat) (bs : List Byte) : (s.memWrite a bs).dies = s.dies := rfl
@[simp] theorem State.memWrite_nextCtx (s : State) (a : Nat) (bs : List Byte) : (s.memWrite a bs).nextCtx = s.nextCtx := rfl
@[simp] theorem State.memWrite_parts (s : State) (a : Nat) (bs : List Byte) : (s.memWrite a bs).parts = s.parts := rfl
@[simp] theorem State.memWrite_hostWin (s : State) (a : Nat) (bs : List Byte) : (s.memWrite a bs).hostWin = s.hostWin := rfl
@[simp] theorem State.memWrite_slices (s : State) (a : Nat) (bs : List Byte) : (s.memWrite a bs).slices = s.slices := rfl
@[simp] theorem State.memWrite_stations (s : State) (a : Nat) (bs : List Byte) : (s.memWrite a bs).stations = s.stations := rfl
@[simp] theorem State.memWrite_etherTypes (s : State) (a : Nat) (bs : List Byte) : (s.memWrite a bs).etherTypes = s.etherTypes := rfl
@[simp] theorem State.memWrite_powerCaps (s : State) (a : Nat) (bs : List Byte) : (s.memWrite a bs).powerCaps = s.powerCaps := rfl
@[simp] theorem State.memWrite_bootLog (s : State) (a : Nat) (bs : List Byte) : (s.memWrite a bs).bootLog = s.bootLog := rfl
@[simp] theorem State.memWrite_flashRec (s : State) (a : Nat) (bs : List Byte) : (s.memWrite a bs).flashRec = s.flashRec := rfl
@[simp] theorem State.memWrite_flashNo (s : State) (a : Nat) (bs : List Byte) : (s.memWrite a bs).flashNo = s.flashNo := rfl
@[simp] theorem State.memWrite_asids (s : State) (a : Nat) (bs : List Byte) : (s.memWrite a bs).asids = s.asids := rfl
@[simp] theorem State.memWrite_pageReqs (s : State) (a : Nat) (bs : List Byte) : (s.memWrite a bs).pageReqs = s.pageReqs := rfl
@[simp] theorem State.memWrite_dups (s : State) (a : Nat) (bs : List Byte) : (s.memWrite a bs).dups = s.dups := rfl
@[simp] theorem State.memWrite_dramTags (s : State) (a : Nat) (bs : List Byte) : (s.memWrite a bs).dramTags = s.dramTags := rfl
@[simp] theorem State.memWrite_msgs (s : State) (a : Nat) (bs : List Byte) : (s.memWrite a bs).msgs = s.msgs := rfl
@[simp] theorem State.memWrite_lastPart (s : State) (a : Nat) (bs : List Byte) : (s.memWrite a bs).lastPart = s.lastPart := rfl
@[simp] theorem State.memWrite_walks (s : State) (a : Nat) (bs : List Byte) : (s.memWrite a bs).walks = s.walks := rfl
@[simp] theorem State.memWrite_walkers (s : State) (a : Nat) (bs : List Byte) : (s.memWrite a bs).walkers = s.walkers := rfl
@[simp] theorem State.memWrite_lastWalk (s : State) (a : Nat) (bs : List Byte) : (s.memWrite a bs).lastWalk = s.lastWalk := rfl
@[simp] theorem State.memWrite_jobs (s : State) (a : Nat) (bs : List Byte) : (s.memWrite a bs).jobs = s.jobs := rfl
@[simp] theorem State.memWrite_job (s : State) (a : Nat) (bs : List Byte) : (s.memWrite a bs).job = s.job := rfl
@[simp] theorem State.memWrite_lastJob (s : State) (a : Nat) (bs : List Byte) : (s.memWrite a bs).lastJob = s.lastJob := rfl
@[simp] theorem State.memWrite_inboxes (s : State) (a : Nat) (bs : List Byte) : (s.memWrite a bs).inboxes = s.inboxes := rfl
@[simp] theorem State.memWrite_outbox (s : State) (a : Nat) (bs : List Byte) : (s.memWrite a bs).outbox = s.outbox := rfl
@[simp] theorem State.memWrite_advisories (s : State) (a : Nat) (bs : List Byte) : (s.memWrite a bs).advisories = s.advisories := rfl
@[simp] theorem State.memWrite_pairings (s : State) (a : Nat) (bs : List Byte) : (s.memWrite a bs).pairings = s.pairings := rfl
@[simp] theorem State.memWrite_images (s : State) (a : Nat) (bs : List Byte) : (s.memWrite a bs).images = s.images := rfl
@[simp] theorem State.memWrite_checked (s : State) (a : Nat) (bs : List Byte) : (s.memWrite a bs).checked = s.checked := rfl
@[simp] theorem State.memWrite_minVer (s : State) (a : Nat) (bs : List Byte) : (s.memWrite a bs).minVer = s.minVer := rfl
@[simp] theorem State.memWrite_buf (s : State) (a : Nat) (bs : List Byte) : (s.memWrite a bs).buf = s.buf := rfl
@[simp] theorem State.memWrite_saved (s : State) (a : Nat) (bs : List Byte) : (s.memWrite a bs).saved = s.saved := rfl
@[simp] theorem State.memWrite_copies (s : State) (a : Nat) (bs : List Byte) : (s.memWrite a bs).copies = s.copies := rfl
@[simp] theorem State.memWrite_errLog (s : State) (a : Nat) (bs : List Byte) : (s.memWrite a bs).errLog = s.errLog := rfl
@[simp] theorem State.memWrite_a0 (s : State) (a : Nat) (bs : List Byte) : (s.memWrite a bs).a0 = s.a0 := rfl

@[simp] theorem State.spend_clock (s : State) : (s.spend).clock = s.clock := rfl
@[simp] theorem State.spend_cur (s : State) : (s.spend).cur = s.cur := rfl
@[simp] theorem State.spend_turn (s : State) : (s.spend).turn = s.turn := rfl
@[simp] theorem State.spend_behind (s : State) : (s.spend).behind = s.behind := rfl
@[simp] theorem State.spend_lateCells (s : State) : (s.spend).lateCells = s.lateCells := rfl
@[simp] theorem State.spend_events (s : State) : (s.spend).events = s.events := rfl
@[simp] theorem State.spend_booted (s : State) : (s.spend).booted = s.booted := rfl
@[simp] theorem State.spend_mem (s : State) : (s.spend).mem = s.mem := rfl
@[simp] theorem State.spend_memPoison (s : State) : (s.spend).memPoison = s.memPoison := rfl
@[simp] theorem State.spend_tiles (s : State) : (s.spend).tiles = s.tiles := rfl
@[simp] theorem State.spend_ctxs (s : State) : (s.spend).ctxs = s.ctxs := rfl
@[simp] theorem State.spend_dies (s : State) : (s.spend).dies = s.dies := rfl
@[simp] theorem State.spend_nextCtx (s : State) : (s.spend).nextCtx = s.nextCtx := rfl
@[simp] theorem State.spend_parts (s : State) : (s.spend).parts = s.parts := rfl
@[simp] theorem State.spend_hostWin (s : State) : (s.spend).hostWin = s.hostWin := rfl
@[simp] theorem State.spend_slices (s : State) : (s.spend).slices = s.slices := rfl
@[simp] theorem State.spend_stations (s : State) : (s.spend).stations = s.stations := rfl
@[simp] theorem State.spend_etherTypes (s : State) : (s.spend).etherTypes = s.etherTypes := rfl
@[simp] theorem State.spend_powerCaps (s : State) : (s.spend).powerCaps = s.powerCaps := rfl
@[simp] theorem State.spend_bootLog (s : State) : (s.spend).bootLog = s.bootLog := rfl
@[simp] theorem State.spend_flashRec (s : State) : (s.spend).flashRec = s.flashRec := rfl
@[simp] theorem State.spend_flashNo (s : State) : (s.spend).flashNo = s.flashNo := rfl
@[simp] theorem State.spend_asids (s : State) : (s.spend).asids = s.asids := rfl
@[simp] theorem State.spend_pageReqs (s : State) : (s.spend).pageReqs = s.pageReqs := rfl
@[simp] theorem State.spend_dups (s : State) : (s.spend).dups = s.dups := rfl
@[simp] theorem State.spend_dramTags (s : State) : (s.spend).dramTags = s.dramTags := rfl
@[simp] theorem State.spend_msgs (s : State) : (s.spend).msgs = s.msgs := rfl
@[simp] theorem State.spend_lastPart (s : State) : (s.spend).lastPart = s.lastPart := rfl
@[simp] theorem State.spend_walks (s : State) : (s.spend).walks = s.walks := rfl
@[simp] theorem State.spend_walkers (s : State) : (s.spend).walkers = s.walkers := rfl
@[simp] theorem State.spend_lastWalk (s : State) : (s.spend).lastWalk = s.lastWalk := rfl
@[simp] theorem State.spend_jobs (s : State) : (s.spend).jobs = s.jobs := rfl
@[simp] theorem State.spend_job (s : State) : (s.spend).job = s.job := rfl
@[simp] theorem State.spend_lastJob (s : State) : (s.spend).lastJob = s.lastJob := rfl
@[simp] theorem State.spend_inboxes (s : State) : (s.spend).inboxes = s.inboxes := rfl
@[simp] theorem State.spend_outbox (s : State) : (s.spend).outbox = s.outbox := rfl
@[simp] theorem State.spend_advisories (s : State) : (s.spend).advisories = s.advisories := rfl
@[simp] theorem State.spend_pairings (s : State) : (s.spend).pairings = s.pairings := rfl
@[simp] theorem State.spend_images (s : State) : (s.spend).images = s.images := rfl
@[simp] theorem State.spend_checked (s : State) : (s.spend).checked = s.checked := rfl
@[simp] theorem State.spend_minVer (s : State) : (s.spend).minVer = s.minVer := rfl
@[simp] theorem State.spend_buf (s : State) : (s.spend).buf = s.buf := rfl
@[simp] theorem State.spend_saved (s : State) : (s.spend).saved = s.saved := rfl
@[simp] theorem State.spend_copies (s : State) : (s.spend).copies = s.copies := rfl
@[simp] theorem State.spend_errLog (s : State) : (s.spend).errLog = s.errLog := rfl
@[simp] theorem State.spend_a0 (s : State) : (s.spend).a0 = s.a0 := rfl

/-! ### A tile behind an update -/

@[simp] theorem State.setTileAt_tileAt (s : State) (k : TileKey) (t : Tile) : (s.setTileAt k t).tileAt k = t := by
  simp [State.tileAt, State.setTileAt]

theorem State.setTileAt_tileAt_ne (s : State) {k j : TileKey} (t : Tile) (h : j ≠ k) : (s.setTileAt k t).tileAt j = s.tileAt j := by
  simp [State.tileAt, State.setTileAt, assocGet_assocSet_ne _ _ h]

@[simp] theorem State.modTileAt_tileAt (s : State) (k : TileKey) (f : Tile → Tile) : (s.modTileAt k f).tileAt k = f (s.tileAt k) := by
  simp [State.modTileAt]

theorem State.modTileAt_tileAt_ne (s : State) {k j : TileKey} (f : Tile → Tile) (h : j ≠ k) :
    (s.modTileAt k f).tileAt j = s.tileAt j := by
  simp [State.modTileAt, State.setTileAt_tileAt_ne _ _ h]

@[simp] theorem State.modTile_tile (s : State) (f : Tile → Tile) : (s.modTile f).tile = f s.tile := by
  simp [State.modTile, State.setTile, State.tile, State.tileAt, State.setTileAt]

theorem State.modTile_tileAt_ne (s : State) {j : TileKey} (f : Tile → Tile) (h : j ≠ s.cur) :
    (s.modTile f).tileAt j = s.tileAt j := by
  simp [State.modTile, State.setTile, State.setTileAt_tileAt_ne _ _ h]

@[simp] theorem State.modTile_ctx (s : State) (f : Tile → Tile) : (s.modTile f).ctx = s.ctx := rfl

@[simp] theorem State.modTile_cycle (s : State) (f : Tile → Tile) (d : DieId) : (s.modTile f).cycle d = s.cycle d := rfl

theorem State.modDie_dieAt (s : State) (d : DieId) (f : Die → Die) : (s.modDie d f).dieAt d = f (s.dieAt d) := by
  simp [State.modDie, State.dieAt]

theorem State.modDie_dieAt_ne (s : State) {d e : DieId} (f : Die → Die) (h : e ≠ d) : (s.modDie d f).dieAt e = s.dieAt e := by
  simp [State.modDie, State.dieAt, assocGet_assocSet_ne _ _ h]

/-! ### A tile's parts -/

@[simp] theorem Tile.mapCore_mark (t : Tile) (f : TileCore → TileCore) : (t.mapCore f).mark = t.mark := rfl
@[simp] theorem Tile.mapCore_task (t : Tile) (f : TileCore → TileCore) : (t.mapCore f).task = t.task := rfl
@[simp] theorem Tile.mapCore_frozen (t : Tile) (f : TileCore → TileCore) : (t.mapCore f).frozen = t.frozen := rfl
@[simp] theorem Tile.mapCore_gated (t : Tile) (f : TileCore → TileCore) : (t.mapCore f).gated = t.gated := rfl
@[simp] theorem Tile.mapCore_wrote (t : Tile) (f : TileCore → TileCore) : (t.mapCore f).wrote = t.wrote := rfl
@[simp] theorem Tile.mapCore_stores (t : Tile) (f : TileCore → TileCore) : (t.mapCore f).stores = t.stores := rfl
@[simp] theorem Tile.mapCore_scratch (t : Tile) (f : TileCore → TileCore) : (t.mapCore f).scratch = t.scratch := rfl
@[simp] theorem Tile.mapCore_full (t : Tile) (f : TileCore → TileCore) : (t.mapCore f).full = t.full := rfl
@[simp] theorem Tile.mapCore_held (t : Tile) (f : TileCore → TileCore) : (t.mapCore f).held = t.held := rfl
@[simp] theorem Tile.mapCore_poison (t : Tile) (f : TileCore → TileCore) : (t.mapCore f).poison = t.poison := rfl
@[simp] theorem Tile.mapCore_shadow (t : Tile) (f : TileCore → TileCore) : (t.mapCore f).shadow = t.shadow := rfl
@[simp] theorem Tile.mapCore_lsq (t : Tile) (f : TileCore → TileCore) : (t.mapCore f).lsq = t.lsq := rfl
@[simp] theorem Tile.mapCore_issue (t : Tile) (f : TileCore → TileCore) : (t.mapCore f).issue = t.issue := rfl
@[simp] theorem Tile.mapCore_ibuf (t : Tile) (f : TileCore → TileCore) : (t.mapCore f).ibuf = t.ibuf := rfl
@[simp] theorem Tile.mapCore_locks (t : Tile) (f : TileCore → TileCore) : (t.mapCore f).locks = t.locks := rfl
@[simp] theorem Tile.mapCore_dma (t : Tile) (f : TileCore → TileCore) : (t.mapCore f).dma = t.dma := rfl
@[simp] theorem Tile.mapCore_nextTag (t : Tile) (f : TileCore → TileCore) : (t.mapCore f).nextTag = t.nextTag := rfl
@[simp] theorem Tile.mapCore_sends (t : Tile) (f : TileCore → TileCore) : (t.mapCore f).sends = t.sends := rfl
@[simp] theorem Tile.mapCore_cfill (t : Tile) (f : TileCore → TileCore) : (t.mapCore f).cfill = t.cfill := rfl
@[simp] theorem Tile.mapCore_cdrain (t : Tile) (f : TileCore → TileCore) : (t.mapCore f).cdrain = t.cdrain := rfl
@[simp] theorem Tile.mapCore_tv (t : Tile) (f : TileCore → TileCore) : (t.mapCore f).tv = t.tv := rfl
@[simp] theorem Tile.mapCore_inh (t : Tile) (f : TileCore → TileCore) : (t.mapCore f).inh = t.inh := rfl
@[simp] theorem Tile.mapCore_nest (t : Tile) (f : TileCore → TileCore) : (t.mapCore f).nest = t.nest := rfl
@[simp] theorem Tile.mapCore_priv (t : Tile) (f : TileCore → TileCore) : (t.mapCore f).priv = t.priv := rfl
@[simp] theorem Tile.mapCore_code (t : Tile) (f : TileCore → TileCore) : (t.mapCore f).code = t.code := rfl
@[simp] theorem Tile.mapCore_tepc (t : Tile) (f : TileCore → TileCore) : (t.mapCore f).tepc = t.tepc := rfl
@[simp] theorem Tile.mapCore_tinfo (t : Tile) (f : TileCore → TileCore) : (t.mapCore f).tinfo = t.tinfo := rfl
@[simp] theorem Tile.mapCore_savebase (t : Tile) (f : TileCore → TileCore) : (t.mapCore f).savebase = t.savebase := rfl
@[simp] theorem Tile.mapCore_stubbase (t : Tile) (f : TileCore → TileCore) : (t.mapCore f).stubbase = t.stubbase := rfl
@[simp] theorem Tile.mapCore_heldCauses (t : Tile) (f : TileCore → TileCore) : (t.mapCore f).heldCauses = t.heldCauses := rfl
@[simp] theorem Tile.mapCore_faultH (t : Tile) (f : TileCore → TileCore) : (t.mapCore f).faultH = t.faultH := rfl
@[simp] theorem Tile.mapCore_refused (t : Tile) (f : TileCore → TileCore) : (t.mapCore f).refused = t.refused := rfl
@[simp] theorem Tile.mapCore_snap (t : Tile) (f : TileCore → TileCore) : (t.mapCore f).snap = t.snap := rfl
@[simp] theorem Tile.mapCore_stubFrom (t : Tile) (f : TileCore → TileCore) : (t.mapCore f).stubFrom = t.stubFrom := rfl
@[simp] theorem Tile.mapCore_user (t : Tile) (f : TileCore → TileCore) : (t.mapCore f).user = t.user := rfl
@[simp] theorem Tile.mapCore_under (t : Tile) (f : TileCore → TileCore) : (t.mapCore f).under = t.under := rfl
@[simp] theorem Tile.mapCore_owed (t : Tile) (f : TileCore → TileCore) : (t.mapCore f).owed = t.owed := rfl
@[simp] theorem Tile.mapCore_out (t : Tile) (f : TileCore → TileCore) : (t.mapCore f).out = t.out := rfl
@[simp] theorem Tile.mapCore_dispatched (t : Tile) (f : TileCore → TileCore) : (t.mapCore f).dispatched = t.dispatched := rfl
@[simp] theorem Tile.mapCore_frame (t : Tile) (f : TileCore → TileCore) : (t.mapCore f).frame = t.frame := rfl
@[simp] theorem Tile.mapCore_conjQ (t : Tile) (f : TileCore → TileCore) : (t.mapCore f).conjQ = t.conjQ := rfl
@[simp] theorem Tile.mapCore_station (t : Tile) (f : TileCore → TileCore) : (t.mapCore f).station = t.station := rfl
@[simp] theorem Tile.mapCore_vcs (t : Tile) (f : TileCore → TileCore) : (t.mapCore f).vcs = t.vcs := rfl
@[simp] theorem Tile.mapCore_rel (t : Tile) (f : TileCore → TileCore) : (t.mapCore f).rel = t.rel := rfl
@[simp] theorem Tile.mapCore_acq (t : Tile) (f : TileCore → TileCore) : (t.mapCore f).acq = t.acq := rfl
@[simp] theorem Tile.mapCore_lines (t : Tile) (f : TileCore → TileCore) : (t.mapCore f).lines = t.lines := rfl
@[simp] theorem Tile.mapCore_tags (t : Tile) (f : TileCore → TileCore) : (t.mapCore f).tags = t.tags := rfl
@[simp] theorem Tile.mapCore_markHb (t : Tile) (f : TileCore → TileCore) : (t.mapCore f).markHb = t.markHb := rfl
@[simp] theorem Tile.mapCore_posts (t : Tile) (f : TileCore → TileCore) : (t.mapCore f).posts = t.posts := rfl
@[simp] theorem Tile.mapCore_trace (t : Tile) (f : TileCore → TileCore) : (t.mapCore f).trace = t.trace := rfl
@[simp] theorem Tile.mapCore_towN (t : Tile) (f : TileCore → TileCore) : (t.mapCore f).towN = t.towN := rfl
@[simp] theorem Tile.mapCore_markAt (t : Tile) (f : TileCore → TileCore) : (t.mapCore f).markAt = t.markAt := rfl
@[simp] theorem Tile.mapCore_towAt (t : Tile) (f : TileCore → TileCore) : (t.mapCore f).towAt = t.towAt := rfl
@[simp] theorem Tile.mapCore_ahead (t : Tile) (f : TileCore → TileCore) : (t.mapCore f).ahead = t.ahead := rfl
@[simp] theorem Tile.mapCore_nextId (t : Tile) (f : TileCore → TileCore) : (t.mapCore f).nextId = t.nextId := rfl

@[simp] theorem Tile.mapSeq_mark (t : Tile) (f : Seq → Seq) : (t.mapSeq f).mark = t.mark := rfl
@[simp] theorem Tile.mapSeq_task (t : Tile) (f : Seq → Seq) : (t.mapSeq f).task = t.task := rfl
@[simp] theorem Tile.mapSeq_frozen (t : Tile) (f : Seq → Seq) : (t.mapSeq f).frozen = t.frozen := rfl
@[simp] theorem Tile.mapSeq_gated (t : Tile) (f : Seq → Seq) : (t.mapSeq f).gated = t.gated := rfl
@[simp] theorem Tile.mapSeq_wrote (t : Tile) (f : Seq → Seq) : (t.mapSeq f).wrote = t.wrote := rfl
@[simp] theorem Tile.mapSeq_stores (t : Tile) (f : Seq → Seq) : (t.mapSeq f).stores = t.stores := rfl
@[simp] theorem Tile.mapSeq_scratch (t : Tile) (f : Seq → Seq) : (t.mapSeq f).scratch = t.scratch := rfl
@[simp] theorem Tile.mapSeq_full (t : Tile) (f : Seq → Seq) : (t.mapSeq f).full = t.full := rfl
@[simp] theorem Tile.mapSeq_held (t : Tile) (f : Seq → Seq) : (t.mapSeq f).held = t.held := rfl
@[simp] theorem Tile.mapSeq_poison (t : Tile) (f : Seq → Seq) : (t.mapSeq f).poison = t.poison := rfl
@[simp] theorem Tile.mapSeq_shadow (t : Tile) (f : Seq → Seq) : (t.mapSeq f).shadow = t.shadow := rfl
@[simp] theorem Tile.mapSeq_lsq (t : Tile) (f : Seq → Seq) : (t.mapSeq f).lsq = t.lsq := rfl
@[simp] theorem Tile.mapSeq_issue (t : Tile) (f : Seq → Seq) : (t.mapSeq f).issue = t.issue := rfl
@[simp] theorem Tile.mapSeq_ibuf (t : Tile) (f : Seq → Seq) : (t.mapSeq f).ibuf = t.ibuf := rfl
@[simp] theorem Tile.mapSeq_locks (t : Tile) (f : Seq → Seq) : (t.mapSeq f).locks = t.locks := rfl
@[simp] theorem Tile.mapSeq_dma (t : Tile) (f : Seq → Seq) : (t.mapSeq f).dma = t.dma := rfl
@[simp] theorem Tile.mapSeq_nextTag (t : Tile) (f : Seq → Seq) : (t.mapSeq f).nextTag = t.nextTag := rfl
@[simp] theorem Tile.mapSeq_sends (t : Tile) (f : Seq → Seq) : (t.mapSeq f).sends = t.sends := rfl
@[simp] theorem Tile.mapSeq_cfill (t : Tile) (f : Seq → Seq) : (t.mapSeq f).cfill = t.cfill := rfl
@[simp] theorem Tile.mapSeq_cdrain (t : Tile) (f : Seq → Seq) : (t.mapSeq f).cdrain = t.cdrain := rfl
@[simp] theorem Tile.mapSeq_tv (t : Tile) (f : Seq → Seq) : (t.mapSeq f).tv = t.tv := rfl
@[simp] theorem Tile.mapSeq_inh (t : Tile) (f : Seq → Seq) : (t.mapSeq f).inh = t.inh := rfl
@[simp] theorem Tile.mapSeq_nest (t : Tile) (f : Seq → Seq) : (t.mapSeq f).nest = t.nest := rfl
@[simp] theorem Tile.mapSeq_priv (t : Tile) (f : Seq → Seq) : (t.mapSeq f).priv = t.priv := rfl
@[simp] theorem Tile.mapSeq_code (t : Tile) (f : Seq → Seq) : (t.mapSeq f).code = t.code := rfl
@[simp] theorem Tile.mapSeq_tepc (t : Tile) (f : Seq → Seq) : (t.mapSeq f).tepc = t.tepc := rfl
@[simp] theorem Tile.mapSeq_tinfo (t : Tile) (f : Seq → Seq) : (t.mapSeq f).tinfo = t.tinfo := rfl
@[simp] theorem Tile.mapSeq_savebase (t : Tile) (f : Seq → Seq) : (t.mapSeq f).savebase = t.savebase := rfl
@[simp] theorem Tile.mapSeq_stubbase (t : Tile) (f : Seq → Seq) : (t.mapSeq f).stubbase = t.stubbase := rfl
@[simp] theorem Tile.mapSeq_heldCauses (t : Tile) (f : Seq → Seq) : (t.mapSeq f).heldCauses = t.heldCauses := rfl
@[simp] theorem Tile.mapSeq_faultH (t : Tile) (f : Seq → Seq) : (t.mapSeq f).faultH = t.faultH := rfl
@[simp] theorem Tile.mapSeq_refused (t : Tile) (f : Seq → Seq) : (t.mapSeq f).refused = t.refused := rfl
@[simp] theorem Tile.mapSeq_snap (t : Tile) (f : Seq → Seq) : (t.mapSeq f).snap = t.snap := rfl
@[simp] theorem Tile.mapSeq_stubFrom (t : Tile) (f : Seq → Seq) : (t.mapSeq f).stubFrom = t.stubFrom := rfl
@[simp] theorem Tile.mapSeq_user (t : Tile) (f : Seq → Seq) : (t.mapSeq f).user = t.user := rfl
@[simp] theorem Tile.mapSeq_under (t : Tile) (f : Seq → Seq) : (t.mapSeq f).under = t.under := rfl
@[simp] theorem Tile.mapSeq_owed (t : Tile) (f : Seq → Seq) : (t.mapSeq f).owed = t.owed := rfl
@[simp] theorem Tile.mapSeq_out (t : Tile) (f : Seq → Seq) : (t.mapSeq f).out = t.out := rfl
@[simp] theorem Tile.mapSeq_dispatched (t : Tile) (f : Seq → Seq) : (t.mapSeq f).dispatched = t.dispatched := rfl
@[simp] theorem Tile.mapSeq_frame (t : Tile) (f : Seq → Seq) : (t.mapSeq f).frame = t.frame := rfl
@[simp] theorem Tile.mapSeq_conjQ (t : Tile) (f : Seq → Seq) : (t.mapSeq f).conjQ = t.conjQ := rfl
@[simp] theorem Tile.mapSeq_station (t : Tile) (f : Seq → Seq) : (t.mapSeq f).station = t.station := rfl
@[simp] theorem Tile.mapSeq_vcs (t : Tile) (f : Seq → Seq) : (t.mapSeq f).vcs = t.vcs := rfl
@[simp] theorem Tile.mapSeq_rel (t : Tile) (f : Seq → Seq) : (t.mapSeq f).rel = t.rel := rfl
@[simp] theorem Tile.mapSeq_acq (t : Tile) (f : Seq → Seq) : (t.mapSeq f).acq = t.acq := rfl
@[simp] theorem Tile.mapSeq_lines (t : Tile) (f : Seq → Seq) : (t.mapSeq f).lines = t.lines := rfl
@[simp] theorem Tile.mapSeq_tags (t : Tile) (f : Seq → Seq) : (t.mapSeq f).tags = t.tags := rfl
@[simp] theorem Tile.mapSeq_markHb (t : Tile) (f : Seq → Seq) : (t.mapSeq f).markHb = t.markHb := rfl
@[simp] theorem Tile.mapSeq_posts (t : Tile) (f : Seq → Seq) : (t.mapSeq f).posts = t.posts := rfl
@[simp] theorem Tile.mapSeq_trace (t : Tile) (f : Seq → Seq) : (t.mapSeq f).trace = t.trace := rfl
@[simp] theorem Tile.mapSeq_towN (t : Tile) (f : Seq → Seq) : (t.mapSeq f).towN = t.towN := rfl
@[simp] theorem Tile.mapSeq_markAt (t : Tile) (f : Seq → Seq) : (t.mapSeq f).markAt = t.markAt := rfl
@[simp] theorem Tile.mapSeq_towAt (t : Tile) (f : Seq → Seq) : (t.mapSeq f).towAt = t.towAt := rfl
@[simp] theorem Tile.mapSeq_ahead (t : Tile) (f : Seq → Seq) : (t.mapSeq f).ahead = t.ahead := rfl
@[simp] theorem Tile.mapSeq_nextId (t : Tile) (f : Seq → Seq) : (t.mapSeq f).nextId = t.nextId := rfl

@[simp] theorem Tile.mapBoth_task (t : Tile) (f : TileCore → TileCore) : (t.mapBoth f).task = t.task := rfl
@[simp] theorem Tile.mapBoth_frozen (t : Tile) (f : TileCore → TileCore) : (t.mapBoth f).frozen = t.frozen := rfl
@[simp] theorem Tile.mapBoth_gated (t : Tile) (f : TileCore → TileCore) : (t.mapBoth f).gated = t.gated := rfl
@[simp] theorem Tile.mapBoth_wrote (t : Tile) (f : TileCore → TileCore) : (t.mapBoth f).wrote = t.wrote := rfl
@[simp] theorem Tile.mapBoth_stores (t : Tile) (f : TileCore → TileCore) : (t.mapBoth f).stores = t.stores := rfl
@[simp] theorem Tile.mapBoth_scratch (t : Tile) (f : TileCore → TileCore) : (t.mapBoth f).scratch = t.scratch := rfl
@[simp] theorem Tile.mapBoth_full (t : Tile) (f : TileCore → TileCore) : (t.mapBoth f).full = t.full := rfl
@[simp] theorem Tile.mapBoth_held (t : Tile) (f : TileCore → TileCore) : (t.mapBoth f).held = t.held := rfl
@[simp] theorem Tile.mapBoth_poison (t : Tile) (f : TileCore → TileCore) : (t.mapBoth f).poison = t.poison := rfl
@[simp] theorem Tile.mapBoth_shadow (t : Tile) (f : TileCore → TileCore) : (t.mapBoth f).shadow = t.shadow := rfl
@[simp] theorem Tile.mapBoth_lsq (t : Tile) (f : TileCore → TileCore) : (t.mapBoth f).lsq = t.lsq := rfl
@[simp] theorem Tile.mapBoth_issue (t : Tile) (f : TileCore → TileCore) : (t.mapBoth f).issue = t.issue := rfl
@[simp] theorem Tile.mapBoth_ibuf (t : Tile) (f : TileCore → TileCore) : (t.mapBoth f).ibuf = t.ibuf := rfl
@[simp] theorem Tile.mapBoth_locks (t : Tile) (f : TileCore → TileCore) : (t.mapBoth f).locks = t.locks := rfl
@[simp] theorem Tile.mapBoth_dma (t : Tile) (f : TileCore → TileCore) : (t.mapBoth f).dma = t.dma := rfl
@[simp] theorem Tile.mapBoth_nextTag (t : Tile) (f : TileCore → TileCore) : (t.mapBoth f).nextTag = t.nextTag := rfl
@[simp] theorem Tile.mapBoth_sends (t : Tile) (f : TileCore → TileCore) : (t.mapBoth f).sends = t.sends := rfl
@[simp] theorem Tile.mapBoth_cfill (t : Tile) (f : TileCore → TileCore) : (t.mapBoth f).cfill = t.cfill := rfl
@[simp] theorem Tile.mapBoth_cdrain (t : Tile) (f : TileCore → TileCore) : (t.mapBoth f).cdrain = t.cdrain := rfl
@[simp] theorem Tile.mapBoth_tv (t : Tile) (f : TileCore → TileCore) : (t.mapBoth f).tv = t.tv := rfl
@[simp] theorem Tile.mapBoth_inh (t : Tile) (f : TileCore → TileCore) : (t.mapBoth f).inh = t.inh := rfl
@[simp] theorem Tile.mapBoth_nest (t : Tile) (f : TileCore → TileCore) : (t.mapBoth f).nest = t.nest := rfl
@[simp] theorem Tile.mapBoth_priv (t : Tile) (f : TileCore → TileCore) : (t.mapBoth f).priv = t.priv := rfl
@[simp] theorem Tile.mapBoth_code (t : Tile) (f : TileCore → TileCore) : (t.mapBoth f).code = t.code := rfl
@[simp] theorem Tile.mapBoth_tepc (t : Tile) (f : TileCore → TileCore) : (t.mapBoth f).tepc = t.tepc := rfl
@[simp] theorem Tile.mapBoth_tinfo (t : Tile) (f : TileCore → TileCore) : (t.mapBoth f).tinfo = t.tinfo := rfl
@[simp] theorem Tile.mapBoth_savebase (t : Tile) (f : TileCore → TileCore) : (t.mapBoth f).savebase = t.savebase := rfl
@[simp] theorem Tile.mapBoth_stubbase (t : Tile) (f : TileCore → TileCore) : (t.mapBoth f).stubbase = t.stubbase := rfl
@[simp] theorem Tile.mapBoth_heldCauses (t : Tile) (f : TileCore → TileCore) : (t.mapBoth f).heldCauses = t.heldCauses := rfl
@[simp] theorem Tile.mapBoth_faultH (t : Tile) (f : TileCore → TileCore) : (t.mapBoth f).faultH = t.faultH := rfl
@[simp] theorem Tile.mapBoth_refused (t : Tile) (f : TileCore → TileCore) : (t.mapBoth f).refused = t.refused := rfl
@[simp] theorem Tile.mapBoth_snap (t : Tile) (f : TileCore → TileCore) : (t.mapBoth f).snap = t.snap := rfl
@[simp] theorem Tile.mapBoth_stubFrom (t : Tile) (f : TileCore → TileCore) : (t.mapBoth f).stubFrom = t.stubFrom := rfl
@[simp] theorem Tile.mapBoth_user (t : Tile) (f : TileCore → TileCore) : (t.mapBoth f).user = t.user := rfl
@[simp] theorem Tile.mapBoth_under (t : Tile) (f : TileCore → TileCore) : (t.mapBoth f).under = t.under := rfl
@[simp] theorem Tile.mapBoth_owed (t : Tile) (f : TileCore → TileCore) : (t.mapBoth f).owed = t.owed := rfl
@[simp] theorem Tile.mapBoth_out (t : Tile) (f : TileCore → TileCore) : (t.mapBoth f).out = t.out := rfl
@[simp] theorem Tile.mapBoth_dispatched (t : Tile) (f : TileCore → TileCore) : (t.mapBoth f).dispatched = t.dispatched := rfl
@[simp] theorem Tile.mapBoth_frame (t : Tile) (f : TileCore → TileCore) : (t.mapBoth f).frame = t.frame := rfl
@[simp] theorem Tile.mapBoth_conjQ (t : Tile) (f : TileCore → TileCore) : (t.mapBoth f).conjQ = t.conjQ := rfl
@[simp] theorem Tile.mapBoth_station (t : Tile) (f : TileCore → TileCore) : (t.mapBoth f).station = t.station := rfl
@[simp] theorem Tile.mapBoth_vcs (t : Tile) (f : TileCore → TileCore) : (t.mapBoth f).vcs = t.vcs := rfl
@[simp] theorem Tile.mapBoth_rel (t : Tile) (f : TileCore → TileCore) : (t.mapBoth f).rel = t.rel := rfl
@[simp] theorem Tile.mapBoth_acq (t : Tile) (f : TileCore → TileCore) : (t.mapBoth f).acq = t.acq := rfl
@[simp] theorem Tile.mapBoth_lines (t : Tile) (f : TileCore → TileCore) : (t.mapBoth f).lines = t.lines := rfl
@[simp] theorem Tile.mapBoth_tags (t : Tile) (f : TileCore → TileCore) : (t.mapBoth f).tags = t.tags := rfl
@[simp] theorem Tile.mapBoth_markHb (t : Tile) (f : TileCore → TileCore) : (t.mapBoth f).markHb = t.markHb := rfl
@[simp] theorem Tile.mapBoth_posts (t : Tile) (f : TileCore → TileCore) : (t.mapBoth f).posts = t.posts := rfl
@[simp] theorem Tile.mapBoth_trace (t : Tile) (f : TileCore → TileCore) : (t.mapBoth f).trace = t.trace := rfl
@[simp] theorem Tile.mapBoth_towN (t : Tile) (f : TileCore → TileCore) : (t.mapBoth f).towN = t.towN := rfl
@[simp] theorem Tile.mapBoth_markAt (t : Tile) (f : TileCore → TileCore) : (t.mapBoth f).markAt = t.markAt := rfl
@[simp] theorem Tile.mapBoth_towAt (t : Tile) (f : TileCore → TileCore) : (t.mapBoth f).towAt = t.towAt := rfl
@[simp] theorem Tile.mapBoth_ahead (t : Tile) (f : TileCore → TileCore) : (t.mapBoth f).ahead = t.ahead := rfl
@[simp] theorem Tile.mapBoth_nextId (t : Tile) (f : TileCore → TileCore) : (t.mapBoth f).nextId = t.nextId := rfl

@[simp] theorem Tile.spWrite_core (t : Tile) (a : Nat) (bs : List Byte) : (t.spWrite a bs).core = t.core := rfl
@[simp] theorem Tile.spWrite_mark (t : Tile) (a : Nat) (bs : List Byte) : (t.spWrite a bs).mark = t.mark := rfl
@[simp] theorem Tile.spWrite_task (t : Tile) (a : Nat) (bs : List Byte) : (t.spWrite a bs).task = t.task := rfl
@[simp] theorem Tile.spWrite_frozen (t : Tile) (a : Nat) (bs : List Byte) : (t.spWrite a bs).frozen = t.frozen := rfl
@[simp] theorem Tile.spWrite_gated (t : Tile) (a : Nat) (bs : List Byte) : (t.spWrite a bs).gated = t.gated := rfl
@[simp] theorem Tile.spWrite_wrote (t : Tile) (a : Nat) (bs : List Byte) : (t.spWrite a bs).wrote = t.wrote := rfl
@[simp] theorem Tile.spWrite_stores (t : Tile) (a : Nat) (bs : List Byte) : (t.spWrite a bs).stores = t.stores := rfl
@[simp] theorem Tile.spWrite_full (t : Tile) (a : Nat) (bs : List Byte) : (t.spWrite a bs).full = t.full := rfl
@[simp] theorem Tile.spWrite_held (t : Tile) (a : Nat) (bs : List Byte) : (t.spWrite a bs).held = t.held := rfl
@[simp] theorem Tile.spWrite_poison (t : Tile) (a : Nat) (bs : List Byte) : (t.spWrite a bs).poison = t.poison := rfl
@[simp] theorem Tile.spWrite_shadow (t : Tile) (a : Nat) (bs : List Byte) : (t.spWrite a bs).shadow = t.shadow := rfl
@[simp] theorem Tile.spWrite_lsq (t : Tile) (a : Nat) (bs : List Byte) : (t.spWrite a bs).lsq = t.lsq := rfl
@[simp] theorem Tile.spWrite_issue (t : Tile) (a : Nat) (bs : List Byte) : (t.spWrite a bs).issue = t.issue := rfl
@[simp] theorem Tile.spWrite_ibuf (t : Tile) (a : Nat) (bs : List Byte) : (t.spWrite a bs).ibuf = t.ibuf := rfl
@[simp] theorem Tile.spWrite_locks (t : Tile) (a : Nat) (bs : List Byte) : (t.spWrite a bs).locks = t.locks := rfl
@[simp] theorem Tile.spWrite_dma (t : Tile) (a : Nat) (bs : List Byte) : (t.spWrite a bs).dma = t.dma := rfl
@[simp] theorem Tile.spWrite_nextTag (t : Tile) (a : Nat) (bs : List Byte) : (t.spWrite a bs).nextTag = t.nextTag := rfl
@[simp] theorem Tile.spWrite_sends (t : Tile) (a : Nat) (bs : List Byte) : (t.spWrite a bs).sends = t.sends := rfl
@[simp] theorem Tile.spWrite_cfill (t : Tile) (a : Nat) (bs : List Byte) : (t.spWrite a bs).cfill = t.cfill := rfl
@[simp] theorem Tile.spWrite_cdrain (t : Tile) (a : Nat) (bs : List Byte) : (t.spWrite a bs).cdrain = t.cdrain := rfl
@[simp] theorem Tile.spWrite_tv (t : Tile) (a : Nat) (bs : List Byte) : (t.spWrite a bs).tv = t.tv := rfl
@[simp] theorem Tile.spWrite_inh (t : Tile) (a : Nat) (bs : List Byte) : (t.spWrite a bs).inh = t.inh := rfl
@[simp] theorem Tile.spWrite_nest (t : Tile) (a : Nat) (bs : List Byte) : (t.spWrite a bs).nest = t.nest := rfl
@[simp] theorem Tile.spWrite_priv (t : Tile) (a : Nat) (bs : List Byte) : (t.spWrite a bs).priv = t.priv := rfl
@[simp] theorem Tile.spWrite_code (t : Tile) (a : Nat) (bs : List Byte) : (t.spWrite a bs).code = t.code := rfl
@[simp] theorem Tile.spWrite_tepc (t : Tile) (a : Nat) (bs : List Byte) : (t.spWrite a bs).tepc = t.tepc := rfl
@[simp] theorem Tile.spWrite_tinfo (t : Tile) (a : Nat) (bs : List Byte) : (t.spWrite a bs).tinfo = t.tinfo := rfl
@[simp] theorem Tile.spWrite_savebase (t : Tile) (a : Nat) (bs : List Byte) : (t.spWrite a bs).savebase = t.savebase := rfl
@[simp] theorem Tile.spWrite_stubbase (t : Tile) (a : Nat) (bs : List Byte) : (t.spWrite a bs).stubbase = t.stubbase := rfl
@[simp] theorem Tile.spWrite_heldCauses (t : Tile) (a : Nat) (bs : List Byte) : (t.spWrite a bs).heldCauses = t.heldCauses := rfl
@[simp] theorem Tile.spWrite_faultH (t : Tile) (a : Nat) (bs : List Byte) : (t.spWrite a bs).faultH = t.faultH := rfl
@[simp] theorem Tile.spWrite_refused (t : Tile) (a : Nat) (bs : List Byte) : (t.spWrite a bs).refused = t.refused := rfl
@[simp] theorem Tile.spWrite_snap (t : Tile) (a : Nat) (bs : List Byte) : (t.spWrite a bs).snap = t.snap := rfl
@[simp] theorem Tile.spWrite_stubFrom (t : Tile) (a : Nat) (bs : List Byte) : (t.spWrite a bs).stubFrom = t.stubFrom := rfl
@[simp] theorem Tile.spWrite_user (t : Tile) (a : Nat) (bs : List Byte) : (t.spWrite a bs).user = t.user := rfl
@[simp] theorem Tile.spWrite_under (t : Tile) (a : Nat) (bs : List Byte) : (t.spWrite a bs).under = t.under := rfl
@[simp] theorem Tile.spWrite_owed (t : Tile) (a : Nat) (bs : List Byte) : (t.spWrite a bs).owed = t.owed := rfl
@[simp] theorem Tile.spWrite_out (t : Tile) (a : Nat) (bs : List Byte) : (t.spWrite a bs).out = t.out := rfl
@[simp] theorem Tile.spWrite_dispatched (t : Tile) (a : Nat) (bs : List Byte) : (t.spWrite a bs).dispatched = t.dispatched := rfl
@[simp] theorem Tile.spWrite_frame (t : Tile) (a : Nat) (bs : List Byte) : (t.spWrite a bs).frame = t.frame := rfl
@[simp] theorem Tile.spWrite_conjQ (t : Tile) (a : Nat) (bs : List Byte) : (t.spWrite a bs).conjQ = t.conjQ := rfl
@[simp] theorem Tile.spWrite_station (t : Tile) (a : Nat) (bs : List Byte) : (t.spWrite a bs).station = t.station := rfl
@[simp] theorem Tile.spWrite_vcs (t : Tile) (a : Nat) (bs : List Byte) : (t.spWrite a bs).vcs = t.vcs := rfl
@[simp] theorem Tile.spWrite_rel (t : Tile) (a : Nat) (bs : List Byte) : (t.spWrite a bs).rel = t.rel := rfl
@[simp] theorem Tile.spWrite_acq (t : Tile) (a : Nat) (bs : List Byte) : (t.spWrite a bs).acq = t.acq := rfl
@[simp] theorem Tile.spWrite_lines (t : Tile) (a : Nat) (bs : List Byte) : (t.spWrite a bs).lines = t.lines := rfl
@[simp] theorem Tile.spWrite_tags (t : Tile) (a : Nat) (bs : List Byte) : (t.spWrite a bs).tags = t.tags := rfl
@[simp] theorem Tile.spWrite_markHb (t : Tile) (a : Nat) (bs : List Byte) : (t.spWrite a bs).markHb = t.markHb := rfl
@[simp] theorem Tile.spWrite_posts (t : Tile) (a : Nat) (bs : List Byte) : (t.spWrite a bs).posts = t.posts := rfl
@[simp] theorem Tile.spWrite_trace (t : Tile) (a : Nat) (bs : List Byte) : (t.spWrite a bs).trace = t.trace := rfl
@[simp] theorem Tile.spWrite_towN (t : Tile) (a : Nat) (bs : List Byte) : (t.spWrite a bs).towN = t.towN := rfl
@[simp] theorem Tile.spWrite_markAt (t : Tile) (a : Nat) (bs : List Byte) : (t.spWrite a bs).markAt = t.markAt := rfl
@[simp] theorem Tile.spWrite_towAt (t : Tile) (a : Nat) (bs : List Byte) : (t.spWrite a bs).towAt = t.towAt := rfl
@[simp] theorem Tile.spWrite_ahead (t : Tile) (a : Nat) (bs : List Byte) : (t.spWrite a bs).ahead = t.ahead := rfl
@[simp] theorem Tile.spWrite_nextId (t : Tile) (a : Nat) (bs : List Byte) : (t.spWrite a bs).nextId = t.nextId := rfl

@[simp] theorem Tile.mapCore_core (t : Tile) (f : TileCore → TileCore) : (t.mapCore f).core = f t.core := rfl
@[simp] theorem Tile.mapSeq_core (t : Tile) (f : Seq → Seq) : (t.mapSeq f).core = { t.core with seq := f t.core.seq } := rfl
@[simp] theorem Tile.mapBoth_core (t : Tile) (f : TileCore → TileCore) : (t.mapBoth f).core = f t.core := rfl
@[simp] theorem Tile.mapBoth_mark (t : Tile) (f : TileCore → TileCore) : (t.mapBoth f).mark = f t.mark := rfl

/-! ### Ports and registers -/

@[simp] theorem TileCore.setOpnd_m (c : TileCore) (sk : Sock) (pt : OPort) (v : Wide) (w : Word) : (c.setOpnd sk pt v w).m = c.m := rfl
@[simp] theorem TileCore.setOpnd_o (c : TileCore) (sk : Sock) (pt : OPort) (v : Wide) (w : Word) : (c.setOpnd sk pt v w).o = c.o := rfl
@[simp] theorem TileCore.setOpnd_p (c : TileCore) (sk : Sock) (pt : OPort) (v : Wide) (w : Word) : (c.setOpnd sk pt v w).p = c.p := rfl
@[simp] theorem TileCore.setOpnd_h (c : TileCore) (sk : Sock) (pt : OPort) (v : Wide) (w : Word) : (c.setOpnd sk pt v w).h = c.h := rfl
@[simp] theorem TileCore.setOpnd_res (c : TileCore) (sk : Sock) (pt : OPort) (v : Wide) (w : Word) : (c.setOpnd sk pt v w).res = c.res := rfl
@[simp] theorem TileCore.setOpnd_queues (c : TileCore) (sk : Sock) (pt : OPort) (v : Wide) (w : Word) : (c.setOpnd sk pt v w).queues = c.queues := rfl
@[simp] theorem TileCore.setOpnd_unread (c : TileCore) (sk : Sock) (pt : OPort) (v : Wide) (w : Word) : (c.setOpnd sk pt v w).unread = c.unread := rfl
@[simp] theorem TileCore.setOpnd_owners (c : TileCore) (sk : Sock) (pt : OPort) (v : Wide) (w : Word) : (c.setOpnd sk pt v w).owners = c.owners := rfl
@[simp] theorem TileCore.setOpnd_lockmask (c : TileCore) (sk : Sock) (pt : OPort) (v : Wide) (w : Word) : (c.setOpnd sk pt v w).lockmask = c.lockmask := rfl
@[simp] theorem TileCore.setOpnd_frm (c : TileCore) (sk : Sock) (pt : OPort) (v : Wide) (w : Word) : (c.setOpnd sk pt v w).frm = c.frm := rfl
@[simp] theorem TileCore.setOpnd_bf (c : TileCore) (sk : Sock) (pt : OPort) (v : Wide) (w : Word) : (c.setOpnd sk pt v w).bf = c.bf := rfl
@[simp] theorem TileCore.setOpnd_ev (c : TileCore) (sk : Sock) (pt : OPort) (v : Wide) (w : Word) : (c.setOpnd sk pt v w).ev = c.ev := rfl
@[simp] theorem TileCore.setOpnd_osSeq (c : TileCore) (sk : Sock) (pt : OPort) (v : Wide) (w : Word) : (c.setOpnd sk pt v w).osSeq = c.osSeq := rfl
@[simp] theorem TileCore.setOpnd_spinBuf (c : TileCore) (sk : Sock) (pt : OPort) (v : Wide) (w : Word) : (c.setOpnd sk pt v w).spinBuf = c.spinBuf := rfl
@[simp] theorem TileCore.setOpnd_recIdx (c : TileCore) (sk : Sock) (pt : OPort) (v : Wide) (w : Word) : (c.setOpnd sk pt v w).recIdx = c.recIdx := rfl
@[simp] theorem TileCore.setOpnd_spin (c : TileCore) (sk : Sock) (pt : OPort) (v : Wide) (w : Word) : (c.setOpnd sk pt v w).spin = c.spin := rfl
@[simp] theorem TileCore.setOpnd_seq (c : TileCore) (sk : Sock) (pt : OPort) (v : Wide) (w : Word) : (c.setOpnd sk pt v w).seq = c.seq := rfl
@[simp] theorem TileCore.setOpnd_mx (c : TileCore) (sk : Sock) (pt : OPort) (v : Wide) (w : Word) : (c.setOpnd sk pt v w).mx = c.mx := rfl
@[simp] theorem TileCore.setOpnd_flight (c : TileCore) (sk : Sock) (pt : OPort) (v : Wide) (w : Word) : (c.setOpnd sk pt v w).flight = c.flight := rfl
@[simp] theorem TileCore.setOpnd_xlats (c : TileCore) (sk : Sock) (pt : OPort) (v : Wide) (w : Word) : (c.setOpnd sk pt v w).xlats = c.xlats := rfl
@[simp] theorem TileCore.setOpnd_gloads (c : TileCore) (sk : Sock) (pt : OPort) (v : Wide) (w : Word) : (c.setOpnd sk pt v w).gloads = c.gloads := rfl
@[simp] theorem TileCore.setOpnd_cellRds (c : TileCore) (sk : Sock) (pt : OPort) (v : Wide) (w : Word) : (c.setOpnd sk pt v w).cellRds = c.cellRds := rfl
@[simp] theorem TileCore.setOpnd_rlds (c : TileCore) (sk : Sock) (pt : OPort) (v : Wide) (w : Word) : (c.setOpnd sk pt v w).rlds = c.rlds := rfl

@[simp] theorem TileCore.setRes_m (c : TileCore) (sk : Sock) (p : RPort) (v : Wide) : (c.setRes sk p v).m = c.m := rfl
@[simp] theorem TileCore.setRes_o (c : TileCore) (sk : Sock) (p : RPort) (v : Wide) : (c.setRes sk p v).o = c.o := rfl
@[simp] theorem TileCore.setRes_p (c : TileCore) (sk : Sock) (p : RPort) (v : Wide) : (c.setRes sk p v).p = c.p := rfl
@[simp] theorem TileCore.setRes_h (c : TileCore) (sk : Sock) (p : RPort) (v : Wide) : (c.setRes sk p v).h = c.h := rfl
@[simp] theorem TileCore.setRes_opnd (c : TileCore) (sk : Sock) (p : RPort) (v : Wide) : (c.setRes sk p v).opnd = c.opnd := rfl
@[simp] theorem TileCore.setRes_opMask (c : TileCore) (sk : Sock) (p : RPort) (v : Wide) : (c.setRes sk p v).opMask = c.opMask := rfl
@[simp] theorem TileCore.setRes_queues (c : TileCore) (sk : Sock) (p : RPort) (v : Wide) : (c.setRes sk p v).queues = c.queues := rfl
@[simp] theorem TileCore.setRes_unread (c : TileCore) (sk : Sock) (p : RPort) (v : Wide) : (c.setRes sk p v).unread = c.unread := rfl
@[simp] theorem TileCore.setRes_owners (c : TileCore) (sk : Sock) (p : RPort) (v : Wide) : (c.setRes sk p v).owners = c.owners := rfl
@[simp] theorem TileCore.setRes_lockmask (c : TileCore) (sk : Sock) (p : RPort) (v : Wide) : (c.setRes sk p v).lockmask = c.lockmask := rfl
@[simp] theorem TileCore.setRes_frm (c : TileCore) (sk : Sock) (p : RPort) (v : Wide) : (c.setRes sk p v).frm = c.frm := rfl
@[simp] theorem TileCore.setRes_bf (c : TileCore) (sk : Sock) (p : RPort) (v : Wide) : (c.setRes sk p v).bf = c.bf := rfl
@[simp] theorem TileCore.setRes_ev (c : TileCore) (sk : Sock) (p : RPort) (v : Wide) : (c.setRes sk p v).ev = c.ev := rfl
@[simp] theorem TileCore.setRes_osSeq (c : TileCore) (sk : Sock) (p : RPort) (v : Wide) : (c.setRes sk p v).osSeq = c.osSeq := rfl
@[simp] theorem TileCore.setRes_spinBuf (c : TileCore) (sk : Sock) (p : RPort) (v : Wide) : (c.setRes sk p v).spinBuf = c.spinBuf := rfl
@[simp] theorem TileCore.setRes_recIdx (c : TileCore) (sk : Sock) (p : RPort) (v : Wide) : (c.setRes sk p v).recIdx = c.recIdx := rfl
@[simp] theorem TileCore.setRes_spin (c : TileCore) (sk : Sock) (p : RPort) (v : Wide) : (c.setRes sk p v).spin = c.spin := rfl
@[simp] theorem TileCore.setRes_seq (c : TileCore) (sk : Sock) (p : RPort) (v : Wide) : (c.setRes sk p v).seq = c.seq := rfl
@[simp] theorem TileCore.setRes_mx (c : TileCore) (sk : Sock) (p : RPort) (v : Wide) : (c.setRes sk p v).mx = c.mx := rfl
@[simp] theorem TileCore.setRes_flight (c : TileCore) (sk : Sock) (p : RPort) (v : Wide) : (c.setRes sk p v).flight = c.flight := rfl
@[simp] theorem TileCore.setRes_xlats (c : TileCore) (sk : Sock) (p : RPort) (v : Wide) : (c.setRes sk p v).xlats = c.xlats := rfl
@[simp] theorem TileCore.setRes_gloads (c : TileCore) (sk : Sock) (p : RPort) (v : Wide) : (c.setRes sk p v).gloads = c.gloads := rfl
@[simp] theorem TileCore.setRes_cellRds (c : TileCore) (sk : Sock) (p : RPort) (v : Wide) : (c.setRes sk p v).cellRds = c.cellRds := rfl
@[simp] theorem TileCore.setRes_rlds (c : TileCore) (sk : Sock) (p : RPort) (v : Wide) : (c.setRes sk p v).rlds = c.rlds := rfl

@[simp] theorem TileCore.setQueue_m (c : TileCore) (sk : Sock) (p : RPort) (l : List Wide) : (c.setQueue sk p l).m = c.m := rfl
@[simp] theorem TileCore.setQueue_o (c : TileCore) (sk : Sock) (p : RPort) (l : List Wide) : (c.setQueue sk p l).o = c.o := rfl
@[simp] theorem TileCore.setQueue_p (c : TileCore) (sk : Sock) (p : RPort) (l : List Wide) : (c.setQueue sk p l).p = c.p := rfl
@[simp] theorem TileCore.setQueue_h (c : TileCore) (sk : Sock) (p : RPort) (l : List Wide) : (c.setQueue sk p l).h = c.h := rfl
@[simp] theorem TileCore.setQueue_opnd (c : TileCore) (sk : Sock) (p : RPort) (l : List Wide) : (c.setQueue sk p l).opnd = c.opnd := rfl
@[simp] theorem TileCore.setQueue_opMask (c : TileCore) (sk : Sock) (p : RPort) (l : List Wide) : (c.setQueue sk p l).opMask = c.opMask := rfl
@[simp] theorem TileCore.setQueue_res (c : TileCore) (sk : Sock) (p : RPort) (l : List Wide) : (c.setQueue sk p l).res = c.res := rfl
@[simp] theorem TileCore.setQueue_unread (c : TileCore) (sk : Sock) (p : RPort) (l : List Wide) : (c.setQueue sk p l).unread = c.unread := rfl
@[simp] theorem TileCore.setQueue_owners (c : TileCore) (sk : Sock) (p : RPort) (l : List Wide) : (c.setQueue sk p l).owners = c.owners := rfl
@[simp] theorem TileCore.setQueue_lockmask (c : TileCore) (sk : Sock) (p : RPort) (l : List Wide) : (c.setQueue sk p l).lockmask = c.lockmask := rfl
@[simp] theorem TileCore.setQueue_frm (c : TileCore) (sk : Sock) (p : RPort) (l : List Wide) : (c.setQueue sk p l).frm = c.frm := rfl
@[simp] theorem TileCore.setQueue_bf (c : TileCore) (sk : Sock) (p : RPort) (l : List Wide) : (c.setQueue sk p l).bf = c.bf := rfl
@[simp] theorem TileCore.setQueue_ev (c : TileCore) (sk : Sock) (p : RPort) (l : List Wide) : (c.setQueue sk p l).ev = c.ev := rfl
@[simp] theorem TileCore.setQueue_osSeq (c : TileCore) (sk : Sock) (p : RPort) (l : List Wide) : (c.setQueue sk p l).osSeq = c.osSeq := rfl
@[simp] theorem TileCore.setQueue_spinBuf (c : TileCore) (sk : Sock) (p : RPort) (l : List Wide) : (c.setQueue sk p l).spinBuf = c.spinBuf := rfl
@[simp] theorem TileCore.setQueue_recIdx (c : TileCore) (sk : Sock) (p : RPort) (l : List Wide) : (c.setQueue sk p l).recIdx = c.recIdx := rfl
@[simp] theorem TileCore.setQueue_spin (c : TileCore) (sk : Sock) (p : RPort) (l : List Wide) : (c.setQueue sk p l).spin = c.spin := rfl
@[simp] theorem TileCore.setQueue_seq (c : TileCore) (sk : Sock) (p : RPort) (l : List Wide) : (c.setQueue sk p l).seq = c.seq := rfl
@[simp] theorem TileCore.setQueue_mx (c : TileCore) (sk : Sock) (p : RPort) (l : List Wide) : (c.setQueue sk p l).mx = c.mx := rfl
@[simp] theorem TileCore.setQueue_flight (c : TileCore) (sk : Sock) (p : RPort) (l : List Wide) : (c.setQueue sk p l).flight = c.flight := rfl
@[simp] theorem TileCore.setQueue_xlats (c : TileCore) (sk : Sock) (p : RPort) (l : List Wide) : (c.setQueue sk p l).xlats = c.xlats := rfl
@[simp] theorem TileCore.setQueue_gloads (c : TileCore) (sk : Sock) (p : RPort) (l : List Wide) : (c.setQueue sk p l).gloads = c.gloads := rfl
@[simp] theorem TileCore.setQueue_cellRds (c : TileCore) (sk : Sock) (p : RPort) (l : List Wide) : (c.setQueue sk p l).cellRds = c.cellRds := rfl
@[simp] theorem TileCore.setQueue_rlds (c : TileCore) (sk : Sock) (p : RPort) (l : List Wide) : (c.setQueue sk p l).rlds = c.rlds := rfl

@[simp] theorem TileCore.setM_o (c : TileCore) (n : BitVec 6) (v : Wide) : (c.setM n v).o = c.o := rfl
@[simp] theorem TileCore.setM_p (c : TileCore) (n : BitVec 6) (v : Wide) : (c.setM n v).p = c.p := rfl
@[simp] theorem TileCore.setM_h (c : TileCore) (n : BitVec 6) (v : Wide) : (c.setM n v).h = c.h := rfl
@[simp] theorem TileCore.setM_opnd (c : TileCore) (n : BitVec 6) (v : Wide) : (c.setM n v).opnd = c.opnd := rfl
@[simp] theorem TileCore.setM_opMask (c : TileCore) (n : BitVec 6) (v : Wide) : (c.setM n v).opMask = c.opMask := rfl
@[simp] theorem TileCore.setM_res (c : TileCore) (n : BitVec 6) (v : Wide) : (c.setM n v).res = c.res := rfl
@[simp] theorem TileCore.setM_queues (c : TileCore) (n : BitVec 6) (v : Wide) : (c.setM n v).queues = c.queues := rfl
@[simp] theorem TileCore.setM_unread (c : TileCore) (n : BitVec 6) (v : Wide) : (c.setM n v).unread = c.unread := rfl
@[simp] theorem TileCore.setM_owners (c : TileCore) (n : BitVec 6) (v : Wide) : (c.setM n v).owners = c.owners := rfl
@[simp] theorem TileCore.setM_lockmask (c : TileCore) (n : BitVec 6) (v : Wide) : (c.setM n v).lockmask = c.lockmask := rfl
@[simp] theorem TileCore.setM_frm (c : TileCore) (n : BitVec 6) (v : Wide) : (c.setM n v).frm = c.frm := rfl
@[simp] theorem TileCore.setM_bf (c : TileCore) (n : BitVec 6) (v : Wide) : (c.setM n v).bf = c.bf := rfl
@[simp] theorem TileCore.setM_ev (c : TileCore) (n : BitVec 6) (v : Wide) : (c.setM n v).ev = c.ev := rfl
@[simp] theorem TileCore.setM_osSeq (c : TileCore) (n : BitVec 6) (v : Wide) : (c.setM n v).osSeq = c.osSeq := rfl
@[simp] theorem TileCore.setM_spinBuf (c : TileCore) (n : BitVec 6) (v : Wide) : (c.setM n v).spinBuf = c.spinBuf := rfl
@[simp] theorem TileCore.setM_recIdx (c : TileCore) (n : BitVec 6) (v : Wide) : (c.setM n v).recIdx = c.recIdx := rfl
@[simp] theorem TileCore.setM_spin (c : TileCore) (n : BitVec 6) (v : Wide) : (c.setM n v).spin = c.spin := rfl
@[simp] theorem TileCore.setM_seq (c : TileCore) (n : BitVec 6) (v : Wide) : (c.setM n v).seq = c.seq := rfl
@[simp] theorem TileCore.setM_mx (c : TileCore) (n : BitVec 6) (v : Wide) : (c.setM n v).mx = c.mx := rfl
@[simp] theorem TileCore.setM_flight (c : TileCore) (n : BitVec 6) (v : Wide) : (c.setM n v).flight = c.flight := rfl
@[simp] theorem TileCore.setM_xlats (c : TileCore) (n : BitVec 6) (v : Wide) : (c.setM n v).xlats = c.xlats := rfl
@[simp] theorem TileCore.setM_gloads (c : TileCore) (n : BitVec 6) (v : Wide) : (c.setM n v).gloads = c.gloads := rfl
@[simp] theorem TileCore.setM_cellRds (c : TileCore) (n : BitVec 6) (v : Wide) : (c.setM n v).cellRds = c.cellRds := rfl
@[simp] theorem TileCore.setM_rlds (c : TileCore) (n : BitVec 6) (v : Wide) : (c.setM n v).rlds = c.rlds := rfl

@[simp] theorem TileCore.setO_m (c : TileCore) (n : BitVec 3) (v : Wide) : (c.setO n v).m = c.m := rfl
@[simp] theorem TileCore.setO_p (c : TileCore) (n : BitVec 3) (v : Wide) : (c.setO n v).p = c.p := rfl
@[simp] theorem TileCore.setO_h (c : TileCore) (n : BitVec 3) (v : Wide) : (c.setO n v).h = c.h := rfl
@[simp] theorem TileCore.setO_opnd (c : TileCore) (n : BitVec 3) (v : Wide) : (c.setO n v).opnd = c.opnd := rfl
@[simp] theorem TileCore.setO_opMask (c : TileCore) (n : BitVec 3) (v : Wide) : (c.setO n v).opMask = c.opMask := rfl
@[simp] theorem TileCore.setO_res (c : TileCore) (n : BitVec 3) (v : Wide) : (c.setO n v).res = c.res := rfl
@[simp] theorem TileCore.setO_queues (c : TileCore) (n : BitVec 3) (v : Wide) : (c.setO n v).queues = c.queues := rfl
@[simp] theorem TileCore.setO_unread (c : TileCore) (n : BitVec 3) (v : Wide) : (c.setO n v).unread = c.unread := rfl
@[simp] theorem TileCore.setO_owners (c : TileCore) (n : BitVec 3) (v : Wide) : (c.setO n v).owners = c.owners := rfl
@[simp] theorem TileCore.setO_lockmask (c : TileCore) (n : BitVec 3) (v : Wide) : (c.setO n v).lockmask = c.lockmask := rfl
@[simp] theorem TileCore.setO_frm (c : TileCore) (n : BitVec 3) (v : Wide) : (c.setO n v).frm = c.frm := rfl
@[simp] theorem TileCore.setO_bf (c : TileCore) (n : BitVec 3) (v : Wide) : (c.setO n v).bf = c.bf := rfl
@[simp] theorem TileCore.setO_ev (c : TileCore) (n : BitVec 3) (v : Wide) : (c.setO n v).ev = c.ev := rfl
@[simp] theorem TileCore.setO_osSeq (c : TileCore) (n : BitVec 3) (v : Wide) : (c.setO n v).osSeq = c.osSeq := rfl
@[simp] theorem TileCore.setO_spinBuf (c : TileCore) (n : BitVec 3) (v : Wide) : (c.setO n v).spinBuf = c.spinBuf := rfl
@[simp] theorem TileCore.setO_recIdx (c : TileCore) (n : BitVec 3) (v : Wide) : (c.setO n v).recIdx = c.recIdx := rfl
@[simp] theorem TileCore.setO_spin (c : TileCore) (n : BitVec 3) (v : Wide) : (c.setO n v).spin = c.spin := rfl
@[simp] theorem TileCore.setO_seq (c : TileCore) (n : BitVec 3) (v : Wide) : (c.setO n v).seq = c.seq := rfl
@[simp] theorem TileCore.setO_mx (c : TileCore) (n : BitVec 3) (v : Wide) : (c.setO n v).mx = c.mx := rfl
@[simp] theorem TileCore.setO_flight (c : TileCore) (n : BitVec 3) (v : Wide) : (c.setO n v).flight = c.flight := rfl
@[simp] theorem TileCore.setO_xlats (c : TileCore) (n : BitVec 3) (v : Wide) : (c.setO n v).xlats = c.xlats := rfl
@[simp] theorem TileCore.setO_gloads (c : TileCore) (n : BitVec 3) (v : Wide) : (c.setO n v).gloads = c.gloads := rfl
@[simp] theorem TileCore.setO_cellRds (c : TileCore) (n : BitVec 3) (v : Wide) : (c.setO n v).cellRds = c.cellRds := rfl
@[simp] theorem TileCore.setO_rlds (c : TileCore) (n : BitVec 3) (v : Wide) : (c.setO n v).rlds = c.rlds := rfl

@[simp] theorem TileCore.setH_m (c : TileCore) (n : BitVec 4) (v : Handle) : (c.setH n v).m = c.m := rfl
@[simp] theorem TileCore.setH_o (c : TileCore) (n : BitVec 4) (v : Handle) : (c.setH n v).o = c.o := rfl
@[simp] theorem TileCore.setH_p (c : TileCore) (n : BitVec 4) (v : Handle) : (c.setH n v).p = c.p := rfl
@[simp] theorem TileCore.setH_opnd (c : TileCore) (n : BitVec 4) (v : Handle) : (c.setH n v).opnd = c.opnd := rfl
@[simp] theorem TileCore.setH_opMask (c : TileCore) (n : BitVec 4) (v : Handle) : (c.setH n v).opMask = c.opMask := rfl
@[simp] theorem TileCore.setH_res (c : TileCore) (n : BitVec 4) (v : Handle) : (c.setH n v).res = c.res := rfl
@[simp] theorem TileCore.setH_queues (c : TileCore) (n : BitVec 4) (v : Handle) : (c.setH n v).queues = c.queues := rfl
@[simp] theorem TileCore.setH_unread (c : TileCore) (n : BitVec 4) (v : Handle) : (c.setH n v).unread = c.unread := rfl
@[simp] theorem TileCore.setH_owners (c : TileCore) (n : BitVec 4) (v : Handle) : (c.setH n v).owners = c.owners := rfl
@[simp] theorem TileCore.setH_lockmask (c : TileCore) (n : BitVec 4) (v : Handle) : (c.setH n v).lockmask = c.lockmask := rfl
@[simp] theorem TileCore.setH_frm (c : TileCore) (n : BitVec 4) (v : Handle) : (c.setH n v).frm = c.frm := rfl
@[simp] theorem TileCore.setH_bf (c : TileCore) (n : BitVec 4) (v : Handle) : (c.setH n v).bf = c.bf := rfl
@[simp] theorem TileCore.setH_ev (c : TileCore) (n : BitVec 4) (v : Handle) : (c.setH n v).ev = c.ev := rfl
@[simp] theorem TileCore.setH_osSeq (c : TileCore) (n : BitVec 4) (v : Handle) : (c.setH n v).osSeq = c.osSeq := rfl
@[simp] theorem TileCore.setH_spinBuf (c : TileCore) (n : BitVec 4) (v : Handle) : (c.setH n v).spinBuf = c.spinBuf := rfl
@[simp] theorem TileCore.setH_recIdx (c : TileCore) (n : BitVec 4) (v : Handle) : (c.setH n v).recIdx = c.recIdx := rfl
@[simp] theorem TileCore.setH_spin (c : TileCore) (n : BitVec 4) (v : Handle) : (c.setH n v).spin = c.spin := rfl
@[simp] theorem TileCore.setH_seq (c : TileCore) (n : BitVec 4) (v : Handle) : (c.setH n v).seq = c.seq := rfl
@[simp] theorem TileCore.setH_mx (c : TileCore) (n : BitVec 4) (v : Handle) : (c.setH n v).mx = c.mx := rfl
@[simp] theorem TileCore.setH_flight (c : TileCore) (n : BitVec 4) (v : Handle) : (c.setH n v).flight = c.flight := rfl
@[simp] theorem TileCore.setH_xlats (c : TileCore) (n : BitVec 4) (v : Handle) : (c.setH n v).xlats = c.xlats := rfl
@[simp] theorem TileCore.setH_gloads (c : TileCore) (n : BitVec 4) (v : Handle) : (c.setH n v).gloads = c.gloads := rfl
@[simp] theorem TileCore.setH_cellRds (c : TileCore) (n : BitVec 4) (v : Handle) : (c.setH n v).cellRds = c.cellRds := rfl
@[simp] theorem TileCore.setH_rlds (c : TileCore) (n : BitVec 4) (v : Handle) : (c.setH n v).rlds = c.rlds := rfl

@[simp] theorem TileCore.setPred_m (c : TileCore) (n : BitVec 5) (v : Word) : (c.setPred n v).m = c.m := by
  unfold TileCore.setPred; split <;> rfl
@[simp] theorem TileCore.setPred_o (c : TileCore) (n : BitVec 5) (v : Word) : (c.setPred n v).o = c.o := by
  unfold TileCore.setPred; split <;> rfl
@[simp] theorem TileCore.setPred_h (c : TileCore) (n : BitVec 5) (v : Word) : (c.setPred n v).h = c.h := by
  unfold TileCore.setPred; split <;> rfl
@[simp] theorem TileCore.setPred_opnd (c : TileCore) (n : BitVec 5) (v : Word) : (c.setPred n v).opnd = c.opnd := by
  unfold TileCore.setPred; split <;> rfl
@[simp] theorem TileCore.setPred_opMask (c : TileCore) (n : BitVec 5) (v : Word) : (c.setPred n v).opMask = c.opMask := by
  unfold TileCore.setPred; split <;> rfl
@[simp] theorem TileCore.setPred_res (c : TileCore) (n : BitVec 5) (v : Word) : (c.setPred n v).res = c.res := by
  unfold TileCore.setPred; split <;> rfl
@[simp] theorem TileCore.setPred_queues (c : TileCore) (n : BitVec 5) (v : Word) : (c.setPred n v).queues = c.queues := by
  unfold TileCore.setPred; split <;> rfl
@[simp] theorem TileCore.setPred_unread (c : TileCore) (n : BitVec 5) (v : Word) : (c.setPred n v).unread = c.unread := by
  unfold TileCore.setPred; split <;> rfl
@[simp] theorem TileCore.setPred_owners (c : TileCore) (n : BitVec 5) (v : Word) : (c.setPred n v).owners = c.owners := by
  unfold TileCore.setPred; split <;> rfl
@[simp] theorem TileCore.setPred_lockmask (c : TileCore) (n : BitVec 5) (v : Word) : (c.setPred n v).lockmask = c.lockmask := by
  unfold TileCore.setPred; split <;> rfl
@[simp] theorem TileCore.setPred_frm (c : TileCore) (n : BitVec 5) (v : Word) : (c.setPred n v).frm = c.frm := by
  unfold TileCore.setPred; split <;> rfl
@[simp] theorem TileCore.setPred_bf (c : TileCore) (n : BitVec 5) (v : Word) : (c.setPred n v).bf = c.bf := by
  unfold TileCore.setPred; split <;> rfl
@[simp] theorem TileCore.setPred_ev (c : TileCore) (n : BitVec 5) (v : Word) : (c.setPred n v).ev = c.ev := by
  unfold TileCore.setPred; split <;> rfl
@[simp] theorem TileCore.setPred_osSeq (c : TileCore) (n : BitVec 5) (v : Word) : (c.setPred n v).osSeq = c.osSeq := by
  unfold TileCore.setPred; split <;> rfl
@[simp] theorem TileCore.setPred_spinBuf (c : TileCore) (n : BitVec 5) (v : Word) : (c.setPred n v).spinBuf = c.spinBuf := by
  unfold TileCore.setPred; split <;> rfl
@[simp] theorem TileCore.setPred_recIdx (c : TileCore) (n : BitVec 5) (v : Word) : (c.setPred n v).recIdx = c.recIdx := by
  unfold TileCore.setPred; split <;> rfl
@[simp] theorem TileCore.setPred_spin (c : TileCore) (n : BitVec 5) (v : Word) : (c.setPred n v).spin = c.spin := by
  unfold TileCore.setPred; split <;> rfl
@[simp] theorem TileCore.setPred_seq (c : TileCore) (n : BitVec 5) (v : Word) : (c.setPred n v).seq = c.seq := by
  unfold TileCore.setPred; split <;> rfl
@[simp] theorem TileCore.setPred_mx (c : TileCore) (n : BitVec 5) (v : Word) : (c.setPred n v).mx = c.mx := by
  unfold TileCore.setPred; split <;> rfl
@[simp] theorem TileCore.setPred_flight (c : TileCore) (n : BitVec 5) (v : Word) : (c.setPred n v).flight = c.flight := by
  unfold TileCore.setPred; split <;> rfl
@[simp] theorem TileCore.setPred_xlats (c : TileCore) (n : BitVec 5) (v : Word) : (c.setPred n v).xlats = c.xlats := by
  unfold TileCore.setPred; split <;> rfl
@[simp] theorem TileCore.setPred_gloads (c : TileCore) (n : BitVec 5) (v : Word) : (c.setPred n v).gloads = c.gloads := by
  unfold TileCore.setPred; split <;> rfl
@[simp] theorem TileCore.setPred_cellRds (c : TileCore) (n : BitVec 5) (v : Word) : (c.setPred n v).cellRds = c.cellRds := by
  unfold TileCore.setPred; split <;> rfl
@[simp] theorem TileCore.setPred_rlds (c : TileCore) (n : BitVec 5) (v : Word) : (c.setPred n v).rlds = c.rlds := by
  unfold TileCore.setPred; split <;> rfl

theorem opIdx_inj {a b : Sock} {x y : OPort} (h : opIdx a x = opIdx b y) : a = b ∧ x = y := by
  revert h; cases a <;> cases b <;> cases x <;> cases y <;> decide

theorem resIdx_inj {a b : Sock} {x y : RPort} (h : resIdx a x = resIdx b y) : a = b ∧ x = y := by
  revert h; cases a <;> cases b <;> cases x <;> cases y <;> decide

theorem vget_set_self {α : Type} {n : Nat} (v : Vector α n) (i : Nat) (h : i < n) (x : α) (j : Fin n) (e : j.val = i) :
    (v.set i x h).get j = x := by
  subst e
  exact Vector.getElem_set_self ..

theorem vget_set_ne {α : Type} {n : Nat} (v : Vector α n) (i : Nat) (h : i < n) (x : α) (j : Fin n) (e : j.val ≠ i) :
    (v.set i x h).get j = v.get j :=
  Vector.getElem_set_ne _ _ (Ne.symm e)

@[simp] theorem TileCore.setOpnd_opnd' (c : TileCore) (sk : Sock) (pt : OPort) (v : Wide) (w : Word) :
    (c.setOpnd sk pt v w).opnd' sk pt = v := vget_set_self _ _ (opIdx sk pt).isLt _ _ rfl

theorem TileCore.setOpnd_opnd'_ne (c : TileCore) {sk sj : Sock} {pt pu : OPort} (v : Wide) (w : Word) (h : sj = sk → pu ≠ pt) :
    (c.setOpnd sk pt v w).opnd' sj pu = c.opnd' sj pu :=
  vget_set_ne _ _ (opIdx sk pt).isLt _ _ (fun e => h (opIdx_inj (Fin.ext e)).1 (opIdx_inj (Fin.ext e)).2)

@[simp] theorem TileCore.setRes_res' (c : TileCore) (sk : Sock) (p : RPort) (v : Wide) : (c.setRes sk p v).res' sk p = v :=
  vget_set_self _ _ (resIdx sk p).isLt _ _ rfl

theorem TileCore.setRes_res'_ne (c : TileCore) {sk sj : Sock} {p r : RPort} (v : Wide) (h : sj = sk → r ≠ p) :
    (c.setRes sk p v).res' sj r = c.res' sj r :=
  vget_set_ne _ _ (resIdx sk p).isLt _ _ (fun e => h (resIdx_inj (Fin.ext e)).1 (resIdx_inj (Fin.ext e)).2)

@[simp] theorem TileCore.setM_get (c : TileCore) (n : BitVec 6) (v : Wide) : (c.setM n v).m.get n.toFin = v :=
  vget_set_self _ _ n.isLt _ _ rfl

theorem TileCore.setM_get_ne (c : TileCore) {n j : BitVec 6} (v : Wide) (h : j ≠ n) : (c.setM n v).m.get j.toFin = c.m.get j.toFin :=
  vget_set_ne _ _ n.isLt _ _ (fun e => h (BitVec.eq_of_toNat_eq e))

@[simp] theorem TileCore.setO_get (c : TileCore) (n : BitVec 3) (v : Wide) : (c.setO n v).o.get n.toFin = v :=
  vget_set_self _ _ n.isLt _ _ rfl

theorem TileCore.setO_get_ne (c : TileCore) {n j : BitVec 3} (v : Wide) (h : j ≠ n) : (c.setO n v).o.get j.toFin = c.o.get j.toFin :=
  vget_set_ne _ _ n.isLt _ _ (fun e => h (BitVec.eq_of_toNat_eq e))

@[simp] theorem TileCore.pred_zero (c : TileCore) : c.pred 0 = BitVec.allOnes 64 := rfl

@[simp] theorem TileCore.setPred_zero (c : TileCore) (v : Word) : c.setPred 0 v = c := rfl

theorem TileCore.setPred_pred (c : TileCore) (n : BitVec 5) (v : Word) (h : n ≠ 0) : (c.setPred n v).pred n = v := by
  unfold TileCore.setPred TileCore.pred
  rw [if_neg h, if_neg h]
  exact vget_set_self _ _ n.isLt _ _ rfl

theorem TileCore.setPred_pred_ne (c : TileCore) {n j : BitVec 5} (v : Word) (h : j ≠ n) : (c.setPred n v).pred j = c.pred j := by
  unfold TileCore.setPred TileCore.pred
  by_cases h0 : n = 0
  · rw [if_pos h0]
  · rw [if_neg h0]
    by_cases h1 : j = 0
    · rw [if_pos h1, if_pos h1]
    · rw [if_neg h1, if_neg h1]
      exact vget_set_ne _ _ n.isLt _ _ (fun e => h (BitVec.eq_of_toNat_eq e))

end Sys2Proof.Machine
end

