-- ==== Sys2Proof/Laws/Memory.lean ====
section
/-! SUPPORT. The laws of the memories: read after write, and every memory operation keeps the canonical form. -/

namespace Sys2Proof.Machine

/-! ### The canonical form -/

theorem cellsWf_le {l : List Host.Cell} {a b : Nat} (h : cellsWf b l = true) (le : a ≤ b) : cellsWf a l = true := by
  cases l with
  | nil => rfl
  | cons c r =>
    obtain ⟨k, v⟩ := c
    simp only [cellsWf, Bool.and_eq_true, decide_eq_true_eq] at h ⊢
    exact ⟨⟨Nat.le_trans le h.1.1, h.1.2⟩, h.2⟩

theorem cellsWf_set {l : List Host.Cell} {lo a : Nat} (v : Byte) (h : cellsWf lo l = true) (le : lo ≤ a) :
    cellsWf lo (cellsSet l a v) = true := by
  induction l generalizing lo with
  | nil => unfold cellsSet; split <;> simp_all [cellsWf]
  | cons c r ih =>
    obtain ⟨k, w⟩ := c
    have hc := h
    simp only [cellsWf, Bool.and_eq_true, decide_eq_true_eq] at h
    unfold cellsSet
    split
    · split
      · exact cellsWf_le h.2 (by omega)
      · subst_vars; simp_all [cellsWf]
    · split
      · split
        · exact hc
        · simp only [cellsWf, Bool.and_eq_true, decide_eq_true_eq]
          exact ⟨⟨le, by assumption⟩, ⟨⟨by omega, h.1.2⟩, h.2⟩⟩
      · simp only [cellsWf, Bool.and_eq_true, decide_eq_true_eq]
        exact ⟨h.1, ih h.2 (by omega)⟩

/-- Writing a byte keeps the canonical form. -/
theorem cellsSet_wf {l : List Host.Cell} (a : Nat) (v : Byte) (h : Memory.wf l = true) : Memory.wf (cellsSet l a v) = true :=
  cellsWf_set v h (Nat.zero_le a)

/-- Writing bytes keeps the canonical form. -/
theorem cellsWrite_wf {l : List Host.Cell} (a : Nat) (bs : List Byte) (h : Memory.wf l = true) :
    Memory.wf (cellsWrite l a bs) = true := by
  induction bs generalizing l a with
  | nil => exact h
  | cons b bs ih => exact ih _ (cellsSet_wf a b h)

theorem cellsWf_filter {l : List Host.Cell} {lo : Nat} (p : Host.Cell → Bool) (h : cellsWf lo l = true) :
    cellsWf lo (l.filter p) = true := by
  induction l generalizing lo with
  | nil => rfl
  | cons c r ih =>
    obtain ⟨k, w⟩ := c
    simp only [cellsWf, Bool.and_eq_true, decide_eq_true_eq] at h
    by_cases hp : p (k, w)
    · rw [List.filter_cons_of_pos hp]
      simp only [cellsWf, Bool.and_eq_true, decide_eq_true_eq]
      exact ⟨h.1, ih h.2⟩
    · rw [List.filter_cons_of_neg hp]
      exact cellsWf_le (ih h.2) (by omega)

/-- Taking bytes out keeps the canonical form. -/
theorem filter_wf {l : List Host.Cell} (p : Host.Cell → Bool) (h : Memory.wf l = true) : Memory.wf (l.filter p) = true :=
  cellsWf_filter p h

/-- A write of DRAM or host memory keeps the canonical form. -/
theorem State.memWrite_wf (s : State) (a : Nat) (bs : List Byte) (h : Memory.wf s.mem = true) :
    Memory.wf (s.memWrite a bs).mem = true := cellsWrite_wf a bs h

/-- A write of a scratchpad keeps the canonical form. -/
theorem Tile.spWrite_wf (t : Tile) (a : Nat) (bs : List Byte) (h : Memory.wf t.scratch = true) :
    Memory.wf (t.spWrite a bs).scratch = true := cellsWrite_wf a bs h

/-- Clearing a range keeps the canonical form. -/
theorem State.zeroRange_wf (s : State) (a n : Nat) (h : Memory.wf s.mem = true) : Memory.wf (s.zeroRange a n).mem = true :=
  filter_wf _ h

/-- Copying a range keeps the canonical form. -/
theorem State.copyRange_wf (s : State) (a b n : Nat) (h : Memory.wf s.mem = true) : Memory.wf (s.copyRange a b n).mem = true := by
  have hz := s.zeroRange_wf b n h
  suffices ∀ (cs : List Host.Cell) (m : List Host.Cell), Memory.wf m = true →
      Memory.wf (cs.foldl (fun m (c : Host.Cell) => cellsSet m (c.1 - a + b) c.2) m) = true from this _ _ hz
  intro cs
  induction cs with
  | nil => exact fun _ h => h
  | cons c cs ih => exact fun m h => ih _ (cellsSet_wf _ _ h)

/-! ### Read after write -/

theorem cellsGet_below {l : List Host.Cell} {lo a : Nat} (h : cellsWf lo l = true) (lt : a < lo) : cellsGet l a = 0 := by
  induction l generalizing lo with
  | nil => rfl
  | cons c r ih =>
    obtain ⟨k, w⟩ := c
    simp only [cellsWf, Bool.and_eq_true, decide_eq_true_eq] at h
    unfold cellsGet
    rw [if_neg (by omega)]
    exact ih h.2 (by omega)

/-- A byte that was written reads back. -/
theorem cellsGet_set_self {l : List Host.Cell} {lo : Nat} (a : Nat) (v : Byte) (h : cellsWf lo l = true) :
    cellsGet (cellsSet l a v) a = v := by
  induction l generalizing lo with
  | nil => unfold cellsSet; split <;> simp_all [cellsGet]
  | cons c r ih =>
    obtain ⟨k, w⟩ := c
    simp only [cellsWf, Bool.and_eq_true, decide_eq_true_eq] at h
    unfold cellsSet
    split
    · split
      · subst_vars; exact cellsGet_below h.2 (by omega)
      · simp [cellsGet]
    · split
      · split
        · subst_vars; unfold cellsGet; rw [if_neg (by assumption)]; exact cellsGet_below h.2 (by omega)
        · simp [cellsGet]
      · unfold cellsGet; rw [if_neg (by assumption)]; exact ih h.2

/-- Every other byte reads as before. -/
theorem cellsGet_set_ne (l : List Host.Cell) {a b : Nat} (v : Byte) (h : b ≠ a) :
    cellsGet (cellsSet l a v) b = cellsGet l b := by
  induction l with
  | nil => unfold cellsSet; split <;> simp [cellsGet, Ne.symm h]
  | cons c r ih =>
    obtain ⟨k, w⟩ := c
    unfold cellsSet
    split
    · subst_vars
      split <;> simp [cellsGet, Ne.symm h]
    · split
      · split <;> simp [cellsGet, Ne.symm h]
      · simp only [cellsGet, ih]

/-- A byte outside the bytes written reads as before. -/
theorem cellsGet_write_out (l : List Host.Cell) (a : Nat) (bs : List Byte) {b : Nat} (h : b < a ∨ a + bs.length ≤ b) :
    cellsGet (cellsWrite l a bs) b = cellsGet l b := by
  induction bs generalizing l a with
  | nil => rfl
  | cons x xs ih =>
    simp only [List.length_cons] at h
    unfold cellsWrite
    rw [ih _ _ (by omega), cellsGet_set_ne _ _ (by omega)]

/-- A byte among the bytes written reads as it was written. -/
theorem cellsGet_write_in {l : List Host.Cell} (a : Nat) (bs : List Byte) {i : Nat} (hw : Memory.wf l = true) (h : i < bs.length) :
    cellsGet (cellsWrite l a bs) (a + i) = bs[i] := by
  induction bs generalizing l a i with
  | nil => simp at h
  | cons x xs ih =>
    unfold cellsWrite
    cases i with
    | zero =>
      rw [cellsGet_write_out _ _ _ (by omega)]
      exact cellsGet_set_self (lo := 0) _ _ hw
    | succ j =>
      have := ih (l := cellsSet l a x) (a + 1) (i := j) (cellsSet_wf _ _ hw) (by simpa using h)
      simpa [Nat.add_assoc, Nat.add_comm 1 j] using this

/-- A byte of memory outside the bytes written reads as before. -/
theorem State.memByte_memWrite_out (s : State) (a : Nat) (bs : List Byte) {b : Nat} (h : b < a ∨ a + bs.length ≤ b) :
    (s.memWrite a bs).memByte b = s.memByte b := cellsGet_write_out _ _ _ h

/-- A scratchpad byte outside the bytes written reads as before. -/
theorem Tile.byte_spWrite_out (t : Tile) (a : Nat) (bs : List Byte) {b : Nat} (h : b < a ∨ a + bs.length ≤ b) :
    (t.spWrite a bs).byte b = t.byte b := cellsGet_write_out _ _ _ h

end Sys2Proof.Machine
end

