-- ==== Sys2Proof/Laws/Slot.lean ====
section
/-! SUPPORT. What a slot's operation does once it issues: one lemma for each way of running it. -/

namespace Sys2Proof.Machine

/-- A bundle that waits for nothing and raises nothing takes its effect. -/
theorem State.runHooks_act {s : State} {h : Hooks} {ps : List (Sock × RPort)} (h1 : h.stall s = false) (h2 : h.early s = none)
    (h3 : h.check s = none) (h4 : h.race s = none) (h5 : ∀ x ∈ ps, s.portCause x = none) :
    s.runHooks h ps = h.act (s.consume ps) := by
  have : ps.findSome? (fun x => s.portCause x) = none := List.findSome?_eq_none_iff.mpr h5
  simp [State.runHooks, h1, h2, h3, h4, this]

/-- A bundle that waits leaves everything as it was. -/
theorem State.runHooks_stall {s : State} {h : Hooks} {ps : List (Sock × RPort)} (h1 : h.stall s = true) : s.runHooks h ps = s := by
  simp [State.runHooks, h1]

/-- A trap that an operation raises by itself is taken. -/
theorem State.runHooks_check {s : State} {h : Hooks} {ps : List (Sock × RPort)} {c : Cause} (h1 : h.stall s = false)
    (h2 : h.early s = none) (h3 : h.check s = some c) : s.runHooks h ps = s.takeTrap c := by
  simp [State.runHooks, h1, h2, h3]

/-- A trigger of a scalar slot that issues goes through its stages. -/
theorem runScalar_issues {sk : Sock} {hk : Wide → Word → Hooks} {src : Src} {g : Guard} {s : State} (h : ScalarIssues sk src g s) :
    runScalar sk hk src g s = .next (s.runHooks (hk (wideOfWord (s.scalarSrc src)) (BitVec.allOnes 64)) (srcPorts src)) := by
  have hm : (s.tile.priv && decide (sk ≠ .sys)) = false := by
    rcases h.mode with m | m <;> simp [m]
  have hr : (srcPorts src).any (fun x => s.portWait x) = false := by
    rw [List.any_eq_false]
    intro x hx
    simp [h.ready x hx]
  unfold runScalar
  rw [if_neg (by simp [h.runs]), if_neg (by simp [h.on]), if_neg (by rw [hm]; decide), if_neg (by simp [hr]), if_neg (by simp [h.late])]

/-- An operation of a scalar slot that issues, waits for nothing and raises nothing takes its effect. -/
theorem runScalar_act {sk : Sock} {hk : Wide → Word → Hooks} {src : Src} {g : Guard} {s : State} (h : ScalarIssues sk src g s)
    (h1 : (hk (wideOfWord (s.scalarSrc src)) (BitVec.allOnes 64)).stall s = false)
    (h2 : (hk (wideOfWord (s.scalarSrc src)) (BitVec.allOnes 64)).early s = none)
    (h3 : (hk (wideOfWord (s.scalarSrc src)) (BitVec.allOnes 64)).check s = none)
    (h4 : (hk (wideOfWord (s.scalarSrc src)) (BitVec.allOnes 64)).race s = none) :
    runScalar sk hk src g s = .next ((hk (wideOfWord (s.scalarSrc src)) (BitVec.allOnes 64)).act (s.taken src)) := by
  rw [runScalar_issues h, State.runHooks_act h1 h2 h3 h4 h.sound]
  rfl

/-- A trigger of a vector slot that issues goes through its stages. -/
theorem runVector_issues {sk : Sock} {hk : Wide → Word → Hooks} {md : SrcMod} {src : Src} {g : Guard} {s : State}
    (h : VectorIssues src s) :
    runVector sk hk md src g s =
      .next (s.runHooks (hk (s.vectorSrc md src) (s.tile.core.guardWord g)) (srcPorts src)) := by
  have hr : (srcPorts src).any (fun x => s.portWait x) = false := by
    rw [List.any_eq_false]
    intro x hx
    simp [h.ready x hx]
  unfold runVector
  rw [if_neg (by simp [h.runs]), if_neg (by simp [h.mode]), if_neg (by simp [hr]), if_neg (by simp [h.late])]

/-- An operation of a vector slot that issues, waits for nothing and raises nothing takes its effect. -/
theorem runVector_act {sk : Sock} {hk : Wide → Word → Hooks} {md : SrcMod} {src : Src} {g : Guard} {s : State} (h : VectorIssues src s)
    (h1 : (hk (s.vectorSrc md src) (s.tile.core.guardWord g)).stall s = false)
    (h2 : (hk (s.vectorSrc md src) (s.tile.core.guardWord g)).early s = none)
    (h3 : (hk (s.vectorSrc md src) (s.tile.core.guardWord g)).check s = none)
    (h4 : (hk (s.vectorSrc md src) (s.tile.core.guardWord g)).race s = none) :
    runVector sk hk md src g s = .next ((hk (s.vectorSrc md src) (s.tile.core.guardWord g)).act (s.taken src)) := by
  rw [runVector_issues h, State.runHooks_act h1 h2 h3 h4 h.sound]
  rfl

/-- A false guard makes a trigger of a scalar slot do nothing. -/
theorem runScalar_off {sk : Sock} {hk : Wide → Word → Hooks} {src : Src} {g : Guard} {s : State} (h : s.tile.core.guardOn g = false) :
    runScalar sk hk src g s = .next s := by
  unfold runScalar
  split
  · rfl
  · simp [h]

/-- A control operation that issues, waits for nothing and raises nothing takes its effect. -/
theorem runControl_act {ok : Bool} {hk : Ctl} {g : Guard} {s : State} (h : ControlIssues g s)
    (h1 : hk.stall (s.atSlot 10) (s.atSlot 10) = false) (h2 : hk.check (s.atSlot 10) (s.atSlot 10) = none) :
    runControl ok hk g s = .next (hk.after (s.atSlot 10) (hk.act (s.atSlot 10) (s.atSlot 10))) := by
  unfold runControl
  rw [if_neg (by simp [h.runs]), if_neg (by simp [h.mode]), if_neg (by simp [h.on])]
  simp only [h1, h2]
  rfl

/-! ### Reading a port leaves operands, registers and flights as they were (R20, R27) -/

/-- What giving up a result of a port can change: which group loads a bundle has read, and whose results the ports hold (R95). -/
theorem TileCore.disown_eq (q : Bool) (sk : Sock) (p : RPort) (c : TileCore) :
    ∃ g o, c.disown q sk p = { c with gloads := g, owners := o } := by
  unfold TileCore.disown
  split
  · exact ⟨c.gloads, c.owners, rfl⟩
  · cases q <;> exact ⟨_, _, rfl⟩

theorem TileCore.consume_frame (q : Bool) (ps : List (Sock × RPort)) (c : TileCore) :
    (c.consume q ps).opnd = c.opnd ∧ (c.consume q ps).opMask = c.opMask ∧ (c.consume q ps).m = c.m ∧ (c.consume q ps).o = c.o ∧
    (c.consume q ps).p = c.p ∧ (c.consume q ps).h = c.h ∧ (c.consume q ps).res = c.res ∧ (c.consume q ps).flight = c.flight ∧
    (c.consume q ps).lockmask = c.lockmask ∧ (c.consume q ps).seq = c.seq ∧ (c.consume q ps).frm = c.frm ∧
    (c.consume q ps).bf = c.bf ∧ (c.consume q ps).ev = c.ev ∧ (c.consume q ps).mx = c.mx ∧ (c.consume q ps).osSeq = c.osSeq ∧
    (c.consume q ps).xlats = c.xlats ∧ (c.consume q ps).cellRds = c.cellRds ∧
    (c.consume q ps).rlds = c.rlds ∧ (c.consume q ps).spin = c.spin ∧ (c.consume q ps).spinBuf = c.spinBuf ∧
    (c.consume q ps).recIdx = c.recIdx := by
  induction ps generalizing c with
  | nil => simp [TileCore.consume]
  | cons x r ih =>
    obtain ⟨sk, p⟩ := x
    obtain ⟨g, o, e⟩ := TileCore.disown_eq q sk p c
    unfold TileCore.consume
    rw [e]
    cases q <;> simpa [TileCore.setQueue] using ih _

/-- The tile behind a read of its source port. -/
theorem State.taken_tile (s : State) (src : Src) :
    (s.taken src).tile = s.tile.mapCore (fun c => c.consume s.ctx.qmode (srcPorts src)) := by
  unfold State.taken State.consume
  split
  · next h => rw [h]; rfl
  · simp

theorem State.taken_cur (s : State) (src : Src) : (s.taken src).cur = s.cur := by
  unfold State.taken State.consume; split <;> rfl

theorem State.taken_ctx (s : State) (src : Src) : (s.taken src).ctx = s.ctx := by
  unfold State.taken State.consume; split <;> rfl

/-- The operand ports of a unit stand as before. -/
theorem State.taken_opA (s : State) (src : Src) (sk : Sock) : (s.taken src).opA sk = s.opA sk := by
  simp only [State.opA, State.taken_tile, Tile.mapCore_core, TileCore.opnd', (TileCore.consume_frame _ _ _).1]

theorem State.taken_opB (s : State) (src : Src) (sk : Sock) : (s.taken src).opB sk = s.opB sk := by
  simp only [State.opB, State.taken_tile, Tile.mapCore_core, TileCore.opnd', (TileCore.consume_frame _ _ _).1]

end Sys2Proof.Machine
end

