-- ==== Sys2Proof/Laws/Ops.lean ====
section
/-! SUPPORT. What each shared operation can do, said once: results on their way, traps, checks, and the address of an access behind a
read of a port. -/

namespace Sys2Proof.Machine

/-! ### Operations of a slot that check their operands -/

/-- A checked operation of a vector slot that issues takes its effect, or the trap of its check. -/
theorem runVector_checked {sk : Sock} {hk : Wide → Word → Hooks} {md : SrcMod} {src : Src} {g : Guard} {s : State} (h : VectorIssues src s)
    {f : State → Option Cause} {act : State → State} (e : hk (s.vectorSrc md src) (s.tile.core.guardWord g) = Hooks.checked f act) :
    runVector sk hk md src g s = .next (match f s with | none => act (s.taken src) | some c => s.takeTrap c) := by
  rw [runVector_issues h, e]
  cases hf : f s with
  | none => rw [State.runHooks_act (h := Hooks.checked f act) rfl rfl hf rfl h.sound]; rfl
  | some c => rw [State.runHooks_check (h := Hooks.checked f act) rfl rfl hf]

/-- A checked operation of a scalar slot that issues takes its effect, or the trap of its check. -/
theorem runScalar_checked {sk : Sock} {hk : Wide → Word → Hooks} {src : Src} {g : Guard} {s : State} (h : ScalarIssues sk src g s)
    {f : State → Option Cause} {act : State → State}
    (e : hk (wideOfWord (s.scalarSrc src)) (BitVec.allOnes 64) = Hooks.checked f act) :
    runScalar sk hk src g s = .next (match f s with | none => act (s.taken src) | some c => s.takeTrap c) := by
  rw [runScalar_issues h, e]
  cases hf : f s with
  | none => rw [State.runHooks_act (h := Hooks.checked f act) rfl rfl hf rfl h.sound]; rfl
  | some c => rw [State.runHooks_check (h := Hooks.checked f act) rfl rfl hf]

/-- A control operation that issues and whose check raises a cause takes it. -/
theorem runControl_check {ok : Bool} {hk : Ctl} {g : Guard} {s : State} {c : Cause} (h : ControlIssues g s)
    (h1 : hk.stall (s.atSlot 10) (s.atSlot 10) = false) (h2 : hk.check (s.atSlot 10) (s.atSlot 10) = some c) :
    runControl ok hk g s = .next ((s.atSlot 10).takeTrap c) := by
  unfold runControl
  rw [if_neg (by simp [h.runs]), if_neg (by simp [h.mode]), if_neg (by simp [h.on])]
  simp only [h1, h2]
  rfl

/-! ### Results on their way (R19-R21) -/

/-- The tile behind a timed result: it has one operation more in flight, and everything else stands. -/
theorem State.timed_tile (s : State) (sk : Sock) (lat : Nat) (rs : List (RPort × Wide × Wide)) (ev : EvCount) :
    ∃ fl, (s.timed sk lat rs ev).tile =
      { s.tile.mapCore (fun c => { c with flight := c.flight ++ fl }) with nextId := s.tile.nextId + 1 } := by
  refine ⟨_, State.modTile_tile _ _⟩

theorem State.timed_other (s : State) (sk : Sock) (lat : Nat) (rs : List (RPort × Wide × Wide)) (ev : EvCount) {k : TileKey} (h : k ≠ s.cur) :
    (s.timed sk lat rs ev).tileAt k = s.tileAt k := State.modTile_tileAt_ne _ _ h

@[simp] theorem State.timed_mem (s : State) (sk : Sock) (lat : Nat) (rs : List (RPort × Wide × Wide)) (ev : EvCount) :
    (s.timed sk lat rs ev).mem = s.mem := rfl

/-- The tile behind a pending operation: it has one operation more in flight, and everything else stands. -/
theorem State.pend_tile (s : State) (sk : Sock) (ports : List RPort) :
    ∃ fl, (s.pend sk ports).tile =
      { s.tile.mapCore (fun c => { c with flight := c.flight ++ fl }) with nextId := s.tile.nextId + 1 } := by
  refine ⟨_, State.modTile_tile _ _⟩

theorem State.pend_other (s : State) (sk : Sock) (ports : List RPort) {k : TileKey} (h : k ≠ s.cur) :
    (s.pend sk ports).tileAt k = s.tileAt k := State.modTile_tileAt_ne _ _ h

@[simp] theorem State.pend_mem (s : State) (sk : Sock) (ports : List RPort) : (s.pend sk ports).mem = s.mem := rfl

/-- The tile behind an operation that is answered at its trigger: it has its results in flight, and everything else stands. -/
theorem State.answer_tile (s : State) (sk : Sock) (due : Nat) (rs : List (RPort × Wide)) :
    ∃ fl, (s.answer sk due rs).tile =
      { s.tile.mapCore (fun c => { c with flight := c.flight ++ fl }) with nextId := s.tile.nextId + 1 } := by
  refine ⟨_, State.modTile_tile _ _⟩

theorem State.answer_other (s : State) (sk : Sock) (due : Nat) (rs : List (RPort × Wide)) {k : TileKey} (h : k ≠ s.cur) :
    (s.answer sk due rs).tileAt k = s.tileAt k := State.modTile_tileAt_ne _ _ h

@[simp] theorem State.answer_mem (s : State) (sk : Sock) (due : Nat) (rs : List (RPort × Wide)) : (s.answer sk due rs).mem = s.mem := rfl

@[simp] theorem State.mapFlights_mem (s : State) (k : TileKey) (f : List InFlight → List InFlight) : (s.mapFlights k f).mem = s.mem := rfl

@[simp] theorem State.memWrite_tileAt (s : State) (a : Nat) (bs : List Byte) (k : TileKey) : (s.memWrite a bs).tileAt k = s.tileAt k := rfl

/-- The tile behind a change of its results in flight: those of the live state, of the mark, of the snapshot and of the frame. -/
theorem State.mapFlights_tileAt (s : State) (k : TileKey) (f : List InFlight → List InFlight) :
    (s.mapFlights k f).tileAt k = (s.tileAt k).mapFlights f :=
  (State.modTileAt_tileAt s k (fun t => t.mapFlights f) : (s.modTileAt k _).tileAt k = _)

theorem State.mapFlights_other (s : State) {k j : TileKey} (f : List InFlight → List InFlight) (h : j ≠ k) :
    (s.mapFlights k f).tileAt j = s.tileAt j :=
  (State.modTileAt_tileAt_ne s (fun t => t.mapFlights f) h : (s.modTileAt k _).tileAt j = _)

@[simp] theorem State.writeEntries_tileAt (s : State) (k j : TileKey) (a b : Bool) : (s.writeEntries k a b).tileAt j = s.tileAt j := by
  have h : ∀ (f : Option Frame) (x : Nat), (match f with
      | some f => if a then s.memWrite x (snapEntries (sortSnap f.flight) (min 160 f.flight.length)) else s
      | none => s).tileAt j = s.tileAt j := fun f x => by cases f <;> cases a <;> rfl
  unfold State.writeEntries
  dsimp only
  split
  · cases b
    · exact h _ _
    · rw [if_pos rfl, State.memWrite_tileAt]; exact h _ _
  · exact h _ _

/-- The arrival of results: the entries that wait for them, and where a frame or a save area has some, what stands there. -/
theorem State.fillAt_cases (s : State) (k : TileKey) (id due : Nat) (rs : List (RPort × Wide)) :
    s.fillAt k id due rs = s.mapFlights k (fun l => fillFlight l id due rs) ∨
    ∃ a b, s.fillAt k id due rs = (s.mapFlights k (fun l => fillFlight l id due rs)).writeEntries k a b := by
  have h : ∀ (c a b : Bool) (u : State), (if c then u.writeEntries k a b else u) = u ∨
      ∃ x y, (if c then u.writeEntries k a b else u) = u.writeEntries k x y := fun c a b u => by
    cases c
    · exact .inl rfl
    · exact .inr ⟨a, b, rfl⟩
  unfold State.fillAt
  dsimp only
  generalize (s.saved.any fun b => decide (b.pa = (s.tileAt k).area) && awaits b.snap id) = b
  cases (s.tileAt k).frame with
  | none => exact h (false || b) false b _
  | some f => exact h (awaits f.flight id || b) (awaits f.flight id) b _

/-- The tile behind the arrival of its results: only entries in flight have changed, in the live state, the mark, the snapshot and the
frame. -/
theorem State.fillAt_tileAt (s : State) (k : TileKey) (id due : Nat) (rs : List (RPort × Wide)) :
    (s.fillAt k id due rs).tileAt k = (s.tileAt k).mapFlights (fun l => fillFlight l id due rs) := by
  rw [← State.mapFlights_tileAt]
  obtain e | ⟨a, b, e⟩ := State.fillAt_cases s k id due rs <;> rw [e]
  exact State.writeEntries_tileAt _ _ _ _ _

theorem State.fillAt_other (s : State) {k j : TileKey} (id due : Nat) (rs : List (RPort × Wide)) (h : j ≠ k) :
    (s.fillAt k id due rs).tileAt j = s.tileAt j := by
  rw [← State.mapFlights_other s (fun l => fillFlight l id due rs) h]
  obtain e | ⟨a, b, e⟩ := State.fillAt_cases s k id due rs <;> rw [e]
  exact State.writeEntries_tileAt _ _ _ _ _

/-- Results that neither the frame nor the save area awaits arrive without a write of memory (R371, R377). -/
theorem State.fillAt_mem (s : State) (k : TileKey) (id due : Nat) (rs : List (RPort × Wide))
    (hf : ∀ f, (s.tileAt k).frame = some f → awaits f.flight id = false)
    (hb : ∀ b ∈ s.saved, b.pa = (s.tileAt k).area → awaits b.snap id = false) : (s.fillAt k id due rs).mem = s.mem := by
  have h2 : s.saved.any (fun b => b.pa = (s.tileAt k).area && awaits b.snap id) = false := by
    rw [List.any_eq_false]
    intro b m
    by_cases e : b.pa = (s.tileAt k).area
    · simp [hb b m e]
    · simp [e]
  unfold State.fillAt
  dsimp only
  rw [h2]
  cases h : (s.tileAt k).frame with
  | none => simp
  | some f => simp [hf f h]

/-! ### Reading a port, and the address of an access -/

/-- What a read of its source port does to each tile. -/
theorem State.taken_tileAt (s : State) (src : Src) (k : TileKey) :
    ∃ ps, (s.taken src).tileAt k = (s.tileAt k).mapCore (fun c => c.consume s.ctx.qmode ps) := by
  by_cases e : k = s.cur
  · have h := State.taken_tile s src
    unfold State.tile at h
    rw [State.taken_cur] at h
    exact ⟨srcPorts src, e ▸ h⟩
  · refine ⟨[], ?_⟩
    unfold State.taken State.consume
    split
    · rfl
    · rw [State.modTile_tileAt_ne _ _ e]; rfl

/-- A read of a source port leaves the place of every access as it was. -/
theorem State.taken_place (s : State) (src : Src) (use : Use) (a : Word) (al n : Nat) :
    (s.taken src).place use a al n = s.place use a al n := by
  have hs : ∀ k, ((s.taken src).tileAt k).station = (s.tileAt k).station := fun k => by
    obtain ⟨ps, e⟩ := State.taken_tileAt s src k; rw [e]; rfl
  have hb : ∀ k u off, bankOk ((s.taken src).tileAt k) u off = bankOk (s.tileAt k) u off := fun k u off => by
    simp [bankOk, hs]
  have hsc : ∀ k u off al n, scratchOk ((s.taken src).tileAt k) u off al n = scratchOk (s.tileAt k) u off al n := fun k u off al n => by
    simp [scratchOk, hb]
  have hh : (s.taken src).tile.core.h = s.tile.core.h := by
    rw [State.taken_tile]; exact (TileCore.consume_frame _ _ _).2.2.2.2.2.1
  have hi : (s.taken src).tile.inCluster = s.tile.inCluster := by
    rw [State.taken_tile]; rfl
  have hm : ∀ h, (s.taken src).tile.mayServe h = s.tile.mayServe h := fun h => by rw [State.taken_tile]; rfl
  unfold State.place
  rw [show (s.taken src).tile = (s.taken src).tileAt (s.taken src).cur from rfl] at *
  simp only [State.taken_cur] at *
  simp only [hsc, hi, hh, hm]
  rfl

/-! ### Traps (R25, R361-R366) -/

/-- A frozen tile holds the cause, but for one that the replay will raise again (R366). -/
theorem State.takeTrapAt_frozen (s : State) (k : TileKey) (c : Cause) (h : (s.tileAt k).frozen = true) :
    s.takeTrapAt k c = (if (s.tileAt k).replays c then (if isService c.code then s.spend else s)
      else (if isService c.code then s.spend else s).setTileAt k { s.tileAt k with heldCauses := (s.tileAt k).heldCauses ++ [c] }) := by
  unfold State.takeTrapAt
  by_cases hc : isService c.code = true
  · simp only [hc, if_true]
    rw [show s.spend.tileAt k = s.tileAt k from rfl, h]
    simp
  · simp only [hc]
    simp [h]

/-- What every cause leaves: the memories, and what the causes rolled back first leave of the registers is the mark (R58). -/
theorem State.rollbackAt_mem (s : State) (k : TileKey) : (s.rollbackAt k).mem = s.mem := by
  unfold State.rollbackAt
  generalize hl : (s.towSet k).filter (· ≠ k) = l
  simp only
  show (List.foldl _ s l).mem = s.mem
  clear hl
  generalize (s.tileAt k).issue - (s.tileAt k).markAt.1 = n
  induction l generalizing s with
  | nil => rfl
  | cons x r ih => exact ih (s.modTileAt x (fun t => t.waitReplay n))

end Sys2Proof.Machine
end

