-- ==== Sys2Proof/Laws/Bytes.lean ====
section
/-! SUPPORT. The frame "every byte of memory and of every scratchpad reads as before" behind the shared operations. -/

namespace Sys2Proof.Claims

open Sys2Proof.Machine

theorem sameBytes_refl (s : State) : SameBytes s s := ⟨fun _ => rfl, fun _ _ => rfl⟩

theorem sameBytes_trans {a b c : State} (h : SameBytes a b) (g : SameBytes b c) : SameBytes a c :=
  ⟨fun p => (g.1 p).trans (h.1 p), fun k o => (g.2 k o).trans (h.2 k o)⟩

/-- An update of one tile that leaves its scratchpad. -/
theorem sameBytes_modTileAt (s : State) (k : TileKey) (f : Tile → Tile) (h : (f (s.tileAt k)).scratch = (s.tileAt k).scratch) :
    SameBytes s (s.modTileAt k f) := by
  refine ⟨fun pa => rfl, fun j off => ?_⟩
  by_cases e : j = k
  · subst e; rw [State.modTileAt_tileAt]; unfold Tile.byte; rw [h]
  · rw [State.modTileAt_tileAt_ne _ _ e]

theorem sameBytes_modTile (s : State) (f : Tile → Tile) (h : (f s.tile).scratch = s.tile.scratch) : SameBytes s (s.modTile f) :=
  sameBytes_modTileAt s s.cur f h

theorem sameBytes_taken (s : State) (src : Src) : SameBytes s (s.taken src) := by
  unfold State.taken State.consume
  split
  · exact sameBytes_refl s
  · exact sameBytes_modTile _ _ rfl

theorem sameBytes_atSlot (s : State) (i : Nat) : SameBytes s (s.atSlot i) := sameBytes_modTile _ _ rfl

theorem sameBytes_timed (s : State) (sk : Sock) (lat : Nat) (rs : List (RPort × Wide × Wide)) (ev : EvCount) :
    SameBytes s (s.timed sk lat rs ev) := sameBytes_modTile _ _ rfl

theorem sameBytes_pend (s : State) (sk : Sock) (ports : List RPort) : SameBytes s (s.pend sk ports) := sameBytes_modTile _ _ rfl

theorem sameBytes_answer (s : State) (sk : Sock) (due : Nat) (rs : List (RPort × Wide)) : SameBytes s (s.answer sk due rs) :=
  sameBytes_modTile _ _ rfl

theorem sameBytes_locked (s : State) (sk : Sock) (rs : List (RPort × Wide)) : SameBytes s (s.locked sk rs) :=
  sameBytes_modTile _ _ rfl

/-- The arrival of results that no frame and no save area awaits (R371, R377). -/
theorem sameBytes_fillAt (s : State) (k : TileKey) (id due : Nat) (rs : List (RPort × Wide)) (h : Unsaved s k id) :
    SameBytes s (s.fillAt k id due rs) := by
  refine ⟨fun pa => by rw [show (s.fillAt k id due rs).memByte pa = cellsGet (s.fillAt k id due rs).mem pa from rfl,
      State.fillAt_mem s k id due rs h.1 h.2]; rfl, fun j off => ?_⟩
  by_cases e : j = k
  · subst e; rw [State.fillAt_tileAt]; rfl
  · rw [State.fillAt_other _ _ _ _ e]

end Sys2Proof.Claims
end

