-- ==== Sys2Proof/Laws/Decode.lean ====
section
/-! SUPPORT. Each field of a slot's word decodes to what the encoder packed. -/

namespace Sys2Proof

theorem extract_low {n m : Nat} (a : BitVec n) (b : BitVec m) : (a ++ b).extractLsb' 0 m = b := by
  apply BitVec.eq_of_getLsbD_eq
  intro i hi
  simp only [BitVec.getLsbD_extractLsb', BitVec.getLsbD_append, Nat.zero_add, hi, decide_true, Bool.true_and, if_true]

theorem extract_above {n m : Nat} (a : BitVec n) (b : BitVec m) (k w : Nat) (h : m ≤ k) :
    (a ++ b).extractLsb' k w = a.extractLsb' (k - m) w := by
  apply BitVec.eq_of_getLsbD_eq
  intro i hi
  simp only [BitVec.getLsbD_extractLsb', BitVec.getLsbD_append, hi, decide_true, Bool.true_and]
  rw [if_neg (by omega)]
  congr 1
  omega

theorem extract_below {n m : Nat} (a : BitVec n) (b : BitVec m) (k w : Nat) (h : k + w ≤ m) :
    (a ++ b).extractLsb' k w = b.extractLsb' k w := by
  apply BitVec.eq_of_getLsbD_eq
  intro i hi
  simp only [BitVec.getLsbD_extractLsb', BitVec.getLsbD_append, hi, decide_true, Bool.true_and]
  rw [if_pos (by omega)]

theorem extract_all {n : Nat} (a : BitVec n) : a.extractLsb' 0 n = a := by
  apply BitVec.eq_of_getLsbD_eq
  intro i hi
  simp [hi]

/-- A guard decodes to itself. -/
theorem guard_dec_enc (g : Guard) : Guard.dec g.enc = g := by
  obtain ⟨i, p⟩ := g
  revert p
  cases i <;> decide

/-- A modifier within its limits decodes to itself. -/
theorem mod_dec_enc (md : SrcMod) (h : md.ok = true) : SrcMod.dec md.enc = .ok md := by
  obtain ⟨c, gr, l, d⟩ := md
  revert h
  revert l d
  cases c <;> cases gr <;> decide

/-- A source that exists decodes to itself in a scalar slot. -/
theorem src_dec_enc (s : Src) (h : s.ok = true) : Src.dec false s.limm s.enc = .ok s := by
  cases s with
  | m n => revert n; decide
  | o n => revert n; decide
  | special v => cases v <;> rfl
  | p n => revert n; decide
  | port sk r => revert h; cases sk <;> cases r <;> decide
  | imm8 v => revert v; decide
  | limmS v => simp [Src.dec, Src.enc, Src.limm]
  | limmZ v => simp [Src.dec, Src.enc, Src.limm]
  | limmHi v => simp [Src.dec, Src.enc, Src.limm]

/-- A source that a vector slot may read decodes to itself there. -/
theorem src_dec_encV (s : Src) (h : s.okVector = true) : Src.dec true s.limm s.enc = .ok s := by
  cases s with
  | m n => revert n; decide
  | o n => revert n; decide
  | special v => cases v <;> rfl
  | p n => revert n; decide
  | port sk r => revert h; cases sk <;> cases r <;> decide
  | imm8 v => revert v; decide
  | limmS v => simp [Src.dec, Src.enc, Src.limm]
  | limmZ v => simp [Src.dec, Src.enc, Src.limm]
  | limmHi v => simp [Src.okVector] at h

/-- The destination of a move decodes to itself where its port exists. -/
theorem dst_dec_enc (d : Dst) (h : ∀ sk pt, d = .port sk pt → (sk.operandClass pt).isSome) : DstCode.dec d.enc = .ok (.move d) := by
  cases d with
  | null => rfl
  | o n => clear h; revert n; decide
  | p n => clear h; revert n; decide
  | m n => clear h; revert n; decide
  | port sk pt =>
    have := h sk pt rfl
    revert this
    clear h
    cases sk <;> cases pt <;> decide

/-- A trigger port decodes to its socket. -/
theorem trig_dec_enc (sk : Sock) : DstCode.dec ((3 : BitVec 2) ++ sk.num ++ (0 : BitVec 1) : BitVec 9) = .ok (.trigger sk) := by
  cases sk <;> rfl

/-- A scalar slot's trigger decodes to the operation of its opcode. -/
theorem scalar_trigger {sk : Sock} {op : BitVec 7} {s : Src} {g : Guard} {i : Instr} (h : s.ok = true) (hc : sk.triggerClass ≠ .v)
    (ht : triggerOf sk op s g = some i) :
    decodeScalar s.limm (op ++ ((3 : BitVec 2) ++ sk.num ++ (0 : BitVec 1) : BitVec 9) ++ s.enc ++ g.enc : BitVec 32) = .ok i := by
  unfold decodeScalar
  have h1 : ((op ++ ((3 : BitVec 2) ++ sk.num ++ (0 : BitVec 1) : BitVec 9) ++ s.enc ++ g.enc : BitVec 32).extractLsb' 0 6 : BitVec 6) = g.enc := extract_low _ _
  have h2 : ((op ++ ((3 : BitVec 2) ++ sk.num ++ (0 : BitVec 1) : BitVec 9) ++ s.enc ++ g.enc : BitVec 32).extractLsb' 6 10 : BitVec 10) = s.enc :=
    (extract_above _ _ _ _ (by decide)).trans (extract_low _ _)
  have h3 : ((op ++ ((3 : BitVec 2) ++ sk.num ++ (0 : BitVec 1) : BitVec 9) ++ s.enc ++ g.enc : BitVec 32).extractLsb' 16 9 : BitVec 9) =
      ((3 : BitVec 2) ++ sk.num ++ (0 : BitVec 1) : BitVec 9) :=
    (extract_above _ _ _ _ (by decide)).trans ((extract_above _ _ _ _ (by decide)).trans (extract_low _ _))
  have h4 : ((op ++ ((3 : BitVec 2) ++ sk.num ++ (0 : BitVec 1) : BitVec 9) ++ s.enc ++ g.enc : BitVec 32).extractLsb' 25 7 : BitVec 7) = op :=
    (extract_above _ _ _ _ (by decide)).trans ((extract_above _ _ _ _ (by decide)).trans ((extract_above _ _ _ _ (by decide)).trans (extract_all _)))
  rw [h1, h2, h3, h4, src_dec_enc s h, trig_dec_enc, guard_dec_enc]
  simp only [hc, if_false, ht]

/-- A vector slot's trigger decodes to the operation of its opcode. -/
theorem vector_trigger {sk : Sock} {op : BitVec 7} {md : SrcMod} {s : Src} {g : Guard} {i : Instr} (hm : md.ok = true)
    (h : s.okVector = true) (hc : sk.triggerClass ≠ .s) (ht : triggerVOf sk op md s g = some i) :
    decodeVector s.limm ((0 : BitVec 4) ++ md.enc ++ op ++ ((3 : BitVec 2) ++ sk.num ++ (0 : BitVec 1) : BitVec 9) ++ s.enc ++ g.enc : BitVec 48) = .ok i := by
  unfold decodeVector
  have h1 : (((0 : BitVec 4) ++ md.enc ++ op ++ ((3 : BitVec 2) ++ sk.num ++ (0 : BitVec 1) : BitVec 9) ++ s.enc ++ g.enc : BitVec 48).extractLsb' 0 6 : BitVec 6) = g.enc := extract_low _ _
  have h2 : (((0 : BitVec 4) ++ md.enc ++ op ++ ((3 : BitVec 2) ++ sk.num ++ (0 : BitVec 1) : BitVec 9) ++ s.enc ++ g.enc : BitVec 48).extractLsb' 6 10 : BitVec 10) = s.enc :=
    (extract_above _ _ _ _ (by decide)).trans (extract_low _ _)
  have h3 : (((0 : BitVec 4) ++ md.enc ++ op ++ ((3 : BitVec 2) ++ sk.num ++ (0 : BitVec 1) : BitVec 9) ++ s.enc ++ g.enc : BitVec 48).extractLsb' 16 9 : BitVec 9) =
      ((3 : BitVec 2) ++ sk.num ++ (0 : BitVec 1) : BitVec 9) :=
    (extract_above _ _ _ _ (by decide)).trans ((extract_above _ _ _ _ (by decide)).trans (extract_low _ _))
  have h4 : (((0 : BitVec 4) ++ md.enc ++ op ++ ((3 : BitVec 2) ++ sk.num ++ (0 : BitVec 1) : BitVec 9) ++ s.enc ++ g.enc : BitVec 48).extractLsb' 25 7 : BitVec 7) = op :=
    (extract_above _ _ _ _ (by decide)).trans ((extract_above _ _ _ _ (by decide)).trans ((extract_above _ _ _ _ (by decide)).trans (extract_low _ _)))
  have h5 : (((0 : BitVec 4) ++ md.enc ++ op ++ ((3 : BitVec 2) ++ sk.num ++ (0 : BitVec 1) : BitVec 9) ++ s.enc ++ g.enc : BitVec 48).extractLsb' 32 12 : BitVec 12) = md.enc :=
    (extract_above _ _ _ _ (by decide)).trans ((extract_above _ _ _ _ (by decide)).trans ((extract_above _ _ _ _ (by decide)).trans ((extract_above _ _ _ _ (by decide)).trans (extract_low _ _))))
  have h6 : (((0 : BitVec 4) ++ md.enc ++ op ++ ((3 : BitVec 2) ++ sk.num ++ (0 : BitVec 1) : BitVec 9) ++ s.enc ++ g.enc : BitVec 48).extractLsb' 44 4 : BitVec 4) = 0 :=
    (extract_above _ _ _ _ (by decide)).trans ((extract_above _ _ _ _ (by decide)).trans ((extract_above _ _ _ _ (by decide)).trans ((extract_above _ _ _ _ (by decide)).trans ((extract_above _ _ _ _ (by decide)).trans (extract_all _)))))
  rw [h1, h2, h3, h4, h5, h6, src_dec_encV s h, trig_dec_enc, guard_dec_enc]
  simp only [mod_dec_enc md hm, hc, if_false, ht]
  rfl

/-- A move of a scalar slot decodes to itself. -/
theorem scalar_move {d : Dst} {s : Src} {g : Guard} (hd : d.okScalar = true) (h : s.ok = true) :
    decodeScalar s.limm ((0 : BitVec 7) ++ d.enc ++ s.enc ++ g.enc : BitVec 32) = .ok (.move d s g) := by
  unfold decodeScalar
  have h1 : (((0 : BitVec 7) ++ d.enc ++ s.enc ++ g.enc : BitVec 32).extractLsb' 0 6 : BitVec 6) = g.enc := extract_low _ _
  have h2 : (((0 : BitVec 7) ++ d.enc ++ s.enc ++ g.enc : BitVec 32).extractLsb' 6 10 : BitVec 10) = s.enc :=
    (extract_above _ _ _ _ (by decide)).trans (extract_low _ _)
  have h3 : (((0 : BitVec 7) ++ d.enc ++ s.enc ++ g.enc : BitVec 32).extractLsb' 16 9 : BitVec 9) = d.enc :=
    (extract_above _ _ _ _ (by decide)).trans ((extract_above _ _ _ _ (by decide)).trans (extract_low _ _))
  have h4 : (((0 : BitVec 7) ++ d.enc ++ s.enc ++ g.enc : BitVec 32).extractLsb' 25 7 : BitVec 7) = 0 :=
    (extract_above _ _ _ _ (by decide)).trans ((extract_above _ _ _ _ (by decide)).trans ((extract_above _ _ _ _ (by decide)).trans (extract_all _)))
  have hp : ∀ sk pt, d = .port sk pt → (sk.operandClass pt).isSome := by
    intro sk pt e
    subst e
    revert hd
    cases sk <;> cases pt <;> decide
  rw [h1, h2, h3, h4, src_dec_enc s h, dst_dec_enc d hp, guard_dec_enc]
  simp [hd]

/-- A move of a vector slot decodes to itself; one without a destination has no modifier. -/
theorem vector_move {d : Dst} {md : SrcMod} {s : Src} {g : Guard} (hd : d.okVector = true) (hm : md.ok = true) (h : s.okVector = true)
    (hn : (d != .null || md == SrcMod.id) = true) :
    decodeVector s.limm ((0 : BitVec 4) ++ md.enc ++ (0 : BitVec 7) ++ d.enc ++ s.enc ++ g.enc : BitVec 48) = .ok (.moveVector d md s g) := by
  unfold decodeVector
  have h1 : (((0 : BitVec 4) ++ md.enc ++ (0 : BitVec 7) ++ d.enc ++ s.enc ++ g.enc : BitVec 48).extractLsb' 0 6 : BitVec 6) = g.enc := extract_low _ _
  have h2 : (((0 : BitVec 4) ++ md.enc ++ (0 : BitVec 7) ++ d.enc ++ s.enc ++ g.enc : BitVec 48).extractLsb' 6 10 : BitVec 10) = s.enc :=
    (extract_above _ _ _ _ (by decide)).trans (extract_low _ _)
  have h3 : (((0 : BitVec 4) ++ md.enc ++ (0 : BitVec 7) ++ d.enc ++ s.enc ++ g.enc : BitVec 48).extractLsb' 16 9 : BitVec 9) = d.enc :=
    (extract_above _ _ _ _ (by decide)).trans ((extract_above _ _ _ _ (by decide)).trans (extract_low _ _))
  have h4 : (((0 : BitVec 4) ++ md.enc ++ (0 : BitVec 7) ++ d.enc ++ s.enc ++ g.enc : BitVec 48).extractLsb' 25 7 : BitVec 7) = 0 :=
    (extract_above _ _ _ _ (by decide)).trans ((extract_above _ _ _ _ (by decide)).trans ((extract_above _ _ _ _ (by decide)).trans (extract_low _ _)))
  have h5 : (((0 : BitVec 4) ++ md.enc ++ (0 : BitVec 7) ++ d.enc ++ s.enc ++ g.enc : BitVec 48).extractLsb' 32 12 : BitVec 12) = md.enc :=
    (extract_above _ _ _ _ (by decide)).trans ((extract_above _ _ _ _ (by decide)).trans ((extract_above _ _ _ _ (by decide)).trans ((extract_above _ _ _ _ (by decide)).trans (extract_low _ _))))
  have h6 : (((0 : BitVec 4) ++ md.enc ++ (0 : BitVec 7) ++ d.enc ++ s.enc ++ g.enc : BitVec 48).extractLsb' 44 4 : BitVec 4) = 0 :=
    (extract_above _ _ _ _ (by decide)).trans ((extract_above _ _ _ _ (by decide)).trans ((extract_above _ _ _ _ (by decide)).trans ((extract_above _ _ _ _ (by decide)).trans ((extract_above _ _ _ _ (by decide)).trans (extract_all _)))))
  have hp : ∀ sk pt, d = .port sk pt → (sk.operandClass pt).isSome := by
    intro sk pt e
    subst e
    revert hd
    cases sk <;> cases pt <;> decide
  rw [h1, h2, h3, h4, h5, h6, src_dec_encV s h, dst_dec_enc d hp, guard_dec_enc]
  have hz : (d == Dst.null && md.enc ≠ 0) = false := by
    by_cases e : d = .null
    · subst e
      simp only [bne_self_eq_false, Bool.false_or, beq_iff_eq] at hn
      subst hn
      rfl
    · simp [e]
  simp only [hd, hz, mod_dec_enc md hm, Bool.or_false]
  rfl

/-- A control slot's word decodes to its operation. -/
theorem control_word {opc : BitVec 7} {operand : BitVec 19} {g : Guard} {i : Instr} (h : controlOf opc operand g = some i) :
    decodeControl (operand ++ opc ++ g.enc : BitVec 32) = .ok i := by
  unfold decodeControl
  have h1 : ((operand ++ opc ++ g.enc : BitVec 32).extractLsb' 0 6 : BitVec 6) = g.enc := extract_low _ _
  have h2 : ((operand ++ opc ++ g.enc : BitVec 32).extractLsb' 6 7 : BitVec 7) = opc :=
    (extract_above _ _ _ _ (by decide)).trans (extract_low _ _)
  have h3 : ((operand ++ opc ++ g.enc : BitVec 32).extractLsb' 13 19 : BitVec 19) = operand :=
    (extract_above _ _ _ _ (by decide)).trans ((extract_above _ _ _ _ (by decide)).trans (extract_all _))
  rw [h1, h2, h3, guard_dec_enc, h]

end Sys2Proof
end

