-- ==== Sys2Proof/Laws/PerInstr.lean ====
section
/-! SUPPORT. For every instruction: a well-formed one decodes from its own words to itself (R191-R217). A step of another agent has no
words. -/

namespace Sys2Proof.Laws.RoundTrip

/-- The words of a well-formed instruction decode to it. -/
def Statement (i : Instr) : Prop := i.wf = true → ∀ e, encode i = some e → decode e = .ok i

/-- A trigger of a scalar slot. -/
theorem scalar {i : Instr} {sk : Sock} {op : BitVec 7} {s : Src} {g : Guard} (hi : i.slotCode = .trigger sk op s g) (h : s.ok = true)
    (hc : sk.triggerClass ≠ .v) (ht : triggerOf sk op s g = some i) (e : Encoded) (he : encode i = some e) : decode e = .ok i := by
  simp only [encode, hi, Option.some.injEq] at he
  subst he
  exact scalar_trigger h hc ht

/-- A trigger of a vector slot. -/
theorem vector {i : Instr} {sk : Sock} {op : BitVec 7} {md : SrcMod} {s : Src} {g : Guard} (hi : i.slotCode = .triggerV sk op md s g)
    (h : (md.ok && s.okVector) = true) (hc : sk.triggerClass ≠ .s) (ht : triggerVOf sk op md s g = some i) (e : Encoded)
    (he : encode i = some e) : decode e = .ok i := by
  simp only [Bool.and_eq_true] at h
  simp only [encode, hi, Option.some.injEq] at he
  subst he
  exact vector_trigger h.1 h.2 hc ht

/-- A control operation. -/
theorem control {i : Instr} {opc : BitVec 7} {x : BitVec 19} {g : Guard} (hi : i.slotCode = .control opc x g)
    (ht : controlOf opc x g = some i) (e : Encoded) (he : encode i = some e) : decode e = .ok i := by
  simp only [encode, hi, Option.some.injEq] at he
  subst he
  exact control_word ht

/-- A step of another agent. -/
theorem agent {i : Instr} (hi : i.slotCode = .agent) : Statement i := by
  intro _ e he
  simp [encode, hi] at he

/-- BUNDLE_ISSUE. -/
theorem bundleIssue (b : BitVec 512) : Statement (.bundleIssue b) := by
  intro _ e he
  simp only [encode, Instr.slotCode, Option.some.injEq] at he
  subst he
  rfl

/-- INTERLOCKED_RESULT_DELIVERED. -/
theorem interlockedResultDelivered (sk : Sock) : Statement (.interlockedResultDelivered sk) := agent rfl

/-- MOVE. -/
theorem move (d : Dst) (s : Src) (g : Guard) : Statement (.move d s g) := by
  intro h e he
  simp only [Instr.wf, Bool.and_eq_true] at h
  simp only [encode, Instr.slotCode, Option.some.injEq] at he
  subst he
  exact scalar_move h.1 h.2

/-- MOVE_VECTOR. -/
theorem moveVector (d : Dst) (md : SrcMod) (s : Src) (g : Guard) : Statement (.moveVector d md s g) := by
  intro h e he
  simp only [Instr.wf, Bool.and_eq_true] at h
  simp only [encode, Instr.slotCode, Option.some.injEq] at he
  subst he
  exact vector_move h.1.1.1 h.1.1.2 h.1.2 h.2

/-- NOP. -/
theorem nop (g : Guard) : Statement (.nop g) := fun _ => control rfl rfl

/-- BR. -/
theorem br (off : BitVec 19) (g : Guard) : Statement (.br off g) := fun _ => control rfl rfl

/-- BRP. -/
theorem brp (off : BitVec 19) (g : Guard) : Statement (.brp off g) := fun _ => control rfl rfl

/-- BRN. -/
theorem brn (off : BitVec 19) (g : Guard) : Statement (.brn off g) := fun _ => control rfl rfl

/-- CALL. -/
theorem call (off : BitVec 19) (g : Guard) : Statement (.call off g) := fun _ => control rfl rfl

/-- RET. -/
theorem ret (n : BitVec 3) (g : Guard) : Statement (.ret n g) := by
  intro _
  refine control rfl ?_
  have e0 : (((0 : BitVec 16) ++ n : BitVec 19).extractLsb' 0 3 : BitVec 3) = n := extract_low _ _
  have e1 : (((0 : BitVec 16) ++ n : BitVec 19).extractLsb' 3 16 : BitVec 16) = 0 := (extract_above _ _ _ _ (by decide)).trans (extract_all _)
  simp only [controlOf, e0, e1]
  rfl

/-- LOOP. -/
theorem loop (n : BitVec 3) (len : BitVec 11) (g : Guard) : Statement (.loop n len g) := by
  intro _
  refine control rfl ?_
  have e0 : ((n ++ (0 : BitVec 5) ++ len : BitVec 19).extractLsb' 0 11 : BitVec 11) = len := extract_low _ _
  have e1 : ((n ++ (0 : BitVec 5) ++ len : BitVec 19).extractLsb' 11 5 : BitVec 5) = 0 := (extract_above _ _ _ _ (by decide)).trans (extract_low _ _)
  have e2 : ((n ++ (0 : BitVec 5) ++ len : BitVec 19).extractLsb' 16 3 : BitVec 3) = n := (extract_above _ _ _ _ (by decide)).trans ((extract_above _ _ _ _ (by decide)).trans (extract_all _))
  simp only [controlOf, e0, e1, e2]
  rfl

/-- SPIN. -/
theorem spin (n : BitVec 9) (step : BitVec 6) (k : BitVec 4) (g : Guard) : Statement (.spin n step k g) := by
  intro _
  refine control rfl ?_
  have e0 : ((n ++ step ++ k : BitVec 19).extractLsb' 0 4 : BitVec 4) = k := extract_low _ _
  have e1 : ((n ++ step ++ k : BitVec 19).extractLsb' 4 6 : BitVec 6) = step := (extract_above _ _ _ _ (by decide)).trans (extract_low _ _)
  have e2 : ((n ++ step ++ k : BitVec 19).extractLsb' 10 9 : BitVec 9) = n := (extract_above _ _ _ _ (by decide)).trans ((extract_above _ _ _ _ (by decide)).trans (extract_all _))
  simp only [controlOf, e0, e1, e2]
  rfl

/-- WAIT. -/
theorem wait (count : BitVec 19) (g : Guard) : Statement (.wait count g) := fun _ => control rfl rfl

/-- WAITU. -/
theorem waitu (n : BitVec 3) (g : Guard) : Statement (.waitu n g) := by
  intro _
  refine control rfl ?_
  have e0 : (((0 : BitVec 16) ++ n : BitVec 19).extractLsb' 0 3 : BitVec 3) = n := extract_low _ _
  have e1 : (((0 : BitVec 16) ++ n : BitVec 19).extractLsb' 3 16 : BitVec 16) = 0 := (extract_above _ _ _ _ (by decide)).trans (extract_all _)
  simp only [controlOf, e0, e1]
  rfl

/-- WAITB. -/
theorem waitb (n : BitVec 3) (g : Guard) : Statement (.waitb n g) := by
  intro _
  refine control rfl ?_
  have e0 : (((0 : BitVec 16) ++ n : BitVec 19).extractLsb' 0 3 : BitVec 3) = n := extract_low _ _
  have e1 : (((0 : BitVec 16) ++ n : BitVec 19).extractLsb' 3 16 : BitVec 16) = 0 := (extract_above _ _ _ _ (by decide)).trans (extract_all _)
  simp only [controlOf, e0, e1]
  rfl

/-- TASKEND. -/
theorem taskend (g : Guard) : Statement (.taskend g) := fun _ => control rfl rfl

/-- SAFE. -/
theorem safe (g : Guard) : Statement (.safe g) := fun _ => control rfl rfl

/-- TRAPU. -/
theorem trapu (code : BitVec 16) (g : Guard) : Statement (.trapu code g) := by
  intro _
  refine control rfl ?_
  have e0 : (((0 : BitVec 3) ++ code : BitVec 19).extractLsb' 0 16 : BitVec 16) = code := extract_low _ _
  have e1 : (((0 : BitVec 3) ++ code : BitVec 19).extractLsb' 16 3 : BitVec 3) = 0 := (extract_above _ _ _ _ (by decide)).trans (extract_all _)
  simp only [controlOf, e0, e1]
  rfl

/-- ILOCK. -/
theorem ilock (pk : BitVec 5) (n : BitVec 3) (g : Guard) : Statement (.ilock pk n g) := by
  intro _
  refine control rfl ?_
  have e0 : (((0 : BitVec 11) ++ pk ++ n : BitVec 19).extractLsb' 0 3 : BitVec 3) = n := extract_low _ _
  have e1 : (((0 : BitVec 11) ++ pk ++ n : BitVec 19).extractLsb' 3 5 : BitVec 5) = pk := (extract_above _ _ _ _ (by decide)).trans (extract_low _ _)
  have e2 : (((0 : BitVec 11) ++ pk ++ n : BitVec 19).extractLsb' 8 11 : BitVec 11) = 0 := (extract_above _ _ _ _ (by decide)).trans ((extract_above _ _ _ _ (by decide)).trans (extract_all _))
  simp only [controlOf, e0, e1, e2]
  rfl

/-- IUNLOCK. -/
theorem iunlock (pk : BitVec 5) (n : BitVec 3) (g : Guard) : Statement (.iunlock pk n g) := by
  intro _
  refine control rfl ?_
  have e0 : (((0 : BitVec 11) ++ pk ++ n : BitVec 19).extractLsb' 0 3 : BitVec 3) = n := extract_low _ _
  have e1 : (((0 : BitVec 11) ++ pk ++ n : BitVec 19).extractLsb' 3 5 : BitVec 5) = pk := (extract_above _ _ _ _ (by decide)).trans (extract_low _ _)
  have e2 : (((0 : BitVec 11) ++ pk ++ n : BitVec 19).extractLsb' 8 11 : BitVec 11) = 0 := (extract_above _ _ _ _ (by decide)).trans ((extract_above _ _ _ _ (by decide)).trans (extract_all _))
  simp only [controlOf, e0, e1, e2]
  rfl

/-- ADD. -/
theorem aluAdd (u : Twin) (s : Src) (g : Guard) : Statement (.aluAdd u s g) := by
  intro h
  cases u <;> exact scalar rfl h (by decide) rfl

/-- SUB. -/
theorem aluSub (u : Twin) (s : Src) (g : Guard) : Statement (.aluSub u s g) := by
  intro h
  cases u <;> exact scalar rfl h (by decide) rfl

/-- AND. -/
theorem aluAnd (u : Twin) (s : Src) (g : Guard) : Statement (.aluAnd u s g) := by
  intro h
  cases u <;> exact scalar rfl h (by decide) rfl

/-- OR. -/
theorem aluOr (u : Twin) (s : Src) (g : Guard) : Statement (.aluOr u s g) := by
  intro h
  cases u <;> exact scalar rfl h (by decide) rfl

/-- XOR. -/
theorem aluXor (u : Twin) (s : Src) (g : Guard) : Statement (.aluXor u s g) := by
  intro h
  cases u <;> exact scalar rfl h (by decide) rfl

/-- ANDN. -/
theorem aluAndn (u : Twin) (s : Src) (g : Guard) : Statement (.aluAndn u s g) := by
  intro h
  cases u <;> exact scalar rfl h (by decide) rfl

/-- SHL. -/
theorem aluShl (u : Twin) (s : Src) (g : Guard) : Statement (.aluShl u s g) := by
  intro h
  cases u <;> exact scalar rfl h (by decide) rfl

/-- SHR. -/
theorem aluShr (u : Twin) (s : Src) (g : Guard) : Statement (.aluShr u s g) := by
  intro h
  cases u <;> exact scalar rfl h (by decide) rfl

/-- SAR. -/
theorem aluSar (u : Twin) (s : Src) (g : Guard) : Statement (.aluSar u s g) := by
  intro h
  cases u <;> exact scalar rfl h (by decide) rfl

/-- ROL. -/
theorem aluRol (u : Twin) (s : Src) (g : Guard) : Statement (.aluRol u s g) := by
  intro h
  cases u <;> exact scalar rfl h (by decide) rfl

/-- MIN_S. -/
theorem aluMinS (u : Twin) (s : Src) (g : Guard) : Statement (.aluMinS u s g) := by
  intro h
  cases u <;> exact scalar rfl h (by decide) rfl

/-- MIN_N. -/
theorem aluMinN (u : Twin) (s : Src) (g : Guard) : Statement (.aluMinN u s g) := by
  intro h
  cases u <;> exact scalar rfl h (by decide) rfl

/-- MAX_S. -/
theorem aluMaxS (u : Twin) (s : Src) (g : Guard) : Statement (.aluMaxS u s g) := by
  intro h
  cases u <;> exact scalar rfl h (by decide) rfl

/-- MAX_N. -/
theorem aluMaxN (u : Twin) (s : Src) (g : Guard) : Statement (.aluMaxN u s g) := by
  intro h
  cases u <;> exact scalar rfl h (by decide) rfl

/-- EQ. -/
theorem aluEq (u : Twin) (s : Src) (g : Guard) : Statement (.aluEq u s g) := by
  intro h
  cases u <;> exact scalar rfl h (by decide) rfl

/-- NE. -/
theorem aluNe (u : Twin) (s : Src) (g : Guard) : Statement (.aluNe u s g) := by
  intro h
  cases u <;> exact scalar rfl h (by decide) rfl

/-- LT_S. -/
theorem aluLtS (u : Twin) (s : Src) (g : Guard) : Statement (.aluLtS u s g) := by
  intro h
  cases u <;> exact scalar rfl h (by decide) rfl

/-- LT_N. -/
theorem aluLtN (u : Twin) (s : Src) (g : Guard) : Statement (.aluLtN u s g) := by
  intro h
  cases u <;> exact scalar rfl h (by decide) rfl

/-- LE_S. -/
theorem aluLeS (u : Twin) (s : Src) (g : Guard) : Statement (.aluLeS u s g) := by
  intro h
  cases u <;> exact scalar rfl h (by decide) rfl

/-- LE_N. -/
theorem aluLeN (u : Twin) (s : Src) (g : Guard) : Statement (.aluLeN u s g) := by
  intro h
  cases u <;> exact scalar rfl h (by decide) rfl

/-- SEL. -/
theorem aluSel (u : Twin) (s : Src) (g : Guard) : Statement (.aluSel u s g) := by
  intro h
  cases u <;> exact scalar rfl h (by decide) rfl

/-- CLZ. -/
theorem aluClz (u : Twin) (s : Src) (g : Guard) : Statement (.aluClz u s g) := by
  intro h
  cases u <;> exact scalar rfl h (by decide) rfl

/-- CTZ. -/
theorem aluCtz (u : Twin) (s : Src) (g : Guard) : Statement (.aluCtz u s g) := by
  intro h
  cases u <;> exact scalar rfl h (by decide) rfl

/-- POPC. -/
theorem aluPopc (u : Twin) (s : Src) (g : Guard) : Statement (.aluPopc u s g) := by
  intro h
  cases u <;> exact scalar rfl h (by decide) rfl

/-- SEXT. -/
theorem aluSext (u : Twin) (s : Src) (g : Guard) : Statement (.aluSext u s g) := by
  intro h
  cases u <;> exact scalar rfl h (by decide) rfl

/-- ZEXT. -/
theorem aluZext (u : Twin) (s : Src) (g : Guard) : Statement (.aluZext u s g) := by
  intro h
  cases u <;> exact scalar rfl h (by decide) rfl

/-- EXTR. -/
theorem aluExtr (u : Twin) (s : Src) (g : Guard) : Statement (.aluExtr u s g) := by
  intro h
  cases u <;> exact scalar rfl h (by decide) rfl

/-- INS. -/
theorem aluIns (u : Twin) (s : Src) (g : Guard) : Statement (.aluIns u s g) := by
  intro h
  cases u <;> exact scalar rfl h (by decide) rfl

/-- PASS. -/
theorem aluPass (u : Twin) (s : Src) (g : Guard) : Statement (.aluPass u s g) := by
  intro h
  cases u <;> exact scalar rfl h (by decide) rfl

/-- CAT32. -/
theorem aluCat32 (u : Twin) (s : Src) (g : Guard) : Statement (.aluCat32 u s g) := by
  intro h
  cases u <;> exact scalar rfl h (by decide) rfl

/-- ADDSH. -/
theorem aluAddsh (u : Twin) (s : Src) (g : Guard) : Statement (.aluAddsh u s g) := by
  intro h
  cases u <;> exact scalar rfl h (by decide) rfl

/-- MUL. -/
theorem mulMul (s : Src) (g : Guard) : Statement (.mulMul s g) := fun h => scalar rfl h (by decide) rfl

/-- MULH_S. -/
theorem mulMulhS (s : Src) (g : Guard) : Statement (.mulMulhS s g) := fun h => scalar rfl h (by decide) rfl

/-- MULH_N. -/
theorem mulMulhN (s : Src) (g : Guard) : Statement (.mulMulhN s g) := fun h => scalar rfl h (by decide) rfl

/-- MAC. -/
theorem mulMac (s : Src) (g : Guard) : Statement (.mulMac s g) := fun h => scalar rfl h (by decide) rfl

/-- DIV_S. -/
theorem mulDivS (s : Src) (g : Guard) : Statement (.mulDivS s g) := fun h => scalar rfl h (by decide) rfl

/-- DIV_N. -/
theorem mulDivN (s : Src) (g : Guard) : Statement (.mulDivN s g) := fun h => scalar rfl h (by decide) rfl

/-- REM_S. -/
theorem mulRemS (s : Src) (g : Guard) : Statement (.mulRemS s g) := fun h => scalar rfl h (by decide) rfl

/-- REM_N. -/
theorem mulRemN (s : Src) (g : Guard) : Statement (.mulRemN s g) := fun h => scalar rfl h (by decide) rfl

/-- PAND. -/
theorem pand (s : Src) (g : Guard) : Statement (.pand s g) := fun h => scalar rfl h (by decide) rfl

/-- POR. -/
theorem por (s : Src) (g : Guard) : Statement (.por s g) := fun h => scalar rfl h (by decide) rfl

/-- PXOR. -/
theorem pxor (s : Src) (g : Guard) : Statement (.pxor s g) := fun h => scalar rfl h (by decide) rfl

/-- PANDN. -/
theorem pandn (s : Src) (g : Guard) : Statement (.pandn s g) := fun h => scalar rfl h (by decide) rfl

/-- PNOT. -/
theorem pnot (s : Src) (g : Guard) : Statement (.pnot s g) := fun h => scalar rfl h (by decide) rfl

/-- PALL. -/
theorem pall (s : Src) (g : Guard) : Statement (.pall s g) := fun h => scalar rfl h (by decide) rfl

/-- PANY. -/
theorem pany (s : Src) (g : Guard) : Statement (.pany s g) := fun h => scalar rfl h (by decide) rfl

/-- PCNT. -/
theorem pcnt (s : Src) (g : Guard) : Statement (.pcnt s g) := fun h => scalar rfl h (by decide) rfl

/-- PFIRST. -/
theorem pfirst (s : Src) (g : Guard) : Statement (.pfirst s g) := fun h => scalar rfl h (by decide) rfl

/-- PMASK. -/
theorem pmask (s : Src) (g : Guard) : Statement (.pmask s g) := fun h => scalar rfl h (by decide) rfl

/-- PFROM. -/
theorem pfrom (s : Src) (g : Guard) : Statement (.pfrom s g) := fun h => scalar rfl h (by decide) rfl

/-- PTO. -/
theorem pto (s : Src) (g : Guard) : Statement (.pto s g) := fun h => scalar rfl h (by decide) rfl

/-- XLAT. -/
theorem xlat (s : Src) (g : Guard) : Statement (.xlat s g) := fun h => scalar rfl h (by decide) rfl

/-- XLATW. -/
theorem xlatw (s : Src) (g : Guard) : Statement (.xlatw s g) := fun h => scalar rfl h (by decide) rfl

/-- HREL. -/
theorem hrel (s : Src) (g : Guard) : Statement (.hrel s g) := fun h => scalar rfl h (by decide) rfl

/-- HQRY. -/
theorem hqry (s : Src) (g : Guard) : Statement (.hqry s g) := fun h => scalar rfl h (by decide) rfl

/-- HBASE. -/
theorem hbase (s : Src) (g : Guard) : Statement (.hbase s g) := fun h => scalar rfl h (by decide) rfl

/-- LD_S8. -/
theorem ldS8 (u : Twin) (s : Src) (g : Guard) : Statement (.ldS8 u s g) := by
  intro h
  cases u <;> exact scalar rfl h (by decide) rfl

/-- LD_N8. -/
theorem ldN8 (u : Twin) (s : Src) (g : Guard) : Statement (.ldN8 u s g) := by
  intro h
  cases u <;> exact scalar rfl h (by decide) rfl

/-- LD_S16. -/
theorem ldS16 (u : Twin) (s : Src) (g : Guard) : Statement (.ldS16 u s g) := by
  intro h
  cases u <;> exact scalar rfl h (by decide) rfl

/-- LD_N16. -/
theorem ldN16 (u : Twin) (s : Src) (g : Guard) : Statement (.ldN16 u s g) := by
  intro h
  cases u <;> exact scalar rfl h (by decide) rfl

/-- LD_S32. -/
theorem ldS32 (u : Twin) (s : Src) (g : Guard) : Statement (.ldS32 u s g) := by
  intro h
  cases u <;> exact scalar rfl h (by decide) rfl

/-- LD_N32. -/
theorem ldN32 (u : Twin) (s : Src) (g : Guard) : Statement (.ldN32 u s g) := by
  intro h
  cases u <;> exact scalar rfl h (by decide) rfl

/-- LD_64. -/
theorem ld64 (u : Twin) (s : Src) (g : Guard) : Statement (.ld64 u s g) := by
  intro h
  cases u <;> exact scalar rfl h (by decide) rfl

/-- ST_8. -/
theorem st8 (u : Twin) (s : Src) (g : Guard) : Statement (.st8 u s g) := by
  intro h
  cases u <;> exact scalar rfl h (by decide) rfl

/-- ST_16. -/
theorem st16 (u : Twin) (s : Src) (g : Guard) : Statement (.st16 u s g) := by
  intro h
  cases u <;> exact scalar rfl h (by decide) rfl

/-- ST_32. -/
theorem st32 (u : Twin) (s : Src) (g : Guard) : Statement (.st32 u s g) := by
  intro h
  cases u <;> exact scalar rfl h (by decide) rfl

/-- ST_64. -/
theorem st64 (u : Twin) (s : Src) (g : Guard) : Statement (.st64 u s g) := by
  intro h
  cases u <;> exact scalar rfl h (by decide) rfl

/-- VLD. -/
theorem vld (u : Twin) (s : Src) (g : Guard) : Statement (.vld u s g) := by
  intro h
  cases u <;> exact scalar rfl h (by decide) rfl

/-- VLDR. -/
theorem vldr (u : Twin) (s : Src) (g : Guard) : Statement (.vldr u s g) := by
  intro h
  cases u <;> exact scalar rfl h (by decide) rfl

/-- VST. -/
theorem vst (u : Twin) (s : Src) (g : Guard) : Statement (.vst u s g) := by
  intro h
  cases u <;> exact scalar rfl h (by decide) rfl

/-- VSTR. -/
theorem vstr (u : Twin) (s : Src) (g : Guard) : Statement (.vstr u s g) := by
  intro h
  cases u <;> exact scalar rfl h (by decide) rfl

/-- VLDG. -/
theorem vldg (u : Twin) (s : Src) (g : Guard) : Statement (.vldg u s g) := by
  intro h
  cases u <;> exact scalar rfl h (by decide) rfl

/-- VSTS. -/
theorem vsts (u : Twin) (s : Src) (g : Guard) : Statement (.vsts u s g) := by
  intro h
  cases u <;> exact scalar rfl h (by decide) rfl

/-- GLD. -/
theorem gld (u : Twin) (s : Src) (g : Guard) : Statement (.gld u s g) := by
  intro h
  cases u <;> exact scalar rfl h (by decide) rfl

/-- GLDT. -/
theorem gldt (u : Twin) (s : Src) (g : Guard) : Statement (.gldt u s g) := by
  intro h
  cases u <;> exact scalar rfl h (by decide) rfl

/-- CELLW. -/
theorem cellw (u : Twin) (s : Src) (g : Guard) : Statement (.cellw u s g) := by
  intro h
  cases u <;> exact scalar rfl h (by decide) rfl

/-- CELLWR. -/
theorem cellwr (u : Twin) (s : Src) (g : Guard) : Statement (.cellwr u s g) := by
  intro h
  cases u <;> exact scalar rfl h (by decide) rfl

/-- CELLR. -/
theorem cellr (u : Twin) (s : Src) (g : Guard) : Statement (.cellr u s g) := by
  intro h
  cases u <;> exact scalar rfl h (by decide) rfl

/-- CELLP. -/
theorem cellp (u : Twin) (s : Src) (g : Guard) : Statement (.cellp u s g) := by
  intro h
  cases u <;> exact scalar rfl h (by decide) rfl

/-- AADD. -/
theorem aadd (w : AWidth) (u : Twin) (s : Src) (g : Guard) : Statement (.aadd w u s g) := by
  intro h
  cases w <;> cases u <;> exact scalar rfl h (by decide) rfl

/-- AMIN_S. -/
theorem aminS (w : AWidth) (u : Twin) (s : Src) (g : Guard) : Statement (.aminS w u s g) := by
  intro h
  cases w <;> cases u <;> exact scalar rfl h (by decide) rfl

/-- AMIN_N. -/
theorem aminN (w : AWidth) (u : Twin) (s : Src) (g : Guard) : Statement (.aminN w u s g) := by
  intro h
  cases w <;> cases u <;> exact scalar rfl h (by decide) rfl

/-- AMAX_S. -/
theorem amaxS (w : AWidth) (u : Twin) (s : Src) (g : Guard) : Statement (.amaxS w u s g) := by
  intro h
  cases w <;> cases u <;> exact scalar rfl h (by decide) rfl

/-- AMAX_N. -/
theorem amaxN (w : AWidth) (u : Twin) (s : Src) (g : Guard) : Statement (.amaxN w u s g) := by
  intro h
  cases w <;> cases u <;> exact scalar rfl h (by decide) rfl

/-- AAND. -/
theorem aand (w : AWidth) (u : Twin) (s : Src) (g : Guard) : Statement (.aand w u s g) := by
  intro h
  cases w <;> cases u <;> exact scalar rfl h (by decide) rfl

/-- AOR. -/
theorem aor (w : AWidth) (u : Twin) (s : Src) (g : Guard) : Statement (.aor w u s g) := by
  intro h
  cases w <;> cases u <;> exact scalar rfl h (by decide) rfl

/-- AXOR. -/
theorem axor (w : AWidth) (u : Twin) (s : Src) (g : Guard) : Statement (.axor w u s g) := by
  intro h
  cases w <;> cases u <;> exact scalar rfl h (by decide) rfl

/-- ASWAP. -/
theorem aswap (w : AWidth) (u : Twin) (s : Src) (g : Guard) : Statement (.aswap w u s g) := by
  intro h
  cases w <;> cases u <;> exact scalar rfl h (by decide) rfl

/-- ACAS. -/
theorem acas (w : AWidth) (u : Twin) (s : Src) (g : Guard) : Statement (.acas w u s g) := by
  intro h
  cases w <;> cases u <;> exact scalar rfl h (by decide) rfl

/-- AFADD. -/
theorem afadd (u : Twin) (s : Src) (g : Guard) : Statement (.afadd u s g) := by
  intro h
  cases u <;> exact scalar rfl h (by decide) rfl

/-- OSADD_F32. -/
theorem osaddF32 (u : Twin) (s : Src) (g : Guard) : Statement (.osaddF32 u s g) := by
  intro h
  cases u <;> exact scalar rfl h (by decide) rfl

/-- OSADD_S32. -/
theorem osaddS32 (u : Twin) (s : Src) (g : Guard) : Statement (.osaddS32 u s g) := by
  intro h
  cases u <;> exact scalar rfl h (by decide) rfl

/-- JOIN. -/
theorem join (s : Src) (g : Guard) : Statement (.join s g) := fun h => scalar rfl h (by decide) rfl

/-- LEAVE. -/
theorem leave (s : Src) (g : Guard) : Statement (.leave s g) := fun h => scalar rfl h (by decide) rfl

/-- GBAR. -/
theorem gbar (s : Src) (g : Guard) : Statement (.gbar s g) := fun h => scalar rfl h (by decide) rfl

/-- CBAR. -/
theorem cbar (s : Src) (g : Guard) : Statement (.cbar s g) := fun h => scalar rfl h (by decide) rfl

/-- DBAR. -/
theorem dbar (s : Src) (g : Guard) : Statement (.dbar s g) := fun h => scalar rfl h (by decide) rfl

/-- RELEASE. -/
theorem release (s : Src) (g : Guard) : Statement (.release s g) := fun h => scalar rfl h (by decide) rfl

/-- ACQUIRE. -/
theorem acquire (s : Src) (g : Guard) : Statement (.acquire s g) := fun h => scalar rfl h (by decide) rfl

/-- XFENCE. -/
theorem xfence (s : Src) (g : Guard) : Statement (.xfence s g) := fun h => scalar rfl h (by decide) rfl

/-- SPAWN. -/
theorem spawn (s : Src) (g : Guard) : Statement (.spawn s g) := fun h => scalar rfl h (by decide) rfl

/-- GROW. -/
theorem grow (s : Src) (g : Guard) : Statement (.grow s g) := fun h => scalar rfl h (by decide) rfl

/-- MODE. -/
theorem mode (s : Src) (g : Guard) : Statement (.mode s g) := fun h => scalar rfl h (by decide) rfl

/-- FRMSET. -/
theorem frmset (s : Src) (g : Guard) : Statement (.frmset s g) := fun h => scalar rfl h (by decide) rfl

/-- BFSET. -/
theorem bfset (s : Src) (g : Guard) : Statement (.bfset s g) := fun h => scalar rfl h (by decide) rfl

/-- BFGET. -/
theorem bfget (s : Src) (g : Guard) : Statement (.bfget s g) := fun h => scalar rfl h (by decide) rfl

/-- EVRD. -/
theorem evrd (s : Src) (g : Guard) : Statement (.evrd s g) := fun h => scalar rfl h (by decide) rfl

/-- EVCLR. -/
theorem evclr (s : Src) (g : Guard) : Statement (.evclr s g) := fun h => scalar rfl h (by decide) rfl

/-- EVGATH. -/
theorem evgath (s : Src) (g : Guard) : Statement (.evgath s g) := fun h => scalar rfl h (by decide) rfl

/-- VADD. -/
theorem vadd (u : Twin) (ty : FI6) (md : SrcMod) (s : Src) (g : Guard) : Statement (.vadd u ty md s g) := by
  intro h
  cases u <;> cases ty <;> exact vector rfl h (by decide) rfl

/-- VSUB. -/
theorem vsub (u : Twin) (ty : FI6) (md : SrcMod) (s : Src) (g : Guard) : Statement (.vsub u ty md s g) := by
  intro h
  cases u <;> cases ty <;> exact vector rfl h (by decide) rfl

/-- VMUL. -/
theorem vmul (u : Twin) (ty : FI6) (md : SrcMod) (s : Src) (g : Guard) : Statement (.vmul u ty md s g) := by
  intro h
  cases u <;> cases ty <;> exact vector rfl h (by decide) rfl

/-- VFMA. -/
theorem vfma (u : Twin) (ty : F3) (md : SrcMod) (s : Src) (g : Guard) : Statement (.vfma u ty md s g) := by
  intro h
  cases u <;> cases ty <;> exact vector rfl h (by decide) rfl

/-- VFMS. -/
theorem vfms (u : Twin) (ty : F3) (md : SrcMod) (s : Src) (g : Guard) : Statement (.vfms u ty md s g) := by
  intro h
  cases u <;> cases ty <;> exact vector rfl h (by decide) rfl

/-- VFNMA. -/
theorem vfnma (u : Twin) (ty : F3) (md : SrcMod) (s : Src) (g : Guard) : Statement (.vfnma u ty md s g) := by
  intro h
  cases u <;> cases ty <;> exact vector rfl h (by decide) rfl

/-- VMIN. -/
theorem vmin (u : Twin) (ty : FSN9) (md : SrcMod) (s : Src) (g : Guard) : Statement (.vmin u ty md s g) := by
  intro h
  cases u <;> cases ty <;> exact vector rfl h (by decide) rfl

/-- VMAX. -/
theorem vmax (u : Twin) (ty : FSN9) (md : SrcMod) (s : Src) (g : Guard) : Statement (.vmax u ty md s g) := by
  intro h
  cases u <;> cases ty <;> exact vector rfl h (by decide) rfl

/-- VCLAMP. -/
theorem vclamp (u : Twin) (ty : FSN9) (md : SrcMod) (s : Src) (g : Guard) : Statement (.vclamp u ty md s g) := by
  intro h
  cases u <;> cases ty <;> exact vector rfl h (by decide) rfl

/-- VEQ. -/
theorem veq (u : Twin) (ty : FI6) (md : SrcMod) (s : Src) (g : Guard) : Statement (.veq u ty md s g) := by
  intro h
  cases u <;> cases ty <;> exact vector rfl h (by decide) rfl

/-- VNE. -/
theorem vne (u : Twin) (ty : FI6) (md : SrcMod) (s : Src) (g : Guard) : Statement (.vne u ty md s g) := by
  intro h
  cases u <;> cases ty <;> exact vector rfl h (by decide) rfl

/-- VLT. -/
theorem vlt (u : Twin) (ty : FSN9) (md : SrcMod) (s : Src) (g : Guard) : Statement (.vlt u ty md s g) := by
  intro h
  cases u <;> cases ty <;> exact vector rfl h (by decide) rfl

/-- VLE. -/
theorem vle (u : Twin) (ty : FSN9) (md : SrcMod) (s : Src) (g : Guard) : Statement (.vle u ty md s g) := by
  intro h
  cases u <;> cases ty <;> exact vector rfl h (by decide) rfl

/-- VSEL. -/
theorem vsel (u : Twin) (ty : W3) (md : SrcMod) (s : Src) (g : Guard) : Statement (.vsel u ty md s g) := by
  intro h
  cases u <;> cases ty <;> exact vector rfl h (by decide) rfl

/-- VAND. -/
theorem vand (u : Twin) (md : SrcMod) (s : Src) (g : Guard) : Statement (.vand u md s g) := by
  intro h
  cases u <;> exact vector rfl h (by decide) rfl

/-- VOR. -/
theorem vor (u : Twin) (md : SrcMod) (s : Src) (g : Guard) : Statement (.vor u md s g) := by
  intro h
  cases u <;> exact vector rfl h (by decide) rfl

/-- VXOR. -/
theorem vxor (u : Twin) (md : SrcMod) (s : Src) (g : Guard) : Statement (.vxor u md s g) := by
  intro h
  cases u <;> exact vector rfl h (by decide) rfl

/-- VSHL. -/
theorem vshl (u : Twin) (ty : W3) (md : SrcMod) (s : Src) (g : Guard) : Statement (.vshl u ty md s g) := by
  intro h
  cases u <;> cases ty <;> exact vector rfl h (by decide) rfl

/-- VSHR. -/
theorem vshr (u : Twin) (ty : W3) (md : SrcMod) (s : Src) (g : Guard) : Statement (.vshr u ty md s g) := by
  intro h
  cases u <;> cases ty <;> exact vector rfl h (by decide) rfl

/-- VSAR. -/
theorem vsar (u : Twin) (ty : W3) (md : SrcMod) (s : Src) (g : Guard) : Statement (.vsar u ty md s g) := by
  intro h
  cases u <;> cases ty <;> exact vector rfl h (by decide) rfl

/-- VADDS. -/
theorem vadds (u : Twin) (ty : SN6) (md : SrcMod) (s : Src) (g : Guard) : Statement (.vadds u ty md s g) := by
  intro h
  cases u <;> cases ty <;> exact vector rfl h (by decide) rfl

/-- VSUBS. -/
theorem vsubs (u : Twin) (ty : SN6) (md : SrcMod) (s : Src) (g : Guard) : Statement (.vsubs u ty md s g) := by
  intro h
  cases u <;> cases ty <;> exact vector rfl h (by decide) rfl

/-- VDOT4. -/
theorem vdot4 (u : Twin) (md : SrcMod) (s : Src) (g : Guard) : Statement (.vdot4 u md s g) := by
  intro h
  cases u <;> exact vector rfl h (by decide) rfl

/-- VSCALE. -/
theorem vscale (u : Twin) (ty : F3) (md : SrcMod) (s : Src) (g : Guard) : Statement (.vscale u ty md s g) := by
  intro h
  cases u <;> cases ty <;> exact vector rfl h (by decide) rfl

/-- VABS. -/
theorem vabs (u : Twin) (md : SrcMod) (s : Src) (g : Guard) : Statement (.vabs u md s g) := by
  intro h
  cases u <;> exact vector rfl h (by decide) rfl

/-- VNEG. -/
theorem vneg (u : Twin) (md : SrcMod) (s : Src) (g : Guard) : Statement (.vneg u md s g) := by
  intro h
  cases u <;> exact vector rfl h (by decide) rfl

/-- VCVT. -/
theorem vcvt (u : Twin) (md : SrcMod) (s : Src) (g : Guard) : Statement (.vcvt u md s g) := by
  intro h
  cases u <;> exact vector rfl h (by decide) rfl

/-- VRSUM. -/
theorem vrsum (u : Twin) (md : SrcMod) (s : Src) (g : Guard) : Statement (.vrsum u md s g) := by
  intro h
  cases u <;> exact vector rfl h (by decide) rfl

/-- VRMAX. -/
theorem vrmax (u : Twin) (md : SrcMod) (s : Src) (g : Guard) : Statement (.vrmax u md s g) := by
  intro h
  cases u <;> exact vector rfl h (by decide) rfl

/-- VRMIN. -/
theorem vrmin (u : Twin) (md : SrcMod) (s : Src) (g : Guard) : Statement (.vrmin u md s g) := by
  intro h
  cases u <;> exact vector rfl h (by decide) rfl

/-- VEXP2. -/
theorem vexp2 (ty : F3) (md : SrcMod) (s : Src) (g : Guard) : Statement (.vexp2 ty md s g) := by
  intro h
  cases ty <;> exact vector rfl h (by decide) rfl

/-- VLOG2. -/
theorem vlog2 (ty : F3) (md : SrcMod) (s : Src) (g : Guard) : Statement (.vlog2 ty md s g) := by
  intro h
  cases ty <;> exact vector rfl h (by decide) rfl

/-- VRCP. -/
theorem vrcp (ty : F3) (md : SrcMod) (s : Src) (g : Guard) : Statement (.vrcp ty md s g) := by
  intro h
  cases ty <;> exact vector rfl h (by decide) rfl

/-- VRSQRT. -/
theorem vrsqrt (ty : F3) (md : SrcMod) (s : Src) (g : Guard) : Statement (.vrsqrt ty md s g) := by
  intro h
  cases ty <;> exact vector rfl h (by decide) rfl

/-- VSQRT. -/
theorem vsqrt (ty : F3) (md : SrcMod) (s : Src) (g : Guard) : Statement (.vsqrt ty md s g) := by
  intro h
  cases ty <;> exact vector rfl h (by decide) rfl

/-- VTANH. -/
theorem vtanh (ty : F3) (md : SrcMod) (s : Src) (g : Guard) : Statement (.vtanh ty md s g) := by
  intro h
  cases ty <;> exact vector rfl h (by decide) rfl

/-- VSIGM. -/
theorem vsigm (ty : F3) (md : SrcMod) (s : Src) (g : Guard) : Statement (.vsigm ty md s g) := by
  intro h
  cases ty <;> exact vector rfl h (by decide) rfl

/-- VSHUF. -/
theorem vshuf (ty : W3) (md : SrcMod) (s : Src) (g : Guard) : Statement (.vshuf ty md s g) := by
  intro h
  cases ty <;> exact vector rfl h (by decide) rfl

/-- VZIP. -/
theorem vzip (ty : W3) (md : SrcMod) (s : Src) (g : Guard) : Statement (.vzip ty md s g) := by
  intro h
  cases ty <;> exact vector rfl h (by decide) rfl

/-- VUNZIP. -/
theorem vunzip (ty : W3) (md : SrcMod) (s : Src) (g : Guard) : Statement (.vunzip ty md s g) := by
  intro h
  cases ty <;> exact vector rfl h (by decide) rfl

/-- VPACK. -/
theorem vpack (ty : SN4) (md : SrcMod) (s : Src) (g : Guard) : Statement (.vpack ty md s g) := by
  intro h
  cases ty <;> exact vector rfl h (by decide) rfl

/-- VWIDEN. -/
theorem vwiden (ty : SN4) (md : SrcMod) (s : Src) (g : Guard) : Statement (.vwiden ty md s g) := by
  intro h
  cases ty <;> exact vector rfl h (by decide) rfl

/-- UNPK5. -/
theorem unpk5 (md : SrcMod) (s : Src) (g : Guard) : Statement (.unpk5 md s g) := fun h => vector rfl h (by decide) rfl

/-- PACK5. -/
theorem pack5 (md : SrcMod) (s : Src) (g : Guard) : Statement (.pack5 md s g) := fun h => vector rfl h (by decide) rfl

/-- UNPKG. -/
theorem unpkg (ty : GT2) (md : SrcMod) (s : Src) (g : Guard) : Statement (.unpkg ty md s g) := by
  intro h
  cases ty <;> exact vector rfl h (by decide) rfl

/-- QNTG. -/
theorem qntg (ty : GT3) (md : SrcMod) (s : Src) (g : Guard) : Statement (.qntg ty md s g) := by
  intro h
  cases ty <;> exact vector rfl h (by decide) rfl

/-- VCMPR. -/
theorem vcmpr (ty : FSN9) (md : SrcMod) (s : Src) (g : Guard) : Statement (.vcmpr ty md s g) := by
  intro h
  cases ty <;> exact vector rfl h (by decide) rfl

/-- VTOPK. -/
theorem vtopk (ty : FSN9) (md : SrcMod) (s : Src) (g : Guard) : Statement (.vtopk ty md s g) := by
  intro h
  cases ty <;> exact vector rfl h (by decide) rfl

/-- VSORT. -/
theorem vsort (ty : FSN9) (md : SrcMod) (s : Src) (g : Guard) : Statement (.vsort ty md s g) := by
  intro h
  cases ty <;> exact vector rfl h (by decide) rfl

/-- VBCAST. -/
theorem vbcast (ty : W3) (md : SrcMod) (s : Src) (g : Guard) : Statement (.vbcast ty md s g) := by
  intro h
  cases ty <;> exact vector rfl h (by decide) rfl

/-- VEXTR. -/
theorem vextr (ty : W3) (md : SrcMod) (s : Src) (g : Guard) : Statement (.vextr ty md s g) := by
  intro h
  cases ty <;> exact vector rfl h (by decide) rfl

/-- VINS. -/
theorem vins (ty : W3) (md : SrcMod) (s : Src) (g : Guard) : Statement (.vins ty md s g) := by
  intro h
  cases ty <;> exact vector rfl h (by decide) rfl

/-- VIOTA. -/
theorem viota (ty : W3) (md : SrcMod) (s : Src) (g : Guard) : Statement (.viota ty md s g) := by
  intro h
  cases ty <;> exact vector rfl h (by decide) rfl

/-- VSLIDE. -/
theorem vslide (ty : W3) (md : SrcMod) (s : Src) (g : Guard) : Statement (.vslide ty md s g) := by
  intro h
  cases ty <;> exact vector rfl h (by decide) rfl

/-- MXCFG. -/
theorem mxcfg (md : Option SrcMod) (s : Src) (g : Guard) : Statement (.mxcfg md s g) := by
  intro h
  cases md with
  | none => exact scalar rfl h (by decide) rfl
  | some md => exact vector rfl h (by decide) rfl

/-- WLD. -/
theorem wld (md : Option SrcMod) (s : Src) (g : Guard) : Statement (.wld md s g) := by
  intro h
  cases md with
  | none => exact scalar rfl h (by decide) rfl
  | some md => exact vector rfl h (by decide) rfl

/-- WPAGE. -/
theorem wpage (md : Option SrcMod) (s : Src) (g : Guard) : Statement (.wpage md s g) := by
  intro h
  cases md with
  | none => exact scalar rfl h (by decide) rfl
  | some md => exact vector rfl h (by decide) rfl

/-- ASTR. -/
theorem astr (md : Option SrcMod) (s : Src) (g : Guard) : Statement (.astr md s g) := by
  intro h
  cases md with
  | none => exact scalar rfl h (by decide) rfl
  | some md => exact vector rfl h (by decide) rfl

/-- DRAIN. -/
theorem drain (s : Src) (g : Guard) : Statement (.drain s g) := fun h => scalar rfl h (by decide) rfl

/-- DRAIN_VECTOR. -/
theorem drainVector (md : SrcMod) (s : Src) (g : Guard) : Statement (.drainVector md s g) := fun h => vector rfl h (by decide) rfl

/-- DRAINST. -/
theorem drainst (md : Option SrcMod) (s : Src) (g : Guard) : Statement (.drainst md s g) := by
  intro h
  cases md with
  | none => exact scalar rfl h (by decide) rfl
  | some md => exact vector rfl h (by decide) rfl

/-- MXCLR. -/
theorem mxclr (md : Option SrcMod) (s : Src) (g : Guard) : Statement (.mxclr md s g) := by
  intro h
  cases md with
  | none => exact scalar rfl h (by decide) rfl
  | some md => exact vector rfl h (by decide) rfl

/-- MXSTAT. -/
theorem mxstat (md : Option SrcMod) (s : Src) (g : Guard) : Statement (.mxstat md s g) := by
  intro h
  cases md with
  | none => exact scalar rfl h (by decide) rfl
  | some md => exact vector rfl h (by decide) rfl

/-- SCRUB_ROW. -/
theorem scrubRow (mac : BitVec 2) (page : BitVec 3) (row : BitVec 8) (parityFails : Bool) : Statement (.scrubRow mac page row parityFails) := agent rfl

/-- OATT. -/
theorem oatt (s : Src) (g : Guard) : Statement (.oatt s g) := fun h => scalar rfl h (by decide) rfl

/-- OEPH. -/
theorem oeph (s : Src) (g : Guard) : Statement (.oeph s g) := fun h => scalar rfl h (by decide) rfl

/-- OINJ. -/
theorem oinj (s : Src) (g : Guard) : Statement (.oinj s g) := fun h => scalar rfl h (by decide) rfl

/-- OSTEP. -/
theorem ostep (s : Src) (g : Guard) : Statement (.ostep s g) := fun h => scalar rfl h (by decide) rfl

/-- OSLOT. -/
theorem oslot (s : Src) (g : Guard) : Statement (.oslot s g) := fun h => scalar rfl h (by decide) rfl

/-- OCNT. -/
theorem ocnt (s : Src) (g : Guard) : Statement (.ocnt s g) := fun h => scalar rfl h (by decide) rfl

/-- OMISS. -/
theorem omiss (s : Src) (g : Guard) : Statement (.omiss s g) := fun h => scalar rfl h (by decide) rfl

/-- OLAP. -/
theorem olap (s : Src) (g : Guard) : Statement (.olap s g) := fun h => scalar rfl h (by decide) rfl

/-- ODET. -/
theorem odet (s : Src) (g : Guard) : Statement (.odet s g) := fun h => scalar rfl h (by decide) rfl

/-- DLD. -/
theorem dld (s : Src) (g : Guard) : Statement (.dld s g) := fun h => scalar rfl h (by decide) rfl

/-- DST. -/
theorem dst (s : Src) (g : Guard) : Statement (.dst s g) := fun h => scalar rfl h (by decide) rfl

/-- DCPY. -/
theorem dcpy (s : Src) (g : Guard) : Statement (.dcpy s g) := fun h => scalar rfl h (by decide) rfl

/-- DMA_TRANSFER_COMPLETE. -/
theorem dmaTransferComplete (tag : BitVec 16) : Statement (.dmaTransferComplete tag) := agent rfl

/-- DPROM. -/
theorem dprom (s : Src) (g : Guard) : Statement (.dprom s g) := fun h => scalar rfl h (by decide) rfl

/-- DSTAT. -/
theorem dstat (s : Src) (g : Guard) : Statement (.dstat s g) := fun h => scalar rfl h (by decide) rfl

/-- NSEND. -/
theorem nsend (s : Src) (g : Guard) : Statement (.nsend s g) := fun h => scalar rfl h (by decide) rfl

/-- NSEND_DELIVERY. -/
theorem nsendDelivery (rp : BitVec 4) : Statement (.nsendDelivery rp) := agent rfl

/-- RLD. -/
theorem rld (s : Src) (g : Guard) : Statement (.rld s g) := fun h => scalar rfl h (by decide) rfl

/-- CQPOST. -/
theorem cqpost (s : Src) (g : Guard) : Statement (.cqpost s g) := fun h => scalar rfl h (by decide) rfl

/-- CQSTAT. -/
theorem cqstat (s : Src) (g : Guard) : Statement (.cqstat s g) := fun h => scalar rfl h (by decide) rfl

/-- NFLAG. -/
theorem nflag (s : Src) (g : Guard) : Statement (.nflag s g) := fun h => scalar rfl h (by decide) rfl

/-- SYSRD. -/
theorem sysrd (s : Src) (g : Guard) : Statement (.sysrd s g) := fun h => scalar rfl h (by decide) rfl

/-- SYSWR. -/
theorem syswr (s : Src) (g : Guard) : Statement (.syswr s g) := fun h => scalar rfl h (by decide) rfl

/-- SNAPSV. -/
theorem snapsv (s : Src) (g : Guard) : Statement (.snapsv s g) := fun h => scalar rfl h (by decide) rfl

/-- SNAPLD. -/
theorem snapld (s : Src) (g : Guard) : Statement (.snapld s g) := fun h => scalar rfl h (by decide) rfl

/-- RFSV. -/
theorem rfsv (s : Src) (g : Guard) : Statement (.rfsv s g) := fun h => scalar rfl h (by decide) rfl

/-- RFLD. -/
theorem rfld (s : Src) (g : Guard) : Statement (.rfld s g) := fun h => scalar rfl h (by decide) rfl

/-- HINV. -/
theorem hinv (s : Src) (g : Guard) : Statement (.hinv s g) := fun h => scalar rfl h (by decide) rfl

/-- IFLUSH. -/
theorem iflush (s : Src) (g : Guard) : Statement (.iflush s g) := fun h => scalar rfl h (by decide) rfl

/-- STUB. -/
theorem stub (e : BitVec 6) : Statement (.stub e) := agent rfl

/-- PTWDL_WRITE. -/
theorem ptwdlWrite (v : BitVec 32) : Statement (.ptwdlWrite v) := agent rfl

/-- CSR_WRITE. -/
theorem csrWrite (csr : BitVec 12) (v : BitVec 32) : Statement (.csrWrite csr v) := agent rfl

/-- REVOCATION_ACK. -/
theorem revocationAck (die : DieId) (pg : PageRef) : Statement (.revocationAck die pg) := agent rfl

/-- UNCORRECTABLE_ERROR. -/
theorem uncorrectableError (e : ErrSite) : Statement (.uncorrectableError e) := agent rfl

/-- CORRECTED_ERROR. -/
theorem correctedError (e : ErrSite) : Statement (.correctedError e) := agent rfl

/-- POISON_CONSUMED. -/
theorem poisonConsumed (e : ErrSite) : Statement (.poisonConsumed e) := agent rfl

/-- SELF_TEST_COMPLETE. -/
theorem selfTestComplete (e : ErrSite) (passed : Bool) : Statement (.selfTestComplete e passed) := agent rfl

/-- NETWORK_FLIT_FAILURE. -/
theorem networkFlitFailure (die : DieId) (ring : Bool) : Statement (.networkFlitFailure die ring) := agent rfl

/-- UCIE_EDGE_FAILURE. -/
theorem ucieEdgeFailure (die : DieId) (south : Bool) : Statement (.ucieEdgeFailure die south) := agent rfl

/-- THERMAL_THRESHOLD. -/
theorem thermalThreshold (die : DieId) (t : Thermal) : Statement (.thermalThreshold die t) := agent rfl

/-- INBOX_CONSUMER_INDEX. -/
theorem inboxConsumerIndex (part : BitVec 4) (ep : BitVec 7) (v : BitVec 32) : Statement (.inboxConsumerIndex part ep v) := agent rfl

/-- APERTURE_BAD_WRITE. -/
theorem apertureBadWrite (part : BitVec 4) (ep : BitVec 7) (off : BitVec 12) (len : BitVec 12) : Statement (.apertureBadWrite part ep off len) := agent rfl

/-- FORWARDED_WRITE_ARRIVAL. -/
theorem forwardedWriteArrival (port : PortKey) (off : BitVec 14) (unit : Word) (poison : Bool) : Statement (.forwardedWriteArrival port off unit poison) := agent rfl

/-- ASIDNEW. -/
theorem asidnew (part : BitVec 4) : Statement (.asidnew part) := agent rfl

/-- ASIDFREE. -/
theorem asidfree (asid : BitVec 16) : Statement (.asidfree asid) := agent rfl

/-- TABLESET. -/
theorem tableset (pa : BitVec 50) (entry : Word) : Statement (.tableset pa entry) := agent rfl

/-- LEAFSET. -/
theorem leafset (part : BitVec 4) (pg : PageRef) (pa : BitVec 50) (entry : Word) : Statement (.leafset part pg pa entry) := agent rfl

/-- IMGCHECK. -/
theorem imgcheck (img : List Byte) : Statement (.imgcheck img) := agent rfl

/-- PACKAGE_LINK_FAILURE. -/
theorem packageLinkFailure (port : PortLoss) : Statement (.packageLinkFailure port) := agent rfl

/-- PAIRING_ACTIVE. -/
theorem pairingActive (port : BitVec 4) (key : Word) (station : BitVec 48) : Statement (.pairingActive port key station) := agent rfl

/-- PATROL_SCRATCHPAD_ACCESS. -/
theorem patrolScratchpadAccess (rp : BitVec 4) (off : BitVec 21) (size : BitVec 3) (write : Bool) (data : BitVec 32) : Statement (.patrolScratchpadAccess rp off size write data) := agent rfl

/-- BUNDLE_FETCH. -/
theorem bundleFetch : Statement .bundleFetch := agent rfl

/-- TIMED_RESULT_LANDS. -/
theorem timedResultLands : Statement .timedResultLands := agent rfl

/-- DRAIN_BIT_WAIT_END. -/
theorem drainBitWaitEnd : Statement .drainBitWaitEnd := agent rfl

/-- WAITU_END. -/
theorem waituEnd : Statement .waituEnd := agent rfl

/-- PROMISE_MISSED. -/
theorem promiseMissed : Statement .promiseMissed := agent rfl

/-- WAITB_SATISFIED. -/
theorem waitbSatisfied : Statement .waitbSatisfied := agent rfl

/-- WAIT_EXPIRED. -/
theorem waitExpired : Statement .waitExpired := agent rfl

/-- GROUP_LOAD_COMBINE. -/
theorem groupLoadCombine : Statement .groupLoadCombine := agent rfl

/-- CELL_READ_SATISFIED. -/
theorem cellReadSatisfied : Statement .cellReadSatisfied := agent rfl

/-- ATOMIC_PERFORM. -/
theorem atomicPerform : Statement .atomicPerform := agent rfl

/-- OSADD_UPDATE_ARRIVAL. -/
theorem osaddUpdateArrival : Statement .osaddUpdateArrival := agent rfl

/-- BARRIER_EPISODE_COMPLETE. -/
theorem barrierEpisodeComplete : Statement .barrierEpisodeComplete := agent rfl

/-- WLD_PAGE_WRITTEN. -/
theorem wldPageWritten : Statement .wldPageWritten := agent rfl

/-- ASTR_PASS_ENTERED. -/
theorem astrPassEntered : Statement .astrPassEntered := agent rfl

/-- DRAINST_COMPLETE. -/
theorem drainstComplete : Statement .drainstComplete := agent rfl

/-- MXCLR_TAKES_EFFECT. -/
theorem mxclrTakesEffect : Statement .mxclrTakesEffect := agent rfl

/-- OEPH_TABLE_LOADED. -/
theorem oephTableLoaded : Statement .oephTableLoaded := agent rfl

/-- OINJ_COPY_COMPLETE. -/
theorem oinjCopyComplete : Statement .oinjCopyComplete := agent rfl

/-- STATION_ARMED. -/
theorem stationArmed : Statement .stationArmed := agent rfl

/-- ORBIT_STEP_BEGIN. -/
theorem orbitStepBegin : Statement .orbitStepBegin := agent rfl

/-- ORBIT_STEP_COMPLETE. -/
theorem orbitStepComplete : Statement .orbitStepComplete := agent rfl

/-- STATION_RELEASE. -/
theorem stationRelease : Statement .stationRelease := agent rfl

/-- CONJUNCTION_TASK_START. -/
theorem conjunctionTaskStart : Statement .conjunctionTaskStart := agent rfl

/-- LAP_END. -/
theorem lapEnd : Statement .lapEnd := agent rfl

/-- RLD_SERVE. -/
theorem rldServe : Statement .rldServe := agent rfl

/-- COPY_ENTRY_START. -/
theorem copyEntryStart : Statement .copyEntryStart := agent rfl

/-- COPY_ENTRY_RETIRE. -/
theorem copyEntryRetire : Statement .copyEntryRetire := agent rfl

/-- TRET. -/
theorem tret : Statement .tret := agent rfl

/-- RESUME. -/
theorem resume : Statement .resume := agent rfl

/-- DELIVER. -/
theorem deliver : Statement .deliver := agent rfl

/-- ACK. -/
theorem ack : Statement .ack := agent rfl

/-- ABANDON. -/
theorem abandon : Statement .abandon := agent rfl

/-- PTWDL_READ. -/
theorem ptwdlRead : Statement .ptwdlRead := agent rfl

/-- COURSE_END_BY_FAULT. -/
theorem courseEndByFault : Statement .courseEndByFault := agent rfl

/-- CTXCREATE. -/
theorem ctxcreate : Statement .ctxcreate := agent rfl

/-- CTXDESTROY. -/
theorem ctxdestroy : Statement .ctxdestroy := agent rfl

/-- LAUNCH. -/
theorem launch : Statement .launch := agent rfl

/-- COURSE_START. -/
theorem courseStart : Statement .courseStart := agent rfl

/-- GATE_DISPATCH. -/
theorem gateDispatch : Statement .gateDispatch := agent rfl

/-- GROW_EXTENSION. -/
theorem growExtension : Statement .growExtension := agent rfl

/-- COURSE_RETIRE. -/
theorem courseRetire : Statement .courseRetire := agent rfl

/-- SIGNAL. -/
theorem signal : Statement .signal := agent rfl

/-- QSTAT. -/
theorem qstat : Statement .qstat := agent rfl

/-- QRESUME. -/
theorem qresume : Statement .qresume := agent rfl

/-- LOAD. -/
theorem load : Statement .load := agent rfl

/-- RETRANSLATION_SWAP. -/
theorem retranslationSwap : Statement .retranslationSwap := agent rfl

/-- STARVATION_PROMOTION. -/
theorem starvationPromotion : Statement .starvationPromotion := agent rfl

/-- SLICE_END. -/
theorem sliceEnd : Statement .sliceEnd := agent rfl

/-- SWITCH_OUT. -/
theorem switchOut : Statement .switchOut := agent rfl

/-- FORCED_PREEMPTION. -/
theorem forcedPreemption : Statement .forcedPreemption := agent rfl

/-- SWITCH_IN. -/
theorem switchIn : Statement .switchIn := agent rfl

/-- PAGE_TABLE_WALK. -/
theorem pageTableWalk : Statement .pageTableWalk := agent rfl

/-- HANDLE_FAULT_SERVICE. -/
theorem handleFaultService : Statement .handleFaultService := agent rfl

/-- REVOKE_HANDLES. -/
theorem revokeHandles : Statement .revokeHandles := agent rfl

/-- MIGRATE_PAGE. -/
theorem migratePage : Statement .migratePage := agent rfl

/-- DUPLICATE_PAGE. -/
theorem duplicatePage : Statement .duplicatePage := agent rfl

/-- DUPLICATION_END. -/
theorem duplicationEnd : Statement .duplicationEnd := agent rfl

/-- PACKAGE_RESET. -/
theorem packageReset : Statement .packageReset := agent rfl

/-- DIERESET. -/
theorem diereset : Statement .diereset := agent rfl

/-- DIESTAT. -/
theorem diestat : Statement .diestat := agent rfl

/-- ERRREAD. -/
theorem errread : Statement .errread := agent rfl

/-- TELEM. -/
theorem telem : Statement .telem := agent rfl

/-- INBOX. -/
theorem inbox : Statement .inbox := agent rfl

/-- ATTEST. -/
theorem attest : Statement .attest := agent rfl

/-- LINKMAP. -/
theorem linkmap : Statement .linkmap := agent rfl

/-- LINKMAP_TIMEOUT. -/
theorem linkmapTimeout : Statement .linkmapTimeout := agent rfl

/-- ATTESTSIGN. -/
theorem attestsign : Statement .attestsign := agent rfl

/-- STORE_PERFORMED. -/
theorem storePerformed : Statement .storePerformed := agent rfl

/-- BAD_MESSAGE. -/
theorem badMessage : Statement .badMessage := agent rfl

end Sys2Proof.Laws.RoundTrip
end

