-- ==== Sys2Proof/Tests/Slice0.lean ====
section
/-! SUPPORT. Small tests of the model, and for each statement states that meet its hypotheses. -/

namespace Sys2Proof.Tests

-- One theorem after another: each kernel evaluation needs a stack of its own.
set_option Elab.async false

open Sys2Proof Sys2Proof.Machine Sys2Proof.Claims

/-! ### Small states -/

/-- Tile 0 of die 0 runs a gate task of context 0. -/
def base : State := State.reset.placeBundle 0
/-- The key of that tile. -/
def key0 : TileKey := placeKey
/-- The guard p0. -/
def g0 : Guard := { inv := false, p := 0 }
/-- The guard !p0, false in every lane. -/
def gOff : Guard := { inv := true, p := 0 }
/-- A short immediate. -/
def num (n : BitVec 8) : Src := .imm8 n
/-- A long immediate, zero-extended. -/
def long (n : BitVec 32) : Src := .limmZ n
/-- No source modifier. -/
def md0 : SrcMod := { cls := .none, gr := false, lseg := 0, dist := 0 }
/-- The running tile changed. -/
def on (f : Tile → Tile) : State := base.modTile f
/-- The core of the running tile changed. -/
def onCore (f : TileCore → TileCore) : State := on (fun t => t.mapCore f)
/-- The sequencer of the running tile changed. -/
def onSeq (f : Machine.Seq → Machine.Seq) : State := on (fun t => t.mapSeq f)
/-- A port written by a scalar move. -/
def port (sk : Sock) (p : OPort) (v : Word) : State := onCore (fun c => c.setOpnd sk p (wideOfWord v) scalarMask)
/-- Context 0 changed. -/
def onCtx (f : Ctx → Ctx) : State := base.modCtx 0 f
/-- The next state, where there is one. -/
def after (o : Host.Outcome State Fault Refusal) : State :=
  match o with
  | .next t => t
  | _ => State.reset

theorem scalar_issues (sk : Sock) (n : BitVec 8) : ScalarIssues sk (num n) g0 base :=
  ⟨by decide +kernel, by decide +kernel, .inl (by decide +kernel), fun _ h => (nomatch h), rfl, fun _ h => (nomatch h)⟩
theorem vector_issues (n : BitVec 8) : VectorIssues (num n) base :=
  ⟨by decide +kernel, by decide +kernel, fun _ h => (nomatch h), rfl, fun _ h => (nomatch h)⟩
/-- A control operation issues wherever the tile runs in user mode. -/
theorem control_of {s : State} (h : s.tile.frozen = false ∧ s.tile.priv = false ∧ s.tile.core.guardOn g0 = true) : ControlIssues g0 s :=
  ⟨h.1, h.2.1, h.2.2⟩
theorem control_issues : ControlIssues g0 base := control_of (by decide +kernel)
/-- A load goes through wherever none of its conditions fails. -/
theorem load_of {u : Twin} {src : Src} {s : State} {p : Place} {a n : Nat}
    (h : s.lsStall u (wideOfWord (s.scalarSrc src)) = false ∧ s.place .load (s.scalarSrc src) a n = .ok p ∧
      s.loadEarly u (s.scalarSrc src) p n = none ∧ s.loadCause u (s.scalarSrc src) p n = none) : LoadReady u src s p a n :=
  ⟨h.1, h.2.1, h.2.2.1, h.2.2.2⟩
/-- A tile without a handler's frame, in a state without a filled save area, has no arrival to save. -/
theorem unsaved_of {s : State} {k : TileKey} (id : Nat) (h : (s.tileAt k).frame = none ∧ s.saved = []) : Unsaved s k id :=
  ⟨fun _ e => (nomatch h.1.symm.trans e), fun b m => (nomatch (h.2 ▸ m : b ∈ ([] : List SavedBlock)))⟩
theorem long_issues (sk : Sock) (n : BitVec 32) : ScalarIssues sk (long n) g0 base :=
  ⟨by decide +kernel, by decide +kernel, .inl (by decide +kernel), fun _ h => (nomatch h), rfl, fun _ h => (nomatch h)⟩
/-- A trigger of an immediate issues wherever the tile runs in user mode. -/
theorem issues_of {s : State} (sk : Sock) (n : BitVec 8) (h1 : s.tile.frozen = false) (h2 : s.tile.core.guardOn g0 = true)
    (h3 : s.tile.priv = false) : ScalarIssues sk (num n) g0 s :=
  ⟨h1, h2, .inl h3, fun _ h => (nomatch h), Bool.and_false _, fun _ h => (nomatch h)⟩
theorem long_of {s : State} (sk : Sock) (n : BitVec 32) (h1 : s.tile.frozen = false) (h2 : s.tile.core.guardOn g0 = true)
    (h3 : s.tile.priv = false) : ScalarIssues sk (long n) g0 s :=
  ⟨h1, h2, .inl h3, fun _ h => (nomatch h), Bool.and_false _, fun _ h => (nomatch h)⟩
theorem vector_of {s : State} (n : BitVec 8) (h1 : s.tile.frozen = false) (h3 : s.tile.priv = false) : VectorIssues (num n) s :=
  ⟨h1, h3, fun _ h => (nomatch h), Bool.and_false _, fun _ h => (nomatch h)⟩

/-- A wide value of 64-bit words, the first lowest. -/
def words (l : List Word) : Wide := BitVec.ofNat 512 (l.foldr (fun w n => w.toNat + 2 ^ 64 * n) 0)
/-- The page table of address space 0: one 16 KiB leaf, at virtual address 0x100000, on frame 0x10000 of die 0, with every right. -/
def tables : List Host.Cell :=
  let root := 27 * 2 ^ 36
  let put (m : List Host.Cell) (pa e : Nat) : List Host.Cell := cellsWrite m pa (bytesOf e 8)
  put (put (put (put [] root (root + 0x4001)) (root + 0x4000) (root + 0x8001)) (root + 0x8000) (root + 0xC001)) (root + 0xC000 + 8 * 64)
    0x10073
/-- The leaf of that page. -/
def leaf0 : Leaf := leafOf 0 0x100000 0 0x10073
/-- A machine with that page table. -/
def withTables (s : State) : State := { s with mem := tables, asids := [{ asid := 0, part := 0, root := 27 * 2 ^ 36 }] }
/-- A die whose cache holds the leaf. -/
def withTlb (s : State) : State := s.modDie 0 (fun d => { d with tlb := [leaf0] })

/-- The tile in privileged mode. -/
def privileged : State := on (fun t => { t with priv := true })

/-- A course record of one group-shaped gate. -/
def rec0 : CourseRec :=
  { ext := [1, 1, 1, 1], ndim := 0, perm := [0, 1, 2, 3], wmode := false, growok := true, det := false, orb := true, nprof := 0, shape := 0,
    town := 0, code := 0x100000, pro := 0, ker := 1, epi := 0, units := 1, trip := 1, arg := 9, wtok := 0, stok := 0, dmask := 1 }
/-- A course that has started. -/
def course0 : Course :=
  { serial := 0, cr := rec0, gates := 4, started := true, shares := [], growth := 0, updates := [], grants := [], hb := [], out := [], tails := [] }
/-- A queue that holds courses. -/
def queueOf (l : List Course) : Queue :=
  { cls := 3, halted := false, courses := l, next := 1, lastAdm := some 0, lastStart := some 0, lastRet := none, hb := [], tails := [] }
/-- Tile 0 of die 0 of context 0 runs a task of that course. -/
def coursed : State := onCtx (fun c => { c with queues := [queueOf [course0]] })

/-! ### Hypotheses met -/

/-- ScalarResults: its triggers issue; a guard is false. -/
theorem hyp_scalar : (∀ sk, ScalarIssues sk (num 0) g0 base) ∧ (∀ sk, ScalarIssues sk (num 3) g0 base) ∧
    base.tile.core.guardOn gOff = false := ⟨fun _ => scalar_issues _ _, fun _ => scalar_issues _ _, by decide +kernel⟩
/-- VectorResults, Permutes, PackAndSort: their triggers issue, with lawful and unlawful control words. -/
theorem hyp_vector : VectorIssues (num 5) base ∧ VectorIssues (num 5) (port .perm .a 0xFFFFFFFF) ∧
    (∀ c ∈ [ctlWord (base.opA .perm), 0x13F], bitsOf c 12 20 = 0 ∧ bitsOf c 9 2 ≠ 3 ∧ bitsOf c 0 9 ≤ 319) ∧
    (let c := ctlWord ((port .perm .a 0xFFFFFFFF).opA .perm)
     bitsOf c 12 20 ≠ 0 ∧ bitsOf c 11 21 ≠ 0 ∧ bitsOf c 9 7 ≠ 0 ∧ 32 ≤ c) ∧ ctlWord (base.opB .perm) ≤ 1 ∧
    (let c := ctlWord ((port .perm .a 0x101).opA .perm)
     bitsOf c 11 21 = 0 ∧ bitsOf c 7 1 = 0 ∧ 1 ≤ bitsOf c 8 3 ∧ 2 ^ bitsOf c 8 3 ≤ 512 / 32 ∧ 1 ≤ bitsOf c 0 7 ∧ bitsOf c 0 7 ≤ 2 ^ bitsOf c 8 3) ∧
    bitsOf 154 9 7 = 0 ∧ bitsOf 154 0 8 ≤ 154 ∧ (tyFSN9 .f32).width = 32 ∧ Fmt.f16.decode 0 = .fin false 0 (-24) :=
  ⟨vector_issues _, vector_of _ (by decide +kernel) (by decide +kernel), by decide +kernel⟩
/-- TypedVectorResults: lawful and unlawful type words. -/
theorem hyp_typed : VectorIssues (num 5) (port .valu0 .a 0x70) ∧ absOk ((port .valu0 .a 0x70).opA (Twin.u0).valu) = true ∧
    reduceOk ((port .valu0 .a 0x70).opA (Twin.u0).valu) = true ∧ cvtOk ((port .valu0 .a 0xA7).opA (Twin.u0).valu) = true ∧
    absOk (base.opA (Twin.u0).valu) = false ∧ reduceOk (base.opA (Twin.u0).valu) = false ∧ cvtOk (base.opA (Twin.u0).valu) = false :=
  ⟨vector_of _ (by decide +kernel) (by decide +kernel), by decide +kernel⟩
/-- MoveResults and MoveFrame: a scalar and a vector move run, the latter under a false guard too; in a stub, a source that it may read and
one that it may not. -/
theorem hyp_move : base.tile.core.guardOn g0 = true ∧ (∃ t, exec (.move (.m 1) (num 5) g0) base = .next t) ∧
    (∀ g ∈ [g0, gOff], ∃ t, exec (.moveVector (.m 63) md0 (num 5) g) base = .next t) ∧
    (ScalarIssues .sys (num 5) g0 privileged ∧ privileged.tile.priv = true ∧ StubSource (num 5) ∧ ¬StubSource (.m 1) ∧
      ∀ pt, Dst.m 1 ≠ .port .sys pt) :=
  ⟨by decide +kernel, ⟨_, rfl⟩, fun _ _ => ⟨_, rfl⟩, ⟨⟨by decide +kernel, by decide +kernel, .inr rfl, fun _ h => (nomatch h), rfl, fun _ h => (nomatch h)⟩, rfl, .inl ⟨_, rfl⟩,
    fun h => by rcases h with ⟨_, h⟩ | ⟨_, h | h | h⟩ | h <;> exact (nomatch h), fun _ h => (nomatch h)⟩⟩
/-- ResultFrame: operations of each kind run. -/
theorem hyp_result : (∃ i ∈ (aluOps .u0).map (·.1) ++ (aluFlags .u0).map (·.1), ∃ t, exec (i (num 5) g0) base = .next t) ∧
    (∃ i ∈ mulOps.map (·.1) ++ divOps.map (·.1), ∃ t, exec (i (num 5) g0) base = .next t) ∧
    (∃ i ∈ prdOps.map (·.1) ++ prdFlags.map (·.1), ∃ t, exec (i (num 5) g0) base = .next t) ∧
    (∃ t, exec (.vadd .u1 .f32 md0 (num 5) g0) base = .next t) ∧ (∃ t, exec (.vfma .u1 .f16 md0 (num 5) g0) base = .next t) ∧
    (∃ t, exec (.vlt .u1 .s8 md0 (num 5) g0) base = .next t) ∧ (∃ t, exec (.vshuf .w32 md0 (num 5) g0) base = .next t) :=
  ⟨⟨_, List.mem_cons_self, _, rfl⟩, ⟨_, List.mem_cons_self, _, rfl⟩, ⟨_, List.mem_cons_self, _, rfl⟩, ⟨_, rfl⟩, ⟨_, rfl⟩, ⟨_, rfl⟩,
    ⟨_, rfl⟩⟩
/-- A result on its way to alu0.q. -/
def flight (locked : Bool) : InFlight :=
  { sk := .alu0, port := .q, value := 5, mask := allBits, rem := 0, free := false, locked := locked, ready := true, due := 0, id := 0,
    evs := EvCount.zero, live := .plain }
/-- ResultsArrive: a timed result lands, an interlocked one is delivered. -/
theorem hyp_arrive : base.ctx.debug = false ∧
    (let s := onCore (fun c => { c with flight := [flight false] })
     s.tile.frozen = false ∧ s.tile.landing = [flight false] ∧ (flight false).live = .plain ∧ s.raced (flight false).id = false) ∧
    (let s := onCore (fun c => { c with flight := [flight true] })
     s.tile.deliverable? 0 .alu0 = some (flight true) ∧ s.raced (flight true).id = false ∧
     s.tile.core.flight.filter (fun e => e.sk = .alu0 && e.locked && e.id = (flight true).id) = [flight true]) := by decide +kernel
/-- BranchResults: a stub runs; the lanes of a predicate all set, all clear, and mixed. -/
theorem hyp_lanes : (privileged.tile.frozen = false ∧ privileged.tile.priv = true ∧ privileged.tile.core.guardOn g0 = true) ∧ (∀ half : Bool, ∀ b ∈ (if half then (List.range 32).map (fun i => (base.tile.core.guardWord g0).getLsbD (2 * i))
      else (List.range 16).map (fun i => (base.tile.core.guardWord g0).getLsbD (4 * i))), b = true) ∧
    (∀ i < 16, (base.tile.core.guardWord gOff).getLsbD (4 * i) = false) ∧
    (let w := (onCore (fun c => c.setPred 4 0x1111111111111111)).tile.core.guardWord { inv := false, p := 4 }
     w.getLsbD 0 = true ∧ w.getLsbD 2 = false) := by decide +kernel
/-- A loop entry around an address. -/
def loopAt (a : BitVec 56) : LoopEntry := { start := a, stop := a + 64, left := 2, implicit := false }
/-- LoopSpin: counts 0 and 3, with none, three and four loops. -/
theorem hyp_loop : ControlIssues g0 base ∧
    (((onCore (fun c => c.setO 3 3)).tile.core.o.get 3).extractLsb' 0 32 : BitVec 32).toNat = 3 ∧
    ((base.tile.core.o.get 3).extractLsb' 0 32 : BitVec 32).toNat = 0 ∧
    ControlIssues g0 (onSeq (fun q => { q with loops := List.replicate 3 (loopAt 0) })) ∧
    ControlIssues g0 (onSeq (fun q => { q with loops := List.replicate 4 (loopAt 0) })) :=
  ⟨control_issues, by decide +kernel, by decide +kernel, control_of (by decide +kernel), control_of (by decide +kernel)⟩
/-- A transfer with a promise for cycle 7. -/
def dma7 (done : Option Nat) : Transfer :=
  { tag := 3, kind := .load 0 0 64, promise := 7, done := done, fail := false, id := 0 }
/-- Waits: a TAG without a transfer and one with a promise ahead; a wait that ends in time and one that misses; a drained tile. -/
theorem hyp_waitu : base.tile.transfer? ((base.tile.core.o.get 0).extractLsb' 48 16) = none ∧ base.tile.core.seq.waitu = none ∧
    (let s := (on (fun t => { t with dma := [dma7 none] })).modTile (fun t => t.mapCore (fun c => c.setO 1 (wideOfWord 0x0003000000000007)))
     s.tile.transfer? ((s.tile.core.o.get 1).extractLsb' 48 16) = some (dma7 none) ∧ s.cycle s.cur.die < (dma7 none).promise) ∧
    (∀ d ∈ [none, some 7, some 8], ({ start := 2, p := 7, tag := 3, done := d } : WaitU).inTime = (d = some 7)) ∧
    (onSeq (fun q => { q with drain := true })).tile.emptied = true :=
  ⟨by decide +kernel, by decide +kernel, by decide +kernel, by decide +kernel, by decide +kernel⟩
/-- A wait until an object reads 1, until cycle n. -/
def waitAt (n : Nat) : WaitB :=
  { start := 0, kind := 0, limit := n, obj := 0, value := 1, mask := 1, pa := none, hd := none, revoked := false,
    last := none }
/-- Waits: a lawful WAITB on an empty cell that has clocks left; one whose cell is full, and one that has passed. -/
theorem hyp_waitb :
    (let s := onCore (fun c => c.setO 2 (words [9, 0x160000]))
     let v := s.tile.core.o.get 2
     ControlIssues g0 s ∧ waitKind (waitWord v 0) ≠ 2 ∧ (s.atSlot 10).waitbCause v = none ∧
     s.cycle s.cur.die < ((s.atSlot 10).newWait v).stop ∧ (s.atSlot 10).tile.cellFull 0x160000 = false) ∧
    (let s := on (fun t => { t with full := [0] })
     s.cycle s.cur.die ≤ (waitAt 0).stop ∧ s.waitHolds s.cur (waitAt 0) = true) ∧
    (waitAt 0).stop ≤ base.cycle base.cur.die ∧ base.waitHolds base.cur (waitAt 0) = false :=
  ⟨⟨control_of (by decide +kernel), by decide +kernel⟩, by decide +kernel⟩
/-- TaskendTrapu: no spin runs; a stub does. -/
theorem hyp_taskend : ControlIssues g0 base ∧ base.tile.core.spin = none ∧ privileged.tile.frozen = false ∧ privileged.tile.priv = true ∧
    privileged.tile.core.guardOn g0 = true := ⟨control_issues, by decide +kernel⟩
/-- InstructionLocks: a malformed range, and ranges of 1 and 1,024 bundles. -/
theorem hyp_locks : lockRange (base.tile.core.o.get 0) = none ∧ lockRange (words [0x100000, 1]) = some (0x100000, 1) ∧
    lockRange (words [0x100000, 1024]) = some (0x100000, 1024) ∧ lockRange (words [0x100000, 1025]) = none := by decide +kernel
/-- XltResults: lawful and unlawful operands; the cache hits and misses. -/
theorem hyp_xlt : ScalarIssues .xlt (long 0x100000) g0 (withTlb base) ∧ (withTlb base).tile.core.xlats = [] ∧
    (let s := withTlb base
     s.tlbHit s.cur.die s.ctx.asid 0x100000 .read = some leaf0 ∧ s.tlbHit s.cur.die s.ctx.asid 0x104000 .read = none ∧
     bitsOf (s.scalarSrc (long 0x100000)).toNat 56 8 = 0 ∧ bitsOf (s.scalarSrc (num 15)).toNat 4 60 = 0 ∧
     bitsOf (s.scalarSrc (num 16)).toNat 4 60 ≠ 0 ∧ bitsOf (lowWord (s.opA .xlt)).toNat 4 60 = 0) :=
  ⟨⟨by decide +kernel, by decide +kernel, .inl (by decide +kernel), fun _ h => (nomatch h), rfl, fun _ h => (nomatch h)⟩,
    by decide +kernel⟩
/-- A translation that waits for a walker. -/
def walkReq (va : BitVec 56) : XlatReq := { id := 0, op := .read, h := 3, va := va, walk := true, got := none }
/-- TranslationAgents: walks that end at the leaf and at an absent entry; a handle fault; a fetch. -/
theorem hyp_walks :
    (let s := withTables (onCore (fun c => { c with xlats := [walkReq 0x100000] }))
     s.tile.core.xlats = [walkReq 0x100000] ∧ s.tile.frozen = false ∧ s.tile.out = false ∧ s.tile.priv = false ∧
     s.pageTurn s.cur .pageTableWalk s.ctx.asid 0x100000 = true ∧ s.pageTurn s.cur .pageTableWalk s.ctx.asid 0x104000 = true ∧
     leaf0.dup = false ∧ s.walk s.ctx.asid 0x100000 = .leaf leaf0 (27 * 2 ^ 36 + 0xC200) ∧ leaf0.gives .read = true ∧
     leaf0.mig = false ∧ s.walk s.ctx.asid 0x104000 = .absent) ∧
    (let s := withTables (on (fun t => { t with
       frozen := true, tv := true, code := 0x30, core := t.core.setH 0 { ungranted true 0x100000 with t := true } }))
     s.tile.frozen = true ∧ s.tile.tv = true ∧ s.tile.code = 0x30 ∧ s.tile.heldCauses = [] ∧ s.towSet s.cur = [s.cur] ∧
     s.tile.faultH = none ∧ s.pageTurn s.cur .handleFaultService s.ctx.asid (s.tile.core.h.get 0).va = true ∧
     s.walk s.ctx.asid (s.tile.core.h.get 0).va = .leaf leaf0 (27 * 2 ^ 36 + 0xC200) ∧ leaf0.gives .write = true) ∧
    (let s := withTlb (on (fun t => { t with ibuf := [] }))
     s.tile.frozen = false ∧ s.tile.out = false ∧ s.tile.buffered s.tile.core.seq.pc = none ∧
     s.tlbHit s.cur.die s.ctx.asid s.tile.core.seq.pc .fetch = some leaf0) := by decide +kernel
/-- LoadsComplete: a load at the scratchpad's last word. -/
theorem hyp_load : ScalarIssues .lsu0 (long 0x17FFF8) g0 base ∧
    LoadReady .u0 (long 0x17FFF8) base (.scratch 0 0x17FFF8) 8 8 ∧ LoadReady .u0 (num 64) base (.scratch 0 64) 64 64 ∧
    base.runAt (base.scalarSrc (num 64)) = none ∧ base.trnBank (base.scalarSrc (num 64)) = false :=
  ⟨long_issues _ _, load_of (by decide +kernel), load_of (by decide +kernel), by decide +kernel⟩
/-- A tile whose bank 0 holds F32 elements. -/
def floats : State := onCore (fun c => { c with bf := c.bf.set 0 7 })
/-- LoadsComplete and StoresComplete: typed and gathering accesses. -/
theorem hyp_typed_access : ScalarIssues .lsu0 (num 64) g0 floats ∧ floats.lsStall .u0 (wideOfWord (floats.scalarSrc (num 64))) = false ∧
    (floats.runAt (floats.scalarSrc (num 64))).any (fun r =>
      (match floats.runPlace .load (floats.scalarSrc (num 64)) r everyLane with | .ok p => decide (p = .scratch 0 64) | .error _ => false) &&
      (match floats.runPlace .store (floats.scalarSrc (num 64)) r (fun i => laneOn (floats.maskA .u0) (r.width / 8) i) with
        | .ok p => decide (p = .scratch 0 64) | .error _ => false) && r.bytes = 64) = true ∧
    floats.loadEarly .u0 (floats.scalarSrc (num 64)) (.scratch 0 64) 64 = none ∧
    floats.loadCause .u0 (floats.scalarSrc (num 64)) (.scratch 0 64) 64 = none ∧
    (∀ p ∈ [Place.scratch 0 64, .phys 0], floats.scalesEarly .u0 (floats.scalarSrc (num 64)) [p] = none ∧
      floats.scalesCause .u0 (floats.scalarSrc (num 64)) [p] = none) ∧
    gatherBad floats.tile .load (wideOfWord 64) (floats.opA .lsu0) (floats.maskA .u0) = false ∧
    gatherBad floats.tile .store (wideOfWord 64) (floats.opB .lsu0) (floats.maskA .u0) = false :=
  ⟨issues_of _ _ (by decide +kernel) (by decide +kernel) (by decide +kernel), by decide +kernel⟩
/-- StoresComplete: the places of stores at their boundaries; a committed store, to a place that is there and to one that is lost. -/
theorem hyp_store : base.lsStall .u0 (wideOfWord (base.scalarSrc (long 0x15FFF8))) = false ∧
    base.place .store 0x15FFF8 8 8 = .ok (.scratch 0 0x15FFF8) ∧ base.place .store 0x15FFC0 64 64 = .ok (.scratch 0 0x15FFC0) ∧
    (let g : Gated := { place := .scratch 0 8, kind := .write (fullBytes 5 8), here := 0, slot := 0, u := .u0, addr := 8, num := 0, vc := [], rel := [] }
     (on (fun t => { t with lsq := [.store g] })).tile.lsq = [.store g] ∧ g.kind = .write (fullBytes 5 8) ∧ base.placeLost g.place = false) ∧
    (base.modDie 0 (fun d => { d with ms := false })).placeLost (.phys 0x10000) = true := by decide +kernel
/-- The memories of the small states have their canonical form. -/
theorem hyp_canonical : base.canonical :=
  ⟨by decide +kernel, fun x h => by
    simp only [base, State.placeBundle, List.mem_singleton] at h
    subst h
    decide +kernel⟩
/-- AddressRules: addresses refused by their range, their bank and their alignment, and accepted ones at the ends. -/
theorem hyp_refused : base.place .load 0x17FFF9 8 8 = .error .fault ∧ base.place .load 0x180000 1 1 = .error .fault ∧
    base.place .store 0x160000 8 8 = .error .fault ∧ base.place .load 0x200000 1 1 = .error .fault ∧
    base.place .load 0x16FFFF 1 1 = .ok (.scratch 0 0x16FFFF) ∧ base.place .cell 0x160000 8 8 = .ok (.scratch 0 0x160000) ∧
    addrSpace 0x17FFFF = 0 := by decide +kernel
/-- A word of one group load: OP add, s32. -/
def gload : State := onCore (fun c => c.setOpnd .lsu0 .a (words [0x50]) scalarMask)
/-- A group load of one member that is not combined yet. -/
def gload0 : GLoad :=
  { id := 0, u := .u0, addr := 0, op := 0, ty := 5, members := [0], leaves := [some 3], trapping := true, here := 0, slot := 0, ep := 0,
    combined := false, absent := 0, trapped := false, race := none, seen := false,
    closed := false }
/-- GroupLoads: a lawful address and reduction word; a load that is not combined. -/
theorem hyp_group :
    (let s := gload.modTile (fun t => t.mapCore (fun c => c.setM 1 (words [0x2000000000000040])))
     s.lsuBusy .u0 = false ∧ s.fenceStall pathGR = false ∧ s.tile.core.inFlight .lsu0 .q1 < 4 ∧
     groupAddrOk (s.scalarSrc (.m 1)) = true ∧ reductionOk (s.opA .lsu0) = true ∧ s.tile.lsq = []) ∧
    (onCore (fun c => { c with gloads := [gload0] })).tile.core.gloads.find? (fun y => !y.combined) = some gload0 := by decide +kernel
/-- CellOperations: a cell that is full and one that is not; a read that waits. -/
theorem hyp_cell : (∀ c : Bool, base.cellPoison (wideOfWord (base.scalarSrc (long 0x17FFF8))) c = none) ∧ base.place .cell (base.scalarSrc (long 0x17FFF8)) 8 8 = .ok (.scratch 0 0x17FFF8) ∧
    hdrMark base.tile.core.seq.hdr = false ∧ hdrMark (onSeq (fun q => { q with hdr := 1 })).tile.core.seq.hdr = true ∧
    (let r : CellRd := { id := 0, u := .u0, tid := 0, off := 0x160000, consume := true, done := false }
     let s := on (fun t => { t with full := [0x160000], core := { t.core with cellRds := [r] } })
     s.readyCell s.cur = some r ∧ s.poisonCause (.scratch 0 0x160000) 8 = none) := by decide +kernel
/-- Atomics and OrderedAdds: no RELEASE holds; lawful places; an atomic that is performed, and one that meets poison. -/
theorem hyp_atomic : base.releaseHolds base.nextOp = false ∧ base.place .atomic (base.scalarSrc (num 8)) 8 8 = .ok (.scratch 0 8) ∧ base.poisonCause (.scratch 0 8) 8 = none ∧
    base.place .atomic (base.scalarSrc (num 4)) 4 4 = .ok (.scratch 0 4) ∧ base.poisonCause (.scratch 0 4) 4 = none ∧
    (let a : AtomReq := { id := 0, sk := .lsu0, op := .add, wide := true, place := .scratch 0 8, a := 1, b := 0, vc := [], rel := [] }
     let s := on (fun t => { t with lsq := [.atom a] })
     s.tile.lsq = [.atom a] ∧ s.atomPoison s.cur a = none ∧ (s.modTile (fun t => { t with poison := [8] })).atomPoison s.cur a = some 8) := by
  decide +kernel
/-- A tile with a write handle on a page of 16 KiB. -/
def handled : State := onCore (fun c => c.setH 0
  { v := true, w := true, sz := 0, ldie := 0, dup := false, t := true, vpn := 0x40, frame := 0x10000, pend := false })
/-- OrderedAdds: a lawful handle and lanes; an update on its way. -/
theorem hyp_osadd :
    (let s := handled.modTile (fun t => t.mapCore (fun c => c.setM 1 (words [0x8000000000000000])))
     addrSpace (s.scalarSrc (.m 1)) = 8 ∧ s.place .atomic (s.scalarSrc (.m 1)) 4 4 = .ok (.phys 0x10000) ∧ s.tile.core.osSeq < 2 ^ 28 ∧
     s.tile.task.isSome = true ∧ (s.ctxAt? s.cur.ctx).isSome = true ∧ s.tile.lsq = [] ∧ s.releaseHolds s.nextOp = false ∧
     ∀ i ∈ (List.range 16).filter (fun i => laneOn (s.maskA .u0) 4 i),
       (addrPageOff (s.scalarSrc (.m 1)) + laneOf 32 (s.opB .lsu0).toNat i) % 4 = 0) := by decide +kernel
/-- An update. -/
def update0 : OsUpd :=
  { pa := 0, val := 1, float := false, conjK := false, gate := 0, conj := 0, pos := 0, seq := 0, lane := 0, src := key0, spilled := false,
    q := 0, course := 0 }
/-- OrderedAdds: the oldest update reaches its course. -/
theorem hyp_transit :
    (let s := onCtx (fun c => { c with transit := [update0], spillSz := 64 })
     s.ctx.transit = [update0] ∧ s.ctx.spillUsed ≤ s.ctx.spillSz) := by decide +kernel
/-- A group with the members 0 to n - 1. -/
def groupOf (n : Nat) : Group :=
  { die := 0, g := 5, members := (List.range n).map (fun i => BitVec.ofNat 6 (63 - i)), gen := 0, by_ := [], was := (0, []) }
/-- A context that has that group. -/
def grouped (n : Nat) : State := onCtx (fun c => { c with groups := [groupOf n] })
/-- GroupMembership and Barriers: groups with room, full ones, members and strangers. -/
theorem hyp_groups : ScalarIssues .sync (num 5) g0 (grouped 63) ∧ ScalarIssues .sync (num 5) g0 (grouped 64) ∧ ((grouped 63).ctxAt? (grouped 63).cur.ctx).isSome = true ∧
    (grouped 63).cur.tid ∉ ((grouped 63).group (grouped 63).cur 5).members ∧ ((grouped 63).group (grouped 63).cur 5).members.length < 64 ∧
    (grouped 64).cur.tid ∈ ((grouped 64).group (grouped 64).cur 5).members ∧
    (let s : State := { grouped 63 with cur := { (grouped 63).cur with die := 0 } }
     (s.scalarSrc (num 5)).toNat < 256 ∧ gatherOffOk s.tile (lowWord (s.opA .sync)) = true) ∧
    (let s := onCtx (fun c => { c with groups := [{ groupOf 64 with members := List.replicate 64 1 }] })
     s.cur.tid ∉ (s.group s.cur 5).members ∧ 64 ≤ (s.group s.cur 5).members.length) :=
  ⟨issues_of _ _ (by decide +kernel) (by decide +kernel) (by decide +kernel),
    issues_of _ _ (by decide +kernel) (by decide +kernel) (by decide +kernel), by decide +kernel⟩
/-- An arrival of tile 0 at the barrier of a cluster. -/
def arrival0 (ob : BarObj) : Arrival := { ob := ob, die := 0, tid := 0, gather := none, evs := [], close := false, system := false }
/-- Barriers: operand 0; an episode whose one participant has arrived. -/
theorem hyp_episode : base.scalarSrc (num 0) = 0 ∧ base.tile.inCluster = false ∧
    (let s := onCtx (fun c => { c with groups := [{ groupOf 0 with members := [0] }], arrivals := [arrival0 (.group 0 5)] })
     s.readyEpisode s.ctx = some (.group 0 5) ∧ (∀ a ∈ s.ctx.arrived (.group 0 5), a.gather = none)) := by decide +kernel
/-- Fences: lawful and unlawful operands. -/
theorem hyp_fences : ScalarIssues .sync (num 0) g0 base ∧ base.scalarSrc (num 0) = 0 ∧
    pathWordOk (wideOfWord (base.scalarSrc (long 0x0104))) = true ∧ pathWordOk (wideOfWord (base.scalarSrc (num 4))) = false :=
  ⟨scalar_issues _ _, by decide +kernel⟩
/-- Launches: a queue that exists; a course that may grow, up to its last gate and beyond; a tile without a course,
and one whose course may not grow. -/
theorem hyp_launch : ScalarIssues .sync (long 128) g0 coursed ∧ (lowWord (coursed.opA .sync)).toNat < coursed.ctx.queues.length ∧
    bitsOf (lowWord (coursed.opA .sync)).toNat 4 60 = 0 ∧ bitsOf (coursed.scalarSrc (long 128)).toNat 56 8 = 0 ∧
    coursed.courseAt coursed.cur = some course0 ∧ course0.cr.growok = true ∧ course0.tooBig (2 ^ 32 - 1) = false ∧
    ({ course0 with gates := 2 ^ 48 - 1 } : Course).tooBig 1 = true ∧ base.courseAt base.cur = none ∧
    (let x := { course0 with cr := { rec0 with growok := false } }
     let s := onCtx (fun c => { c with queues := [queueOf [x]] })
     s.courseAt s.cur = some x ∧ x.cr.growok = false) ∧ (base.scalarSrc (num 0)).toNat = 0 :=
  ⟨long_of _ _ (by decide +kernel) (by decide +kernel) (by decide +kernel), by decide +kernel⟩
/-- Settings: values at the ends of their ranges. -/
theorem hyp_settings : (∀ n, ScalarIssues .sync (num n) g0 base) ∧ (base.scalarSrc (num 23)).toNat < 24 ∧
    24 ≤ (base.scalarSrc (num 24)).toNat ∧ (base.scalarSrc (num 15)).toNat < 16 ∧ 16 ≤ (base.scalarSrc (num 16)).toNat ∧
    (base.scalarSrc (long 0xFFFF)).toNat < 2 ^ 16 ∧ 2 ^ 16 ≤ (base.scalarSrc (long 0x10000)).toNat ∧
    (lowWord (base.opA .sync)).toNat < 24 ∧ 24 ≤ (lowWord ((port .sync .a 24).opA .sync)).toNat :=
  ⟨fun n => scalar_issues _ n, by decide +kernel⟩
/-- IssueRules: a frozen tile, a false guard, privileged mode, a result that is not delivered. -/
theorem hyp_issue : (trigOf (.aluAdd .u0 (.port .xlt .q) g0)).isSome = true ∧ (ctlOf (.br 0 g0)).isSome = true ∧
    (on (fun t => { t with frozen := true })).tile.frozen = true ∧ base.tile.core.guardOn gOff = false ∧ base.tile.priv = false ∧
    (on (fun t => { t with priv := true })).tile.priv = true ∧
    (onCore (fun c => { c with flight := [{ flight true with sk := .xlt, ready := false }] })).portWait (.xlt, .q) = true := by decide +kernel
/-- MatrixOperations: the settings at the ends of their ranges, from a scalar and from a vector slot. -/
theorem hyp_mx : EitherIssues .mx none (num 2) g0 base ∧ EitherIssues .mx (some md0) (num 2) g0 base ∧
    (mxOperand none (num 63) base).toNat ≤ 63 ∧ 63 < (mxOperand none (num 64) base).toNat ∧ (mxOperand none (num 1) base).toNat ≤ 1 ∧
    1 < (mxOperand (some md0) (num 2) base).toNat ∧ (mxOperand none (long 65535) base).toNat < 65536 ∧
    65536 ≤ (mxOperand none (long 65536) base).toNat ∧ base.mx.queue = [] ∧ base.fenceStall pathMX = false :=
  ⟨scalar_issues _ _, vector_issues _, by decide +kernel⟩
/-- A tile whose four macros hold a page of s8 elements, its bank 0 of that format, its load word of 32-byte rows. -/
def matrixTile : State := onCore (fun c =>
  let c := c.setOpnd .mx .a (wideOfWord (32 * 2 ^ 36)) scalarMask
  { c with
    bf := c.bf.set 0 1
    mx := { c.mx with desc := [0, 1, 2, 3].map (fun m => { mac := m, page := 0, fmt := 1, gsz := false }) } })
/-- MatrixOperations: a lawful WLD, ASTR and DRAINST, and refused ones. -/
theorem hyp_matrix : EitherIssues .mx none (num 0) g0 matrixTile ∧ matrixTile.wldCause 0 = none ∧ (matrixTile.wldCause 0x180000).isSome = true ∧
    (let s := matrixTile.modTile (fun t => t.mapCore (fun c => c.setOpnd .mx .a (wideOfWord (256 * 2 ^ 24)) scalarMask))
     s.astrCause 0 = none ∧ s.mx.activeFmt = some (1, false) ∧ (s.astrCause 0x17FF80).isSome = true) ∧
    base.drainstCause 0x180000 ≠ none ∧ floats.drainstCause 0 = none :=
  ⟨issues_of _ _ (by decide +kernel) (by decide +kernel) (by decide +kernel), by decide +kernel⟩
/-- MatrixDrain: lawful and unlawful DRAIN words of a row that nothing waits for. -/
theorem hyp_drain : (mxOperand none (long 2047) base).toNat < 2048 ∧ 2048 ≤ (mxOperand none (long 2048) base).toNat ∧
    base.mx.drainWaits 15 = false := by decide +kernel
/-- A matrix engine with one queued operation. -/
def queued (o : MxOp) (pages : List PageImage) : State :=
  onCore (fun c => { c with mx := { c.mx with queue := [o], clk := 9, pages := pages } })
/-- A pass over page 0 of every macro. -/
def pass0 (sf : BitVec 3) : MxOp := .pass 0 9 9 3 0 sf 1 1 [0, 0, 0, 0] 0
/-- MatrixSteps: an operation of each kind whose time has come, with images and without. -/
theorem hyp_steps : (queued (.stat 0) []).tile.frozen = false ∧ MxOp.stat 0 ∈ (queued (.stat 0) []).mx.queue ∧
    (queued (.wld 0 9 1 2 0 32 0 1) []).mx.loadHead = some (.wld 0 9 1 2 0 32 0 1) ∧ resident (bfFmt 1) = some (32, 32) ∧
    (queued (.wld 0 9 1 2 0 32 0 1) []).tile.poison = [] ∧ (queued (pass0 0) []).mx.streamHead = some (pass0 0) ∧
    ((queued (pass0 0) ([0, 1, 2, 3].map (fun m => { mac := m, page := 0, ver := 0, cols := [], factors := [], gone := none }))).mx.images 1 9 [0, 0, 0, 0]).isSome = true ∧
    (queued (pass0 0) []).mx.images 1 9 [0, 0, 0, 0] = none ∧
    (rowStripes 0 (streamWa 0 0) 256 0).isSome = true ∧
    (queued (.clr 0 9 8) []).mx.streamHead = some (.clr 0 9 8) ∧
    (queued (.drainst 0 9 0 3 0 1 true 7 0) []).mx.streamHead = some (.drainst 0 9 0 3 0 1 true 7 0) := by decide +kernel
/-- ScrubRow: a page that is loaded, of a tile that runs, with and without a load that is still to come; one that is frozen. -/
theorem hyp_scrub : (∃ p ∈ (queued (pass0 0) [{ mac := 1, page := 2, ver := 0, cols := [], factors := [], gone := none }]).mx.pages,
      p.mac = 1 ∧ p.page = 2 ∧ p.gone = none) ∧ (queued (pass0 0) []).tile.frozen = false ∧ (queued (pass0 0) []).tile.out = false ∧
    (on (fun t => { t with frozen := true })).tile.frozen = true ∧ (queued (pass0 0) []).mx.loading 1 2 = false ∧
    (queued (.wld 0 9 1 2 0 32 0 1) []).mx.loading 1 2 = true :=
  ⟨⟨_, List.mem_cons_self, by decide +kernel⟩, by decide +kernel⟩
/-- An orbit of cluster 0 with slots of 4 KiB, that runs by itself or not. -/
def orbit0 (auto : Bool) : Orbit :=
  { cl := { die := 0, cid := 0 }, q := 0, course := 0, gate := 0, word := if auto then 4 else 0, ordinal := 0, attachedN := 16, lap := 1,
    step := 0, total := 0, clk := 5, lapAt := 0, after := 4, doneAt := 0, stepDue := none, lapOver := false, olap := [], odet := [],
    want := false, leave := false, count := 0, yieldAt := none }
/-- A state whose context has that orbit, its tile attached. -/
def orbiting (o : Orbit) (f : Station → Station) : State :=
  (coursed.modCtx 0 (fun c => { c with orbits := [o] })).modTile (fun t => { t with station := f (Station.fresh o.word) })
/-- OrbitOperations: an attachment that may be made and one that may not; operations before arming and after OSTEP. -/
theorem hyp_orbit : ScalarIssues .orb (num 0) g0 coursed ∧ coursed.oattWaits 0 = false ∧ coursed.oattCause 0 = none ∧
    base.oattWaits 0 = false ∧ (base.oattCause 0).isSome = true ∧ base.beforeArming = false ∧ base.tile.station.attached = false ∧
    (let s := (orbiting (orbit0 false) id).modTile (fun t => t.mapCore (fun c => c.setOpnd .orb .a 256 0))
     s.fenceStall pathOB = false ∧ s.beforeArming = true ∧ s.tile.lsq = [] ∧ (lowWord (s.opA .orb)).toNat = 256 ∧ s.tile.station.attached = true ∧
     (0 < (lowWord (s.opA .orb)).toNat ∧ (lowWord (s.opA .orb)).toNat ≤ 256) ∧ lowRange 0x11F000 16 (16 * 256) = true ∧ s.orbit? = some (orbit0 false) ∧ lowRange 0x11F000 64 (slotSize (orbit0 false).word) = true ∧
     s.lapCause 0 = none ∧ s.lapCause 1 = none) :=
  ⟨issues_of _ _ (by decide +kernel) (by decide +kernel) (by decide +kernel), by decide +kernel⟩
/-- Every tile of the cluster attached and armed. -/
def armed (o : Orbit) : State := (orbiting o id).modStations (fun _ _ => { Station.fresh o.word with armed := true })
/-- StationSteps: the oldest operation of each kind; a step that is ready, one that completes, a station that releases. -/
theorem hyp_station : (orbiting (orbit0 false) (fun x => { x with ops := [.oeph 0 0 1] })).tile.station.ops = [.oeph 0 0 1] ∧
    (orbiting (orbit0 false) (fun x => { x with ops := [.oinj 0 64 true 7] })).orbit? = some (orbit0 false) ∧
    (let s := orbiting (orbit0 false) (fun x => { x with ops := [.ostep 0] })
     s.tile.poison = [] ∧ s.tile.frozen = false ∧ s.tile.out = false) ∧
    (armed (orbit0 false)).stepReady (orbit0 false) = true ∧
    (let o := { orbit0 false with stepDue := some 5 }
     (armed o).orbit? = some o ∧ 5 ≤ o.clk ∧ (armed o).residentAt (armed o).cur = true) ∧
    (let s := orbiting (orbit0 false) (fun x => { x with released := false })
     s.tile.station.released = false ∧ s.tile.conjQ = [] ∧ s.tile.station.holding = [] ∧ s.tile.task.all (fun k => k.conj.isNone) = true) := by
  decide +kernel
/-- A conjunction. -/
def conj0 : Conj := { serial := 0x10002, task := 3, arg := 4, pro := 0x120000, ret := 0x121000, step := 0 }
/-- ConjunctionsAndLaps: a conjunction that may start; laps that end, with misses and without. -/
theorem hyp_conj :
    (let s := (orbiting { orbit0 false with total := 1 } id).modTile (fun t => { t with task := none, conjQ := [conj0] })
     s.conjReady s.cur = true ∧ s.tile.conjQ = [conj0] ∧ s.ctx.course? 0 0 = some course0) ∧
    (∀ auto : Bool, ∀ want ∈ [true, false], ∀ leave ∈ [true, false],
      let o := { orbit0 auto with step := 8, want := want, leave := leave }
      (armed o).orbit? = some o ∧ (armed o).lapReady o = true ∧ (armed o).allMisses = [] ∧
      (let s := (armed o).modTile (fun t => t.mapStation (fun x =>
         { x with misses := [{ pid := 1, rid := 2, wake := false, task := 0, arg := 0 }] }))
       s.orbit? = some o ∧ s.lapReady o = true ∧ s.allMisses ≠ [])) := by decide +kernel
/-- Operands of a DMA trigger. -/
def dmaAt (a b : Word) : State := handled.modTile (fun t => t.mapCore (fun c =>
  (c.setOpnd .dma .a (wideOfWord a) scalarMask).setOpnd .dma .b (wideOfWord b) scalarMask))
/-- DmaTriggers: lawful loads, stores and copies, and unlawful lengths. -/
theorem hyp_dma : ScalarIssues .dma (num 64) g0 (dmaAt 0x8000000000000000 64) ∧
    (let s := dmaAt 0x8000000000000000 0x4000
     s.dmaStall [0x8000000000000000] = false ∧ dmaLenOk 0x4000 = true ∧ dmaDestOk s.tile 0x15C000 0x4000 = true ∧
     s.handleCause .dma .load 0x8000000000000000 64 0x4000 = none ∧ s.handleCause .dma .store 0x8000000000000000 64 0x4000 = none ∧
     dmaLocalOk 0x17C000 0x4000 = true ∧ dmaLenOk 32 = false ∧ copyFmtOk 7 8 = true ∧ inOneBank 0xFFC0 (16 * copyWidth 7) = true ∧
     addrOff 0xFFC0 / bankSize ≠ addrOff 0x10000 / bankSize ∧ s.dmaStall [] = false ∧ (s.scalarSrc (long 65535)).toNat < 65536) :=
  ⟨issues_of _ _ (by decide +kernel) (by decide +kernel) (by decide +kernel), by decide +kernel⟩
/-- DmaCompletes: a transfer that has not completed. -/
theorem hyp_dma_done : (on (fun t => { t with dma := [dma7 none] })).tile.dma.find? (fun x => x.tag = 3 && x.done.isNone) = some (dma7 none) ∧
    ((on (fun t => { t with dma := [dma7 none] })).dieAt 0).cs = true ∧ base.sideLost 0 = false ∧ (copyTy 7).isSome = true ∧
    (copyTy 8).isSome = true := by decide +kernel
/-- A line on its way to cell 0x160000 of the tile at ring position 2. -/
def send0 : Send := { id := 0, mask := 4, cl := 0, off := 0x160000, line := 5, due := 0 }
/-- NetworkOperations: lawful and unlawful target words; a line that arrives; a remote load. -/
theorem hyp_net : base.fenceStall pathNT = false ∧ base.tile.sends.length < 4 ∧ sendWordOk 0x0004000000160000 = true ∧
    sendWordOk 0x0004000000000000 = false ∧ base.tile.core.rlds.length < 8 ∧ (lowWord (base.opA .net)).toNat < 64 ∧
    (base.scalarSrc (long 0x17FFC0)).extractLsb' 21 39 = (0 : BitVec 39) ∧ addrOff (base.scalarSrc (long 0x17FFC0)) < spSize ∧
    (let s := on (fun t => { t with sends := [send0] })
     s.readySend s.cur 2 = some send0) ∧
    (let s := onCore (fun c => { c with rlds := [{ id := 0, tid := 63, off := 0x17FFC0 }] })
     s.tile.core.rlds = [{ id := 0, tid := 63, off := 0x17FFC0 }] ∧ s.poisonAt s.cur (.scratch 63 0x17FFC0) 64 = none) := by decide +kernel
/-- A copy entry. -/
def entry0 (started : Bool) : CopyEntry :=
  { idx := 0, src := 0, dst := 64, len := 8, fv := false, fdie := 0, ftid := 0, foff := 0, fval := 0, started := started, copied := false,
    failed := false, port := none, hb := [], poster := key0, op := 0 }
/-- A context with a copy queue on die 0. -/
def copying (prod : BitVec 32) (l : List CopyEntry) : State := onCtx (fun c =>
  { c with copyQs := [{ die := 0, q := false, entries := l, prod := prod, cons := 0, fovw := false, ferr := false, retired := [] }] })
/-- States in which results of operations are awaited. -/
def awaiting : List State :=
  [base, withTlb base, withTables (onCore (fun c => { c with xlats := [walkReq 0x100000] })), onCore (fun c => { c with gloads := [gload0] }),
   queued (.stat 0) [], orbiting (orbit0 false) (fun x => { x with ops := [.ostep 0] })]
/-- Where results arrive: no such state has a frame or a filled save area, so that `Unsaved` holds of it. -/
theorem hyp_unsaved : ∀ id, ∀ s ∈ awaiting, Unsaved s key0 id :=
  fun id s m => unsaved_of id ((by decide +kernel : ∀ s ∈ awaiting, (s.tileAt key0).frame = none ∧ s.saved = []) s m)
/-- CopyQueues: a lawful descriptor; a queue with room and a full one; entries to copy and to retire. -/
theorem hyp_copy :
    (let s := handled.modTile (fun t => t.mapCore (fun c => c.setOpnd .net .b (words [0x8000000000000000, 0x8000000000000008, 8, 0]) scalarMask))
     s.cqpostCause (wideOfWord 0) = none ∧ s.handlePending (descWord (s.opB .net) 0) = false ∧ s.fenceStall pathDM = false) ∧
    base.cqpostCause (wideOfWord 0) ≠ none ∧ ((copying 0 []).ctx.copyQ 0 false).space ≠ 0 ∧ ((copying 64 []).ctx.copyQ 0 false).space = 0 ∧
    ((copying 1 [entry0 false]).dieQueues.findSome? (fun x => (x.entries.find? (fun e => !e.started)).map (fun e => e))) = some (entry0 false) ∧
    ((copying 1 [entry0 true]).dieQueues.findSome? (fun x => match x.entries with
      | e :: r => if e.started then some (e, r) else none
      | [] => none)) = some (entry0 true, []) ∧ (base.scalarSrc (num 3)).toNat < 4 := by decide +kernel
/-- SystemRegisters: numbers and values that may be accessed and that may not, in both modes. -/
theorem hyp_sys : ScalarIssues .sys (num 6) g0 base ∧ ScalarIssues .sys (num 6) g0 privileged ∧ privSrcOk (num 6) = true ∧
    sysNumber 6 = true ∧ sysNumber 0x23 = true ∧ sysNumber 0x24 = false ∧ sysNumber 4095 = false ∧
    (∀ a ∈ [0, 1, 2, 5, 6, 0x20, 0x21, 0x23], sysValueOk privileged.tile a 0 = true) ∧ sysValueOk privileged.tile 0x20 1 = false ∧
    base.tile.priv = false ∧ privileged.tile.priv = true ∧ (on (fun t => { t with inh := true })).tile.inh = true ∧
    lowWord ((port .sys .a 7).opA .sys) = 7 :=
  ⟨scalar_issues _ _, ⟨by decide +kernel, by decide +kernel, .inr rfl, fun _ h => (nomatch h), Bool.and_false _, fun _ h => (nomatch h)⟩,
    by decide +kernel⟩
/-- SaveAndRestore: operands in and out of range; a save area in a populated range and one outside. -/
theorem hyp_save : privileged.scalarSrc (num 0) = 0 ∧ privileged.scalarSrc (num 1) ≠ 0 ∧ (privileged.scalarSrc (long 65535)).toNat < 65536 ∧
    65536 ≤ (privileged.scalarSrc (long 65536)).toNat ∧ privileged.areaOk = true ∧ privileged.snapSpills = false ∧
    (on (fun t => { t with priv := true, savebase := 0x900000000 })).areaOk = false ∧
    (on (fun t => { t with priv := true, savebase := 0x900000000, stubFrom := 1, core := { t.core with
      flight := List.replicate 49 (flight true) } })).snapSpills = true := by
  decide +kernel
/-- The tile frozen with a cause. -/
def stopped (code : BitVec 8) : State := on (fun t => { t with frozen := true, tv := true, code := code, tepc := 0x100040 })
/-- TrapTaken: causes that roll back and that do not, for a tile that runs and one that is frozen, whose replay will raise it again or not. -/
theorem hyp_trap : base.tile.frozen = false ∧ base.towSet base.cur = [base.cur] ∧ isRollbackCause 0x06 = false ∧
    isRollbackCause 0x30 = true ∧ base.tile.priv = false ∧ (stopped 0x23).tile.frozen = true ∧
    (let c : Cause := { code := 0x06, tepc := 0, i0 := 0, i1 := 0, i2 := 0, i3 := 0 }
     (stopped 0x30).tile.replays c = true ∧ (stopped 0x23).tile.replays c = false) := by decide +kernel
/-- A frame that a handler keeps. -/
def frame0 : Frame :=
  { opnd := base.tile.core.opnd, opMask := base.tile.core.opMask, res := base.tile.core.res, queues := [], owners := [], lockmask := 2, frm := 1,
    seq := Seq.reset, spin := none, flight := [], gloads := [] }
/-- The tile in a handler. -/
def entered : State := on (fun t => { t with inh := true, frame := some frame0, tepc := 0x100080 })
/-- HandlerEntry: causes that a handler takes and that it does not; returns from a stub, from a handler, and where neither runs. -/
theorem hyp_handler : (stopped 0x23).tile.deliverable = true ∧ (stopped 0x06).tile.deliverable = false ∧
    (stopped 0x23).towSet (stopped 0x23).cur = [(stopped 0x23).cur] ∧ (stopped 0x23).tile.out = false ∧
    (stopped 0x23).deliverWaits key0 = false ∧ (stopped 0x23).deliverCause key0 = none ∧ (stopped 0x23).areaOk = true ∧
    (stopped 0x23).tile.heldCauses = [] ∧
    ((stopped 0x23).modTile (fun t => { t with savebase := 0x900000000 })).areaOk = false ∧ privileged.tile.under = none ∧
    privileged.tile.heldCauses = [] ∧ base.tile.inh = false ∧
    entered.tile.inh = true ∧ entered.tile.frame = some frame0 ∧ entered.tile.gated = [] ∧ entered.tile.lsq = [] ∧ entered.tile.priv = false := by decide +kernel
/-- The patrol core of cluster 0 addresses a window word. -/
def window (s : State) (a : BitVec 32) : State := s.modCluster { die := 0, cid := 0 } (fun c => { c with ptwa := a })
/-- PatrolCore: a frozen tile that holds no further cause, its window at an item of each kind and at a reserved address, and the window of a
tile that runs. -/
theorem hyp_patrol_window : (stopped 0x06).tile.frozen = true ∧ (stopped 0x06).towSet key0 = [key0] ∧ (stopped 0x06).tile.heldCauses = [] ∧
    (stopped 0x06).tile.under = none ∧ base.winNow = none ∧ (window (stopped 0x06) 0xFFFFFFFF).winNow = none ∧
    (window (stopped 0x06) 0x000007).winNow.any (fun x => match x with | .m i w => i = 0 && w = 7 | _ => false) = true ∧
    (window (stopped 0x06) 0x070000).winNow.any (fun x => match x with | .lockmask => true | _ => false) = true ∧
    (window (stopped 0x06) 0x080000).winNow.any (fun x => match x with | .opaqueBlock i => i = 0 | _ => false) = true ∧
    (stopped 0x06).commandRefused 1 = none ∧ (stopped 0x23).commandRefused 2 = none := by decide +kernel
/-- PatrolCore: a command whose save area is not populated; a tile whose context is there. -/
theorem hyp_patrol_command : ((stopped 0x23).modTile (fun t => { t with savebase := 0x900000000 })).commandRefused 2 = some 0x900000000 ∧
    ((stopped 0x06).ctxAt? (stopped 0x06).selected.ctx).isSome = true := by decide +kernel
/-- PatrolCore: the window at predicates, system registers and mxcfg. -/
theorem hyp_patrol_items : [(0x020000 : BitVec 32), 0x0200F8, 0x060000, 0x060030, 0x060118, 0x070180].all (fun a => (winItem a).isSome) = true := by
  decide +kernel
/-- PatrolCore: scratchpad accesses that may be made, of 4 and of 1 bytes at the scratchpad's end, and ones that may not. -/
theorem hyp_patrol_access :
    (let s := stopped 6
     let k (rp : BitVec 4) : TileKey := { ctx := s.residentId s.cur, die := s.cur.die, tid := tidOf (tidCluster s.cur.tid) rp }
     (s.tileAt (k 0)).frozen = true ∧ (s.tileAt (k 1)).frozen = false ∧ 0x17FFFC + 4 ≤ spSize ∧ 0x17FFFC % 4 = 0 ∧ 0x17FFFF + 1 ≤ spSize ∧
     spSize < 0x17FFFD + 4 ∧ 2 % 4 ≠ 0 ∧ (3 : BitVec 3) ∉ [1, 2, (4 : BitVec 3)]) := by decide +kernel
/-- A message of the host: its type and context, and its words from word 1 on. -/
def message (ty ctx : Nat) (w : Array Word) : Msg :=
  let g (i : Nat) : Word := (w[i]?).getD 0
  { part := 0, ep := 0, w0 := BitVec.ofNat 64 (ty * 2 ^ 56 + ctx * 2 ^ 32 + 5), w1 := g 0, w2 := g 1, w3 := g 2, w4 := g 3, w5 := g 4,
    w6 := g 5, w7 := g 6 }
/-- A machine with one message, page tables, die 0 in partition 0, and one launch queue. -/
def mail (m : Msg) : State :=
  { (withTables (onCtx (fun c => { c with queues := [queueOf []], tokens := [(7, 0xFFFFFFFF, [])] }))) with msgs := [m], parts := [(0, 0)] }
/-- LodgeMessages, the host's messages: well formed and not, of a context that is there and one that is not, a queue that is there and one
that is not, a token with room at its limit and one without. -/
theorem hyp_messages :
    (let m := message 0x04 0 #[7]
     (mail m).lodgeMsg = some m ∧ (mail m).lodgeOk m = true ∧ (∃ c, (mail m).ctxOf m.part m.ctx = some c ∧ c.tokenRoom 7 = true)) ∧
    (let m := message 0x04 0 #[0]
     (mail m).lodgeMsg = some m ∧ (mail m).lodgeOk m = false) ∧
    (let m := message 0x02 9 #[]
     (mail m).lodgeMsg = some m ∧ (mail m).lodgeOk m = true ∧ (mail m).ctxOf m.part m.ctx = none) ∧
    (let m := message 0x02 0 #[]
     (mail m).lodgeMsg = some m ∧ (mail m).lodgeOk m = true ∧ ((mail m).ctxOf m.part m.ctx).isSome = true) ∧
    (∀ ty ∈ [0x05, 0x06], ∀ q ∈ [0, 1],
     let m := message ty 0 #[BitVec.ofNat 64 q]
     (mail m).lodgeMsg = some m ∧ (mail m).lodgeOk m = true ∧
       ∃ c, (mail m).ctxOf m.part m.ctx = some c ∧ (c.queue? m.queue).isSome = (q = 0)) := by
  refine ⟨⟨by decide +kernel, by decide +kernel, (mail (message 0x04 0 #[7])).ctx, by decide +kernel⟩,
    by decide +kernel, by decide +kernel, by decide +kernel, ?_⟩
  intro ty ht q hq
  exact ⟨(by decide +kernel : ∀ ty ∈ [0x05, 0x06], ∀ q ∈ [0, 1], (mail (message ty 0 #[BitVec.ofNat 64 q])).lodgeMsg =
      some (message ty 0 #[BitVec.ofNat 64 q])) ty ht q hq,
    (by decide +kernel : ∀ ty ∈ [0x05, 0x06], ∀ q ∈ [0, 1], (mail (message ty 0 #[BitVec.ofNat 64 q])).lodgeOk
      (message ty 0 #[BitVec.ofNat 64 q]) = true) ty ht q hq,
    (mail (message ty 0 #[BitVec.ofNat 64 q])).ctx,
    (by decide +kernel : ∀ ty ∈ [0x05, 0x06], ∀ q ∈ [0, 1], (mail (message ty 0 #[BitVec.ofNat 64 q])).ctxOf 0
      (message ty 0 #[BitVec.ofNat 64 q]).ctx = some (mail (message ty 0 #[BitVec.ofNat 64 q])).ctx) ty ht q hq,
    (by decide +kernel : ∀ ty ∈ [0x05, 0x06], ∀ q ∈ [0, 1], (((mail (message ty 0 #[BitVec.ofNat 64 q])).ctx.queue?
      (message ty 0 #[BitVec.ofNat 64 q]).queue).isSome : Prop) = (q = 0)) ty ht q hq⟩
/-- A machine with such a message and bytes at virtual address 0x100000. -/
def mailed (m : Msg) (l : List (Nat × Nat)) : State :=
  l.foldl (fun s x => s.memWrite (0x10000 + x.1) (bytesOf x.2 8)) (mail m)
/-- The words of a course record that passes: extent 4, code at 0x100000. -/
def record0 : List (Nat × Nat) := [(0, 4), (16, 2 ^ 56), (24, 0x100000)]
/-- A LAUNCH of the record at the given address. -/
def launch0 (va : Word) : Msg := message 0x03 0 #[0, va]
/-- The state of a LAUNCH that may be admitted. -/
def admits : State := mailed (launch0 0x100000) record0
/-- LodgeMessages, contexts and launches: dies in service with and without a lost side; a record that passes and one that does not, at an
address that is not aligned, not mapped, and mapped; a queue with room and a full one. -/
theorem hyp_work :
    (let m := message 0x01 0 #[0, 0, 1, 0, 0, 0, 1]
     (mail m).lodgeMsg = some m ∧ (mail m).lodgeOk m = true ∧ (∀ d ∈ maskDies m.w7, ((mail m).dieAt d).cs = true ∧ ((mail m).dieAt d).ms = true) ∧
       (mail m).newSlots m.w7 = some [(0, 0)] ∧ (mail m).ctxs.length < 65535 ∧
       ∃ d ∈ maskDies m.w7, (((mail m).modDie 0 (fun d => { d with ms := false })).dieAt d).ms = false) ∧
    admits.lodgeMsg = some (launch0 0x100000) ∧ admits.lodgeOk (launch0 0x100000) = true ∧
    admits.ctxOf 0 0 = some admits.ctx ∧ (admits.ctx.queue? 0).isSome = true ∧
    admits.virtPa 0 0x100000 .read = some 0x10000 ∧ admits.virtPa 0 0x200000 .read = none ∧
    recordFail (fun i => admits.memRead (0x10000 + 8 * i) 8) admits.ctx.dieList.length = none ∧
    (recordFail (fun i => (mail (launch0 0x100000)).memRead (0x10000 + 8 * i) 8) admits.ctx.dieList.length).isSome = true ∧
    (queueOf (List.replicate 256 course0)).courses.length = 256 :=
  ⟨⟨by decide +kernel, by decide +kernel, by decide +kernel, by decide +kernel, by decide +kernel, 0, by decide +kernel⟩, by decide +kernel⟩
/-- A LOAD of the object at virtual address 0x100000. -/
def load0 : Msg := message 0x08 0 #[0x100000]
/-- The words of an object of two images, the first of a given kind and 8 bytes long, the second its data, with one relocation record where
asked for. -/
def object (kind word : Nat) (nrel : Nat) : List (Nat × Nat) :=
  [(0, 2 * 2 ^ 48 + 2 ^ 32 + 0x314F4654), (8, 0x100), (16, nrel), (32, kind), (40, 0x200), (48, 8), (56, nrel), (64, 3), (72, 0x280), (80, 8),
   (0x100, 2 ^ 56), (0x200, word)]
/-- A machine with such an object in host memory, under a 64 GiB page, and its LOAD. -/
def loads (l : List (Nat × Nat)) : State :=
  let root := 27 * 2 ^ 36
  l.foldl (fun s x => s.memWrite (2 ^ 49 + 0x100000 + x.1) (bytesOf x.2 8))
    { mail load0 with mem := cellsWrite (cellsWrite [] root (bytesOf (root + 0x4001) 8)) (root + 0x4000) (bytesOf (2 ^ 49 + 0x73) 8) }
/-- The object read. -/
def read (l : List (Nat × Nat)) : Option Tfo := match (loads l).readTfo 0 0x100000 with
  | .ok o => some o
  | .error _ => none
/-- LodgeMessages, LOAD: no object. -/
theorem hyp_load_nothing :
    (loads []).lodgeMsg = some load0 ∧ (loads []).lodgeOk load0 = true ∧ read [] = none := by decide +kernel
/-- LodgeMessages, LOAD: an object with no image for a context in queue mode. -/
theorem hyp_load_object :
    (read (object 1 0 0)).any (fun o => (o.select false).isSome && (o.select true).isNone && o.data.isSome &&
      (loads (object 1 0 0)).relocFail 0 o = none) = true := by decide +kernel
/-- LodgeMessages, LOAD: an object with a bad relocation. -/
theorem hyp_load_relocation :
    (read (object 1 0 1)).any (fun o => (loads (object 1 0 1)).relocFail 0 o = some 0x100) = true := by decide +kernel
/-- LodgeMessages, LOAD: a Derura image that fails. -/
theorem hyp_load_derura :
    (read (object 2 0 0)).any (fun o => (o.select false).any (fun x => x.2.kind = 2 && (Derura.ofBytes x.2.bytes).fail = some 0)) = true := by
  decide +kernel
/-- The worked example of R330 as an image, with its fourth entry as given. -/
def deruraExample (store : Nat) : List Byte :=
  ([1, 1, 0x400000000, 0x500000004, 0x0008000000123456, 0x0010000000000007, 0x0408000200000001, store, 0xFC58000000000000] : List Nat).flatMap
    (fun w => bytesOf w 8)
/-- R330: the worked example's image passes, and with its fourth entry's A at distance 4 it is refused at that entry. -/
theorem test_derura_example : (Derura.ofBytes (deruraExample 0x185800010000C100)).fail = none ∧
    (Derura.ofBytes (deruraExample 0x185800040000C100)).fail = some 0x38 := by decide +kernel
/-- R195, R197, R238: in the template of that image the store is triggered by the word of `#0x100 -> lsu0.ST.64` with the long immediate. -/
theorem test_template_store :
    let x := Derura.ofBytes (deruraExample 0x185800010000C100)
    x.fits = true ∧ (x.bodyCode false 0).length = 35 ∧ x.recordOf 0 = (0, 28, 28) ∧
      ((x.bodyCode false 0)[24]?).map (fun b => (bundleS b 0, bundleLimm b)) = some (0x178CC000, 0x100) := by decide +kernel
/-- A machine whose context 0 has these courses, and whose tiles are idle. -/
def walking (l : List Course) : State :=
  { (onCtx (fun c => { c with queues := [queueOf l] })) with tiles := [] }
/-- A course with a gate left on die 0. -/
def waiting : Course := { course0 with shares := [{ die := 0, lead := none, ranges := [(3, 4)] }] }
/-- Courses, gates: a die that starts the gate of a course, and one that is hot. -/
theorem hyp_gates : (coursed.modTile (fun t => { t with dispatched := true })).tile.dispatched = true ∧
    (let s := walking [waiting]
     (s.tileAt key0).dispatched = false ∧
     (s.dieAt s.cur.die).hot = false ∧ (s.dieAt s.cur.die).cs = true ∧ (s.nextOffer s.ctx s.cur.die).any (fun x => x.2.2 = waiting) = true ∧
       (s.offer s.ctx waiting s.cur.die).any (fun x => x.2.2 = 3) = true) ∧
    ((base.modDie 0 (fun d => { d with hot := true })).dieAt 0).hot = true := by decide +kernel
/-- Courses, the others: one that may start, one that has growth, one that may retire, one of a frozen tile, one that starves, and a
retranslation that stands ready. -/
theorem hyp_courses :
    (let s := walking [{ course0 with started := false }]
     s.ctx.nextStart = some 0 ∧ (s.ctx.queue? 0).any (fun u => (s.ctx.headReady u).isSome) = true ∧
       ∀ d ∈ courseDies s.ctx rec0, (s.dieAt d).cs = true ∧ (s.dieAt d).ms = true) ∧
    (let s := walking [{ course0 with growth := 5 }]
     s.extends s.ctx 0 { course0 with growth := 5 } = true) ∧
    (walking [course0]).retiring (walking [course0]).ctx = some (0, 0) ∧
    (let s := coursed.modTile (fun t => { t with frozen := true, tv := true })
     isService 6 = false ∧ s.ctx.debug = false ∧ isRecoverable 0x23 = true ∧ s.ctx.tvecOn = false ∧
       s.tile.task.any (fun k => s.ctx.course? k.q k.course = some course0) = true) ∧
    ({ waiting with grants := [(0, 64, false)] } : Course).starves 0 = true ∧
    (let j : RetransJob := { ctx := 0, base := 0x100000, code := [] }
     let s : State := { base with job := some j }
     s.job = some j ∧ s.swapComing = false) ∧
    (let m : CtxImage := { base := 0x200000, size := 64, cur := some 0x300000, freed := false }
     let s := onCtx (fun c => { c with imgs := [m] })
     s.job = none ∧ s.ctx.oldImage = some m) := by decide +kernel
/-- Cluster 0 of die 0 changed. -/
def onCluster (s : State) (f : Cluster → Cluster) : State := s.modCluster { die := 0, cid := 0 } f
/-- A second runnable context, with a course of its own. -/
def rival : State :=
  { coursed with ctxs := coursed.ctxs ++ [{ Ctx.blank 1 with dies := 1, queues := [queueOf [waiting]] }] }
/-- Slices: a slice that ends, with and without another runnable context; an idle cluster; an overrun one, at its limit and before; tiles
that leave and come back; a choice among contexts. -/
theorem hyp_slices :
    (let s := onCluster coursed (fun c => { c with sliceEnd := 0 })
     (s.clusterAt { die := 0, cid := 0 }).resident = some 0 ∧ (s.clusterAt { die := 0, cid := 0 }).overrun = false ∧
       s.runnable { die := 0, cid := 0 } = [0]) ∧
    (let s := onCluster coursed (fun c => { c with resident := none })
     (s.clusterAt { die := 0, cid := 0 }).resident = none ∧ s.runnable { die := 0, cid := 0 } = [0] ∧
       ((s.clusterAt { die := 0, cid := 0 }).passOf 0).2 < s.sliceLen 0) ∧
    (let s := onCluster rival (fun c => { c with sliceEnd := 0 })
     (s.clusterAt { die := 0, cid := 0 }).sliceEnd ≤ s.clock ∧ s.runnable { die := 0, cid := 0 } ≠ [0] ∧ s.allOut 0 { die := 0, cid := 0 } = false) ∧
    (let s := (onCluster rival (fun c => { c with overrun := true })).modTile (fun t => t.mapSeq (fun q => { q with safe := true }))
     s.residentAt s.cur = true ∧ s.tile.out = false ∧ (∀ k ∈ s.switchSet s.cur, s.maySwitch k = true) ∧
       s.switchRefused ((s.switchSet s.cur).filter (fun k => !(s.tileAt k).out)) = none ∧
       ((s.modTile (fun t => { t with savebase := 0x900000000 })).switchRefused ((s.switchSet s.cur).filter (fun k => !(s.tileAt k).out))).isSome = true) ∧
    (let s : State := { (onCluster rival (fun c => { c with overrun := true, sliceEnd := 1 })) with clock := 6400001 }
     1 + 4 * s.sliceLen 0 ≤ s.clock ∧ ∃ k ∈ s.clusterKeys 0 { die := 0, cid := 0 }, (s.tileAt k).out = false ∧ (s.tileAt k).vacant = false) ∧
    (let s := on (fun t => { t with out := true })
     s.tile.out = true ∧ s.activeAt s.cur = true ∧ s.switchRefused ((s.switchSet s.cur).filter (fun k => (s.tileAt k).out)) = none ∧
       ((s.modTile (fun t => { t with savebase := 0x900000000 })).switchRefused ((s.switchSet s.cur).filter (fun k => (s.tileAt k).out))).isSome = true) ∧
    (chooseSlice 1600000 (fun _ => 1) [0, 1] 64 Cluster.reset).2.isSome = true := by
  refine ⟨by decide +kernel, by decide +kernel, by decide +kernel, by decide +kernel, ⟨by decide +kernel, key0, ?_⟩, by decide +kernel⟩
  decide +kernel
/-- The page of virtual address 0x100000. -/
def page0 : PageRef := { asid := 0, va := 0x100000 }
/-- A request for that page. -/
def asked (w : PageWork) (begun : Bool) : State :=
  { (withTables handled) with parts := [(0, 0), (1, 0), (2, 0), (5, 0)], pageReqs := [{ pg := page0, work := w, old := none, begun := begun, waiting := [] }] }
/-- PageWork: a request that begins for a handle that is held; one whose die acknowledges; pages that move, are copied, and stop being
copied. -/
theorem hyp_pages :
    (∀ w ∈ ([.revoke, .migrate 5, .duplicate 6] : List PageWork),
      (asked w false).nextPage.isSome = true ∧ (asked w false).frameOf { pg := page0, work := w, old := none, begun := false, waiting := [] } =
        some (0x10000, 0) ∧ (asked w false).workOk { pg := page0, work := w, old := none, begun := false, waiting := [] } = true ∧ ((asked w false).tile.core.h.get 0).ofPage 0x100000 0 = true ∧ w.takes ((asked w false).tile.core.h.get 0) = true) ∧
    (let r : PageReq := { pg := page0, work := .revoke, old := none, begun := true, waiting := [0] }
     let s : State := { (withTables handled) with pageReqs := [r] }
     s.pageReqs.find? (fun r => r.pg = page0 && r.begun && (0 : DieId) ∈ r.waiting) = some r ∧
       ∀ f ∈ s.framesOf r, s.dependent 0 0 f.1 (pageSize f.2) = false) ∧
    ((asked (.migrate 5) true).pageWork (fun w => match w with | .migrate _ => true | _ => false)).isSome = true ∧
    ((asked (.duplicate 6) true).pageWork (fun w => match w with | .duplicate _ => true | _ => false)).isSome = true ∧
    ((asked .endDup true).pageWork (fun w => w = .endDup)).isSome = true ∧
    (asked (.migrate 5) true).pageLeaf page0 = some (leaf0, 27 * 2 ^ 36 + 0xC000 + 8 * 64) ∧ leaf0.mig = false ∧ leaf0.dup = false ∧
    (∀ w ∈ ([.migrate 5, .duplicate 6] : List PageWork),
      (asked w true).workOk { pg := page0, work := w, old := none, begun := true, waiting := [] } = true) := by decide +kernel
/-- Errors: sites of every structure, of a tile that runs; a unit that is poisoned; a structure whose test runs, of a tile that is frozen
for it. -/
theorem hyp_errors :
    (∀ e ∈ ([.scratch key0 0x1000 false, .regFile key0 5, .port key0 0, .ibuf key0 0x100000, .macroRow key0 1 2 3,
      .dram 0x10000 (some key0)] : List ErrSite), siteTile e = some key0 ∧ (base.tileAt key0).frozen = false ∧
        (base.tileAt key0).priv = false) ∧
    (on (fun t => { t with wrote := [(0, 0)] })).siteLost (.regFile key0 5) = false ∧ base.siteLost (.regFile key0 5) = true ∧
    (on (fun t => { t with poison := [0x1000] })).sitePoisoned (.scratch key0 0x1003 true) = true ∧ base.tile.frozen = false ∧
    base.tile.priv = false ∧ siteSide (.port key0 0) = some true ∧ siteSide (.dram 0 none) = some false ∧
    (let e : ErrSite := .port key0 0
     let r := errRec 4 0 3 0 1
     let s := ((stopped 0x31).modTile (fun t => { t with tinfo := #v[r.i0, r.i1, r.i2, 0] })).modDie 0 (fun d => { d with testing := [(e, 5, 4)] })
     (s.dieAt 0).testing.find? (fun y => y.1 = e) = some (e, 5, 4) ∧
       (s.tileAt key0).frozenFor (errRec 4 0 (siteStruct e) (siteLoc e) 1) = true ∧ s.towSet key0 = [key0] ∧
       (s.tileAt key0).heldCauses = []) := by decide +kernel
/-- A message of the host to die 0. -/
def asks (ty : Nat) (w1 : Word) : Msg := { message ty 0 #[w1] with ep := 1 }
/-- DieMessages: messages that a groomer core accepts; messages of the lodge about a die, an inbox, a report and a pairing. -/
theorem hyp_die_messages :
    (∀ ty ∈ [0x10, 0x12], (mail (asks ty 0)).dieMsg 0 = some (asks ty 0) ∧ (mail (asks ty 0)).groomerOk 0 (asks ty 0) = true ∧
      ((mail (asks ty 0)).dieAt 0).out = false) ∧
    (let s := (mail (asks 0x11 0)).modDie 0 (fun d => { d with errs := [errRec 0 0 3 4 0] })
     s.groomerOk 0 (asks 0x11 0) = true ∧ (s.dieAt 0).errs[0]? = some (errRec 0 0 3 4 0)) ∧
    (∀ m ∈ [message 0x07 0 #[0x10000, 4096], message 0x09 0 #[0x10000, 1, 2, 3, 4], message 0x0B 0 #[0x100], message 0x0B 0 #[0]],
      (mail m).lodgeMsg = some m ∧ (mail m).lodgeOk m = true) ∧
    (let m := message 0x0A 0 #[0x100000]
     (mail m).lodgeMsg = some m ∧ (mail m).lodgeOk m = true ∧ ((mail m).ctxOf 0 m.ctx).isSome = true ∧
       ((mail m).proxyFrame 0 0x100000 (portDie 0)).1 = some 0x10000 ∧ ((mail m).dieAt (portDie 0)).ms = true ∧
       (((mail m).modDie 0 (fun d => { d with ms := false })).dieAt (portDie 0)).ms = false) := by decide +kernel
/-- An inbox of the lodge's messages. -/
def inbox0 (idx : Nat) : Inbox := { part := 0, ep := 0, base := 0x10000, slots := 64, idx := idx, cons := 0, raised := 0 }
/-- A pairing of port 3. -/
def pair0 (active : Bool) : Pairing :=
  { port := 3, ctx := 0, part := 0, tag := 5, va := 0x100000, frame := 0x10000, station := 0, key := 7, active := active, since := 0, up := active }
/-- HostSide: an inbox with a free slot and a full one; apertures of the lodge, of a die of the partition and of another one; pairings of a port, active and waiting, and its station. -/
theorem hyp_host :
    (let s (n : Nat) : State := { base with inboxes := [inbox0 n] }
     (s 63).outbox = [] ∧ (s 63).inboxOf 0 0 = some (inbox0 63) ∧ (63 + 2 ^ 32 - 0) % 2 ^ 32 < 64 ∧ (s 64).inboxOf 0 0 = some (inbox0 64) ∧
       64 ≤ (64 + 2 ^ 32 - 0) % 2 ^ 32) ∧
    ({ base with parts := [(0, 0)] } : State).apertureOk 0 1 0x40 4 = true ∧ base.apertureOk 0 0 0x40 4 = true ∧
    base.apertureOk 0 1 0x40 4 = false ∧
    (let s (a : Bool) : State := { base with pairings := [pair0 a], stations := [(3, 9)] }
     (s true).pairings.find? (fun p => p.port = 3 && p.key = 7 && p.active) = some (pair0 true) ∧ assocGet (s false).stations 3 = some 9 ∧
       (s false).pairings.find? (fun p => p.port = 3 && p.key = 7 && !p.active) = some (pair0 false)) := by decide +kernel
/-- What is below a table that an entry points to is below the table of the entry. -/
theorem below_entry {mem : List Host.Cell} {n table i f : Nat} {x : Nat × Nat} (hi : i ∈ validEntries mem table)
    (h : let e := ofBytes (cellsRead mem (table + 8 * i) 8)
      bitsOf e 14 36 * 2 ^ 14 = f ∧ ((n = 3 && 512 ≤ i) || e.testBit 1 || n = 0 || !tableFrameOk f) = false)
    (hx : x ∈ tablesBelow mem n f) : x ∈ tablesBelow mem (n + 1) table := by
  obtain ⟨rfl, h2⟩ := h
  exact List.mem_cons_of_mem _ (List.mem_flatMap.2 ⟨i, hi, by simp only [h2, Bool.false_eq_true, if_false]; exact hx⟩)
/-- The lowest table of those page tables. -/
theorem low_table : (27 * 2 ^ 36 + 0xC000, 0) ∈ (withTables base).allTables :=
  List.mem_flatMap.2 ⟨_, List.mem_singleton_self _, below_entry (i := 0) (f := 27 * 2 ^ 36 + 0x4000) (by decide +kernel) (by decide +kernel)
    (below_entry (i := 0) (f := 27 * 2 ^ 36 + 0x8000) (by decide +kernel) (by decide +kernel)
      (below_entry (i := 0) (f := 27 * 2 ^ 36 + 0xC000) (by decide +kernel) (by decide +kernel) List.mem_cons_self))⟩
/-- MonitorCalls: address spaces that may be made and freed and that may not; entries that may be written; a report to sign. An image that
verifies needs signatures, which the model leaves free (log 10): one that does not is there. -/
theorem hyp_monitor :
    (let s := withTables base
     s.asids.length < 4096 ∧ (∀ a ∈ s.asids, a.asid.toNat ≠ 1) ∧ (∃ c ∈ s.ctxs, c.asid = 0) ∧
     (List.replicate 4096 ({ asid := 0, part := 0, root := 0 } : AddrSpace)).length = 4096) ∧
    (let s : State := { (withTables base) with ctxs := [] }
     (∀ c ∈ s.ctxs, c.asid ≠ 0) ∧ ∃ a ∈ s.asids, a.asid = 0) ∧
    (tableFrameOk (27 * 2 ^ 36) = true ∧ tableEntryOk 0 = true ∧ tableEntryOk (27 * 2 ^ 36 + 0x4001) = true ∧ tableEntryOk 0x10073 = false ∧
      tableEntryOk (2 ^ 36 + 1) = false ∧ tableFrameOk (2 ^ 36) = false) ∧
    (withTables base).pointsTooLow (27 * 2 ^ 36 + 0xC000) (27 * 2 ^ 36 + 0x4001) = true ∧
    (withTables base).pointsTooLow (27 * 2 ^ 36 + 0xC000) 0 = false ∧
    (let s : State := { (withTables base) with parts := [(0, 0), (1, 1)] }
     s.asids.find? (fun a => a.asid = page0.asid && a.part = 0) = some { asid := 0, part := 0, root := 27 * 2 ^ 36 } ∧
     entryLevel s.mem page0.va (27 * 2 ^ 36 + 0xC000 + 8 * 64) 4 (27 * 2 ^ 36) = some 0 ∧ s.leafEntryOk 0 0 (entryWord 0x10053) = true ∧
     s.leafEntryOk 0 0 0 = true ∧ s.leafEntryOk 0 0 0x20000013 = true ∧ s.leafEntryOk 0 0 0x1000000013 = false ∧
     entryLevel s.mem page0.va 0 4 (27 * 2 ^ 36) = none ∧
     (let r : PageReq := { pg := page0, work := .change (27 * 2 ^ 36 + 0xC000 + 8 * 64) 0x10053, old := none, begun := false, waiting := [] }
      r ∉ s.pageReqs ∧ ({ s with pageReqs := s.pageReqs ++ [r] } : State).firstOfPage r = true ∧
      ({ asked .revoke true with pageReqs := (asked .revoke true).pageReqs ++ [r] } : State).firstOfPage r = false) ∧
     ∀ a ∈ s.asids, a.asid = page0.asid → a.part ≠ 1) ∧
    base.imageOk [] = false ∧ ([1] : List Byte) ∈ ({ reports := [[2], [1]], signed := false, asked := [1] } : LodgeBuf).reports ∧
    base.buf.asked ∉ base.buf.reports := by
  refine ⟨⟨by decide +kernel, by decide +kernel, ⟨_, List.mem_singleton_self _, by decide +kernel⟩, List.length_replicate ..⟩,
    ⟨by decide +kernel, _, List.mem_singleton_self _, rfl⟩, by decide +kernel, ?_, by decide +kernel, by decide +kernel⟩
  simp only [State.pointsTooLow, Bool.and_eq_true, decide_eq_true_eq]
  exact ⟨by decide +kernel, (by decide +kernel : (27 * 2 ^ 36 + 0xC000) / 2 ^ 14 * 2 ^ 14 = 27 * 2 ^ 36 + 0xC000) ▸ low_table⟩
/-- StepIssuesBundle: a step that is due, one that the state enables, a tile whose turn it is with its bundle in its buffer, and a clock whose
turns are over. -/
theorem hyp_step :
    (let e : Event := { due := 0, at_ := key0, step := .ack }
     ({ base with events := [e] } : State).dueEvent = some e) ∧
    ((walking [course0]).dueEvent = none ∧ (walking [course0]).lateCell = none ∧ (walking [course0]).enabled.isSome = true) ∧
    (base.dueEvent = none ∧ base.lateCell = none ∧ base.enabled = none ∧ base.nextTurn = some key0 ∧
     let v : State := base.atTurn key0
     v.tile.core.seq.diverged = none ∧ v.takesTurn key0 = true ∧ v.tile.task.isSome = true ∧ v.tile.inTow = false ∧ v.tile.core.seq.skew = 0 ∧ v.tile.core.seq.barrier = none ∧
     v.tile.core.seq.waitu = none ∧ v.tile.core.seq.waitb = none ∧ v.tile.core.seq.drain = false ∧ v.tile.core.seq.owe = 0 ∧
     v.tile.core.seq.waitLeft = 0 ∧ v.tile.buffered v.tile.core.seq.pc = some 0) ∧
    (let s : State := { base with turn := [] }
     s.dueEvent = none ∧ s.lateCell = none ∧ s.enabled = none ∧ s.turn = []) := by decide +kernel
/-- A store to the tile's own scratchpad, one to the cluster window, and the write of a cell. -/
def gate (kind : GKind) (addr : Word) : Gated :=
  { place := .scratch 0 0x160000, kind := kind, here := 0, slot := 0, u := .u0, addr := addr, num := 0, vc := [], rel := [] }
/-- BundleIssues, regions: a MARK bundle of NOPs whose region holds a store or a write of an empty cell; a bundle with a reserved bit of its
header, and one with a reserved control opcode. -/
theorem hyp_region :
    (∀ g ∈ [gate (.write (fullBytes 5 8)) 0x160000, gate (.write (fullBytes 5 8)) 0x1000000000160000, gate (.cellw 9) 0x160000],
      let s := on (fun t => { t with gated := [g], stores := 1 })
      ((reading s 1).checkIssue 1).toOption.any (fun d => d.hdr = 1 && d.ctl = .nop g0 && d.moves = []) = true ∧
        (reading s 1).closeStall = false ∧ (reading s 1).closeCause = none ∧ s.tile.lsq = [] ∧ s.tile.core.seq.fences = [] ∧
        s.goesBehind g.place = false) ∧
    hdrMark 1 = true ∧ hdrSpinrec 1 = false ∧ addrSpace 0x160000 = 0 ∧ addrSpace 0x1000000000160000 ≠ 0 ∧
    (reading base 0x800#512).orbitFirst 0x800#512 = none ∧ (reading base 0x800#512).bundlePriv 0x800#512 = none ∧
    (checkBundle false false [] 0x800#512).toOption.isNone = true ∧ (hdrNprof (bundleHdr 0x800#512)).toNat < 8 ∧
    (reading base 0x1FC00000#512).orbitFirst 0x1FC00000#512 = none ∧ (reading base 0x1FC00000#512).bundlePriv 0x1FC00000#512 = none ∧
    (checkBundle false false [] 0x1FC00000#512).toOption.isNone = true ∧ (hdrNprof (bundleHdr 0x1FC00000#512)).toNat < 8 ∧
    (bundleHdr 0x800#512).extractLsb' 11 5 ≠ 0 := by decide +kernel
/-- BundleIssues: the bundle of one ALU word, immediate 5 to ADD. -/
theorem hyp_bundle :
    (let b := tableBundle 32 0x03828140
     let p := reading base b
     (p.checkIssue b).toOption.any (fun d => d.hdr = 0 && d.ctl = .nop g0 && d.moves = [(0, .aluAdd .u0 (num 5) g0)]) = true ∧
       p.tile.frozen = false ∧ p.tile.core.guardOn g0 = true ∧ p.tile.priv = false) ∧
    hdrMark 0 = false ∧ hdrSpinrec 0 = false ∧ base.tile.core.seq.diverged = none ∧ base.tile.inTow = false ∧ base.tile.core.spin = none ∧ base.ctx.qmode = false ∧
    base.tile.core.seq.loops = [] ∧ base.tile.core.seq.kernelDone = true := by decide +kernel
/-- RoundTripAll: well-formed instructions of each form that have words; the canonical form after reset stands in ResetCanonical. -/
theorem hyp_round :
    ∀ i ∈ ([.aluAdd .u0 (num 5) g0, .nop g0, .brp 0x7FFFD { p := 2, inv := false }, .loop 3 0 g0, .move (.m 4) (.port .mul .q) g0] : List Instr),
      i.wf = true ∧ (encode i).isSome = true := by decide +kernel

/-! ### Encodings: the words of the manual's worked examples (R192-R205, R225) -/

/-- The guard with an inverted predicate. -/
def gInv (p : BitVec 5) : Guard := { inv := true, p := p }
/-- The guard of a predicate. -/
def gOn (p : BitVec 5) : Guard := { inv := false, p := p }
/-- A word of a scalar slot decodes to an instruction. -/
def reads (w : BitVec 32) (i : Instr) (limm : BitVec 32 := 0) : Bool := (decodeScalar limm w).toOption = some i
/-- A word of a vector slot decodes to an instruction. -/
def readsV (w : BitVec 48) (i : Instr) (limm : BitVec 32 := 0) : Bool := (decodeVector limm w).toOption = some i
/-- A word of the control slot decodes to an instruction. -/
def readsC (w : BitVec 32) (i : Instr) : Bool := (decodeControl w).toOption = some i

/-- Chapter "Bundle encoding", the moves of its example. -/
theorem test_decode_moves :
    reads 0x00844303 (.move (.m 4) (.port .mul .q) (gOn 3)) = true ∧ reads 0x0102BF40 (.move (.port .alu0 .a) (num 0xFD) g0) = true ∧
    reads 0x000AC000 (.move (.o 2) (.limmS 0x12345678) g0) 0x12345678 = true ∧
    readsV 0x077E00860167 (.moveVector (.m 6) { cls := .rot, gr := true, lseg := 5, dist := 31 } (.m 5) (gInv 7)) = true := by decide +kernel
/-- The control encodings of chapter "Scalar and control operations". -/
theorem test_decode_control :
    readsC 0xFFFFA082 (.brp 0x7FFFD (gOn 2)) = true ∧ readsC 0x0000E140 (.ret 7 g0) = true ∧ readsC 0x00054340 (.trapu 0x2A g0) = true ∧
    readsC 0x00054380 (.ilock 5 2 g0) = true ∧ readsC 0x60000180 (.loop 3 0 g0) = true ∧ readsC 0x00000000 (.nop g0) = true := by
  decide +kernel
/-- SPIN 4, 8, 4 of the same table: N - 1, STEP, K - 1. -/
theorem test_decode_spin : readsC 0x038861C0 (.spin 7 4 3 g0) = true := by decide +kernel
/-- Triggers of the scalar sockets: the words of the examples, and words made by the formula of chapter "Bundle encoding". -/
theorem test_decode_scalar :
    reads 0x03828140 (.aluAdd .u0 (num 5) g0) = true ∧ reads 0x03868140 (.mulMul (num 5) g0) = true ∧ reads 0x03888140 (.pand (num 5) g0) = true ∧
    reads 0x038A8140 (.xlat (num 5) g0) = true ∧ reads 0x578C00C0 (.acas .w64 .u0 (.m 3) g0) = true ∧ reads 0x03908140 (.join (num 5) g0) = true ∧
    reads 0x07908140 (.gbar (num 5) g0) = true ∧ reads 0x039C8900 (.oatt (num 0x24) g0) = true ∧ reads 0x039E8140 (.dld (num 5) g0) = true ∧
    reads 0x03A08140 (.nsend (num 5) g0) = true ∧ reads 0x03A280C0 (.sysrd (num 3) g0) = true ∧ reads 0x05A28000 (.syswr (num 0) g0) = true ∧
    reads 0x1190C000 (.xfence (.limmS 0x1F) g0) 0x1F = true ∧ reads 0x099A8140 (.astr none (num 5) g0) = true := by decide +kernel
/-- Triggers of the vector sockets, the same. -/
theorem test_decode_vector :
    readsV 0x000027920100 (.vfma .u0 .f32 md0 (.m 4) g0) = true ∧ readsV 0x0000E99401C0 (.vabs .u1 md0 (.m 7) g0) = true ∧
    readsV 0x000033980240 (.vcmpr .f32 md0 (.m 9) g0) = true ∧ readsV 0x0000259800C0 (.unpk5 md0 (.m 3) g0) = true ∧
    readsV 0x000001188000 (.moveVector (.port .perm .a) md0 (num 0) g0) = true ∧
    readsV 0x000003968140 (.vexp2 .f32 md0 (num 5) g0) = true := by decide +kernel

/-- The example bundle, with a header, a word in S1, S2, S3 and V0. -/
def sample (hdr : BitVec 16) (s1 s2 s3 : BitVec 32) (v0 : BitVec 48) : BitVec 512 := packBundle hdr 0 0x12345678 0x00844303 s1 s2 s3 v0 0 0 0 0 0
/-- How a bundle is refused: the code and the slot. -/
def refusal (b : BitVec 512) : Option (BitVec 8 × Nat) := match checkBundle false false [] b with
  | .ok _ => none
  | .error e => some (e.1.code, e.2)
/-- The bytes of the example bundle. -/
theorem test_bundle_bytes : bytesOf (sample 0x0041 0x0102BF40 0x000AC000 0 0x077E00860167).toNat 32 =
    [0x41, 0, 0, 0, 0, 0, 0x78, 0x56, 0x34, 0x12, 0x03, 0x43, 0x84, 0x00, 0x40, 0xBF, 0x02, 0x01, 0x00, 0xC0, 0x0A, 0, 0, 0, 0, 0, 0x67, 0x01,
      0x86, 0x00, 0x7E, 0x07] := by decide +kernel
/-- The refused encodings of the chapter: the code and the slot of each. -/
theorem test_refused :
    refusal (sample 0x0041 0x0102BF40 0x000AC000 0 0x077E00860167) = none ∧
    refusal (sample 0x0041 0x0112BF40 0x000AC000 0 0x077E00860167) = some (0x0A, 1) ∧
    refusal (sample 0x0041 0x0102BF40 0x000AC000 0 0x077E00260167) = some (0x0A, 4) ∧
    refusal (sample 0x0041 0x0102BF40 0x000AC000 0 0x057E00860167) = some (0x0D, 4) ∧
    refusal (sample 0x0041 0x0102BF40 0x000AC000 0x00848040 0x077E00860167) = some (0x0E, 3) ∧
    refusal (sample 0x0041 0x0289BF40 0x000AC000 0 0x077E00860167) = some (0x0B, 1) ∧
    refusal (sample 0x1041 0x0102BF40 0x000AC000 0x00848040 0x077E00860167) = some (0x01, 11) ∧
    refusal (sample 0x0041 0 0x000AC000 0 0x077E00860167) = none ∧
    refusal (packBundle 0 0 0 0x010C0080 0x010D8000 0x578C00C0 0 0 0 0 0 0 0) = some (0x10, 2) := by decide +kernel

/-! ### Well-formedness: an ill-formed term for each check -/

theorem test_wf_result : (Instr.move (.m 1) (.port .mul .qp) g0).wf = false ∧ (Instr.move (.m 1) (.port .mul .q) g0).wf = true ∧
    (Instr.aluAdd .u0 (.port .sys .qp) g0).wf = false := by decide
theorem test_wf_vector_source : (Instr.vexp2 .f32 md0 (.limmHi 1) g0).wf = false ∧ (Instr.vexp2 .f32 md0 (.limmS 1) g0).wf = true := by decide
theorem test_wf_modifier : (Instr.vexp2 .f32 { cls := .rot, gr := false, lseg := 5, dist := 31 } (.m 1) g0).wf = false ∧
    (Instr.vexp2 .f32 { cls := .rot, gr := true, lseg := 5, dist := 31 } (.m 1) g0).wf = true := by decide
theorem test_wf_destination : (Instr.move (.port .valu0 .a) (num 1) g0).wf = false ∧ (Instr.moveVector (.p 1) md0 (num 1) g0).wf = false ∧
    (Instr.move (.port .xlt .b) (num 1) g0).wf = false ∧ (Instr.moveVector (.port .alu0 .a) md0 (num 1) g0).wf = false := by decide
theorem test_wf_null : (Instr.moveVector .null { cls := .rot, gr := true, lseg := 0, dist := 1 } (num 1) g0).wf = false := by decide

/-! ### One step: the manual's worked examples -/

/-- A wide value of 32-bit lanes, the first lowest. -/
def lanes (l : List Nat) : Wide := BitVec.ofNat 512 (l.foldr (fun x n => x + 2 ^ 32 * n) 0)
/-- The 32-bit lanes of a value. -/
def lanesOf (v : Wide) : List Nat := (List.range 16).map (fun i => laneOf 32 v.toNat i)
/-- What an operation has on its way to a port. -/
def result (sk : Sock) (p : RPort) (s : State) : Option (Wide × Nat) :=
  (s.tile.core.flight.find? (fun f => f.sk = sk && f.port = p)).map (fun f => (f.value, f.rem))
/-- A tile with a value in an m register and one in a port. -/
def holding (n : BitVec 6) (v : Wide) (sk : Sock) (pt : OPort) (x : Word) : State :=
  (port sk pt x).modTile (fun t => t.mapCore (fun c => c.setM n v))

/-- Chapter "Bundle encoding": alu0.a receives the sign-extended immediate; o2 receives the long one and clears bits [511:64]. -/
theorem test_move : (after (exec (.move (.port .alu0 .a) (num 0xFD) g0) base)).opA .alu0 = wideOfWord 0xFFFFFFFFFFFFFFFD ∧
    (after (exec (.move (.o 2) (.limmS 0x12345678) g0) (onCore (fun c => c.setO 2 (BitVec.allOnes 512))))).tile.core.o.get 2 =
      wideOfWord 0x12345678 := by decide +kernel
/-- The same example: in m6, 16-bit lane i receives lane i - 1 of m5 where bit 2i of the inverted p7 is set; other lanes keep theirs. -/
theorem test_move_rotated :
    (let s := onCore (fun c => ((c.setM 5 (BitVec.ofNat 512 (ofLanes 16 (fun i => 100 + i) 32))).setM 6 (BitVec.ofNat 512 (ofLanes 16 (fun _ => 7) 32))).setPred 7
       0xC)
     let t := after (exec (.moveVector (.m 6) { cls := .rot, gr := true, lseg := 5, dist := 31 } (.m 5) (gInv 7)) s)
     (List.range 32).map (laneOf 16 (t.tile.core.m.get 6).toNat) = (List.range 32).map (fun i => if i = 1 then 7 else 100 + (i + 31) % 32)) := by
  decide +kernel
/-- Chapter "Scalar and control operations": t = 0x0E28 names a field of 14 bits at position 40. -/
theorem test_extract : result .alu0 .q (after (exec (.aluExtr .u0 (long 0x0E28) g0) (port .alu0 .a 0x00ABCD0000000000))) =
    some (wideOfWord (0xABCD % 2 ^ 14), 1) := by decide +kernel
/-- The body of its example: alu0.q into alu0.a, and 5 to ADD, from 10. -/
theorem test_add : result .alu0 .q (after (exec (.aluAdd .u0 (num 5) g0) (port .alu0 .a 10))) = some (wideOfWord 15, 1) := by decide +kernel
/-- Its variants of BRP and BRN. -/
theorem test_branch :
    (let s (v : Word) : State := onCore (fun c => c.setPred 4 v)
     (after (exec (.brp 1 (gOn 4)) (s 0x1111111111111111))).tile.core.seq.target.isSome = true ∧
     (after (exec (.brn 1 (gOn 4)) (s 0x1111111111111111))).tile.tinfo.get 2 = 1 ∧
     (after (exec (.brp 1 (gOn 4)) (s 0xFFFF))).tile.frozen = true) := by decide +kernel
/-- LOOP of a register that holds 0 skips its body, and pushes its entry otherwise (R229). -/
theorem test_loop : (after (exec (.loop 3 0 g0) base)).tile.core.seq.loops = [] ∧
    (after (exec (.loop 3 0 g0) (onCore (fun c => c.setO 3 (wideOfWord 3))))).tile.core.seq.loops.map (·.left) = [3] := by decide +kernel

/-- Chapter "Vector arithmetic": compressing two of every four F32 lanes by magnitude. -/
theorem test_compress :
    (let v := lanes [0x3F000000, 0xC0400000, 0x7FC00001, 0x40400000, 0, 0x80000000, 0x3F800000, 0xBF800000, 0x80000000, 0, 0, 0x80000000,
       0x7F800000, 0x7FC00002, 0xFF800000, 0x40E00000]
     let t := after (exec (.vcmpr .f32 md0 (.m 9) g0) (holding 9 v .perm .a 0x0202))
     ((result .perm .q t).map (fun r => (lanesOf r.1, r.2))) = some ([0xC0400000, 0x7FC00001, 0x3F800000, 0xBF800000, 0x80000000, 0, 0x7F800000,
       0x7FC00002, 0, 0, 0, 0, 0, 0, 0, 0], 4) ∧
     ((result .perm .q1 t).map (fun r => (List.range 8).map (laneOf 8 r.1.toNat))) = some [1, 2, 2, 3, 0, 1, 0, 1]) := by decide +kernel
/-- The same with lane 1 inactive, and with LM = 5. -/
theorem test_compress_variants :
    (let v := lanes [0x3F000000, 0xC0400000, 0x7FC00001, 0x40400000]
     let s := (holding 9 v .perm .a 0x0202).modTile (fun t => t.mapCore (fun c => c.setPred 1 (BitVec.allOnes 64 &&& ~~~ 0xF0)))
     ((result .perm .q (after (exec (.vcmpr .f32 md0 (.m 9) (gOn 1)) s))).map (fun r => (lanesOf r.1).take 2)) = some [0x7FC00001, 0x40400000]) ∧
    (after (exec (.vcmpr .f32 md0 (.m 9) g0) (port .perm .a 0x0502))).tile.code = 0x06 := by decide +kernel
/-- Decoding a row with an illegal byte: UNPK5 of the bytes 97, 245, 0 and 2. -/
theorem test_unpack5 :
    (let t := after (exec (.unpk5 md0 (.m 3) g0) (holding 3 (lanes [0x0200F561]) .perm .a 0))
     ((result .perm .q t).map (fun r => lanesOf r.1)) = some [1, 0xFFFFFFFF, 1, 0, 1, 0, 0, 0, 0, 0, 0, 0, 0, 0, 0, 0xFFFFFFFF] ∧
     ((result .perm .qp t).map (fun r => lowWord r.1)) = some 0x000000FFFFF00000) := by decide +kernel

/-- Chapter "Group reduction loads": six members, F32 sum, and the same with rank 4 absent. -/
theorem test_group_sum :
    (let l := [0x4B800000, 0x3F800000, 0xCB800000, 0x3F800000, 0x3F800000, 0x3F800000].map (fun x => some (lanes [x]))
     (groupLane 0 (.flt .f32) l 0).val = 0x40400000 ∧
     (groupLane 0 (.flt .f32) (l.set 4 none) 0).val = 0x40000000 ∧ absentMask (l.set 4 none) = 0x10) := by decide +kernel
/-- Eleven members, ranks 3 and 10 absent: the order of the tree. -/
theorem test_group_tree :
    treeRoot (fun a b => "(" ++ a ++ b ++ ")") [some "0", some "1", some "2", none, some "4", some "5", some "6", some "7", some "8", some "9", none] =
      some "(((01)2)((45)(67)))(89)" ∨
    treeRoot (fun a b => "(" ++ a ++ b ++ ")") [some "0", some "1", some "2", none, some "4", some "5", some "6", some "7", some "8", some "9", none] =
      some "((((01)2)((45)(67)))(89))" := by decide +kernel
/-- Chapter "Number formats": an E4M3 stripe at WA = 8 and at WA = 12. -/
theorem test_stripe :
    (let xs := [0x3C, 0x2C, 0xC4, 0x1D].map Fmt.e4m3.decode
     (alignBlock 8 xs).2 = [48, 12, -96, 3] ∧ ((alignBlock 12 xs).2)[3]? = some 52) := by decide +kernel
/-- One pass, two profiles: 2^24, 1, 1 and -2^24 from m0 to m3. -/
theorem test_profiles :
    (let y (m : Int) : List Machine.Dyadic := [{ m := m, e := 0 }, { m := 0, e := 0 }, { m := 0, e := 0 }, { m := 0, e := 0 }]
     let ys := [y (2 ^ 24), y 1, y 1, y (-(2 ^ 24))]
     (roundedPass 0 0 ys).val = 0x3F800000 ∧ (roundedPass 6 0 ys).val = 0 ∧
     (enterColumn 4 (AccCol.clear 0 0) ys).1.read.val = 0x40000000) := by decide +kernel
/-- Chapter "Memory model": the key order decides the value of ordered adds. -/
theorem test_ordered_adds :
    (let u (g n : Nat) : OsUpd := { update0 with float := true, gate := g, pa := 0x10000, val := BitVec.ofNat 32 n }
     let x := { course0 with updates := [u 3 0x4B800000, u 1 0x3F800000, u 2 0x3F800000] }
     ((onCtx (fun c => { c with queues := [queueOf [x]] })).closeAdds 0 0 0).memRead 0x10000 4 = 0x4B800001) := by decide +kernel
/-- Chapter "Memory operations": a typed load from an S4G bank. -/
theorem test_typed_load :
    (let s := onCore (fun c => { c with bf := c.bf.set 3 0x8000001E })
     let s := s.modTile (fun t => { t with scratch := cellsWrite (cellsWrite [] 0x30028 [0xF3]) 0x38002 (bytesOf 0x3800 2) })
     ((result .lsu0 .q (after (exec (.vld .u0 (long 0x30028) g0) s))).map (fun r => ((lanesOf r.1).take 2, r.2))) =
       some ([0x3FC00000, 0xBF000000], 7) ∧
     (after (exec (.vld .u0 (long 0x30024) g0) s)).tile.frozen = true) := by decide +kernel
/-- Chapter "Scratchpad": the address words of its example name local memory, a window, a group and a handle. -/
theorem test_address_words : addrSpace 0x0000000000012340 = 0 ∧ addrSpace 0x1900000000160008 = 1 ∧ addrSpace 0x2005000000000400 = 2 ∧
    addrSpace 0x8300000000010000 = 8 ∧ addrPageOff 0x8300000000010000 = 0x10000 := by decide +kernel
/-- Chapter "Address translation": one walk and one grant. -/
theorem test_walk :
    (let put (m : List Host.Cell) (x : Nat × Nat) : List Host.Cell := cellsWrite m x.1 (bytesOf x.2 8)
     let m := [(0x1B000000000, 0x1B000004001), (0x1B000004020, 0x1B000008001), (0x1B000008000, 0x9200000033)].foldl put []
     let s := (onCtx (fun c => { c with asid := 5, dies := 0xF00, mmask := 0xF00 })).modTile (fun t => t.mapCore (fun c =>
       { c with xlats := [{ id := 0, op := .write, h := 2, va := 0x4001234567, walk := true, got := none }], flight := [{ flight true with sk := .xlt, ready := false, id := 0 }] }))
     let s : State := { s with mem := m, asids := [{ asid := 5, part := 0, root := 0x1B000000000 }], cur := { key0 with die := 10 },
                               tiles := s.tiles.map (fun x => ({ x.1 with die := 10 }, x.2)) }
     let t := after (exec .pageTableWalk s)
     (t.tile.core.h.get 2).word = 0xD05000000100048D ∧ ((result .xlt .q t).map (fun r => lowWord r.1)) = some 0x8200000001234567) := by
  decide +kernel
/-- Chapter "Queues and scheduling": the turns of two contexts on one cluster. -/
theorem test_turns :
    (let w (i : CtxId) : Nat := if i = 1 then 3 else 1
     let next (passes : List (CtxId × Nat × Nat)) : Option (CtxId × Nat) × Nat × Nat :=
       let r := chooseSlice 1600000 w [1, 2] 64 { Cluster.reset with passes := passes }
       (r.2, (r.1.passOf 1).1, (r.1.passOf 2).1)
     next [] = (some (1, 1600000), 21845, 0) ∧ next [(1, 21845, 0)] = (some (2, 1600000), 21845, 65536) ∧
     next [(1, 43690, 400000), (2, 65536, 0)] = (some (1, 1200000), 65535, 65536) ∧
     next [(1, 65535, 0), (2, 65536, 0)] = (some (1, 1600000), 87380, 65536) ∧
     next [(1, 87380, 0), (2, 65536, 0)] = (some (2, 1600000), 87380, 131072)) := by decide +kernel
/-- Claiming a lock word: of two tiles that find 0, one has qp = 1 and the word holds its tid. -/
theorem test_claim :
    (let a : AtomReq := { id := 0, sk := .lsu0, op := .cas, wide := true, place := .scratch 0 0x100, a := 7, b := 0, vc := [], rel := [] }
     let t := after (exec .atomicPerform (on (fun t => { t with lsq := [.atom a] })))
     t.tile.spRead 0x100 8 = 7) := by decide +kernel

end Sys2Proof.Tests
end

section
/-! PROOF. Facts about the state that several statements use: what a cluster, a context or a tile is behind an update, what a fold over
the tiles of a set leaves, and the bytes of a value. -/

namespace Sys2Proof.Machine

/-! ### Folds -/

/-- What every step of a fold keeps, the fold keeps. -/
theorem foldl_keeps {σ α β : Type} {f : σ → α → σ} (g : σ → β) (h : ∀ s a, g (f s a) = g s) (l : List α) (s : σ) :
    g (l.foldl f s) = g s := by
  induction l generalizing s with
  | nil => rfl
  | cons a l ih => exact (ih (f s a)).trans (h s a)

/-- A fold whose every step leaves its start as it is. -/
theorem foldl_stays {σ α : Type} {f : σ → α → σ} {s : σ} {l : List α} (h : ∀ a ∈ l, f s a = s) : l.foldl f s = s := by
  induction l with
  | nil => rfl
  | cons a l ih =>
    rw [List.foldl_cons, h a List.mem_cons_self]
    exact ih (fun b hb => h b (List.mem_cons_of_mem _ hb))

/-- What the step for an element makes true and every other step keeps holds of every element behind the fold. -/
theorem foldl_makes {σ α : Type} {f : σ → α → σ} {P : α → σ → Prop} (made : ∀ s a, P a (f s a)) (kept : ∀ s a b, P a s → P a (f s b))
    (l : List α) (s : σ) : ∀ a ∈ l, P a (l.foldl f s) := by
  have stays : ∀ (l : List α) (s : σ) (a : α), P a s → P a (l.foldl f s) := fun l => by
    induction l with
    | nil => exact fun _ _ h => h
    | cons b l ih => exact fun s a h => ih _ _ (kept s a b h)
  induction l generalizing s with
  | nil => simp
  | cons b l ih =>
    intro a ha
    rcases List.mem_cons.mp ha with rfl | ha
    · exact stays l _ _ (made s a)
    · exact ih _ a ha

/-- What a function keeps, its iterates keep. -/
theorem iterate_keeps {α β : Type} {f : α → α} (g : α → β) (h : ∀ a, g (f a) = g a) (n : Nat) (a : α) : g (f^[n] a) = g a := by
  induction n generalizing a with
  | zero => rfl
  | succ n ih => exact (ih (f a)).trans (h a)

/-- Behind a change of the tiles of a list, a tile has been changed once for each time that it stands there. -/
theorem State.foldl_modTileAt_tileAt (f : Tile → Tile) (l : List TileKey) (s : State) (k : TileKey) :
    (l.foldl (fun s j => s.modTileAt j f) s).tileAt k = f^[l.count k] (s.tileAt k) := by
  induction l generalizing s with
  | nil => rfl
  | cons j l ih =>
    rw [List.foldl_cons, ih]
    by_cases e : j = k
    · subst e
      rw [State.modTileAt_tileAt, List.count_cons_self, Function.iterate_succ_apply]
    · rw [State.modTileAt_tileAt_ne s f (Ne.symm e), List.count_cons_of_ne e]

/-- A tile of the list has been changed, and last of all by the change itself. -/
theorem State.foldl_modTileAt_mem (f : Tile → Tile) {l : List TileKey} (s : State) {k : TileKey} (h : k ∈ l) :
    ∃ n, (l.foldl (fun s j => s.modTileAt j f) s).tileAt k = f (f^[n] (s.tileAt k)) := by
  obtain ⟨n, hn⟩ := Nat.exists_eq_succ_of_ne_zero (List.count_pos_iff.mpr h).ne'
  exact ⟨n, by rw [State.foldl_modTileAt_tileAt, hn, Function.iterate_succ_apply']⟩

/-- What the change of a tile keeps, a change of the tiles of a list keeps of every tile. -/
theorem State.foldl_modTileAt_keeps {β : Type} {f : Tile → Tile} (g : Tile → β) (h : ∀ t, g (f t) = g t) (l : List TileKey) (s : State)
    (k : TileKey) : g ((l.foldl (fun s j => s.modTileAt j f) s).tileAt k) = g (s.tileAt k) := by
  rw [State.foldl_modTileAt_tileAt]
  exact iterate_keeps g h _ _

/-! ### Clusters -/

theorem cid_cases (c : BitVec 2) : c = 0 ∨ c = 1 ∨ c = 2 ∨ c = 3 := by revert c; decide

@[simp] theorem Die.setCluster_cluster (d : Die) (c : BitVec 2) (v : Cluster) : (d.setCluster c v).cluster c = v := by
  rcases cid_cases c with rfl | rfl | rfl | rfl <;> rfl

theorem Die.setCluster_cluster_ne (d : Die) {c e : BitVec 2} (v : Cluster) (h : e ≠ c) : (d.setCluster c v).cluster e = d.cluster e := by
  rcases cid_cases c with rfl | rfl | rfl | rfl <;> rcases cid_cases e with rfl | rfl | rfl | rfl <;>
    simp_all [Die.setCluster, Die.cluster]

@[simp] theorem State.modCluster_clusterAt (s : State) (c : ClusterId) (f : Cluster → Cluster) :
    (s.modCluster c f).clusterAt c = f (s.clusterAt c) := by
  simp [State.modCluster, State.clusterAt, State.modDie_dieAt]

theorem State.modCluster_clusterAt_ne (s : State) {c e : ClusterId} (f : Cluster → Cluster) (h : e ≠ c) :
    (s.modCluster c f).clusterAt e = s.clusterAt e := by
  unfold State.modCluster State.clusterAt
  by_cases hd : e.die = c.die
  · have hc : e.cid ≠ c.cid := fun hc => h (by cases e; cases c; simp_all)
    rw [hd, State.modDie_dieAt, Die.setCluster_cluster_ne _ _ hc]
  · rw [State.modDie_dieAt_ne _ _ hd]

/-- What the change of a cluster keeps, it keeps of every cluster. -/
theorem State.modCluster_keeps {β : Type} {f : Cluster → Cluster} (g : Cluster → β) (h : ∀ c, g (f c) = g c) (s : State)
    (c e : ClusterId) : g ((s.modCluster c f).clusterAt e) = g (s.clusterAt e) := by
  by_cases he : e = c
  · subst he; rw [State.modCluster_clusterAt, h]
  · rw [State.modCluster_clusterAt_ne _ _ he]

theorem State.modCluster_residentId {f : Cluster → Cluster} (h : ∀ c, (f c).resident = c.resident) (s : State) (c : ClusterId)
    (k : TileKey) : (s.modCluster c f).residentId k = s.residentId k :=
  congrArg (fun r => r.getD 0xFFFF) (State.modCluster_keeps Cluster.resident h s c (keyCluster k))

@[simp] theorem State.modCluster_tileAt (s : State) (c : ClusterId) (f : Cluster → Cluster) (k : TileKey) :
    (s.modCluster c f).tileAt k = s.tileAt k := rfl

@[simp] theorem State.modCluster_ctxAt (s : State) (c : ClusterId) (f : Cluster → Cluster) (i : CtxId) :
    (s.modCluster c f).ctxAt i = s.ctxAt i := rfl

/-! ### Contexts -/

@[simp] theorem State.modTileAt_ctxAt (s : State) (k : TileKey) (f : Tile → Tile) (i : CtxId) : (s.modTileAt k f).ctxAt i = s.ctxAt i := rfl

@[simp] theorem State.modTileAt_residentId (s : State) (k j : TileKey) (f : Tile → Tile) :
    (s.modTileAt k f).residentId j = s.residentId j := rfl

@[simp] theorem State.modCtx_tileAt (s : State) (i : CtxId) (f : Ctx → Ctx) (k : TileKey) : (s.modCtx i f).tileAt k = s.tileAt k := rfl

@[simp] theorem State.modCtx_residentId (s : State) (i : CtxId) (f : Ctx → Ctx) (k : TileKey) :
    (s.modCtx i f).residentId k = s.residentId k := rfl

/-- A context that exists, behind its change. -/
theorem State.modCtx_ctxAt {f : Ctx → Ctx} (hid : ∀ c, (f c).id = c.id) (s : State) (i : CtxId) (h : (s.ctxAt? i).isSome = true) :
    (s.modCtx i f).ctxAt i = f (s.ctxAt i) := by
  have hp : (fun c : Ctx => decide (c.id = i)) ∘ (fun c => if c.id = i then f c else c) = fun c => decide (c.id = i) := by
    funext c
    by_cases e : c.id = i <;> simp [e, hid]
  obtain ⟨c, hc⟩ := Option.isSome_iff_exists.mp h
  have hi : c.id = i := by simpa using List.find?_some hc
  have hf : s.ctxs.find? (fun c => decide (c.id = i)) = some c := hc
  simp only [State.ctxAt, State.ctxAt?, State.modCtx, List.find?_map, hp, hf, Option.map_some, Option.getD_some, if_pos hi]

/-! ### Tiles -/

theorem assocGet_map {α β : Type} [DecidableEq α] (f : α → β → β) (l : List (α × β)) (k : α) :
    assocGet (l.map (fun x : α × β => (x.1, f x.1 x.2))) k = (assocGet l k).map (f k) := by
  induction l with
  | nil => rfl
  | cons x l ih =>
    obtain ⟨a, b⟩ := x
    by_cases h : a = k
    · subst h; simp [assocGet]
    · simp [assocGet, h, ih]

theorem assocGet_mem {α β : Type} [DecidableEq α] {l : List (α × β)} {k : α} {v : β} (h : assocGet l k = some v) : (k, v) ∈ l := by
  induction l with
  | nil => simp [assocGet] at h
  | cons x l ih =>
    obtain ⟨a, b⟩ := x
    by_cases e : a = k
    · subst e
      simp only [assocGet, if_true, Option.some.injEq] at h
      exact h ▸ List.mem_cons_self
    · simp only [assocGet, if_neg e] at h
      exact List.mem_cons_of_mem _ (ih h)

/-- What the change of a tile keeps, it keeps of every tile. -/
theorem State.modTileAt_keeps {β : Type} {f : Tile → Tile} (g : Tile → β) (h : ∀ t, g (f t) = g t) (s : State) (k j : TileKey) :
    g ((s.modTileAt k f).tileAt j) = g (s.tileAt j) := by
  by_cases e : j = k
  · subst e; rw [State.modTileAt_tileAt, h]
  · rw [State.modTileAt_tileAt_ne _ _ e]

/-- What a change of every tile keeps, it keeps of a tile that is not listed too. -/
theorem State.mapTiles_keeps {β : Type} {f : TileKey → Tile → Tile} (g : Tile → β) (h : ∀ k t, g (f k t) = g t) (s : State) (k : TileKey) :
    g ((s.mapTiles f).tileAt k) = g (s.tileAt k) := by
  unfold State.tileAt State.mapTiles
  rw [assocGet_map]
  cases assocGet s.tiles k with
  | none => rfl
  | some t => exact h k t

/-- Every scratchpad of a state in canonical form has it. -/
theorem State.canonical_tileAt {s : State} (h : s.canonical) (k : TileKey) : Memory.wf (s.tileAt k).scratch = true := by
  unfold State.tileAt
  cases e : assocGet s.tiles k with
  | none => rfl
  | some t => exact h.2 _ (assocGet_mem e)

/-! ### Bytes and words -/

@[simp] theorem lowWord_wideOfWord (w : Word) : lowWord (wideOfWord w) = w := by
  simp [lowWord, wideOfWord]

@[simp] theorem bytesOf_length (x n : Nat) : (bytesOf x n).length = n := by
  induction n generalizing x with
  | zero => rfl
  | succ n ih => simp [bytesOf, ih]

theorem bytesOf_getElem (x n i : Nat) (h : i < (bytesOf x n).length) : (bytesOf x n)[i] = byteOf x i := by
  induction n generalizing x i with
  | zero => simp at h
  | succ n ih =>
    cases i with
    | zero => rfl
    | succ i =>
      have e : (x / 256) >>> (8 * i) = x >>> (8 * (i + 1)) := by
        rw [show (256 : Nat) = 2 ^ 8 from rfl, ← Nat.shiftRight_eq_div_pow, ← Nat.shiftRight_add]
        congr 1; omega
      exact (ih (x / 256) i _).trans (by simp only [byteOf, e])

/-- A byte of a range that is taken out of a memory reads 0. -/
theorem cellsGet_filter_out (l : List Host.Cell) (p : Host.Cell → Bool) (a : Nat) (h : ∀ v, p (a, v) = false) :
    cellsGet (l.filter p) a = 0 := by
  induction l with
  | nil => rfl
  | cons c l ih =>
    obtain ⟨k, v⟩ := c
    by_cases e : k = a
    · subst e; rw [List.filter_cons_of_neg (by simp [h])]; exact ih
    · by_cases hp : p (k, v)
      · rw [List.filter_cons_of_pos hp, cellsGet, if_neg e]; exact ih
      · rw [List.filter_cons_of_neg hp]; exact ih

end Sys2Proof.Machine

namespace Sys2Proof.Claims

open Sys2Proof.Machine

/-- A fold of steps that leave every byte. -/
theorem sameBytes_foldl {α : Type} {f : State → α → State} (h : ∀ s a, SameBytes s (f s a)) (l : List α) (s : State) :
    SameBytes s (l.foldl f s) := by
  induction l generalizing s with
  | nil => exact sameBytes_refl s
  | cons a l ih => exact sameBytes_trans (h s a) (ih (f s a))

theorem sameBytes_modCtx (s : State) (i : CtxId) (f : Ctx → Ctx) : SameBytes s (s.modCtx i f) := ⟨fun _ => rfl, fun _ _ => rfl⟩

theorem sameBytes_modCluster (s : State) (c : ClusterId) (f : Cluster → Cluster) : SameBytes s (s.modCluster c f) :=
  ⟨fun _ => rfl, fun _ _ => rfl⟩

end Sys2Proof.Claims
end

section
/-! PROOF. The system registers: what a write of one makes each of them read as, the frame of an operation of sys, and O41. -/

namespace Sys2Proof.Machine

/-! ### Writing a system register -/

/-- A write of a system register changes a tile's own registers, or its context, or nothing. -/
theorem State.sysPut_cases (s : State) (k : TileKey) (n : Nat) (v : Word) :
    (∃ f : Tile → Tile, s.sysPut k n v = s.modTileAt k f ∧
      ∀ t, (f t).core = t.core ∧ (f t).scratch = t.scratch ∧ (f t).priv = t.priv) ∨
    (∃ f : Ctx → Ctx, s.sysPut k n v = s.modCtx k.ctx f) ∨ s.sysPut k n v = s := by
  unfold State.sysPut
  split
  case h_7 | h_10 => exact .inr (.inl ⟨_, rfl⟩)
  case h_11 => exact .inr (.inr rfl)
  all_goals exact .inl ⟨_, rfl, fun _ => ⟨rfl, rfl, rfl⟩⟩

@[simp] theorem State.sysPut_cur (s : State) (k : TileKey) (n : Nat) (v : Word) : (s.sysPut k n v).cur = s.cur := by
  obtain ⟨f, e, -⟩ | ⟨f, e⟩ | e := s.sysPut_cases k n v <;> rw [e] <;> rfl

@[simp] theorem State.sysPut_core (s : State) (k j : TileKey) (n : Nat) (v : Word) :
    ((s.sysPut k n v).tileAt j).core = (s.tileAt j).core := by
  obtain ⟨f, e, hf⟩ | ⟨f, e⟩ | e := s.sysPut_cases k n v <;> rw [e]
  · exact State.modTileAt_keeps Tile.core (fun t => (hf t).1) s k j
  · rfl

/-! ### Reading it back -/

/-- The bits of tcause (R361). -/
theorem Tile.tcause_getLsbD (t : Tile) {i : Nat} (h : i < 64) :
    t.tcause.getLsbD i = ((decide (i < 8) && t.code.getLsbD i) || (decide (i = 12) && t.priv) || (decide (i = 13) && t.nest) ||
      (decide (i = 14) && t.inh) || (decide (i = 15) && t.tv)) := by
  simp only [Tile.tcause, BitVec.getLsbD_append]
  interval_cases i <;> simp

/-- tcause written and read: V, INH, NEST and CODE are the value's, PRIV is the tile's, the rest is 0 (R361). -/
theorem Tile.setTcause_tcause (t : Tile) (v : Word) : (t.setTcause v).tcause = (v &&& 0xE0FF) ||| (t.tcause &&& 0x1000) := by
  apply BitVec.eq_of_getLsbD_eq
  intro i hi
  simp only [BitVec.getLsbD_or, BitVec.getLsbD_and, Tile.tcause_getLsbD _ hi]
  interval_cases i <;> simp [Tile.setTcause]

theorem State.sysPut_sysGet_tcause (s : State) (k : TileKey) (v : Word) :
    (s.sysPut k 0 v).sysGet k 0 = (v &&& 0xE0FF) ||| (s.sysGet k 0 &&& 0x1000) := by
  simp only [State.sysPut, State.sysGet, State.modTileAt_tileAt, Tile.setTcause_tcause]

theorem State.sysPut_sysGet_tepc (s : State) (k : TileKey) (v : Word) :
    (s.sysPut k 1 v).sysGet k 1 = v &&& 0x00FFFFFFFFFFFFC0 := by
  simp only [State.sysPut, State.sysGet, State.modTileAt_tileAt]

theorem State.sysPut_sysGet_tinfo (s : State) (k : TileKey) (i : Fin 4) (v : Word) :
    (s.sysPut k (2 + i.val) v).sysGet k (2 + i.val) = v := by
  fin_cases i <;> simp only [State.sysPut, State.sysGet, State.modTileAt_tileAt] <;> exact vget_set_self _ _ _ _ _ rfl

theorem State.sysPut_sysGet_savebase (s : State) (k : TileKey) (v : Word) : (s.sysPut k 0x20 v).sysGet k 0x20 = v := by
  simp only [State.sysPut, State.sysGet, State.modTileAt_tileAt]

theorem State.sysPut_sysGet_stubbase (s : State) (k : TileKey) (v : Word) : (s.sysPut k 0x21 v).sysGet k 0x21 = v := by
  simp only [State.sysPut, State.sysGet, State.modTileAt_tileAt]

/-- tvec and the debug bit belong to the context, where there is one (R34). -/
theorem State.sysPut_tvec {s : State} {k : TileKey} (h : (s.ctxAt? k.ctx).isSome = true) (v : Word) :
    ((s.sysPut k 6 v).ctxAt k.ctx).tvec = v &&& tvecBits :=
  congrArg Ctx.tvec (State.modCtx_ctxAt (f := fun c => { c with tvec := v &&& tvecBits }) (fun _ => rfl) s k.ctx h)

theorem State.sysPut_debug {s : State} {k : TileKey} (h : (s.ctxAt? k.ctx).isSome = true) (v : Word) :
    ((s.sysPut k 0x23 v).ctxAt k.ctx).debug = v.getLsbD 0 :=
  congrArg Ctx.debug (State.modCtx_ctxAt (f := fun c => { c with debug := v.getLsbD 0 }) (fun _ => rfl) s k.ctx h)

/-! ### The operations of sys -/

/-- A sys trigger of privileged mode that may read its source goes through as one of any other unit (R359). -/
theorem runSys_eq {hk : Wide → Word → Hooks} {src : Src} {g : Guard} {s : State} (h : s.tile.priv = true → privSrcOk src = true) :
    runSys hk src g s = runScalar .sys hk src g s := by
  unfold runSys
  rw [if_neg]
  cases hp : s.tile.priv
  · simp
  · simp [h hp]

/-- A checked operation of sys that issues and whose check raises nothing takes its effect. -/
theorem runSys_act {hk : Wide → Word → Hooks} {src : Src} {g : Guard} {s : State} (hi : ScalarIssues .sys src g s)
    (hp : s.tile.priv = true → privSrcOk src = true) {check : State → Option Cause} {act : State → State}
    (e : hk (wideOfWord (s.scalarSrc src)) (BitVec.allOnes 64) = Hooks.checked check act) (hc : check s = none) :
    runSys hk src g s = .next (act (s.taken src)) := by
  rw [runSys_eq hp, runScalar_checked hi e, hc]

/-- A checked operation of sys that issues takes the trap of its check. -/
theorem runSys_trap {hk : Wide → Word → Hooks} {src : Src} {g : Guard} {s : State} (hi : ScalarIssues .sys src g s)
    (hp : s.tile.priv = true → privSrcOk src = true) {check : State → Option Cause} {act : State → State}
    (e : hk (wideOfWord (s.scalarSrc src)) (BitVec.allOnes 64) = Hooks.checked check act) {c : Cause} (hc : check s = some c) :
    runSys hk src g s = .next (s.takeTrap c) := by
  rw [runSys_eq hp, runScalar_checked hi e, hc]

/-! ### The checks of SYSRD and SYSWR (R358, R380) -/

theorem State.sysrdCause_none {s : State} {w : Word} (h : s.tile.priv = true ∨ w.toNat < 7) (hw : w.toNat < 4096)
    (hn : sysNumber w.toNat = true) : s.sysrdCause (wideOfWord w) = none := by
  have hu : (!s.tile.priv && decide (7 ≤ w.toNat)) = false := by
    rcases h with h | h
    · simp [h]
    · simp [Nat.not_le.mpr h]
  simp [State.sysrdCause, Nat.mod_eq_of_lt hw, hu, hn, hw]

theorem State.sysrdCause_denied {s : State} {w : Word} (h : s.tile.priv = false) (hw : 7 ≤ w.toNat % 4096) :
    s.sysrdCause (wideOfWord w) = some (s.privViolation (sockIdx .sys).val w) := by
  simp [State.sysrdCause, State.sysDenied, h, hw]

theorem State.sysrdCause_bad {s : State} {w : Word} (h : s.tile.priv = true) (hw : 4096 ≤ w.toNat ∨ sysNumber (w.toNat % 4096) = false) :
    s.sysrdCause (wideOfWord w) = some (s.illegalOperand .sys (wideOfWord w)) := by
  have hb : (decide (4096 ≤ w.toNat) || !sysNumber (w.toNat % 4096)) = true := by simpa using hw
  simp [State.sysrdCause, h, hb]

theorem State.syswrCause_none {s : State} {w : Word} (h : s.tile.priv = true ∨ (lowWord (s.opA .sys)).toNat = 7)
    (ha : (lowWord (s.opA .sys)).toNat < 4096) (hn : sysNumber (lowWord (s.opA .sys)).toNat = true)
    (hv : sysValueOk s.tile (lowWord (s.opA .sys)).toNat w = true) : s.syswrCause (wideOfWord w) = none := by
  have hu : (!s.tile.priv && decide ((lowWord (s.opA .sys)).toNat ≠ 7)) = false := by
    rcases h with h | h <;> simp [h]
  simp only [State.syswrCause, lowWord_wideOfWord, Nat.mod_eq_of_lt ha, hu, hn, hv]
  simp [ha]

theorem State.syswrCause_denied {s : State} {w : Word} (h : s.tile.priv = false) (ha : (lowWord (s.opA .sys)).toNat % 4096 ≠ 7) :
    s.syswrCause (wideOfWord w) = some (s.privViolation (sockIdx .sys).val w) := by
  simp [State.syswrCause, State.sysDenied, h, ha]

theorem State.syswrCause_bad {s : State} {w : Word} (h : s.tile.priv = true)
    (hb : 4096 ≤ (lowWord (s.opA .sys)).toNat ∨ sysNumber ((lowWord (s.opA .sys)).toNat % 4096) = false ∨
      sysValueOk s.tile ((lowWord (s.opA .sys)).toNat % 4096) w = false) :
    s.syswrCause (wideOfWord w) = some (s.illegalOperand .sys (wideOfWord w)) := by
  have hb : (decide (4096 ≤ (lowWord (s.opA .sys)).toNat) || !sysNumber ((lowWord (s.opA .sys)).toNat % 4096) ||
      !sysValueOk s.tile ((lowWord (s.opA .sys)).toNat % 4096) w) = true := by simpa [or_assoc] using hb
  simp only [State.syswrCause, lowWord_wideOfWord, h, hb]
  simp

/-! ### A read of a port and an interlocked result -/

/-- A read of a source port changes no system register. -/
theorem State.taken_sysGet (s : State) (src : Src) (k : TileKey) (n : Nat) : (s.taken src).sysGet k n = s.sysGet k n := by
  obtain ⟨ps, e⟩ := s.taken_tileAt src k
  have hd : (s.taken src).residentId k = s.residentId k := by unfold State.taken State.consume; split <;> rfl
  have hc : (s.taken src).ctxAt k.ctx = s.ctxAt k.ctx := by unfold State.taken State.consume; split <;> rfl
  unfold State.sysGet
  rw [e, hd, hc]
  rfl

/-- The tile behind an interlocked result: its entries are in flight, and everything else stands (R21). -/
theorem State.locked_tile (s : State) (sk : Sock) (rs : List (RPort × Wide)) :
    ∃ fl, (s.locked sk rs).tile =
      { s.tile.mapCore (fun c => { c with flight := c.flight ++ fl }) with nextId := s.tile.nextId + 1 } :=
  State.answer_tile s.spend sk _ rs

end Sys2Proof.Machine

namespace Sys2Proof.Claims

open Sys2Proof.Machine

/-- The result of an operation that is answered at its trigger is delivered when its time comes (R21). -/
theorem delivers_locked (s : State) (src : Src) (sk : Sock) (p : RPort) (v : Wide) :
    Delivers s ((s.taken src).locked sk [(p, v)]) sk p v := by
  have hn : (s.taken src).tile.nextId = s.nextOp := by rw [State.taken_tile]; rfl
  unfold Delivers State.locked State.lockedBy State.answer
  rw [State.modTile_tile]
  exact ⟨_, List.mem_append_right _ List.mem_cons_self, hn, rfl, rfl, rfl, rfl, rfl, rfl⟩

/-- What is in flight decides whether a result is delivered. -/
theorem Delivers.congr {s t u : State} {sk : Sock} {p : RPort} {v : Wide} (h : Delivers s t sk p v) (e : u.tile.core = t.tile.core) :
    Delivers s u sk p v := by
  obtain ⟨f, hf, hs⟩ := h
  exact ⟨f, e ▸ hf, hs⟩

/-- An operation with an interlocked result changes no byte. -/
theorem sameBytes_takenLocked (s : State) (src : Src) (sk : Sock) (rs : List (RPort × Wide)) :
    SameBytes s ((s.taken src).locked sk rs) := sameBytes_trans (sameBytes_taken s src) (sameBytes_locked _ _ _)

/-- An operation with an interlocked result changes no register of its tile. -/
theorem sameRegisters_takenLocked (s : State) (src : Src) (sk : Sock) (rs : List (RPort × Wide)) :
    SameRegisters s.tile.core ((s.taken src).locked sk rs).tile.core := by
  obtain ⟨fl, e⟩ := (s.taken src).locked_tile sk rs
  rw [e, State.taken_tile]
  obtain ⟨h1, h2, h3, h4, h5, h6, -, -, h9, -, h11, h12, h13, -⟩ := TileCore.consume_frame s.ctx.qmode (srcPorts src) s.tile.core
  exact ⟨⟨h3, h4, h5, h6, h1, h2, h9, h11, h12⟩, h13⟩

/-- An operation with an interlocked result changes no register of a trap. -/
theorem sameTrap_takenLocked (s : State) (src : Src) (sk : Sock) (rs : List (RPort × Wide)) :
    SameTrap s.tile ((s.taken src).locked sk rs).tile := by
  obtain ⟨fl, e⟩ := (s.taken src).locked_tile sk rs
  rw [e, State.taken_tile]
  exact ⟨rfl, rfl, rfl, rfl, rfl, rfl⟩

theorem sameBytes_sysPut (s : State) (k : TileKey) (n : Nat) (v : Word) : SameBytes s (s.sysPut k n v) := by
  obtain ⟨f, e, hf⟩ | ⟨f, e⟩ | e := s.sysPut_cases k n v <;> rw [e]
  · exact sameBytes_modTileAt s k f (hf _).2.1
  · exact sameBytes_modCtx s _ f
  · exact sameBytes_refl s

/-! ### SYSRD and SYSWR that go through -/

/-- SYSRD delivers the register and changes no other one (R360). -/
theorem sysrd_delivers {src : Src} {g : Guard} {s : State} (hi : ScalarIssues .sys src g s) (hp : s.tile.priv = true → privSrcOk src = true)
    (hu : s.tile.priv = true ∨ (s.scalarSrc src).toNat < 7) (hw : (s.scalarSrc src).toNat < 4096)
    (hn : sysNumber (s.scalarSrc src).toNat = true) :
    ∃ t, exec (.sysrd src g) s = .next t ∧ SameBytes s t ∧ SameRegisters s.tile.core t.tile.core ∧ SameTrap s.tile t.tile ∧
      Delivers s t .sys .q (wideOfWord (s.sysGet s.cur (s.scalarSrc src).toNat)) := by
  refine ⟨_, runSys_act hi hp rfl (State.sysrdCause_none hu hw hn), ?_⟩
  rw [State.taken_sysGet, State.taken_cur, lowWord_wideOfWord, Nat.mod_eq_of_lt hw]
  exact ⟨sameBytes_takenLocked _ _ _ _, sameRegisters_takenLocked _ _ _ _, sameTrap_takenLocked _ _ _ _, delivers_locked _ _ _ _ _⟩

/-- The state behind a SYSWR of a register other than tret (R360). -/
def syswrDone (s : State) (src : Src) : State :=
  let a := (lowWord (s.opA .sys)).toNat
  ((s.taken src).locked .sys [(.q, wideOfWord (s.sysGet s.cur a))]).sysPut s.cur a (s.scalarSrc src)

theorem syswr_writes {src : Src} {g : Guard} {s : State} (hi : ScalarIssues .sys src g s) (hp : s.tile.priv = true → privSrcOk src = true)
    (hm : s.tile.priv = true) (ha : (lowWord (s.opA .sys)).toNat < 4096) (hn : sysNumber (lowWord (s.opA .sys)).toNat = true)
    (hv : sysValueOk s.tile (lowWord (s.opA .sys)).toNat (s.scalarSrc src) = true) (h7 : (lowWord (s.opA .sys)).toNat ≠ 7) :
    exec (.syswr src g) s = .next (syswrDone s src) := by
  refine (runSys_act hi hp rfl (State.syswrCause_none (.inl hm) ha hn hv)).trans ?_
  rw [State.taken_opA, Nat.mod_eq_of_lt ha]
  dsimp only
  rw [if_neg h7, State.taken_sysGet, State.taken_cur, lowWord_wideOfWord, syswrDone]

theorem syswr_returns {src : Src} {g : Guard} {s : State} (hi : ScalarIssues .sys src g s) (hp : s.tile.priv = true → privSrcOk src = true)
    (ha : (lowWord (s.opA .sys)).toNat = 7) (hw : s.scalarSrc src = 0) (hm : s.tile.priv = true ∨ s.tile.inh = true) :
    exec (.syswr src g) s = .next (s.taken src).doTret := by
  have hv : sysValueOk s.tile (lowWord (s.opA .sys)).toNat (s.scalarSrc src) = true := by
    rw [ha, hw]; rcases hm with h | h <;> simp [sysValueOk, h]
  refine (runSys_act hi hp rfl (State.syswrCause_none (.inr ha) (by omega) (by rw [ha]; rfl) hv)).trans ?_
  rw [State.taken_opA, ha]
  rfl

/-! ### What a SYSWR leaves -/

theorem syswrDone_cur (s : State) (src : Src) : (syswrDone s src).cur = s.cur := by
  rw [syswrDone, State.sysPut_cur]
  exact State.taken_cur s src

theorem syswrDone_core (s : State) (src : Src) :
    (syswrDone s src).tile.core = ((s.taken src).locked .sys [(.q, wideOfWord (s.sysGet s.cur (lowWord (s.opA .sys)).toNat))]).tile.core := by
  rw [State.tile, syswrDone_cur, syswrDone, State.sysPut_core, ← State.taken_cur s src]
  rfl

theorem syswrDone_frame (s : State) (src : Src) :
    SameBytes s (syswrDone s src) ∧ SameRegisters s.tile.core (syswrDone s src).tile.core ∧
    Delivers s (syswrDone s src) .sys .q (wideOfWord (s.sysGet s.cur (lowWord (s.opA .sys)).toNat)) := by
  refine ⟨sameBytes_trans (sameBytes_takenLocked _ _ _ _) (sameBytes_sysPut _ _ _ _), ?_, (delivers_locked _ _ _ _ _).congr (syswrDone_core s src)⟩
  rw [syswrDone_core]
  exact sameRegisters_takenLocked _ _ _ _

/-- What the register that SYSWR wrote reads as (R34, R360, R361). -/
theorem syswrDone_reads {s : State} {src : Src} {a : Nat} (ha : (lowWord (s.opA .sys)).toNat = a) :
    ∃ u : State, syswrDone s src = u.sysPut s.cur a (s.scalarSrc src) ∧ u.tile.priv = s.tile.priv ∧ u.cur = s.cur ∧
      ∀ i, u.ctxAt? i = s.ctxAt? i := by
  refine ⟨(s.taken src).locked .sys [(.q, wideOfWord (s.sysGet s.cur a))], by rw [← ha]; rfl, ?_, State.taken_cur s src, fun i => ?_⟩
  · obtain ⟨fl, e⟩ := (s.taken src).locked_tile .sys [(.q, wideOfWord (s.sysGet s.cur a))]
    rw [e, State.taken_tile]
    rfl
  · unfold State.taken State.consume; split <;> rfl

theorem syswrDone_tcause {s : State} {src : Src} (hm : s.tile.priv = true) (ha : (lowWord (s.opA .sys)).toNat = 0) :
    (syswrDone s src).tile.tv = (s.scalarSrc src).getLsbD 15 ∧ (syswrDone s src).tile.inh = (s.scalarSrc src).getLsbD 14 ∧
    (syswrDone s src).tile.nest = (s.scalarSrc src).getLsbD 13 ∧ (syswrDone s src).tile.code = (s.scalarSrc src).extractLsb' 0 8 ∧
    (syswrDone s src).tile.priv = true := by
  obtain ⟨u, e, hu, hc, -⟩ := syswrDone_reads (src := src) ha
  have ht : (syswrDone s src).tile = u.tile.setTcause (s.scalarSrc src) := by
    rw [e, ← hc]; exact State.modTileAt_tileAt u u.cur _
  rw [ht]
  exact ⟨rfl, rfl, rfl, rfl, hu.trans hm⟩

theorem syswrDone_sysGet {s : State} {src : Src} {a : Nat} {v : Word} (ha : (lowWord (s.opA .sys)).toNat = a)
    (h : ∀ u : State, (u.sysPut s.cur a (s.scalarSrc src)).sysGet s.cur a = v) : (syswrDone s src).sysGet s.cur a = v := by
  obtain ⟨u, e, -⟩ := syswrDone_reads (src := src) ha
  rw [e, h]

theorem syswrDone_tile (s : State) (src : Src) : (syswrDone s src).tile = (syswrDone s src).tileAt s.cur := by
  rw [State.tile, syswrDone_cur]

theorem syswrDone_ctx (s : State) (src : Src) : (syswrDone s src).ctx = (syswrDone s src).ctxAt s.cur.ctx := by
  rw [State.ctx, syswrDone_cur]

end Sys2Proof.Claims

open Sys2Proof Sys2Proof.Machine Sys2Proof.Claims

/-- Settles O41: each clause is the check of SYSRD or of SYSWR and, where that raises nothing, the operation's effect. -/
theorem systemRegisters : Obligations.SystemRegisters := by
  unfold Obligations.SystemRegisters
  intro src g s hi hp
  refine ⟨fun hu hw hn => sysrd_delivers hi hp hu hw hn, fun h hw => runSys_trap hi hp rfl (State.sysrdCause_denied h hw),
    fun h hw => runSys_trap hi hp rfl (State.sysrdCause_bad h hw), fun hm ha hn hv h7 => ?_,
    fun ha hw hm => syswr_returns hi hp ha hw hm, fun h ha => runSys_trap hi hp rfl (State.syswrCause_denied h ha),
    fun h hb => runSys_trap hi hp rfl (State.syswrCause_bad h hb)⟩
  obtain ⟨hb, hr, hd⟩ := syswrDone_frame s src
  refine ⟨syswrDone s src, syswr_writes hi hp hm ha hn hv h7, hb, hr, hd, fun h => syswrDone_tcause hm h, fun h => ?_, ?_, fun h => ?_,
    fun h => ?_, fun hc => ⟨fun h => ?_, fun h => ?_⟩⟩
  · rw [syswrDone_tile]; exact syswrDone_sysGet h fun u => u.sysPut_sysGet_tepc _ _
  · rintro ⟨i, h⟩; rw [h]; exact syswrDone_sysGet h fun u => u.sysPut_sysGet_tinfo _ i _
  · rw [syswrDone_tile]; exact syswrDone_sysGet h fun u => u.sysPut_sysGet_savebase _ _
  · rw [syswrDone_tile]; exact syswrDone_sysGet h fun u => u.sysPut_sysGet_stubbase _ _
  · obtain ⟨u, e, -, -, hu⟩ := syswrDone_reads (src := src) h
    rw [syswrDone_ctx, e]; exact State.sysPut_tvec (hu _ ▸ hc) _
  · obtain ⟨u, e, -, -, hu⟩ := syswrDone_reads (src := src) h
    rw [syswrDone_ctx, e]; exact State.sysPut_debug (hu _ ▸ hc) _

end

section
/-! PROOF. The monitor's calls: what a refusal leaves, what the change of a table entry does to memory and to the page requests, and O53. -/

namespace Sys2Proof.Machine

/-! ### The table that a new address space takes -/

/-- The choice of a table's frame draws two free values and changes nothing else (log 16). -/
theorem State.takeTable_snd (s : State) : s.takeTable.2 = { s with free := s.free + 2 } := rfl

theorem State.zeroRange_memByte (s : State) (a n : Nat) {i : Nat} (h : i < n) : (s.zeroRange a n).memByte (a + i) = 0 :=
  cellsGet_filter_out _ _ _ fun _ => by simp [h]

/-! ### The change of an entry (R407) -/

/-- What the contexts' memory masks count changes no memory, no tile, no address space and no result. -/
theorem State.touchSpace_frame (s : State) (asid : BitVec 16) (pa : Nat) :
    (s.touchSpace asid pa).mem = s.mem ∧ (s.touchSpace asid pa).tiles = s.tiles ∧ (s.touchSpace asid pa).asids = s.asids ∧
    (s.touchSpace asid pa).a0 = s.a0 := by
  unfold State.touchSpace
  split <;> exact ⟨rfl, rfl, rfl, rfl⟩

/-- The leaves of the package are those of its address spaces in memory. -/
theorem State.allLeaves_congr {s t : State} (hm : t.mem = s.mem) (ha : t.asids = s.asids) : t.allLeaves = s.allLeaves := by
  unfold State.allLeaves
  rw [hm, ha]

/-- The new leaves that a change counts, in the contexts' memory masks. -/
theorem State.foldl_touchSpace_frame (ls : List Leaf) (s : State) :
    let t := ls.foldl (fun s l => s.touchSpace l.asid l.frame) s
    t.mem = s.mem ∧ t.tiles = s.tiles ∧ t.asids = s.asids ∧ t.a0 = s.a0 := by
  refine ⟨foldl_keeps State.mem ?_ ls s, foldl_keeps State.tiles ?_ ls s, foldl_keeps State.asids ?_ ls s, foldl_keeps State.a0 ?_ ls s⟩ <;>
  · intro s l
    obtain ⟨hm, ht, ha, h0⟩ := s.touchSpace_frame l.asid l.frame
    assumption

/-- The pages that a change takes out of the dies' caches (R407). -/
theorem State.foldl_tlbDrop_frame (ls : List Leaf) (s : State) :
    let t := ls.foldl (fun s l => s.tlbDrop { asid := l.asid, va := l.va }) s
    t.mem = s.mem ∧ t.tiles = s.tiles ∧ t.asids = s.asids ∧ t.a0 = s.a0 ∧ t.pageReqs = s.pageReqs := by
  refine ⟨foldl_keeps State.mem ?_ ls s, foldl_keeps State.tiles ?_ ls s, foldl_keeps State.asids ?_ ls s, foldl_keeps State.a0 ?_ ls s,
    foldl_keeps State.pageReqs ?_ ls s⟩ <;> exact fun _ _ => rfl

/-- The change of an entry of 64 bits writes it, and changes no tile, no address space and no result (R401). -/
theorem State.changeEntry_frame (s : State) (r : PageReq) (pa : Nat) {e : Nat} (he : e < 2 ^ 64) :
    (s.changeEntry r pa e).mem = (s.memWrite pa (bytesOf e 8)).mem ∧ (s.changeEntry r pa e).tiles = s.tiles ∧
    (s.changeEntry r pa e).asids = s.asids ∧ (s.changeEntry r pa e).a0 = s.a0 := by
  have hw : s.writeEntry pa (fun _ => e) = s.memWrite pa (bytesOf e 8) := by
    simp only [State.writeEntry, Nat.mod_eq_of_lt he]
  unfold State.changeEntry
  rw [hw]
  dsimp only
  obtain ⟨hm, ht, ha, h0, -⟩ := State.foldl_tlbDrop_frame (lostLeaves s.allLeaves (s.memWrite pa (bytesOf e 8)).allLeaves) _
  rw [hm, ht, ha, h0]
  exact State.foldl_touchSpace_frame _ _

/-- Every leaf that the change took away, or that lost something by it, asks for its revocation (R407). -/
theorem State.changeEntry_revokes (s : State) (r : PageReq) (pa : Nat) {e : Nat} (he : e < 2 ^ 64) :
    ∀ l ∈ lostLeaves s.allLeaves (s.changeEntry r pa e).allLeaves, l.revocation ∈ (s.changeEntry r pa e).pageReqs := by
  obtain ⟨hm, -, ha, -⟩ := s.changeEntry_frame r pa he
  have hl : (s.changeEntry r pa e).allLeaves = (s.writeEntry pa (fun _ => e)).allLeaves :=
    State.allLeaves_congr (hm.trans (by simp only [State.writeEntry, Nat.mod_eq_of_lt he])) ha
  intro l h
  rw [hl] at h
  unfold State.changeEntry
  dsimp only
  rw [(State.foldl_tlbDrop_frame _ _).2.2.2.2]
  exact List.mem_append_left _ (List.mem_append_right _ (List.mem_map_of_mem h))

theorem entryWord_lt (e : Word) : entryWord e < 2 ^ 64 := BitVec.isLt _

end Sys2Proof.Machine

namespace Sys2Proof.Claims

open Sys2Proof.Machine

/-! ### A refused call and a submitted change -/

/-- A call was refused: a negative result, and no effect (R436). -/
def Refused (s t : State) : Prop :=
  t.a0.getLsbD 63 = true ∧ t.mem = s.mem ∧ t.asids = s.asids ∧ t.images = s.images ∧ t.checked = s.checked ∧ t.buf = s.buf ∧
  t.tiles = s.tiles

theorem refused_refuseCall (s : State) : Refused s s.refuseCall :=
  ⟨by simp [State.refuseCall], rfl, rfl, rfl, rfl, rfl, rfl⟩

/-- A call that submits a change of an entry makes it at once, or in its turn (R407, R413). -/
theorem changesEntry_submit {s : State} {r : PageReq} {pa e : Nat} {i : Instr} (he : e < 2 ^ 64)
    (h : exec i s = .next ((s.callResult 0).submitChange r pa e)) : ChangesEntry s r pa e i := by
  unfold ChangesEntry
  dsimp only
  generalize hu : ({ s with a0 := 0, pageReqs := s.pageReqs ++ [r] } : State) = u
  have hsub : (s.callResult 0).submitChange r pa e = if r ∉ s.pageReqs && u.firstOfPage r then u.changeEntry r pa e else u := hu ▸ rfl
  rw [h, hsub]
  refine ⟨fun hr hf => ?_, fun hn => ?_⟩
  · obtain ⟨hm, ht, -, ha⟩ := u.changeEntry_frame r pa he
    refine ⟨_, by rw [if_pos (by simp [hr, hf])], ?_⟩
    have hl := u.changeEntry_revokes r pa he
    subst hu
    exact ⟨ha, hm, ht, hl⟩
  · rw [if_neg]
    rcases hn with hn | hn <;> simp [hn]

/-! ### The calls, each where it goes through and where it is refused -/

theorem asidnew_refused {s : State} (part : BitVec 4) (h : 4096 ≤ s.asids.length) : exec (.asidnew part) s = .next s.refuseCall := by
  change execAsidnew part s = _
  rw [execAsidnew, if_pos h]

/-- ASIDNEW takes the first free identifier, where a frame is found for its table (R400). -/
theorem asidnew_makes {s v : State} (part : BitVec 4) {n f : Nat} (hl : s.asids.length < 4096)
    (hn : (List.range 65536).find? (fun n => !s.asids.any (fun a => a.asid.toNat = n)) = some n) (ht : s.takeTable = (some f, v)) :
    exec (.asidnew part) s = .next ({ v.zeroRange f (2 ^ 14) with
      asids := { asid := BitVec.ofNat 16 n, part := part, root := f } :: v.asids }.callResult n) := by
  change execAsidnew part s = _
  rw [execAsidnew, if_neg (by omega)]
  simp only [hn, ht]
  rfl

theorem asidnew_finds_none {s v : State} (part : BitVec 4) {n : Nat} (hl : s.asids.length < 4096)
    (hn : (List.range 65536).find? (fun n => !s.asids.any (fun a => a.asid.toNat = n)) = some n) (ht : s.takeTable = (none, v)) :
    exec (.asidnew part) s = .next v.refuseCall := by
  change execAsidnew part s = _
  rw [execAsidnew, if_neg (by omega)]
  simp only [hn, ht]

/-- ASIDNEW where an identifier is free: its answer is that of the choice of a table's frame (R400). -/
theorem asidnew_answers {s : State} (part : BitVec 4) (hl : s.asids.length < 4096) (hf : ∃ n, n < 65536 ∧ ∀ a ∈ s.asids, a.asid.toNat ≠ n) :
    ∃ t, exec (.asidnew part) s = .next t ∧
      (∀ root, s.takeTable.1 = some root → ∃ n, n < 65536 ∧ t.a0 = BitVec.ofNat 64 n ∧ (∀ a ∈ s.asids, a.asid.toNat ≠ n) ∧
        t.asids = { asid := BitVec.ofNat 16 n, part := part, root := root } :: s.asids ∧ ∀ i, i < 2 ^ 14 → t.memByte (root + i) = 0) ∧
      (s.takeTable.1 = none → ∃ u, exec (.asidnew part) s = .next u ∧ Refused s u) := by
  obtain ⟨n, hn⟩ : ∃ n, (List.range 65536).find? (fun n => !s.asids.any (fun a => decide (a.asid.toNat = n))) = some n := by
    obtain ⟨n, hn, h⟩ := hf
    exact Option.isSome_iff_exists.mp (List.find?_isSome.mpr ⟨n, List.mem_range.mpr hn, by simpa using h⟩)
  have hlt : n < 65536 := List.mem_range.mp (List.mem_of_find?_eq_some hn)
  have hfree : ∀ a ∈ s.asids, a.asid.toNat ≠ n := by simpa using List.find?_some hn
  have hv := s.takeTable_snd
  rcases ht : s.takeTable with ⟨_ | f, v⟩ <;> rw [ht] at hv
  · obtain rfl : v = _ := hv
    have hx := asidnew_finds_none part hl hn ht
    exact ⟨_, hx, fun _ h => (Option.some_ne_none _ h.symm).elim, fun _ => ⟨_, hx, refused_refuseCall _⟩⟩
  · obtain rfl : v = _ := hv
    refine ⟨_, asidnew_makes part hl hn ht, fun root h => ?_, fun h => (Option.some_ne_none _ h).elim⟩
    obtain rfl := Option.some.inj h
    exact ⟨n, hlt, rfl, hfree, rfl, fun i hi => State.zeroRange_memByte _ f _ hi⟩

theorem asidfree_frees {s : State} {asid : BitVec 16} (hc : ∀ c ∈ s.ctxs, c.asid ≠ asid) (ha : ∃ a ∈ s.asids, a.asid = asid) :
    ∃ t, exec (.asidfree asid) s = .next t ∧ t.a0 = 0 ∧ t.asids = s.asids.filter (fun a => a.asid ≠ asid) ∧ t.mem = s.mem := by
  have h1 : s.ctxs.any (fun c => decide (c.asid = asid)) = false := by simpa using hc
  have h2 : s.asids.any (fun a => decide (a.asid = asid)) = true := by simpa using ha
  exact ⟨_, if_neg (by simp [h1, h2]), rfl, rfl, rfl⟩

theorem asidfree_refused {s : State} {asid : BitVec 16} (hc : ∃ c ∈ s.ctxs, c.asid = asid) :
    exec (.asidfree asid) s = .next s.refuseCall := by
  have h1 : s.ctxs.any (fun c => decide (c.asid = asid)) = true := by simpa using hc
  exact if_pos (by simp [h1])

theorem tableset_changes {s : State} {pa : BitVec 50} {e : Word} (h8 : pa.toNat % 8 = 0)
    (ht : tableFrameOk (pa.toNat / 2 ^ 14 * 2 ^ 14) = true) (he : tableEntryOk e.toNat = true) (hp : s.pointsTooLow pa.toNat e.toNat = false) :
    ChangesEntry s { pg := { asid := 0, va := 0 }, work := .change pa.toNat (BitVec.ofNat 64 (entryWord e)), old := none, begun := false,
                     waiting := [] } pa.toNat (entryWord e) (.tableset pa e) :=
  changesEntry_submit (entryWord_lt e) (if_neg (by simp [-Nat.reducePow, h8, ht, he, hp]))

theorem tableset_refused {s : State} {pa : BitVec 50} {e : Word} (h : pa.toNat % 8 ≠ 0 ∨ tableFrameOk (pa.toNat / 2 ^ 14 * 2 ^ 14) = false ∨
    tableEntryOk e.toNat = false ∨ s.pointsTooLow pa.toNat e.toNat = true) : exec (.tableset pa e) s = .next s.refuseCall := by
  refine if_pos ?_
  rcases h with h | h | h | h <;> simp [-Nat.reducePow, h]

theorem leafset_changes {s : State} {part : BitVec 4} {pg : PageRef} {pa : BitVec 50} {e : Word} {a : AddrSpace} {level : Nat}
    (ha : s.asids.find? (fun a => a.asid = pg.asid && a.part = part) = some a) (hl : entryLevel s.mem pg.va pa.toNat 4 a.root = some level)
    (ok : s.leafEntryOk part level (entryWord e) = true) :
    ChangesEntry s { pg := pg, work := .change pa.toNat (BitVec.ofNat 64 (entryWord e)), old := none, begun := false, waiting := [] }
      pa.toNat (entryWord e) (.leafset part pg pa e) :=
  changesEntry_submit (entryWord_lt e) (by
    change execLeafset part pg pa e s = _
    simp only [execLeafset, ha, hl, ok]
    rfl)

/-- LEAFSET is refused where the partition has no such address space, the walk does not read the entry, or it may not stand as a leaf
there (R402, R436). -/
theorem leafset_refused {s : State} {part : BitVec 4} {pg : PageRef} {pa : BitVec 50} {e : Word}
    (h : ∀ a, s.asids.find? (fun a => a.asid = pg.asid && a.part = part) = some a →
      ∀ level, entryLevel s.mem pg.va pa.toNat 4 a.root = some level → s.leafEntryOk part level (entryWord e) = false) :
    exec (.leafset part pg pa e) s = .next s.refuseCall := by
  change execLeafset part pg pa e s = _
  unfold execLeafset
  split
  · rfl
  · next a ha =>
    split
    · rfl
    · next level hl => simp [h a ha level hl]

/-- What IMGCHECK keeps of a groomer or patrol image that verifies (R437, R439). -/
def imageRecord (img : List Byte) : RunImage :=
  { ty := BitVec.ofNat 16 (imgWord img 4 2), version := BitVec.ofNat 32 (imgWord img 8 4),
    digest := BitVec.ofNat 384 (ofBytes (Config.digest img)) }

theorem imgcheck_eq {s : State} {img : List Byte} (h : s.imageOk img = true) :
    exec (.imgcheck img) s = .next ({ s with
      checked := if (imageRecord img).ty = 3 || (imageRecord img).ty = 4 then
        imageRecord img :: s.checked.filter (fun x => x.ty ≠ (imageRecord img).ty) else s.checked }.callResult 0) :=
  if_neg (by simp [h])

/-- The type of an image that verifies is at most 6, so that its 16 bits tell it apart (R437). -/
theorem imageRecord_ty {s : State} {img : List Byte} (h : s.imageOk img = true) {n : Nat} (hn : n ≤ 6) :
    (imageRecord img).ty = BitVec.ofNat 16 n ↔ imgWord img 4 2 = n := by
  have hty : imgWord img 4 2 ≤ 6 := by
    simp only [State.imageOk, Bool.and_eq_true, decide_eq_true_eq] at h
    omega
  refine ⟨fun e => ?_, fun e => congrArg (BitVec.ofNat 16) e⟩
  have he := congrArg BitVec.toNat e
  simp only [imageRecord, BitVec.toNat_ofNat] at he
  omega

/-- IMGCHECK of an image that verifies: a groomer or patrol image stands for the next reset of its cores (R422, R437). -/
theorem imgcheck_passes {s : State} {img : List Byte} (h : s.imageOk img = true) :
    ∃ t, exec (.imgcheck img) s = .next t ∧ t.a0 = 0 ∧ t.mem = s.mem ∧
      (imgWord img 4 2 = 3 ∨ imgWord img 4 2 = 4 → ∃ r ∈ t.checked, r.ty = BitVec.ofNat 16 (imgWord img 4 2) ∧
        r.version = BitVec.ofNat 32 (imgWord img 8 4) ∧ r.digest = BitVec.ofNat 384 (ofBytes (Config.digest img))) ∧
      (imgWord img 4 2 ≠ 3 → imgWord img 4 2 ≠ 4 → t.checked = s.checked) ∧ t.images = s.images := by
  have h3 : (imageRecord img).ty = 3#16 ↔ imgWord img 4 2 = 3 := imageRecord_ty h (n := 3) (by omega)
  have h4 : (imageRecord img).ty = 4#16 ↔ imgWord img 4 2 = 4 := imageRecord_ty h (n := 4) (by omega)
  refine ⟨_, imgcheck_eq h, rfl, rfl, fun h34 => ⟨imageRecord img, ?_, rfl, rfl, rfl⟩, fun n3 n4 => ?_, rfl⟩
  · simp [State.callResult, h3, h4, h34]
  · simp [State.callResult, h3, h4, n3, n4]

theorem imgcheck_refused {s : State} {img : List Byte} (h : s.imageOk img = false) : exec (.imgcheck img) s = .next s.refuseCall :=
  if_pos (by simp [h])

end Sys2Proof.Claims

open Sys2Proof Sys2Proof.Machine Sys2Proof.Claims

/-- Settles O53: each call, where it goes through and where it is refused. -/
theorem monitorCalls : Obligations.MonitorCalls := by
  unfold Obligations.MonitorCalls
  intro s
  have refuse {i : Instr} (h : exec i s = .next s.refuseCall) : ∃ t, exec i s = .next t ∧ Refused s t := ⟨_, h, refused_refuseCall s⟩
  refine ⟨fun part hl hf => asidnew_answers part hl hf, fun part h => refuse (asidnew_refused part h), fun _ hc ha => asidfree_frees hc ha,
    fun _ hc => refuse (asidfree_refused hc), fun pa e => ⟨fun h8 ht he hp => tableset_changes h8 ht he hp, fun h => refuse (tableset_refused h)⟩,
    fun part pg pa e a ha => ⟨fun level hl => ⟨fun ok => leafset_changes ha hl ok, fun bad => refuse (leafset_refused ?_)⟩,
      fun hn => refuse (leafset_refused ?_)⟩, fun part pg pa e hn => refuse (leafset_refused ?_), fun _ h => imgcheck_passes h,
    fun _ h => refuse (imgcheck_refused h), fun h => if_neg (by simpa using h), fun h => refuse (if_pos h)⟩
  · intro b hb l' hl'
    obtain rfl := Option.some.inj (ha.symm.trans hb)
    exact Option.some.inj (hl.symm.trans hl') ▸ bad
  · intro b hb l' hl'
    obtain rfl := Option.some.inj (ha.symm.trans hb)
    exact absurd (hn.symm.trans hl') (by simp)
  · intro b hb
    have hp := List.find?_some hb
    simp only [Bool.and_eq_true, decide_eq_true_eq] at hp
    exact absurd hp.2 (hn b (List.mem_of_find?_eq_some hb) hp.1)

end

section
/-! PROOF. The patrol core's commands: what RESUME, STUB, ACK and ABANDON do to each tile of a tow set. -/

namespace Sys2Proof.Machine

/-! ### Tow sets -/

/-- The tow set follows from the tasks of the tiles (R51). -/
theorem State.towSet_congr {s t : State} (h : ∀ j, (t.tileAt j).task = (s.tileAt j).task) (k : TileKey) : t.towSet k = s.towSet k := by
  unfold State.towSet
  simp only [h]

/-! ### Thawing (R25, R366, R370) -/

/-- The owed events count in the live state and in the mark's copy, and nothing else changes (R143). -/
theorem Tile.settleOwed_eq (t : Tile) : ∃ c m e, t.settleOwed = { t with core := c, mark := m, owed := e } := by
  unfold Tile.settleOwed
  split
  · exact ⟨t.core, t.mark, t.owed, rfl⟩
  · exact ⟨_, _, _, rfl⟩

theorem Tile.settleOwed_frame (t : Tile) :
    t.settleOwed.scratch = t.scratch ∧ t.settleOwed.heldCauses = t.heldCauses ∧ t.settleOwed.task = t.task ∧
    t.settleOwed.frozen = t.frozen ∧ t.settleOwed.tv = t.tv ∧ t.settleOwed.gated = t.gated ∧ t.settleOwed.under = t.under := by
  obtain ⟨c, m, e, h⟩ := t.settleOwed_eq
  rw [h]
  exact ⟨rfl, rfl, rfl, rfl, rfl, rfl, rfl⟩

theorem satCount_zero (c : BitVec 32) : satCount c 0 = c := by
  rw [satCount, Nat.add_zero, Nat.min_eq_left (by omega), BitVec.ofNat_toNat, BitVec.setWidth_eq]

theorem EvCount.of_zero (i : Nat) : EvCount.zero.of i = 0 := by
  unfold EvCount.of
  split <;> rfl

/-- The owed events change no register but the counters, which they add to (R143). -/
theorem Tile.settleOwed_core (t : Tile) :
    ∃ ev, t.settleOwed.core = { t.core with ev := ev } ∧ ∀ i : Fin 16, ev.get i = satCount (t.core.ev.get i) (t.owed.of i.val) := by
  unfold Tile.settleOwed
  split
  · next h =>
    refine ⟨t.core.ev, rfl, fun i => ?_⟩
    rw [h, EvCount.of_zero, satCount_zero]
  · exact ⟨_, rfl, fun i => Vector.getElem_ofFn _⟩

theorem Tile.uncover_frame (t : Tile) :
    t.uncover.scratch = t.scratch ∧ t.uncover.heldCauses = t.heldCauses ∧ t.uncover.task = t.task ∧ t.uncover.frozen = t.frozen := by
  unfold Tile.uncover
  split <;> exact ⟨rfl, rfl, rfl, rfl⟩

theorem Tile.thaw_frame (t : Tile) :
    t.thaw.scratch = t.scratch ∧ t.thaw.heldCauses = t.heldCauses ∧ t.thaw.task = t.task ∧ t.thaw.frozen = false := by
  unfold Tile.thaw
  obtain ⟨h1, h2, h3, h4⟩ := Tile.uncover_frame { t.settleOwed with
    frozen := false, tv := false, core := { t.settleOwed.core with seq := { t.core.seq with pc := t.tepc.truncate 56 } } }
  obtain ⟨g1, g2, g3, -⟩ := t.settleOwed_frame
  exact ⟨h1.trans g1, h2.trans g2, h3.trans g3, h4⟩

/-- A thaw that no service cause's registers lie under: V is clear, and the tile goes on at tepc (R370). -/
theorem Tile.thaw_eq {t : Tile} (h : t.under = none) :
    t.thaw = { t.settleOwed with
      frozen := false, tv := false, core := { t.settleOwed.core with seq := { t.core.seq with pc := t.tepc.truncate 56 } } } := by
  have hu : t.settleOwed.under = none := t.settleOwed_frame.2.2.2.2.2.2.trans h
  unfold Tile.thaw Tile.uncover
  simp only [hu]

/-- A tile that holds no cause takes none (R366). -/
theorem State.takeHeld_none {s : State} {k : TileKey} (h : (s.tileAt k).heldCauses = []) : s.takeHeld k = s := by
  simp [State.takeHeld, State.settlePassed, firstHeld, h]

/-- A tow set that holds no further cause thaws, and no more (R370). -/
theorem State.thawSet_eq {s : State} {k : TileKey} (h : ∀ j ∈ s.towSet k, (s.tileAt j).heldCauses = []) :
    s.thawSet k = (s.towSet k).foldl (fun s j => s.modTileAt j Tile.thaw) s := by
  unfold State.thawSet
  dsimp only
  rw [State.towSet_congr (State.foldl_modTileAt_keeps Tile.task (fun t => t.thaw_frame.2.2.1) (s.towSet k) s)]
  refine foldl_stays fun j hj => ?_
  rw [State.takeHeld_none, ite_self]
  rw [State.foldl_modTileAt_keeps Tile.heldCauses (fun t => t.thaw_frame.2.1), h j hj]

/-! ### Ending a tile's task (R370) -/

/-- A tile's paths told apart from now on: only their clocks change. -/
theorem Tile.bumpAll_eq (t : Tile) (k : TileKey) : ∃ v, t.bumpAll k = { t with vcs := v } := by
  have bump : ∀ (u : Tile) (p : Nat), ∃ v, u.bump k p = { u with vcs := v } := fun u p => by
    unfold Tile.bump Tile.setVc
    split
    · exact ⟨_, rfl⟩
    · exact ⟨u.vcs, rfl⟩
  have bumps : ∀ (ps : List Nat) (u : Tile), ∃ v, ps.foldl (fun t p => t.bump k p) u = { u with vcs := v } := fun ps => by
    induction ps with
    | nil => exact fun u => ⟨u.vcs, rfl⟩
    | cons p ps ih =>
      intro u
      obtain ⟨v, hv⟩ := bump u p
      obtain ⟨w, hw⟩ := ih (u.bump k p)
      exact ⟨w, by rw [List.foldl_cons, hw, hv]⟩
  exact bumps _ t

/-- What the clocks of a tile's paths do not decide is as it was behind the end of a task. -/
theorem State.closeTask_keeps {β : Type} (g : Tile → β) (h : ∀ (t : Tile) v, g { t with vcs := v } = g t) (s : State) (k j : TileKey) :
    g ((s.closeTask k).tileAt j) = g (s.tileAt j) := by
  unfold State.closeTask
  split
  · rfl
  · exact State.modTileAt_keeps (f := fun t => t.bumpAll k) g (fun t => by obtain ⟨v, e⟩ := t.bumpAll_eq k; rw [e, h]) s k j

/-- The state in which a tile is abandoned: its task has been closed, and the holds on its cluster's cells are released. -/
def State.beforeAbandon (s : State) (k : TileKey) : State :=
  (s.closeTask k).mapTiles (fun j t => if j.ctx = k.ctx && j.die = k.die then t.unhold k else t)

theorem State.beforeAbandon_keeps {β : Type} (g : Tile → β) (hv : ∀ (t : Tile) v, g { t with vcs := v } = g t)
    (hh : ∀ (t : Tile) l, g { t with held := l } = g t) (s : State) (k j : TileKey) : g ((s.beforeAbandon k).tileAt j) = g (s.tileAt j) := by
  refine (State.mapTiles_keeps g (fun i t => ?_) _ j).trans (State.closeTask_keeps g hv s k j)
  split
  · exact hh t _
  · rfl

theorem State.abandonAt_self (s : State) (k : TileKey) : (s.abandonAt k).tileAt k = ((s.beforeAbandon k).tileAt k).abandon :=
  State.modTileAt_tileAt (s.beforeAbandon k) k Tile.abandon

theorem State.abandonAt_other (s : State) {k j : TileKey} (h : j ≠ k) : (s.abandonAt k).tileAt j = (s.beforeAbandon k).tileAt j :=
  State.modTileAt_tileAt_ne (s.beforeAbandon k) Tile.abandon h

theorem State.closeTask_mem (s : State) (k : TileKey) : (s.closeTask k).mem = s.mem ∧ (s.closeTask k).cur = s.cur := by
  unfold State.closeTask
  split <;> exact ⟨rfl, rfl⟩

/-- A tile that nothing runs on: no task, no region, nothing in flight, and no trap (R370). -/
def Tile.Ended (t : Tile) : Prop := t.task = none ∧ t.frozen = false ∧ t.tv = false ∧ t.gated = [] ∧ t.core.flight = []

/-- An abandoned tile has ended, with the registers and the scratchpad it had, and then its owed events count (R143, R370). -/
theorem Tile.abandon_eq (t : Tile) : ∃ u : Tile, t.abandon = u.settleOwed ∧ u.Ended ∧ u.core.m = t.core.m ∧ u.core.o = t.core.o ∧
    u.core.p = t.core.p ∧ u.scratch = t.scratch := ⟨_, rfl, ⟨rfl, rfl, rfl, rfl, rfl⟩, rfl, rfl, rfl, rfl⟩

theorem Tile.abandon_ended (t : Tile) : t.abandon.Ended := by
  obtain ⟨u, e, ⟨htask, hfrozen, htv, hgated, hflight⟩, -⟩ := t.abandon_eq
  obtain ⟨-, -, stask, sfrozen, stv, sgated, -⟩ := u.settleOwed_frame
  obtain ⟨ev, ec, -⟩ := u.settleOwed_core
  rw [e]
  exact ⟨stask.trans htask, sfrozen.trans hfrozen, stv.trans htv, sgated.trans hgated, by rw [ec]; exact hflight⟩

/-- The register files of a tile stand when its task is abandoned (R370). -/
theorem Tile.abandon_files (t : Tile) : t.abandon.core.m = t.core.m ∧ t.abandon.core.o = t.core.o ∧ t.abandon.core.p = t.core.p ∧
    t.abandon.scratch = t.scratch := by
  obtain ⟨u, e, -, hm, ho, hp, hs⟩ := t.abandon_eq
  obtain ⟨ev, ec, -⟩ := u.settleOwed_core
  rw [e, ec]
  exact ⟨hm, ho, hp, u.settleOwed_frame.1.trans hs⟩

theorem State.abandonAt_keeps_ended (s : State) (j k : TileKey) (h : (s.tileAt j).Ended) : ((s.abandonAt k).tileAt j).Ended := by
  by_cases e : j = k
  · subst e; rw [State.abandonAt_self]; exact Tile.abandon_ended _
  · rw [State.abandonAt_other _ e, State.beforeAbandon_keeps Tile.Ended (fun _ _ => rfl) (fun _ _ => rfl)]
    exact h

end Sys2Proof.Machine

namespace Sys2Proof.Claims

open Sys2Proof.Machine

/-! ### The four commands -/

theorem sameBytes_foldl_modTileAt {f : Tile → Tile} (h : ∀ t, (f t).scratch = t.scratch) (l : List TileKey) (s : State) :
    SameBytes s (l.foldl (fun s j => s.modTileAt j f) s) := sameBytes_foldl (fun s j => sameBytes_modTileAt s j f (h _)) l s

/-- The tile of the step behind a change of it alone. -/
theorem tile_foldl_singleton (f : Tile → Tile) (s : State) : ([s.cur].foldl (fun s j => s.modTileAt j f) s).tile = f s.tile :=
  State.modTileAt_tileAt s s.cur f

theorem resumeCompletes : ResumeCompletes := by
  intro s hf hh
  have hx : exec .resume s = .next ((s.towSet s.cur).foldl (fun s j => s.modTileAt j Tile.thaw) s) := by
    rw [← State.thawSet_eq hh]
    exact congrArg _ (if_neg (by rw [show (s.tileAt s.cur).frozen = true from hf]; decide))
  refine ⟨_, hx, sameBytes_foldl_modTileAt (fun t => t.thaw_frame.1) _ s, fun k hk => ?_, fun h1 hu => ?_⟩
  · obtain ⟨n, e⟩ := State.foldl_modTileAt_mem Tile.thaw s hk
    rw [e]
    exact (Tile.thaw_frame _).2.2.2
  · obtain ⟨ev, ec, hev⟩ := s.tile.settleOwed_core
    rw [h1, tile_foldl_singleton, Tile.thaw_eq hu, ec]
    exact ⟨rfl, rfl, ⟨rfl, rfl, rfl, rfl, rfl, rfl, rfl, rfl, rfl⟩, hev⟩

theorem stubCompletes : StubCompletes := by
  intro s e hf
  refine ⟨(s.towSet s.cur).foldl (fun s j => s.modTileAt j (fun t => t.enterStub e)) s,
    congrArg _ (if_neg (by rw [show (s.tileAt s.cur).frozen = true from hf]; decide)),
    sameBytes_foldl_modTileAt (f := fun t => t.enterStub e) (fun _ => rfl) _ s, fun k hk => ?_, fun h1 => ?_⟩
  · obtain ⟨n, en⟩ := State.foldl_modTileAt_mem (fun t => t.enterStub e) s hk
    rw [en, ← iterate_keeps Tile.stubbase (f := fun t => t.enterStub e) (fun _ => rfl) n (s.tileAt k)]
    exact ⟨rfl, rfl, rfl⟩
  · rw [h1, tile_foldl_singleton]
    exact ⟨⟨rfl, rfl, rfl, rfl, rfl, rfl, rfl, rfl, rfl⟩, rfl⟩

/-- What ACK does to a tile (R370). -/
def ackTile (t : Tile) : Tile := { t with tv := false }

theorem ackCompletes : AckCompletes := by
  intro s
  refine ⟨(s.towSet s.cur).foldl (fun s j => s.modTileAt j ackTile) s, rfl, sameBytes_foldl_modTileAt (f := ackTile) (fun _ => rfl) _ s,
    fun k hk => ?_, fun k => ⟨?_, ?_⟩, fun h1 => ?_⟩
  · obtain ⟨n, e⟩ := State.foldl_modTileAt_mem ackTile s hk
    rw [e]
    rfl
  · exact State.foldl_modTileAt_keeps (f := ackTile) Tile.core (fun _ => rfl) _ s k
  · exact State.foldl_modTileAt_keeps (f := ackTile) Tile.frozen (fun _ => rfl) _ s k
  · rw [h1]
    rfl

theorem sameBytes_abandonAt (s : State) (k : TileKey) : SameBytes s (s.abandonAt k) := by
  refine ⟨fun pa => congrArg (fun m => cellsGet m pa) (s.closeTask_mem k).1, fun j off => ?_⟩
  have hb : ((s.beforeAbandon k).tileAt j).scratch = (s.tileAt j).scratch :=
    State.beforeAbandon_keeps Tile.scratch (fun _ _ => rfl) (fun _ _ => rfl) s k j
  by_cases e : j = k
  · subst e; rw [State.abandonAt_self, Tile.byte, (Tile.abandon_files _).2.2.2, hb]; rfl
  · rw [State.abandonAt_other _ e, Tile.byte, hb]; rfl

theorem abandonCompletes : AbandonCompletes := by
  intro s
  refine ⟨_, rfl, sameBytes_foldl sameBytes_abandonAt _ s, ?_, fun h1 => ?_⟩
  · exact foldl_makes (P := fun k (s : State) => (s.tileAt k).Ended) (fun s k => s.abandonAt_self k ▸ Tile.abandon_ended _)
      (fun s j k h => s.abandonAt_keeps_ended j k h) _ s
  · have hc (j : TileKey) : ((s.beforeAbandon s.cur).tileAt j).core = (s.tileAt j).core :=
      State.beforeAbandon_keeps Tile.core (fun _ _ => rfl) (fun _ _ => rfl) s s.cur j
    have ht : (s.abandonAt s.cur).tile = ((s.beforeAbandon s.cur).tileAt s.cur).abandon :=
      (congrArg _ (s.closeTask_mem s.cur).2).trans (s.abandonAt_self s.cur)
    obtain ⟨hm, ho, hp, -⟩ := Tile.abandon_files ((s.beforeAbandon s.cur).tileAt s.cur)
    rw [h1, List.foldl_cons, List.foldl_nil, ht, hm, ho, hp, hc]
    exact ⟨rfl, rfl, rfl, fun k hk => by rw [State.abandonAt_other _ hk, hc]⟩

end Sys2Proof.Claims
end

section
/-! PROOF. The patrol core's window: a word of it read and written (R368, R369). -/

namespace Sys2Proof.Machine

/-! ### Landing before the freeze point (R368, R376) -/

/-- A result that lands changes the result ports, what is noted about them, and the counters of events. -/
theorem TileCore.land_eq (base c : TileCore) (q : Bool) (f : InFlight) :
    ∃ r qs o u e, TileCore.land base c q f = { c with res := r, queues := qs, owners := o, unread := u, ev := e } := by
  have own : ∀ d : TileCore, ∃ o, d.own q f = { d with owners := o } := fun d => by
    unfold TileCore.own
    split
    · exact ⟨_, rfl⟩
    · exact ⟨d.owners, rfl⟩
  obtain ⟨o, ho⟩ := own (c.setRes f.sk f.port (mergeBits f.mask ((if q then c else base).res' f.sk f.port) f.value))
  unfold TileCore.land
  dsimp only
  rw [ho]
  cases q <;> exact ⟨_, _, _, _, _, rfl⟩

theorem TileCore.landAll_eq (c : TileCore) (q : Bool) (fs : List InFlight) :
    ∃ r qs o u e, c.landAll q fs = { c with res := r, queues := qs, owners := o, unread := u, ev := e } := by
  have lands : ∀ (fs : List InFlight) (d : TileCore),
      ∃ r qs o u e, fs.foldl (fun d f => TileCore.land c d q f) d = { d with res := r, queues := qs, owners := o, unread := u, ev := e } := by
    intro fs
    induction fs with
    | nil => exact fun d => ⟨d.res, d.queues, d.owners, d.unread, d.ev, rfl⟩
    | cons f fs ih =>
      intro d
      obtain ⟨r, qs, o, u, e, h⟩ := TileCore.land_eq c d q f
      obtain ⟨r', qs', o', u', e', h'⟩ := ih (TileCore.land c d q f)
      exact ⟨r', qs', o', u', e', by rw [List.foldl_cons, h', h]⟩
  exact lands fs c

/-- No result of the tile is still to land by the freeze point. -/
def Tile.Settled (t : Tile) : Prop := t.core.flight.filter InFlight.landed = []

/-- What has run its latency lands, and is in flight no more. -/
theorem Tile.settleFlight_eq (t : Tile) (q : Bool) :
    ∃ r qs o u e, t.settleFlight q = { t with core := { t.core with
      res := r, queues := qs, owners := o, unread := u, ev := e, flight := t.core.flight.filter (fun f => !f.landed) } } := by
  obtain ⟨r, qs, o, u, e, h⟩ := t.core.landAll_eq q (t.core.flight.filter InFlight.landed)
  exact ⟨r, qs, o, u, e, by unfold Tile.settleFlight; dsimp only; rw [h]⟩

theorem Tile.settleFlight_scratch (t : Tile) (q : Bool) : (t.settleFlight q).scratch = t.scratch := rfl

theorem Tile.settleFlight_settled (t : Tile) (q : Bool) : (t.settleFlight q).Settled := by
  obtain ⟨r, qs, o, u, e, h⟩ := t.settleFlight_eq q
  rw [Tile.Settled, h, List.filter_filter]
  exact List.filter_eq_nil_iff.mpr fun f _ => by simp

/-- A tile whose results have landed stands. -/
theorem Tile.Settled.settleFlight {t : Tile} (h : t.Settled) (q : Bool) : t.settleFlight q = t := by
  have hk : t.core.flight.filter (fun f => !f.landed) = t.core.flight :=
    List.filter_eq_self.mpr fun f hf => by simpa using List.filter_eq_nil_iff.mp h f hf
  unfold Tile.settleFlight
  rw [h]
  simp only [TileCore.landAll, List.foldl_nil, hk]

/-- Behind the freeze point, the window sees the core itself. -/
theorem State.atFreeze_settled {s : State} {k : TileKey} (h : (s.tileAt k).Settled) : s.atFreeze k = (s.tileAt k).core :=
  congrArg Tile.core (h.settleFlight _)

/-! ### Words of a 512-bit item -/

/-- A word replaced reads back. -/
theorem wordOf_putWord (v : Wide) {w : Nat} (hw : w < 8) (x : Word) : wordOf (putWord v w x) w = x := by
  apply BitVec.eq_of_getLsbD_eq
  intro i hi
  have hlt : 64 * w + i < 512 := by omega
  have hm : ((2 ^ 64 - 1) * 2 ^ (64 * w)).testBit (64 * w + i) = true := by
    rw [Nat.testBit_mul_two_pow, Nat.testBit_two_pow_sub_one]
    simp [hi]
  have hx : (x.toNat * 2 ^ (64 * w)).testBit (64 * w + i) = x.getLsbD i := by
    rw [Nat.testBit_mul_two_pow]
    simp [BitVec.getLsbD]
  simp only [wordOf, putWord, mergeBits, BitVec.getLsbD_extractLsb', BitVec.getLsbD_or, BitVec.getLsbD_and, BitVec.getLsbD_not,
    BitVec.getLsbD_ofNat, hm, hx, hi, hlt]
  simp

/-- A word cut to 32 bits, masked and extended is the word under the extended mask. -/
theorem zeroExtend_truncate_and (v : Word) (b : BitVec 32) : ((v.truncate 32 &&& b).zeroExtend 64 : Word) = v &&& b.zeroExtend 64 := by
  apply BitVec.eq_of_getLsbD_eq
  intro i hi
  by_cases h : i < 32
  · simp [hi, h]
  · simp [h, BitVec.getLsbD_of_ge b i (by omega)]

theorem zeroExtend_truncate (v : Word) : ((v.truncate 32 : BitVec 32).zeroExtend 64 : Word) = v &&& 0xFFFFFFFF := by
  have h := zeroExtend_truncate_and v (BitVec.allOnes 32)
  rwa [BitVec.and_allOnes] at h

/-! ### A word of the window written -/

theorem State.writeBlock_some {s : State} {k : TileKey} {i : Nat} {v : Word} {c : BlockCopy}
    (h : s.copies.find? (fun c => c.at_ = k && i = 1023 && v = Config.freeWord (c.base + i)) = some c) :
    s.writeBlock k i v = s.modTileAt k (fun t => t.restoreBlock c.block) := by
  unfold State.writeBlock
  rw [h]

theorem State.writeBlock_none {s : State} {k : TileKey} {i : Nat} {v : Word}
    (h : s.copies.find? (fun c => c.at_ = k && i = 1023 && v = Config.freeWord (c.base + i)) = none) : s.writeBlock k i v = s := by
  unfold State.writeBlock
  rw [h]

/-- A write through the window puts nothing in flight and takes nothing out. -/
theorem State.winWrite_flight (s : State) (k : TileKey) (it : WinItem) (v : Word) :
    ((s.winWrite k it v).tileAt k).core.flight = (s.tileAt k).core.flight := by
  cases it with
  | h | ev | mxstat => rfl
  | p i =>
    change ((s.modTileAt k (fun t => t.mapCore (fun c => c.setPred i v))).tileAt k).core.flight = _
    rw [State.modTileAt_tileAt]
    exact TileCore.setPred_flight _ i v
  | sys n => exact congrArg TileCore.flight (s.sysPut_core k k n v)
  | opaqueBlock i =>
    change ((s.writeBlock k i v).tileAt k).core.flight = _
    unfold State.writeBlock
    split
    · rw [State.modTileAt_tileAt]; rfl
    · rfl
  | _ => exact congrArg (fun t => t.core.flight) (State.modTileAt_tileAt s k _)

theorem State.winWrite_settled {s : State} {k : TileKey} (h : (s.tileAt k).Settled) (it : WinItem) (v : Word) :
    ((s.winWrite k it v).tileAt k).Settled := by
  rw [Tile.Settled, State.winWrite_flight]
  exact h

/-- What the window sees of a core that it has written. -/
theorem State.atFreeze_winWrite {s : State} {k : TileKey} {it : WinItem} {v : Word} {f : TileCore → TileCore} (hs : (s.tileAt k).Settled)
    (h : s.winWrite k it v = s.modTileAt k (fun t => t.mapCore f)) : (s.winWrite k it v).atFreeze k = f (s.tileAt k).core := by
  rw [State.atFreeze_settled (State.winWrite_settled hs it v), h, State.modTileAt_tileAt]
  rfl

/-! ### A word that was written read back, behind the freeze point -/

theorem State.winRead_winWrite_m {s : State} {k : TileKey} (hs : (s.tileAt k).Settled) (i : Fin 64) {w : Nat} (hw : w < 8) (v : Word) :
    (s.winWrite k (.m i w) v).winRead k (.m i w) = v := by
  change wordOf (((s.winWrite k (.m i w) v).atFreeze k).m.get i) w = v
  rw [State.atFreeze_winWrite hs rfl, vget_set_self _ _ _ _ _ rfl, wordOf_putWord _ hw]

theorem State.winRead_winWrite_o {s : State} {k : TileKey} (hs : (s.tileAt k).Settled) (i : Fin 8) {w : Nat} (hw : w < 8) (v : Word) :
    (s.winWrite k (.o i w) v).winRead k (.o i w) = v := by
  change wordOf (((s.winWrite k (.o i w) v).atFreeze k).o.get i) w = v
  rw [State.atFreeze_winWrite hs rfl, vget_set_self _ _ _ _ _ rfl, wordOf_putWord _ hw]

theorem State.winRead_winWrite_opnd {s : State} {k : TileKey} (hs : (s.tileAt k).Settled) (i : Fin 36) {w : Nat} (hw : w < 8) (v : Word) :
    (s.winWrite k (.opnd i w) v).winRead k (.opnd i w) = v := by
  change wordOf (((s.winWrite k (.opnd i w) v).atFreeze k).opnd.get i) w = v
  rw [State.atFreeze_winWrite hs rfl, vget_set_self _ _ _ _ _ rfl, wordOf_putWord _ hw]

theorem State.winRead_winWrite_res {s : State} {k : TileKey} (hs : (s.tileAt k).Settled) (i : Fin 72) {w : Nat} (hw : w < 8) (v : Word) :
    (s.winWrite k (.res i w) v).winRead k (.res i w) = v := by
  change wordOf (((s.winWrite k (.res i w) v).atFreeze k).res.get i) w = v
  rw [State.atFreeze_winWrite hs rfl, vget_set_self _ _ _ _ _ rfl, wordOf_putWord _ hw]

/-- A predicate takes the word; p0 ignores it and reads as all ones (R28). -/
theorem State.winRead_winWrite_p {s : State} {k : TileKey} (hs : (s.tileAt k).Settled) (i : BitVec 5) (v : Word) :
    (s.winWrite k (.p i) v).winRead k (.p i) = if i = 0 then BitVec.allOnes 64 else v := by
  change ((s.winWrite k (.p i) v).atFreeze k).pred i = _
  rw [State.atFreeze_winWrite hs rfl]
  split
  · next h => rw [h, TileCore.pred_zero]
  · next h => exact TileCore.setPred_pred _ _ _ h

theorem State.winRead_winWrite_lockmask {s : State} {k : TileKey} (hs : (s.tileAt k).Settled) (v : Word) :
    (s.winWrite k .lockmask v).winRead k .lockmask = v &&& lockmaskBits := by
  change ((s.winWrite k .lockmask v).atFreeze k).lockmask = _
  rw [State.atFreeze_winWrite hs rfl]

theorem State.winRead_winWrite_frm {s : State} {k : TileKey} (hs : (s.tileAt k).Settled) (v : Word) :
    (s.winWrite k .frm v).winRead k .frm = v &&& 0xF := by
  change ((s.winWrite k .frm v).atFreeze k).frm = _
  rw [State.atFreeze_winWrite hs rfl]

theorem State.winRead_winWrite_mxcfg {s : State} {k : TileKey} (hs : (s.tileAt k).Settled) (v : Word) :
    (s.winWrite k .mxcfg v).winRead k .mxcfg = v &&& mxcfgBits := by
  change ((s.winWrite k .mxcfg v).atFreeze k).mx.mxcfg = _
  rw [State.atFreeze_winWrite hs rfl]
  rfl

theorem State.winRead_winWrite_bf {s : State} {k : TileKey} (hs : (s.tileAt k).Settled) (i : Fin 24) (v : Word) :
    (s.winWrite k (.bf i) v).winRead k (.bf i) = v &&& 0xFFFF01FF := by
  change (((s.winWrite k (.bf i) v).atFreeze k).bf.get i).zeroExtend 64 = _
  rw [State.atFreeze_winWrite hs rfl, vget_set_self _ _ _ _ _ rfl, zeroExtend_truncate_and]
  rfl

theorem State.winRead_winWrite_cfill (s : State) (k : TileKey) (v : Word) :
    (s.winWrite k .cfill v).winRead k .cfill = v &&& 0xFFFFFFFF :=
  (congrArg (fun t => t.cfill.zeroExtend 64) (State.modTileAt_tileAt s k _)).trans (zeroExtend_truncate v)

theorem State.winRead_winWrite_cdrain (s : State) (k : TileKey) (v : Word) :
    (s.winWrite k .cdrain v).winRead k .cdrain = v &&& 0xFFFFFFFF :=
  (congrArg (fun t => t.cdrain.zeroExtend 64) (State.modTileAt_tileAt s k _)).trans (zeroExtend_truncate v)

theorem State.sysPut_sysGet_debug {s : State} {k : TileKey} (h : (s.ctxAt? k.ctx).isSome = true) (v : Word) :
    (s.sysPut k 0x23 v).sysGet k 0x23 = v &&& 1 := by
  change (if ((s.sysPut k 0x23 v).ctxAt k.ctx).debug then 1 else 0) = _
  rw [State.sysPut_debug h, show (1 : Word) = 1#64 from rfl, BitVec.and_one_eq_setWidth_ofBool_getLsbD]
  cases v.getLsbD 0 <;> rfl

/-! ### The state in which a write of ptwdl writes its word -/

/-- ptwdl with its half. -/
def setPtwdl (v : BitVec 32) (c : Cluster) : Cluster := { c with ptwdl := v }

def State.winHalf (s : State) (v : BitVec 32) : State := s.modCluster (keyCluster s.cur) (setPtwdl v)

/-- ptwdl holds its half, and what has run its latency by the freeze point has landed (R368, R376). -/
def State.winReady (s : State) (v : BitVec 32) : State :=
  (s.winHalf v).modTileAt s.selected (fun t => t.settleFlight (s.ctxAt s.selected.ctx).qmode)

theorem State.winHalf_residentId (s : State) (v : BitVec 32) (k : TileKey) : (s.winHalf v).residentId k = s.residentId k :=
  State.modCluster_residentId (f := setPtwdl v) (fun _ => rfl) s _ k

theorem State.winHalf_selected (s : State) (v : BitVec 32) : (s.winHalf v).selected = s.selected := by
  have hp : ((s.winHalf v).clusterAt (keyCluster s.cur)).ptsel = (s.clusterAt (keyCluster s.cur)).ptsel :=
    State.modCluster_keeps Cluster.ptsel (f := setPtwdl v) (fun _ => rfl) s _ _
  have hc : (s.winHalf v).cur = s.cur := rfl
  simp only [State.selected, hc, State.winHalf_residentId, hp]

/-- A write of ptwdl where the window may be used writes the word that it addresses. -/
theorem ptwdlWrite_eq {s : State} {it : WinItem} (h : s.winNow = some it) (v : BitVec 32) :
    exec (.ptwdlWrite v) s = .next ((s.winReady v).winWrite s.selected it ((s.clusterAt (keyCluster s.cur)).ptwdh ++ v)) := by
  change execPtwdlWrite v s = _
  rw [execPtwdlWrite, h]
  change Host.Outcome.next (State.winWrite ((s.winHalf v).modTileAt (s.winHalf v).selected
    (fun t => t.settleFlight ((s.winHalf v).ctxAt (s.winHalf v).selected.ctx).qmode)) (s.winHalf v).selected it _) = _
  rw [State.winHalf_selected]
  rfl

theorem State.winReady_tileAt (s : State) (v : BitVec 32) :
    (s.winReady v).tileAt s.selected = (s.tileAt s.selected).settleFlight (s.ctxAt s.selected.ctx).qmode :=
  State.modTileAt_tileAt (s.winHalf v) _ _

theorem State.winReady_settled (s : State) (v : BitVec 32) : ((s.winReady v).tileAt s.selected).Settled :=
  s.winReady_tileAt v ▸ Tile.settleFlight_settled _ _

theorem State.winReady_atFreeze (s : State) (v : BitVec 32) : (s.winReady v).atFreeze s.selected = s.atFreeze s.selected := by
  rw [State.atFreeze_settled (s.winReady_settled v), State.winReady_tileAt]
  rfl

theorem State.winReady_sysGet (s : State) (v : BitVec 32) (n : Nat) : (s.winReady v).sysGet s.selected n = s.sysGet s.selected n := by
  have hr : (s.winReady v).residentId s.selected = s.residentId s.selected := s.winHalf_residentId v _
  have hc : (s.winReady v).ctxAt s.selected.ctx = s.ctxAt s.selected.ctx := rfl
  obtain ⟨r, qs, o, u, e, h⟩ := (s.tileAt s.selected).settleFlight_eq (s.ctxAt s.selected.ctx).qmode
  unfold State.sysGet
  rw [State.winReady_tileAt, h, hr, hc]
  rfl

end Sys2Proof.Machine

namespace Sys2Proof.Claims

open Sys2Proof.Machine

theorem sameBytes_winReady (s : State) (v : BitVec 32) : SameBytes s (s.winReady v) := by
  exact sameBytes_trans (sameBytes_modCluster s _ (setPtwdl v)) (sameBytes_modTileAt (s.winHalf v) _ _ (Tile.settleFlight_scratch _ _))

theorem sameBytes_winWrite (s : State) (k : TileKey) (it : WinItem) (v : Word) : SameBytes s (s.winWrite k it v) := by
  cases it with
  | h | ev | mxstat => exact sameBytes_refl s
  | sys n => exact sameBytes_sysPut s k n v
  | opaqueBlock i =>
    change SameBytes s (s.writeBlock k i v)
    unfold State.writeBlock
    split
    · exact sameBytes_modTileAt s k _ rfl
    · exact sameBytes_refl s
  | _ => exact sameBytes_modTileAt s k _ rfl

theorem ptwdlWriteCompletes : PtwdlWriteCompletes := by
  intro s it v hn w
  have hs := s.winReady_settled v
  have hf := s.winReady_atFreeze v
  have hg := s.winReady_sysGet v
  refine ⟨_, ptwdlWrite_eq hn v, sameBytes_trans (sameBytes_winReady s v) (sameBytes_winWrite _ _ _ _), ?_, ?_, ?_, ?_, ?_, ?_, ?_, ?_, ?_, ?_,
    ?_, fun hc => ⟨?_, ?_⟩, ?_⟩
  · rintro (⟨i, j, hj, rfl⟩ | ⟨i, j, hj, rfl⟩ | ⟨i, j, hj, rfl⟩ | ⟨i, j, hj, rfl⟩)
    · exact State.winRead_winWrite_m hs i hj _
    · exact State.winRead_winWrite_o hs i hj _
    · exact State.winRead_winWrite_opnd hs i hj _
    · exact State.winRead_winWrite_res hs i hj _
  · rintro i rfl; exact State.winRead_winWrite_p hs i _
  · rintro rfl; exact State.winRead_winWrite_lockmask hs _
  · rintro rfl; exact State.winRead_winWrite_frm hs _
  · rintro rfl; exact State.winRead_winWrite_mxcfg hs _
  · rintro ⟨i, rfl⟩; exact State.winRead_winWrite_bf hs i _
  · rintro (rfl | rfl)
    · exact State.winRead_winWrite_cfill _ _ _
    · exact State.winRead_winWrite_cdrain _ _ _
  · rintro (⟨i, rfl⟩ | ⟨i, rfl⟩ | rfl | rfl)
    · exact congrArg (fun c => (c.h.get i).word) hf
    · exact congrArg (fun c => (c.ev.get i).zeroExtend 64) hf
    · exact congrArg (fun c => BitVec.ofNat 64 c.mx.mxstat) hf
    · exact hg 0x22
  · rintro rfl; exact (State.sysPut_sysGet_tcause _ _ _).trans (by rw [hg]; rfl)
  · rintro rfl; exact State.sysPut_sysGet_tepc _ _ _
  · rintro ⟨n, hm, rfl⟩
    obtain ⟨i, rfl⟩ | rfl | rfl : (∃ i : Fin 4, n = 2 + i.val) ∨ n = 0x20 ∨ n = 0x21 := by
      rcases hm with ⟨h2, h5⟩ | h | h
      · exact .inl ⟨⟨n - 2, by omega⟩, by simp; omega⟩
      · exact .inr (.inl h)
      · exact .inr (.inr h)
    · exact State.sysPut_sysGet_tinfo _ _ i _
    · exact State.sysPut_sysGet_savebase _ _ _
    · exact State.sysPut_sysGet_stubbase _ _ _
  · rintro rfl; exact State.sysPut_tvec hc _
  · rintro rfl; exact State.sysPut_sysGet_debug hc _
  · rintro i rfl
    obtain ⟨r, qs, o, u, e, h⟩ := (s.tileAt s.selected).settleFlight_eq (s.ctxAt s.selected.ctx).qmode
    have ht : (s.winReady v).tileAt s.selected = _ := (s.winReady_tileAt v).trans h
    dsimp only
    split
    · next c hc =>
      have hw : (s.winReady v).winWrite s.selected (.opaqueBlock i) w = _ := State.writeBlock_some hc
      rw [hw, State.modTileAt_tileAt]
      exact ⟨rfl, rfl, rfl, rfl⟩
    · next hc =>
      have hw : (s.winReady v).winWrite s.selected (.opaqueBlock i) w = _ := State.writeBlock_none hc
      rw [hw, ht]
      exact ⟨rfl, rfl, rfl, rfl⟩

end Sys2Proof.Claims
end

section
/-! PROOF. The patrol core's reads of the window, its custom registers, its accesses to scratchpads, its exceptions, and O45. -/

namespace Sys2Proof.Claims

open Sys2Proof.Machine

/-! ### A word of the window read (R368, R369) -/

/-- The state in which a read of ptwdl reads its word: for a word of the opaque block, a copy of the block has begun (log 13). -/
def winCopied (s : State) (it : WinItem) : State :=
  match it with
  | .opaqueBlock _ => s.copyBlock s.selected
  | _ => s

/-- A copy of a block changes no tile, no memory and no cluster. -/
theorem winCopied_frame (s : State) (it : WinItem) :
    (winCopied s it).tiles = s.tiles ∧ (winCopied s it).mem = s.mem ∧ (winCopied s it).cur = s.cur := by
  cases it with
  | opaqueBlock i =>
    change (s.copyBlock s.selected).tiles = _ ∧ (s.copyBlock s.selected).mem = _ ∧ (s.copyBlock s.selected).cur = _
    unfold State.copyBlock
    split <;> exact ⟨rfl, rfl, rfl⟩
  | _ => exact ⟨rfl, rfl, rfl⟩

theorem winCopied_eq (s : State) {it : WinItem} (h : ∀ i, it ≠ .opaqueBlock i) : winCopied s it = s := by
  cases it with
  | opaqueBlock i => exact absurd rfl (h i)
  | _ => rfl

/-- The cluster's registers behind a read of ptwdl that gives v. -/
def latchWord (v : Word) (c : Cluster) : Cluster := { c with ptwdl := v.truncate 32, ptwdh := v.extractLsb' 32 32, rdata := v.truncate 32 }

theorem ptwdlRead_eq {s : State} {it : WinItem} (h : s.winNow = some it) :
    exec .ptwdlRead s = .next ((winCopied s it).modCluster (keyCluster s.cur)
      (latchWord ((winCopied s it).winRead (winCopied s it).selected it))) := by
  change execPtwdlRead s = _
  rw [execPtwdlRead, h, ← (winCopied_frame s it).2.2]
  cases it <;> rfl

theorem ptwdlReadCompletes : PtwdlReadCompletes := by
  intro s it h
  obtain ⟨ht, hm, -⟩ := winCopied_frame s it
  refine ⟨_, (winCopied s it).winRead (winCopied s it).selected it, ptwdlRead_eq h, ht, hm, ?_, ?_, ?_, fun ho => ?_⟩
  · rw [State.modCluster_clusterAt]; rfl
  · rw [State.modCluster_clusterAt]; rfl
  · rw [State.modCluster_clusterAt]; rfl
  · rw [winCopied_eq s ho]

/-! ### The custom registers (R368, R370) -/

theorem csrWriteCompletes : CsrWriteCompletes := by
  intro s v put
  refine ⟨rfl, rfl, fun h => if_pos h, fun h => ?_, fun h => ?_, fun a h => ?_, ?_⟩
  · obtain ⟨it, hit⟩ := Option.isSome_iff_exists.mp h
    exact ⟨_, ptwdlWrite_eq hit v, ptwdlWrite_eq hit v⟩
  · change execCsrWrite 0x7C4 v s = _
    simp only [execCsrWrite, h]
    rfl
  · change execCsrWrite 0x7C4 v s = _
    simp only [execCsrWrite, h]
    rfl
  · rintro csr (rfl | rfl) <;> rfl

/-! ### Scratchpads (R367) -/

/-- The tile at a ring position of the step's cluster, in the resident context. -/
def patrolKey (s : State) (rp : BitVec 4) : TileKey := { ctx := s.residentId s.cur, die := s.cur.die, tid := tidOf (tidCluster s.cur.tid) rp }

theorem accessSize_iff (size : BitVec 3) : (decide (size.toNat = 1) || decide (size.toNat = 2) || decide (size.toNat = 4)) = true ↔
    size ∈ [1, 2, 4] := by revert size; decide

section
variable {s : State} {rp : BitVec 4} {off : BitVec 21} {size : BitVec 3}

theorem scratchpadAccess_refused (write : Bool) (data : BitVec 32) (h : (s.tileAt (patrolKey s rp)).frozen = false ∨ size ∉ [1, 2, 4] ∨
    off.toNat % size.toNat ≠ 0 ∨ spSize < off.toNat + size.toNat) :
    exec (.patrolScratchpadAccess rp off size write data) s = .next (s.patrolExc s.cur .accessFault) := by
  refine if_pos ?_
  change (!(s.tileAt (patrolKey s rp)).frozen || _ || _ || _) = true
  rw [← accessSize_iff, Bool.not_eq_true] at h
  rcases h with h | h | h | h <;> simp [h]

theorem scratchpadAccess_goes (write : Bool) (data : BitVec 32) (hf : (s.tileAt (patrolKey s rp)).frozen = true) (hs : size ∈ [1, 2, 4])
    (ha : off.toNat % size.toNat = 0) (hl : off.toNat + size.toNat ≤ spSize) :
    exec (.patrolScratchpadAccess rp off size write data) s =
      if write then .next (s.modTileAt (patrolKey s rp) (fun t => (t.spWrite off.toNat (bytesOf data.toNat size.toNat)).mapBoth
        (fun c => c.patchGathers off.toNat (bytesOf data.toNat size.toNat))))
      else .next (s.modCluster (keyCluster s.cur)
        (fun c => { c with rdata := BitVec.ofNat 32 ((s.tileAt (patrolKey s rp)).spRead off.toNat size.toNat) })) := by
  refine if_neg ?_
  change ¬(!(s.tileAt (patrolKey s rp)).frozen || _ || _ || _) = true
  rw [← accessSize_iff] at hs
  simp [hf, hs, ha, hl]

end

/-- A byte of a scratchpad behind the patrol core's write of n bytes into a tile. -/
theorem patrolWrite_byte (s : State) (k j : TileKey) (off x n a : Nat) (f : TileCore → TileCore) :
    ((s.modTileAt k (fun t => (t.spWrite off (bytesOf x n)).mapBoth f)).tileAt j).byte a =
      if j = k then cellsGet (cellsWrite (s.tileAt k).scratch off (bytesOf x n)) a else (s.tileAt j).byte a := by
  split
  · next h => subst h; rw [State.modTileAt_tileAt]; rfl
  · next h => rw [State.modTileAt_tileAt_ne _ _ h]

theorem scratchpadAccessCompletes : ScratchpadAccessCompletes := by
  intro s rp off size data k hf hs ha hl
  refine ⟨⟨_, scratchpadAccess_goes false data hf hs ha hl, sameBytes_modCluster _ _ _, ?_⟩,
    ⟨_, scratchpadAccess_goes true data hf hs ha hl, fun _ => rfl, fun hc i hi => ?_, fun j a hn => ?_⟩⟩
  · rw [State.modCluster_clusterAt]; rfl
  · have hi' : i < (bytesOf data.toNat size.toNat).length := by rwa [bytesOf_length]
    rw [patrolWrite_byte, if_pos (show k = patrolKey s rp from rfl), cellsGet_write_in _ _ (State.canonical_tileAt hc _) hi', bytesOf_getElem]
  · rw [patrolWrite_byte]
    split
    · next h =>
      rw [cellsGet_write_out _ _ _ (by rw [bytesOf_length]; by_contra hb; exact hn ⟨h, by omega, by omega⟩), h]
      rfl
    · rfl

/-! ### The patrol core's own exceptions (R367, R368, R370) -/

theorem patrolExceptions : PatrolExceptions := by
  intro s
  refine ⟨fun h => ?_, fun h => ?_, fun _ _ _ write data h => scratchpadAccess_refused write data h⟩
  · have hb : (!(s.tileAt s.cur).frozen) = true := by rw [show (s.tileAt s.cur).frozen = false from h]; rfl
    exact ⟨congrArg _ (if_pos hb), fun e => congrArg _ (if_pos hb)⟩
  · have hw (v : BitVec 32) : exec (.ptwdlWrite v) s = .next (s.patrolExc s.cur .illegalInstruction) := by
      change execPtwdlWrite v s = _
      rw [execPtwdlWrite, h]
    refine ⟨?_, fun v => ⟨hw v, hw v, if_neg (by rw [h]; decide)⟩⟩
    change execPtwdlRead s = _
    rw [execPtwdlRead, h]

end Sys2Proof.Claims

open Sys2Proof Sys2Proof.Machine Sys2Proof.Claims

/-- Settles O45: the commands, the window, the custom registers, the scratchpad accesses and the exceptions, each by its own theorem. -/
theorem patrolCore : Obligations.PatrolCore :=
  ⟨resumeCompletes, stubCompletes, ackCompletes, abandonCompletes, ptwdlReadCompletes, ptwdlWriteCompletes, csrWriteCompletes,
    scratchpadAccessCompletes, patrolExceptions⟩

end

section
/-! PROOF. The machine after reset (O54), and the clock that passes over a handler's frame (O59). -/

namespace Sys2Proof.Machine

/-- A vector that holds one value everywhere. -/
theorem vget_replicate {α : Type} (n : Nat) (v : α) (i : Fin n) : (Vector.replicate n v).get i = v :=
  Vector.getElem_replicate i.isLt

end Sys2Proof.Machine

namespace Sys2Proof.Claims

open Sys2Proof.Machine

/-- Every register and port of a first dispatch (R29, R239). -/
theorem reset_registers :
    (∀ n : BitVec 6, TileCore.reset.m.get n.toFin = 0) ∧ (∀ n : BitVec 3, TileCore.reset.o.get n.toFin = 0) ∧
    (∀ n : BitVec 5, TileCore.reset.pred n = if n = 0 then BitVec.allOnes 64 else 0) ∧
    (∀ n : BitVec 4, TileCore.reset.h.get n.toFin = Handle.reset) ∧
    (∀ sk pt, TileCore.reset.opnd' sk pt = 0 ∧ TileCore.reset.mask' sk pt = BitVec.allOnes 64) ∧
    (∀ sk p, TileCore.reset.res' sk p = 0 ∧ TileCore.reset.pending sk p = false) := by
  refine ⟨fun n => vget_replicate _ _ _, fun n => vget_replicate _ _ _, fun n => ?_, fun n => vget_replicate _ _ _,
    fun sk pt => ⟨vget_replicate _ _ _, vget_replicate _ _ _⟩, fun sk p => ⟨vget_replicate _ _ _, rfl⟩⟩
  unfold TileCore.pred
  split
  · rfl
  · exact vget_replicate _ _ _

/-! ### A clock that changes a tile -/

/-- Where nothing is due or enabled and every tile has had its turn, the step is the clock. -/
theorem step_passes {s : State} (hd : s.dueEvent = none) (hl : s.lateCell = none) (he : s.enabled = none) (ht : s.turn = []) :
    step s = .next s.tick := by
  have hn : s.nextTurn = none := by simp [State.nextTurn, ht]
  simp [step, State.choose, hd, hl, he, hn]

/-- An OCNT that is due in the frame of a handler. -/
def frameCount : InFlight :=
  { sk := .orb, port := .q, value := 1, mask := BitVec.allOnes 512, rem := 0, free := false, locked := true, ready := true, due := 0,
    id := 0, evs := EvCount.zero, live := .ocnt }

/-- A handler's frame that holds it. -/
def countFrame : Frame :=
  { opnd := TileCore.reset.opnd, opMask := TileCore.reset.opMask, res := TileCore.reset.res, queues := [], owners := [], lockmask := 0,
    frm := 0, seq := Seq.reset, spin := none, flight := [frameCount], gloads := [] }

/-- A machine with nothing to do, one of whose tiles has that frame. -/
def frameAwaits : State := State.reset.modTile (fun t => { t with frame := some countFrame })

theorem frameAwaits_idle : frameAwaits.dueEvent = none ∧ frameAwaits.lateCell = none ∧ frameAwaits.enabled = none :=
  ⟨by decide +kernel, by decide +kernel, by decide +kernel⟩

/-- The clock brings the OCNT its value in the frame (R302, R371): the tile is not what it was. -/
theorem frameAwaits_tick : frameAwaits.tick.tiles ≠ frameAwaits.tiles := by
  intro h
  have hl : ∀ s : State, s.tiles = frameAwaits.tiles →
      (assocGet s.tiles TileKey.none).bind (fun t => t.frame.map (fun f => f.flight.map InFlight.live)) = some [.ocnt] := by
    intro s e; rw [e]; decide +kernel
  exact absurd (hl _ h) (by decide +kernel)

end Sys2Proof.Claims

open Sys2Proof Sys2Proof.Machine Sys2Proof.Claims

/-- Settles O54: the lists of State.reset and the fields of Tile.reset, and what the registers of a first dispatch read as. -/
theorem resetState : Obligations.ResetState := by
  obtain ⟨hm, ho, hp, hh, hops, hres⟩ := reset_registers
  exact ⟨rfl, rfl, fun _ => rfl, fun _ => ⟨rfl, rfl, rfl⟩, fun _ => rfl, hm, ho, hp, hh, hops, hres,
    rfl, rfl, rfl, rfl, rfl, rfl, rfl, rfl, fun _ => ⟨rfl, rfl⟩⟩

/-- Refutes O59: a clock with nothing due and no turn brings an OCNT that stands in a handler's frame its value there (R302, R371), so the
tiles are not what they were. -/
theorem not_stepIssuesBundle : ¬ Obligations.StepIssuesBundle := by
  rintro ⟨-, -, -, hclock⟩
  obtain ⟨hd, hl, he⟩ := frameAwaits_idle
  obtain ⟨t, ht, -, htiles, -⟩ := hclock frameAwaits hd hl he rfl
  obtain rfl : frameAwaits.tick = t := Host.Outcome.next.inj ((step_passes hd hl he rfl).symm.trans ht)
  exact frameAwaits_tick htiles

end

section
/-! PROOF. Taking a trap: what it leaves of each tile and of memory, with and without a rollback, and O43. -/

namespace Sys2Proof.Machine

/-! ### What is only asked for: steps to come and entries of a log -/

theorem State.giveWalker_frame (s : State) :
    s.giveWalker.tiles = s.tiles ∧ s.giveWalker.mem = s.mem ∧ s.giveWalker.cur = s.cur := by
  unfold State.giveWalker
  dsimp only
  split
  · exact ⟨rfl, rfl, rfl⟩
  · split <;> exact ⟨rfl, rfl, rfl⟩

theorem State.askWalk_frame (s : State) (k : TileKey) (i : Instr) :
    (s.askWalk k i).tiles = s.tiles ∧ (s.askWalk k i).mem = s.mem ∧ (s.askWalk k i).cur = s.cur :=
  State.giveWalker_frame { s with walks := s.walks ++ [(k, i)] }

theorem State.logTaken_frame (s : State) (k : TileKey) (c : Cause) :
    (s.logTaken k c).tiles = s.tiles ∧ (s.logTaken k c).mem = s.mem ∧ (s.logTaken k c).cur = s.cur := by
  unfold State.logTaken
  split <;> exact ⟨rfl, rfl, rfl⟩

/-! ### Rolling back (R58, R78) -/

/-- A tile behind a change of every tile that leaves a tile of a first dispatch as it is. -/
theorem State.mapTiles_tileAt {f : TileKey → Tile → Tile} (s : State) {k : TileKey} (h : f k Tile.reset = Tile.reset) :
    (s.mapTiles f).tileAt k = f k (s.tileAt k) := by
  unfold State.tileAt State.mapTiles
  rw [assocGet_map]
  cases assocGet s.tiles k with
  | none => exact h.symm
  | some t => rfl

/-- What a rollback of tile k does to tile j beside: holds on its cells are released. -/
def releasedBy (k j : TileKey) (t : Tile) : Tile := if j.ctx = k.ctx && j.die = k.die then t.unhold k else t

theorem releasedBy_eq (k j : TileKey) (t : Tile) : ∃ l, releasedBy k j t = { t with held := l } := by
  unfold releasedBy
  split
  · exact ⟨_, rfl⟩
  · exact ⟨t.held, rfl⟩

theorem releasedBy_held {k j : TileKey} (t : Tile) (hc : j.ctx = k.ctx) (hd : j.die = k.die) :
    (releasedBy k j t).held = t.held.filter (fun x => x.2 ≠ k) := by
  simp [releasedBy, hc, hd, Tile.unhold]

theorem releasedBy_reset (k j : TileKey) : releasedBy k j Tile.reset = Tile.reset := by
  unfold releasedBy; split <;> rfl

/-- The tiles of a tow set behind the start of a replay of one of them. -/
def State.replayWaits (s : State) (k : TileKey) : State :=
  ((s.towSet k).filter (· ≠ k)).foldl (fun u j => u.modTileAt j (fun x => x.waitReplay ((s.tileAt k).issue - (s.tileAt k).markAt.1))) s

theorem State.rollbackAt_eq (s : State) (k : TileKey) :
    s.rollbackAt k = ((s.replayWaits k).modTileAt k Tile.rollback).mapTiles (releasedBy k) := rfl

theorem State.rollbackAt_tileAt (s : State) (k j : TileKey) :
    (s.rollbackAt k).tileAt j = releasedBy k j (((s.replayWaits k).modTileAt k Tile.rollback).tileAt j) := by
  rw [State.rollbackAt_eq, State.mapTiles_tileAt _ (releasedBy_reset k j)]

/-- Alone in its set, a tile that rolls back makes no other tile wait. -/
theorem State.replayWaits_alone {s : State} {k : TileKey} (h : s.towSet k = [k]) : s.replayWaits k = s := by
  simp [State.replayWaits, h]

/-- What every part of a rollback keeps of a tile, it keeps of every tile. -/
theorem State.rollbackAt_keeps {β : Type} (g : Tile → β) (hw : ∀ t n, g (t.waitReplay n) = g t) (hr : ∀ t, g t.rollback = g t)
    (hl : ∀ (t : Tile) l, g { t with held := l } = g t) (s : State) (k j : TileKey) :
    g ((s.rollbackAt k).tileAt j) = g (s.tileAt j) := by
  obtain ⟨l, e⟩ := releasedBy_eq k j (((s.replayWaits k).modTileAt k Tile.rollback).tileAt j)
  rw [State.rollbackAt_tileAt, e, hl, State.modTileAt_keeps g hr]
  exact State.foldl_modTileAt_keeps g (fun t => hw t _) _ _ _

/-! ### The stages of a trap (R25, R52, R58, R361-R363) -/

/-- The state in which a cause is recorded: rolled back where the cause rolls back first. -/
def State.trapBase (s : State) (k : TileKey) (c : Cause) : State :=
  let u := if isService c.code then s.spend else s
  if isRollbackCause c.code then u.rollbackAt k else u

/-- The tiles that freeze with tile k. -/
def State.trapSet (s : State) (k : TileKey) (c : Cause) : List TileKey :=
  ((s.trapBase k c).towSet k).filter (fun j => j = k || !(s.trapBase k c).trapsToo j)

/-- The cause that is recorded, with the tepc of a rollback. -/
def State.trapCause (s : State) (k : TileKey) (c : Cause) : Cause := (s.trapBase k c).atMark k c

/-- The tiles behind a trap. -/
def State.trapped (s : State) (k : TileKey) (c : Cause) : State :=
  ((s.trapSet k c).foldl (fun u j => u.modTileAt j (Tile.freeze (isService (s.trapCause k c).code))) (s.trapBase k c)).modTileAt k
    (fun t => t.recordCause (s.trapCause k c))

/-- What is asked for about a cause that tile k has taken: a walk, or a step to come (R34, R364). -/
def State.askService (s : State) (k : TileKey) (c : Cause) : State :=
  match causeService (s.ctxAt k.ctx) (s.tileAt k) c.code c.i0 with
  | some i => if i = .handleFaultService then s.askWalk k i else s.addLater k i
  | none => s

theorem State.askService_frame (s : State) (k : TileKey) (c : Cause) :
    (s.askService k c).tiles = s.tiles ∧ (s.askService k c).mem = s.mem ∧ (s.askService k c).cur = s.cur := by
  unfold State.askService
  split
  · split
    · exact State.askWalk_frame _ _ _
    · exact ⟨rfl, rfl, rfl⟩
  · exact ⟨rfl, rfl, rfl⟩

section
variable {s : State} {k : TileKey} {c : Cause} (hf : (s.tileAt k).frozen = false)
  (hp : (s.tileAt k).priv = false ∨ isRollbackCause c.code = false)
include hf hp

/-- A tile that runs takes the cause, unless it is in a stub whose user's state would be rolled back. -/
theorem State.takeTrapAt_eq :
    s.takeTrapAt k c = ((s.trapped k c).logTaken k (s.trapCause k c)).askService k (s.trapCause k c) := by
  have hu : (if isService c.code then s.spend else s).tileAt k = s.tileAt k := by split <;> rfl
  have hh : ((s.tileAt k).frozen || ((s.tileAt k).priv && isRollbackCause c.code)) = false := by
    rcases hp with hp | hp <;> simp [hf, hp]
  unfold State.takeTrapAt
  dsimp only
  rw [hu, if_neg (by rw [hh]; decide)]
  rfl

theorem State.takeTrapAt_frame :
    (s.takeTrapAt k c).tiles = (s.trapped k c).tiles ∧ (s.takeTrapAt k c).mem = (s.trapped k c).mem ∧
    (s.takeTrapAt k c).cur = (s.trapped k c).cur := by
  obtain ⟨ht, hm, hc⟩ := State.logTaken_frame (s.trapped k c) k (s.trapCause k c)
  obtain ⟨gt, gm, gc⟩ := State.askService_frame ((s.trapped k c).logTaken k (s.trapCause k c)) k (s.trapCause k c)
  rw [State.takeTrapAt_eq hf hp]
  exact ⟨gt.trans ht, gm.trans hm, gc.trans hc⟩

theorem State.takeTrapAt_tileAt (j : TileKey) : (s.takeTrapAt k c).tileAt j = (s.trapped k c).tileAt j := by
  unfold State.tileAt
  rw [(State.takeTrapAt_frame hf hp).1]

end

/-- A tile that is frozen, or in a stub whose user's state the cause would roll back, holds the cause, but for one that the replay will raise
again (R366). -/
theorem State.takeTrapAt_held {s : State} {k : TileKey} {c : Cause}
    (h : (s.tileAt k).frozen = true ∨ ((s.tileAt k).priv = true ∧ isRollbackCause c.code = true)) :
    s.takeTrapAt k c = (if (s.tileAt k).replays c then (if isService c.code then s.spend else s)
      else (if isService c.code then s.spend else s).modTileAt k (fun t => { t with heldCauses := t.heldCauses ++ [c] })) := by
  have hu : (if isService c.code then s.spend else s).tileAt k = s.tileAt k := by split <;> rfl
  have hh : ((s.tileAt k).frozen || ((s.tileAt k).priv && isRollbackCause c.code)) = true := by
    rcases h with h | ⟨h, e⟩
    · rw [h]; rfl
    · rw [h, e]; exact Bool.or_true _
  unfold State.takeTrapAt State.modTileAt
  dsimp only
  rw [hu, if_pos hh]

theorem State.takeTrapAt_cases (s : State) (k : TileKey) (c : Cause) :
    ((s.tileAt k).frozen = true ∨ ((s.tileAt k).priv = true ∧ isRollbackCause c.code = true)) ∨
    ((s.tileAt k).frozen = false ∧ ((s.tileAt k).priv = false ∨ isRollbackCause c.code = false)) := by
  cases (s.tileAt k).frozen <;> cases (s.tileAt k).priv <;> cases isRollbackCause c.code <;> simp

/-! ### What every trap leaves -/

theorem State.foldl_modTileAt_frame (f : Tile → Tile) (l : List TileKey) (s : State) :
    (l.foldl (fun u j => u.modTileAt j f) s).mem = s.mem ∧ (l.foldl (fun u j => u.modTileAt j f) s).cur = s.cur := by
  induction l generalizing s with
  | nil => exact ⟨rfl, rfl⟩
  | cons j l ih => exact ih (s.modTileAt j f)

theorem State.trapBase_frame (s : State) (k : TileKey) (c : Cause) :
    (s.trapBase k c).mem = s.mem ∧ (s.trapBase k c).cur = s.cur := by
  have h (u : State) : (u.rollbackAt k).mem = u.mem ∧ (u.rollbackAt k).cur = u.cur := State.foldl_modTileAt_frame _ _ u
  unfold State.trapBase
  dsimp only
  split <;> split <;> simp [h]

theorem State.trapped_frame (s : State) (k : TileKey) (c : Cause) : (s.trapped k c).mem = s.mem ∧ (s.trapped k c).cur = s.cur := by
  obtain ⟨hm, hc⟩ := s.trapBase_frame k c
  obtain ⟨gm, gc⟩ := State.foldl_modTileAt_frame (Tile.freeze (isService (s.trapCause k c).code)) (s.trapSet k c) (s.trapBase k c)
  exact ⟨gm.trans hm, gc.trans hc⟩

theorem State.takeTrapAt_mem_cur (s : State) (k : TileKey) (c : Cause) :
    (s.takeTrapAt k c).mem = s.mem ∧ (s.takeTrapAt k c).cur = s.cur := by
  rcases s.takeTrapAt_cases k c with h | ⟨hf, hp⟩
  · rw [State.takeTrapAt_held h]
    split <;> split <;> exact ⟨rfl, rfl⟩
  · obtain ⟨-, hm, hc⟩ := State.takeTrapAt_frame hf hp
    obtain ⟨gm, gc⟩ := s.trapped_frame k c
    exact ⟨hm.trans gm, hc.trans gc⟩

/-- What a tile's freeze, its record of a cause, its list of held causes and, where the cause rolls back, the rollback keep, the trap
keeps of every tile. -/
theorem State.takeTrapAt_keeps {β : Type} (g : Tile → β) (hz : ∀ b t, g (Tile.freeze b t) = g t) (hr : ∀ (t : Tile) c, g (t.recordCause c) = g t)
    (hl : ∀ (t : Tile) l, g { t with heldCauses := l } = g t) (s : State) (k j : TileKey) (c : Cause)
    (hb : isRollbackCause c.code = true → ∀ u : State, g ((u.rollbackAt k).tileAt j) = g (u.tileAt j)) :
    g ((s.takeTrapAt k c).tileAt j) = g (s.tileAt j) := by
  have hu : (if isService c.code then s.spend else s).tileAt j = s.tileAt j := by split <;> rfl
  rcases s.takeTrapAt_cases k c with h | ⟨hf, hp⟩
  · rw [State.takeTrapAt_held h]
    split
    · rw [hu]
    · rw [State.modTileAt_keeps g (fun t => hl t _), hu]
  · rw [State.takeTrapAt_tileAt hf hp]
    unfold State.trapped
    rw [State.modTileAt_keeps g (fun t => hr t _), State.foldl_modTileAt_keeps g (hz _)]
    unfold State.trapBase
    dsimp only
    split
    · next e => rw [hb e, hu]
    · rw [hu]

theorem Tile.freeze_eq (b : Bool) (t : Tile) :
    ∃ f u e c i, Tile.freeze b t = { t with frozen := f, under := u, tepc := e, code := c, tinfo := i } := by
  unfold Tile.freeze
  split
  · exact ⟨t.frozen, t.under, t.tepc, t.code, t.tinfo, rfl⟩
  · cases b <;> exact ⟨_, _, _, _, _, rfl⟩

theorem Tile.recordCause_eq (t : Tile) (c : Cause) :
    ∃ u, t.recordCause c = { t with under := u, frozen := true, tv := true, nest := t.inh, code := c.code, tepc := addrWord c.tepc,
                                    faultH := c.h, tinfo := #v[c.i0, c.i1, c.i2, c.i3] } := by
  unfold Tile.recordCause
  dsimp only
  split <;> exact ⟨_, rfl⟩

/-- A part of a tile that none of the trap registers, the freeze and the held causes belongs to. -/
structure OffTrap {β : Type} (g : Tile → β) : Prop where
  freeze : ∀ (t : Tile) f u e c i, g { t with frozen := f, under := u, tepc := e, code := c, tinfo := i } = g t
  record : ∀ (t : Tile) u f v n c e h i,
    g { t with under := u, frozen := f, tv := v, nest := n, code := c, tepc := e, faultH := h, tinfo := i } = g t
  held : ∀ (t : Tile) l, g { t with heldCauses := l } = g t

theorem State.takeTrapAt_off {β : Type} {g : Tile → β} (hg : OffTrap g) (s : State) (k j : TileKey) (c : Cause)
    (hb : isRollbackCause c.code = true → ∀ u : State, g ((u.rollbackAt k).tileAt j) = g (u.tileAt j)) :
    g ((s.takeTrapAt k c).tileAt j) = g (s.tileAt j) := by
  refine State.takeTrapAt_keeps g (fun b t => ?_) (fun t c => ?_) hg.held s k j c hb
  · obtain ⟨f, u, e, c, i, h⟩ := Tile.freeze_eq b t
    rw [h, hg.freeze]
  · obtain ⟨u, h⟩ := Tile.recordCause_eq t c
    rw [h, hg.record]

theorem State.rollbackAt_scratch (s : State) (k j : TileKey) : ((s.rollbackAt k).tileAt j).scratch = (s.tileAt j).scratch :=
  State.rollbackAt_keeps Tile.scratch (fun _ _ => rfl) (fun _ => rfl) (fun _ _ => rfl) s k j

theorem State.rollbackAt_task (s : State) (k j : TileKey) : ((s.rollbackAt k).tileAt j).task = (s.tileAt j).task :=
  State.rollbackAt_keeps Tile.task (fun _ _ => rfl) (fun _ => rfl) (fun _ _ => rfl) s k j

/-- A cause that does not roll back leaves every register of every tile. -/
theorem State.takeTrapAt_core (s : State) (k j : TileKey) (c : Cause) (h : isRollbackCause c.code = false) :
    ((s.takeTrapAt k c).tileAt j).core = (s.tileAt j).core :=
  State.takeTrapAt_off (g := Tile.core) ⟨fun _ _ _ _ _ _ => rfl, fun _ _ _ _ _ _ _ _ _ => rfl, fun _ _ => rfl⟩ s k j c
    (fun e => absurd (h.symm.trans e) (by decide))

/-- No trap changes a scratchpad. -/
theorem State.takeTrapAt_scratch (s : State) (k j : TileKey) (c : Cause) :
    ((s.takeTrapAt k c).tileAt j).scratch = (s.tileAt j).scratch :=
  State.takeTrapAt_off (g := Tile.scratch) ⟨fun _ _ _ _ _ _ => rfl, fun _ _ _ _ _ _ _ _ _ => rfl, fun _ _ => rfl⟩ s k j c
    (fun _ u => State.rollbackAt_scratch u k j)

/-- No trap changes which cells are full. -/
theorem State.takeTrapAt_full (s : State) (k j : TileKey) (c : Cause) : ((s.takeTrapAt k c).tileAt j).full = (s.tileAt j).full :=
  State.takeTrapAt_off (g := Tile.full) ⟨fun _ _ _ _ _ _ => rfl, fun _ _ _ _ _ _ _ _ _ => rfl, fun _ _ => rfl⟩ s k j c
    (fun _ u => State.rollbackAt_keeps Tile.full (fun _ _ => rfl) (fun _ => rfl) (fun _ _ => rfl) u k j)

/-- Every trap leaves the tile of the step frozen. -/
theorem State.takeTrapAt_frozen_self (s : State) (k : TileKey) (c : Cause)
    (hp : (s.tileAt k).priv = false ∨ isRollbackCause c.code = false) : ((s.takeTrapAt k c).tileAt k).frozen = true := by
  cases hf : (s.tileAt k).frozen with
  | false =>
    rw [State.takeTrapAt_tileAt hf hp, State.trapped, State.modTileAt_tileAt]
    obtain ⟨u, h⟩ := Tile.recordCause_eq (((s.trapSet k c).foldl (fun u j => u.modTileAt j (Tile.freeze (isService (s.trapCause k c).code)))
      (s.trapBase k c)).tileAt k) (s.trapCause k c)
    rw [h]
  | true =>
    have hu : (if isService c.code then s.spend else s).tileAt k = s.tileAt k := by split <;> rfl
    rw [State.takeTrapAt_held (.inl hf)]
    split
    · rw [hu, hf]
    · rw [State.modTileAt_tileAt]
      exact (congrArg Tile.frozen hu).trans hf

/-! ### A tile alone in its set -/

/-- A freeze and then a record: the registers of the trap are the cause's (R361-R363). -/
theorem Tile.recordCause_freeze (b : Bool) (t : Tile) (c : Cause) :
    ∃ u, (Tile.freeze b t).recordCause c = { t with under := u, frozen := true, tv := true, nest := t.inh, code := c.code,
                                                    tepc := addrWord c.tepc, faultH := c.h, tinfo := #v[c.i0, c.i1, c.i2, c.i3] } := by
  obtain ⟨f, u, e, d, i, h⟩ := Tile.freeze_eq b t
  obtain ⟨u', h'⟩ := Tile.recordCause_eq (Tile.freeze b t) c
  exact ⟨u', by rw [h', h]⟩

/-- Alone in its set, the tile records its cause over what stands behind the rollback, and no other tile freezes. -/
theorem State.trapped_alone {s : State} {k : TileKey} {c : Cause} (ha : (s.trapBase k c).towSet k = [k]) :
    (∃ u, (s.trapped k c).tileAt k = { (s.trapBase k c).tileAt k with
      under := u, frozen := true, tv := true, nest := ((s.trapBase k c).tileAt k).inh, code := (s.trapCause k c).code,
      tepc := addrWord (s.trapCause k c).tepc, faultH := (s.trapCause k c).h,
      tinfo := #v[(s.trapCause k c).i0, (s.trapCause k c).i1, (s.trapCause k c).i2, (s.trapCause k c).i3] }) ∧
    ∀ j, j ≠ k → (s.trapped k c).tileAt j = (s.trapBase k c).tileAt j := by
  have hs : s.trapSet k c = [k] := by simp [State.trapSet, ha]
  unfold State.trapped
  rw [hs]
  refine ⟨?_, fun j hj => ?_⟩
  · rw [State.modTileAt_tileAt]
    exact State.modTileAt_tileAt (s.trapBase k c) k _ ▸ Tile.recordCause_freeze _ _ _
  · rw [State.modTileAt_tileAt_ne _ _ hj]
    exact State.modTileAt_tileAt_ne _ _ hj

/-- Without a rollback the tiles stand as they were. -/
theorem State.trapBase_plain (s : State) (k j : TileKey) {c : Cause} (h : isRollbackCause c.code = false) :
    (s.trapBase k c).tileAt j = s.tileAt j ∧ s.trapCause k c = c := by
  unfold State.trapCause State.atMark State.trapBase
  dsimp only
  rw [h]
  refine ⟨?_, rfl⟩
  split
  · contradiction
  · split <;> rfl

/-- With one, they stand as the rollback leaves them. -/
theorem State.trapBase_rolled (s : State) (k : TileKey) {c : Cause} (h : isRollbackCause c.code = true) :
    s.trapBase k c = s.spend.rollbackAt k ∧
    s.trapCause k c = { c with tepc := ((s.spend.rollbackAt k).tileAt k).core.seq.pc } := by
  have hs : isService c.code = true := by
    simp only [isRollbackCause, Bool.or_eq_true, decide_eq_true_eq] at h
    rcases h with e | e <;> rw [e] <;> decide
  have hb : s.trapBase k c = s.spend.rollbackAt k := by
    unfold State.trapBase
    dsimp only
    rw [if_pos h, if_pos hs]
  refine ⟨hb, ?_⟩
  unfold State.trapCause State.atMark
  rw [hb, if_pos h]

end Sys2Proof.Machine

namespace Sys2Proof.Claims

open Sys2Proof.Machine

/-- No trap changes a byte of memory. -/
theorem sameBytes_takeTrapAt (s : State) (k : TileKey) (c : Cause) : SameBytes s (s.takeTrapAt k c) :=
  ⟨fun pa => congrArg (fun m => cellsGet m pa) (s.takeTrapAt_mem_cur k c).1,
    fun j off => congrArg (fun m => cellsGet m off) (s.takeTrapAt_scratch k j c)⟩

theorem takeTrap_tile (s : State) (c : Cause) : (s.takeTrap c).tile = (s.takeTrapAt s.cur c).tileAt s.cur :=
  congrArg (s.takeTrapAt s.cur c).tileAt (s.takeTrapAt_mem_cur s.cur c).2

/-- R25, R361-R363: a cause that does not roll back freezes the tile where it stands. -/
theorem trap_plain {s : State} {c : Cause} (hf : s.tile.frozen = false) (ha : s.towSet s.cur = [s.cur])
    (hr : isRollbackCause c.code = false) :
    (∃ u, (s.takeTrap c).tile = { s.tile with under := u, frozen := true, tv := true, nest := s.tile.inh, code := c.code,
                                              tepc := addrWord c.tepc, faultH := c.h, tinfo := #v[c.i0, c.i1, c.i2, c.i3] }) ∧
    ∀ k, k ≠ s.cur → (s.takeTrap c).tileAt k = s.tileAt k := by
  have hb := fun j => (s.trapBase_plain s.cur j hr).1
  obtain ⟨⟨u, hk⟩, ho⟩ := State.trapped_alone (s := s) (k := s.cur) (c := c)
    ((State.towSet_congr (fun j => congrArg Tile.task (hb j)) _).trans ha)
  rw [(s.trapBase_plain s.cur s.cur hr).2, hb] at hk
  refine ⟨⟨u, ?_⟩, fun k hk => ?_⟩
  · rw [takeTrap_tile, State.takeTrapAt_tileAt hf (.inr hr), hk]
    rfl
  · exact (State.takeTrapAt_tileAt hf (.inr hr) k).trans ((ho k hk).trans (hb k))

/-- What stands behind the rollback of a tile that is alone in its set (R58, R78). -/
theorem rolled_tileAt {s : State} {k : TileKey} (ha : s.towSet k = [k]) (j : TileKey) :
    (s.spend.rollbackAt k).tileAt j = releasedBy k j ((s.spend.modTileAt k Tile.rollback).tileAt j) := by
  rw [State.rollbackAt_tileAt, State.replayWaits_alone (show s.spend.towSet k = [k] from ha)]

/-- R58, R78, R363: a cause that rolls back freezes the tile at its mark point, with its holds on cells released. -/
theorem trap_rolled {s : State} {c : Cause} (hf : s.tile.frozen = false) (hp : s.tile.priv = false) (ha : s.towSet s.cur = [s.cur])
    (hr : isRollbackCause c.code = true) :
    (∃ u l, (s.takeTrap c).tile = { s.tile.rollback with
      under := u, held := l, frozen := true, tv := true, nest := s.tile.inh, code := c.code,
      tepc := addrWord s.tile.mark.seq.pc, faultH := c.h, tinfo := #v[c.i0, c.i1, c.i2, c.i3] }) ∧
    ∀ k, k.ctx = s.cur.ctx → k.die = s.cur.die → ((s.takeTrap c).tileAt k).held = (s.tileAt k).held.filter (fun x => x.2 ≠ s.cur) := by
  obtain ⟨hb, hc⟩ := s.trapBase_rolled s.cur hr
  obtain ⟨⟨u, hk⟩, ho⟩ := State.trapped_alone (s := s) (k := s.cur) (c := c)
    (hb ▸ (State.towSet_congr (fun j => s.spend.rollbackAt_task s.cur j) _).trans ha)
  have hself : (s.spend.rollbackAt s.cur).tileAt s.cur = releasedBy s.cur s.cur s.tile.rollback := by
    rw [rolled_tileAt ha, State.modTileAt_tileAt]; rfl
  obtain ⟨l, hl⟩ := releasedBy_eq s.cur s.cur s.tile.rollback
  rw [hb, hc, hself, hl] at hk
  have ht := State.takeTrapAt_tileAt (c := c) hf (.inl hp)
  refine ⟨⟨u, l, ?_⟩, fun k hctx hdie => ?_⟩
  · rw [takeTrap_tile, ht, hk]
    rfl
  · have held : ((s.spend.rollbackAt s.cur).tileAt k).held = (s.tileAt k).held.filter (fun x => x.2 ≠ s.cur) := by
      rw [rolled_tileAt ha, releasedBy_held _ hctx hdie, State.modTileAt_keeps (f := Tile.rollback) Tile.held (fun _ => rfl)]
      rfl
    by_cases e : k = s.cur
    · subst e
      rw [← held, hself, hl]
      have h := congrArg Tile.held ((ht _).trans hk)
      exact h
    · rw [← held, ← hb]
      exact congrArg Tile.held ((ht k).trans (ho k e))

end Sys2Proof.Claims

open Sys2Proof Sys2Proof.Machine Sys2Proof.Claims

/-- Settles O43: the record of a cause over the tile as it stands, over the tile rolled back, and the cause that a frozen tile holds. -/
theorem trapTaken : Obligations.TrapTaken := by
  intro s c
  refine ⟨fun hf ha hr => ?_, fun hf hp ha hr => ?_, fun hf => ?_⟩
  · obtain ⟨⟨u, ht⟩, ho⟩ := trap_plain hf ha hr
    dsimp only
    rw [ht]
    exact ⟨rfl, rfl, rfl, rfl, rfl, rfl, rfl, rfl, rfl, rfl, sameBytes_takeTrapAt s s.cur c, ho⟩
  · obtain ⟨⟨u, l, ht⟩, hheld⟩ := trap_rolled hf hp ha hr
    dsimp only
    rw [ht]
    exact ⟨rfl, rfl, rfl, rfl, rfl, rfl, rfl, sameBytes_takeTrapAt s s.cur c, hheld,
      fun k off => congrArg (fun l => decide (off ∈ l)) (s.takeTrapAt_full s.cur k c)⟩
  · exact (State.takeTrapAt_held (.inl hf)).trans (by cases isService c.code <;> rfl)

end

section
/-! PROOF. The moves (O6, O7), the operations with timed results (O8), the landing of results (O9), the guard of a sys trigger (O29) and the
scrubber (O33). -/

namespace Sys2Proof.Machine

/-! ### Registers and ports behind a move (R195, R200, R239) -/

@[simp] theorem TileCore.setOpnd_mask' (c : TileCore) (sk : Sock) (pt : OPort) (v : Wide) (w : Word) :
    (c.setOpnd sk pt v w).mask' sk pt = w := vget_set_self _ _ (opIdx sk pt).isLt _ _ rfl

theorem TileCore.setOpnd_mask'_ne (c : TileCore) {sk sj : Sock} {pt pu : OPort} (v : Wide) (w : Word) (h : sj = sk → pu ≠ pt) :
    (c.setOpnd sk pt v w).mask' sj pu = c.mask' sj pu :=
  vget_set_ne _ _ (opIdx sk pt).isLt _ _ (fun e => h (opIdx_inj (Fin.ext e)).1 (opIdx_inj (Fin.ext e)).2)

/-- What a write of one destination leaves of a core: everything but that register, predicate or port. -/
structure WritesOnly (d : Dst) (a b : TileCore) : Prop where
  h : b.h = a.h
  ev : b.ev = a.ev
  frm : b.frm = a.frm
  bf : b.bf = a.bf
  lockmask : b.lockmask = a.lockmask
  res : b.res = a.res
  flight : b.flight = a.flight
  o : ∀ n, d ≠ .o n → b.o.get n.toFin = a.o.get n.toFin
  m : ∀ n, d ≠ .m n → b.m.get n.toFin = a.m.get n.toFin
  p : ∀ n, d ≠ .p n → b.pred n = a.pred n
  port : ∀ sk pt, d ≠ .port sk pt → b.opnd' sk pt = a.opnd' sk pt ∧ b.mask' sk pt = a.mask' sk pt

theorem WritesOnly.refl (d : Dst) (a : TileCore) : WritesOnly d a a :=
  ⟨rfl, rfl, rfl, rfl, rfl, rfl, rfl, fun _ _ => rfl, fun _ _ => rfl, fun _ _ => rfl, fun _ _ _ => ⟨rfl, rfl⟩⟩

theorem TileCore.setO_writesOnly (c : TileCore) (n : BitVec 3) (v : Wide) : WritesOnly (.o n) c (c.setO n v) :=
  { WritesOnly.refl _ c with o := fun _ hj => c.setO_get_ne v (fun e => hj (e ▸ rfl)) }

theorem TileCore.setM_writesOnly (c : TileCore) (n : BitVec 6) (v : Wide) : WritesOnly (.m n) c (c.setM n v) :=
  { WritesOnly.refl _ c with m := fun _ hj => c.setM_get_ne v (fun e => hj (e ▸ rfl)) }

theorem TileCore.setPred_writesOnly (c : TileCore) (n : BitVec 5) (v : Word) : WritesOnly (.p n) c (c.setPred n v) := by
  refine ⟨by simp, by simp, by simp, by simp, by simp, by simp, by simp, fun _ _ => by simp, fun _ _ => by simp,
    fun j hj => c.setPred_pred_ne v (fun e => hj (e ▸ rfl)), fun sk pt _ => ?_⟩
  simp [TileCore.opnd', TileCore.mask']

theorem TileCore.setOpnd_writesOnly (c : TileCore) (sk : Sock) (pt : OPort) (v : Wide) (w : Word) :
    WritesOnly (.port sk pt) c (c.setOpnd sk pt v w) :=
  { WritesOnly.refl _ c with
    port := fun sj pu hj =>
      have hne : sj = sk → pu ≠ pt := fun e e' => hj (e ▸ e' ▸ rfl)
      ⟨c.setOpnd_opnd'_ne v w hne, c.setOpnd_mask'_ne v w hne⟩ }

theorem TileCore.scalarWrite_writesOnly (c : TileCore) (d : Dst) (v : Word) : WritesOnly d c (c.scalarWrite d v) :=
  match d with
  | .null => WritesOnly.refl _ c
  | .o n => c.setO_writesOnly n _
  | .p n => c.setPred_writesOnly n v
  | .m n => c.setM_writesOnly n _
  | .port sk pt => c.setOpnd_writesOnly sk pt _ _

theorem TileCore.vectorWrite_writesOnly (c : TileCore) (d : Dst) (gr : Nat) (w : Word) (v : Wide) :
    WritesOnly d c (c.vectorWrite d gr w v) :=
  match d with
  | .null => WritesOnly.refl _ c
  | .o n => c.setO_writesOnly n _
  | .p _ => WritesOnly.refl _ c
  | .m n => c.setM_writesOnly n _
  | .port sk pt => c.setOpnd_writesOnly sk pt _ _

/-- A read of a port before the write changes nothing that the frame speaks of (R20, R27). -/
theorem WritesOnly.of_consume {d : Dst} {q : Bool} {ps : List (Sock × RPort)} {a b : TileCore} (h : WritesOnly d (a.consume q ps) b) :
    WritesOnly d a b := by
  obtain ⟨h1, h2, h3, h4, h5, h6, h7, h8, h9, -, h11, h12, h13, -⟩ := TileCore.consume_frame q ps a
  obtain ⟨eh, eev, efrm, ebf, elock, eres, efl, eo, em, ep, eport⟩ := h
  refine ⟨eh.trans h6, eev.trans h13, efrm.trans h11, ebf.trans h12, elock.trans h9, eres.trans h7, efl.trans h8,
    fun n hn => (eo n hn).trans (by rw [h4]), fun n hn => (em n hn).trans (by rw [h3]), fun n hn => (ep n hn).trans ?_,
    fun sk pt hd => ⟨(eport sk pt hd).1.trans ?_, (eport sk pt hd).2.trans ?_⟩⟩
  · simp only [TileCore.pred, h5]
  · simp only [TileCore.opnd', h1]
  · simp only [TileCore.mask', h2]

/-! ### One move alone -/

/-- What has to hold of the source of a move, whatever its slot (R21, R25, R74, R97). -/
structure SourceReads (src : Src) (s : State) : Prop where
  runs : s.tile.frozen = false
  ready : ∀ x ∈ srcPorts src, s.portWait x = false
  late : s.earlyPort src = false
  sound : ∀ x ∈ srcPorts src, s.portCause x = none

theorem ScalarIssues.reads {sk : Sock} {src : Src} {g : Guard} {s : State} (h : ScalarIssues sk src g s) : SourceReads src s :=
  ⟨h.runs, h.ready, h.late, h.sound⟩

theorem VectorIssues.reads {src : Src} {s : State} (h : VectorIssues src s) : SourceReads src s := ⟨h.runs, h.ready, h.late, h.sound⟩

/-- A move that is not cancelled and not refused takes its effect behind the read of its source. -/
theorem runMove_writes {d : Dst} {src : Src} {i : Instr} {s : State} {r : Ready} (h : SourceReads src s)
    (hr : s.ready s.tile.core.seq.slot s.tile.core.seq.hdr i = some r) (hps : r.ports = srcPorts src)
    (hm : s.tile.priv = false ∨ (privSrcOk src && privDstOk d) = true) :
    runMove d src i s = .next ((s.taken src).modTile (fun t => t.mapCore (r.freeze s).write)) := by
  have hp : (s.tile.priv && !(privSrcOk src && privDstOk d)) = false := by
    rcases hm with m | m <;> simp only [m, Bool.false_and, Bool.not_true, Bool.and_false]
  have hw : r.ports.any (fun x => s.portWait x) = false := by
    rw [hps, List.any_eq_false]
    intro x hx
    simp [h.ready x hx]
  have hc : r.ports.findSome? (fun x => s.portCause x) = none := by
    rw [hps]; exact List.findSome?_eq_none_iff.mpr h.sound
  unfold runMove
  rw [if_neg (by simp [h.runs]), hr]
  dsimp only
  rw [hp, hw, h.late, hc, hps]
  rfl

/-- A move that is cancelled moves nothing (R30, R196). -/
theorem runMove_off {d : Dst} {src : Src} {i : Instr} {s : State} (hr : s.ready s.tile.core.seq.slot s.tile.core.seq.hdr i = none) :
    runMove d src i s = .next s := by
  unfold runMove
  rw [hr]
  exact ite_self _

/-- In privileged mode a move that a stub may not make raises "privilege violation" (R359). -/
theorem runMove_denied {d : Dst} {src : Src} {i : Instr} {s : State} {r : Ready} (hf : s.tile.frozen = false)
    (hr : s.ready s.tile.core.seq.slot s.tile.core.seq.hdr i = some r) (hp : s.tile.priv = true)
    (hno : (privSrcOk src && privDstOk d) = false) : runMove d src i s = .next (s.takeTrap (s.privViolation 0 0)) := by
  unfold runMove
  rw [if_neg (by simp [hf]), hr]
  dsimp only
  rw [hp, hno]
  rfl

/-- The slot of a scalar move whose guard holds is read; it reads its source's ports, and writes its destination. -/
theorem State.ready_move {d : Dst} {src : Src} {g : Guard} {s : State} (hg : s.tile.core.guardOn g = true) (hd : d ≠ .null)
    (slot : Nat) (hdr : BitVec 16) :
    ∃ r, s.ready slot hdr (.move d src g) = some r ∧ r.ports = srcPorts src ∧
      (r.freeze s).write = fun c => c.scalarWrite d (s.scalarSrc src) := by
  unfold State.ready
  dsimp only
  rw [if_neg (by simp [hd, hg])]
  exact ⟨_, rfl, rfl, rfl⟩

/-- That of a vector move is read whatever its guard. -/
theorem State.ready_moveVector {d : Dst} (md : SrcMod) (src : Src) (g : Guard) (s : State) (hd : d ≠ .null) (slot : Nat) (hdr : BitVec 16) :
    ∃ r, s.ready slot hdr (.moveVector d md src g) = some r ∧ r.ports = srcPorts src ∧
      (r.freeze s).write = fun c => c.vectorWrite d (modGranule md) (s.tile.core.guardWord g) (s.vectorSrc md src) := by
  unfold State.ready
  dsimp only
  rw [if_neg hd]
  exact ⟨_, rfl, rfl, rfl⟩

theorem State.ready_moveVector_null (md : SrcMod) (src : Src) (g : Guard) (s : State) (slot : Nat) (hdr : BitVec 16) :
    s.ready slot hdr (.moveVector .null md src g) = none := by
  unfold State.ready
  exact if_pos rfl

theorem State.ready_move_off {d : Dst} {src : Src} {g : Guard} {s : State} (h : d = .null ∨ s.tile.core.guardOn g = false)
    (slot : Nat) (hdr : BitVec 16) : s.ready slot hdr (.move d src g) = none :=
  if_pos (by rcases h with e | e <;> simp [e])

theorem exec_move {d : Dst} {src : Src} {g : Guard} {s : State} (h : SourceReads src s) (hg : s.tile.core.guardOn g = true) (hd : d ≠ .null)
    (hm : s.tile.priv = false ∨ (privSrcOk src && privDstOk d) = true) :
    exec (.move d src g) s = .next ((s.taken src).modTile (fun t => t.mapCore (fun c => c.scalarWrite d (s.scalarSrc src)))) := by
  obtain ⟨r, hr, hps, hw⟩ := State.ready_move (src := src) hg hd s.tile.core.seq.slot s.tile.core.seq.hdr
  exact hw ▸ runMove_writes h hr hps hm

theorem exec_move_off {d : Dst} {src : Src} {g : Guard} {s : State} (h : d = .null ∨ s.tile.core.guardOn g = false) :
    exec (.move d src g) s = .next s := runMove_off (State.ready_move_off h _ _)

theorem exec_moveVector {d : Dst} {md : SrcMod} {src : Src} {g : Guard} {s : State} (h : VectorIssues src s) (hd : d ≠ .null) :
    exec (.moveVector d md src g) s = .next ((s.taken src).modTile (fun t => t.mapCore (fun c =>
      c.vectorWrite d (modGranule md) (s.tile.core.guardWord g) (s.vectorSrc md src)))) := by
  obtain ⟨r, hr, hps, hw⟩ := State.ready_moveVector md src g s hd s.tile.core.seq.slot s.tile.core.seq.hdr
  exact hw ▸ runMove_writes h.reads hr hps (.inl h.mode)

theorem exec_moveVector_null (md : SrcMod) (src : Src) (g : Guard) (s : State) : exec (.moveVector .null md src g) s = .next s :=
  runMove_off (d := .null) (src := src) (State.ready_moveVector_null md src g s _ _)

end Sys2Proof.Machine

namespace Sys2Proof.Claims

open Sys2Proof.Machine

theorem privSrcOk_iff (src : Src) : privSrcOk src = true ↔ StubSource src := by
  unfold StubSource
  cases src with
  | imm8 v => exact iff_of_true rfl (.inl ⟨v, rfl⟩)
  | limmS v => exact iff_of_true rfl (.inr (.inl ⟨v, .inl rfl⟩))
  | limmZ v => exact iff_of_true rfl (.inr (.inl ⟨v, .inr (.inl rfl)⟩))
  | limmHi v => exact iff_of_true rfl (.inr (.inl ⟨v, .inr (.inr rfl)⟩))
  | port sk r =>
    refine ⟨fun h => .inr (.inr ?_), ?_⟩
    · cases sk <;> cases r <;> cases h
      rfl
    · rintro (⟨v, e⟩ | ⟨v, e | e | e⟩ | e) <;> cases e
      rfl
  | m n => exact iff_of_false Bool.false_ne_true (by simp)
  | o n => exact iff_of_false Bool.false_ne_true (by simp)
  | p n => exact iff_of_false Bool.false_ne_true (by simp)
  | special v => exact iff_of_false Bool.false_ne_true (by simp)

theorem privDstOk_iff {d : Dst} (hd : d ≠ .null) : privDstOk d = true ↔ ∃ pt, d = .port .sys pt := by
  constructor
  · intro h
    unfold privDstOk at h
    split at h
    · exact absurd rfl hd
    · exact ⟨_, rfl⟩
    · cases h
  · rintro ⟨pt, rfl⟩
    rfl

/-- What a stub may not do, in the statement's words and in the model's. -/
theorem stub_denied {d : Dst} {src : Src} (hd : d ≠ .null) (h : ¬StubSource src ∨ ∀ pt, d ≠ .port .sys pt) :
    (privSrcOk src && privDstOk d) = false := by
  rw [Bool.and_eq_false_iff, ← Bool.not_eq_true, ← Bool.not_eq_true, privSrcOk_iff, privDstOk_iff hd]
  exact h.imp id (fun h ⟨pt, e⟩ => h pt e)

theorem moveScalar : MoveScalar := by
  have off (d : Dst) (src : Src) (g : Guard) (s : State) (h : s.tile.core.guardOn g = false) : exec (.move d src g) s = .next s :=
    exec_move_off (.inr h)
  refine ⟨fun d src g s h hd => exec_move h.reads h.on hd (.inl ?_), off, fun src g s => exec_move_off (.inl rfl), fun c v => ?_⟩
  · exact h.mode.resolve_right (by decide)
  · refine ⟨fun n => c.setO_get n _, fun n => c.setM_get n _, fun n => ?_, fun sk pt => c.setOpnd_opnd' sk pt _ _⟩
    split
    · next e => rw [e]; rfl
    · next e => exact c.setPred_pred n v e

theorem moveVector : MoveVector :=
  ⟨fun _ _ _ _ _ h hd => exec_moveVector h hd, exec_moveVector_null, fun c _ _ _ => ⟨fun n => c.setO_get n _, fun n => c.setM_get n _,
    fun sk pt => ⟨c.setOpnd_opnd' sk pt _ _, c.setOpnd_mask' sk pt _ _⟩⟩⟩

theorem movePrivileged : MovePrivileged := by
  intro d src g s hf hp hd
  refine ⟨fun hs hpt h => exec_move h.reads h.on hd (.inr ?_), fun h => ⟨fun hg => ?_, fun md => ?_⟩⟩
  · rw [(privSrcOk_iff src).mpr hs, (privDstOk_iff hd).mpr hpt]; rfl
  · obtain ⟨r, hr, -⟩ := State.ready_move (src := src) hg hd s.tile.core.seq.slot s.tile.core.seq.hdr
    exact runMove_denied hf hr hp (stub_denied hd h)
  · obtain ⟨r, hr, -⟩ := State.ready_moveVector md src g s hd s.tile.core.seq.slot s.tile.core.seq.hdr
    exact runMove_denied hf hr hp (stub_denied hd h)

/-- What a move leaves, in terms of the tile of the step. -/
structure MoveLeaves (d : Dst) (s t : State) : Prop where
  bytes : SameBytes s t
  trap : SameTrap s.tile t.tile
  core : WritesOnly d s.tile.core t.tile.core

theorem MoveLeaves.refl (d : Dst) (s : State) : MoveLeaves d s s :=
  ⟨sameBytes_refl s, ⟨rfl, rfl, rfl, rfl, rfl, rfl⟩, WritesOnly.refl d _⟩

/-- A write of the core behind the read of the source. -/
theorem moveLeaves_taken {d : Dst} (s : State) (src : Src) {w : TileCore → TileCore} (hw : ∀ c, WritesOnly d c (w c)) :
    MoveLeaves d s ((s.taken src).modTile (fun t => t.mapCore w)) := by
  refine ⟨sameBytes_trans (sameBytes_taken s src) (sameBytes_modTile _ _ rfl), ?_, ?_⟩ <;> rw [State.modTile_tile, State.taken_tile]
  · exact ⟨rfl, rfl, rfl, rfl, rfl, rfl⟩
  · exact (hw _).of_consume

theorem move_leaves {d : Dst} {md : SrcMod} {src : Src} {g : Guard} {s t : State} (h : VectorIssues src s)
    (he : exec (.move d src g) s = .next t ∨ exec (.moveVector d md src g) s = .next t) : MoveLeaves d s t := by
  by_cases hd : d = .null
  · subst hd
    obtain rfl : s = t := by
      rcases he with e | e
      · exact Host.Outcome.next.inj ((exec_move_off (.inl rfl)).symm.trans e)
      · exact Host.Outcome.next.inj ((exec_moveVector_null md src g s).symm.trans e)
    exact MoveLeaves.refl _ s
  rcases he with e | e
  · cases hg : s.tile.core.guardOn g with
    | false =>
      obtain rfl := Host.Outcome.next.inj ((exec_move_off (.inr hg)).symm.trans e)
      exact MoveLeaves.refl _ s
    | true =>
      obtain rfl := Host.Outcome.next.inj ((exec_move h.reads hg hd (.inl h.mode)).symm.trans e)
      exact moveLeaves_taken s src (fun c => c.scalarWrite_writesOnly d _)
  · obtain rfl := Host.Outcome.next.inj ((exec_moveVector h hd).symm.trans e)
    exact moveLeaves_taken s src (fun c => c.vectorWrite_writesOnly d _ _ _)

end Sys2Proof.Claims

open Sys2Proof Sys2Proof.Machine Sys2Proof.Claims

/-- Settles O6: what a move writes behind the read of its source, what cancels it, and what a stub may not move. -/
theorem moveResults : Obligations.MoveResults := ⟨moveScalar, moveVector, movePrivileged⟩

/-- Settles O7: a move writes its destination alone. -/
theorem moveFrame : Obligations.MoveFrame := by
  intro d md src g s t h he
  obtain ⟨hb, ht, c⟩ := move_leaves h he
  exact ⟨hb, ht, c.h, c.ev, c.frm, c.bf, c.lockmask, c.res, c.flight, c.o, c.m, c.p, c.port⟩

end

section
/-! PROOF. The operations whose one effect is a timed result (O8), results that land (O9), the guard of a sys trigger (O29) and the scrubber
(O33). -/

namespace Sys2Proof.Machine

/-! ### Operations whose one effect is a timed result (R19, R204) -/

/-- The operation neither waits nor traps, and what it does is to put timed results on their way. -/
def Hooks.Times (h : Hooks) : Prop :=
  ∃ act, h = .plain act ∧ ∀ s, ∃ sk lat rs ev, act s = s.timed sk lat rs ev

theorem scalarHooks_times (sk : Sock) (lat : Nat) (t : Wide) (f : Word → Word → Word → Word) : (scalarHooks sk lat t f).Times :=
  ⟨_, rfl, fun _ => ⟨_, _, _, _, rfl⟩⟩

theorem prdHooks_times (t : Wide) (f : Word → Word → Word) : (prdHooks t f).Times := scalarHooks_times .prd 1 t _

theorem flagHooks_times (sk : Sock) (t : Wide) (f : Word → Word → Bool) : (flagHooks sk t f).Times :=
  ⟨_, rfl, fun _ => ⟨_, _, _, _, rfl⟩⟩

theorem divHooks_times (t : Wide) (f : Word → Word → Word) : (divHooks t f).Times := ⟨_, rfl, fun _ => ⟨_, _, _, _, rfl⟩⟩

theorem laneHooks_times (sk : Sock) (lat w : Nat) (t : Wide) (g : Word) (f : Nat → Nat → Nat → Nat → Res) :
    (laneHooks sk lat w t g f).Times := ⟨_, rfl, fun _ => ⟨_, _, _, _, rfl⟩⟩

theorem cmpHooks_times (sk : Sock) (op : Cmp) (ty : ElTy) (t : Wide) (g : Word) : (cmpHooks sk op ty t g).Times :=
  ⟨_, rfl, fun _ => ⟨_, _, _, _, rfl⟩⟩

theorem permHooks_times (w : Nat) (t : Wide) (g : Word) (f : (Nat → Nat) → (Nat → Nat) → (Nat → Nat) → Nat → Nat) :
    (permHooks w t g f).Times := ⟨_, rfl, fun _ => ⟨_, _, _, _, rfl⟩⟩

/-- Such an operation issues whatever the state. -/
theorem Hooks.Times.plain {h : Hooks} (ht : h.Times) (s : State) :
    h.stall s = false ∧ h.early s = none ∧ h.check s = none ∧ h.race s = none ∧ ∃ sk lat rs ev, h.act s = s.timed sk lat rs ev := by
  obtain ⟨act, rfl, hact⟩ := ht
  exact ⟨rfl, rfl, rfl, rfl, hact s⟩

theorem runScalar_times {sk : Sock} {hk : Wide → Word → Hooks} {src : Src} {g : Guard} {s : State} (h : ScalarIssues sk src g s)
    (ht : ∀ t m, (hk t m).Times) : ∃ u lat rs ev, runScalar sk hk src g s = .next ((s.taken src).timed u lat rs ev) := by
  have htimes := ht (wideOfWord (s.scalarSrc src)) (BitVec.allOnes 64)
  obtain ⟨h1, h2, h3, h4, -⟩ := htimes.plain s
  obtain ⟨-, -, -, -, u, lat, rs, ev, ha⟩ := htimes.plain (s.taken src)
  exact ⟨u, lat, rs, ev, ha ▸ runScalar_act h h1 h2 h3 h4⟩

theorem runVector_times {sk : Sock} {hk : Wide → Word → Hooks} {md : SrcMod} {src : Src} {g : Guard} {s : State} (h : VectorIssues src s)
    (ht : ∀ t m, (hk t m).Times) : ∃ u lat rs ev, runVector sk hk md src g s = .next ((s.taken src).timed u lat rs ev) := by
  have htimes := ht (s.vectorSrc md src) (s.tile.core.guardWord g)
  obtain ⟨h1, h2, h3, h4, -⟩ := htimes.plain s
  obtain ⟨-, -, -, -, u, lat, rs, ev, ha⟩ := htimes.plain (s.taken src)
  exact ⟨u, lat, rs, ev, ha ▸ runVector_act h h1 h2 h3 h4⟩

end Sys2Proof.Machine

namespace Sys2Proof.Claims

open Sys2Proof.Machine

/-! ### The frame of the scalar units and the lane operations -/

/-- An instruction of a scalar slot is the trigger of an operation that puts timed results on their way. -/
def TimesScalar (sk : Sock) (i : Src → Guard → Instr) : Prop :=
  ∃ hk : Wide → Word → Hooks, (∀ t m, (hk t m).Times) ∧ ∀ src g s, exec (i src g) s = runScalar sk hk src g s

theorem aluOps_times (u : Twin) : ∀ x ∈ aluOps u, TimesScalar (aluOfTwin u) x.1 := by
  intro x hx
  fin_cases hx <;> exact ⟨_, fun t _ => scalarHooks_times _ 1 t _, fun _ _ _ => rfl⟩

theorem aluFlags_times (u : Twin) : ∀ x ∈ aluFlags u, TimesScalar (aluOfTwin u) x.1 := by
  intro x hx
  fin_cases hx <;> exact ⟨_, fun t _ => flagHooks_times _ t _, fun _ _ _ => rfl⟩

theorem mulOps_times : ∀ x ∈ mulOps, TimesScalar .mul x.1 := by
  intro x hx
  fin_cases hx <;> exact ⟨_, fun t _ => scalarHooks_times _ _ t _, fun _ _ _ => rfl⟩

theorem divOps_times : ∀ x ∈ divOps, TimesScalar .mul x.1 := by
  intro x hx
  fin_cases hx <;> exact ⟨_, fun t _ => divHooks_times t _, fun _ _ _ => rfl⟩

theorem prdOps_times : ∀ x ∈ prdOps, TimesScalar .prd x.1 := by
  intro x hx
  fin_cases hx <;> exact ⟨_, fun t _ => prdHooks_times t _, fun _ _ _ => rfl⟩

theorem prdFlags_times : ∀ x ∈ prdFlags, TimesScalar .prd x.1 := by
  intro x hx
  fin_cases hx <;> exact ⟨_, fun t _ => flagHooks_times _ t _, fun _ _ _ => rfl⟩

/-- What a timed result leaves where its trigger has read its source. -/
def TimedFrame (s t : State) : Prop :=
  SameBytes s t ∧ SameRegisters s.tile.core t.tile.core ∧ SameTrap s.tile t.tile ∧ t.tile.core.res = s.tile.core.res ∧
  t.tile.core.seq = s.tile.core.seq

theorem timedFrame_timed (s : State) (src : Src) (sk : Sock) (lat : Nat) (rs : List (RPort × Wide × Wide)) (ev : EvCount) :
    TimedFrame s ((s.taken src).timed sk lat rs ev) := by
  refine ⟨sameBytes_trans (sameBytes_taken s src) (sameBytes_timed _ _ _ _ _), ?_⟩
  obtain ⟨fl, e⟩ := (s.taken src).timed_tile sk lat rs ev
  obtain ⟨h1, h2, h3, h4, h5, h6, h7, -, h9, h10, h11, h12, h13, -⟩ := TileCore.consume_frame s.ctx.qmode (srcPorts src) s.tile.core
  rw [e, State.taken_tile]
  exact ⟨⟨⟨h3, h4, h5, h6, h1, h2, h9, h11, h12⟩, h13⟩, ⟨rfl, rfl, rfl, rfl, rfl, rfl⟩, h7, h10⟩

theorem timedFrame_scalar {sk : Sock} {l : List (Src → Guard → Instr)} {src : Src} {g : Guard} {s t : State} (h : ScalarIssues sk src g s)
    (hl : ∀ i ∈ l, TimesScalar sk i) (he : ∃ i ∈ l, exec (i src g) s = .next t) : TimedFrame s t := by
  obtain ⟨i, hi, e⟩ := he
  obtain ⟨hk, htimes, hx⟩ := hl i hi
  obtain ⟨u, lat, rs, ev, ha⟩ := runScalar_times h htimes
  obtain rfl := Host.Outcome.next.inj ((ha.symm.trans (hx src g s).symm).trans e)
  exact timedFrame_timed s src u lat rs ev

theorem timedFrame_vector {sk : Sock} {hk : Wide → Word → Hooks} {md : SrcMod} {src : Src} {g : Guard} {s t : State} (h : VectorIssues src s)
    (ht : ∀ v m, (hk v m).Times) (he : runVector sk hk md src g s = .next t) : TimedFrame s t := by
  obtain ⟨u, lat, rs, ev, ha⟩ := runVector_times (sk := sk) (md := md) (g := g) h ht
  obtain rfl := Host.Outcome.next.inj (ha.symm.trans he)
  exact timedFrame_timed s src u lat rs ev

/-- Two lists of operations of one unit, by their names. -/
theorem forall_mem_names {α β γ : Type} {P : γ → Prop} {l : List (γ × α)} {l' : List (γ × β)} (h : ∀ x ∈ l, P x.1) (h' : ∀ x ∈ l', P x.1) :
    ∀ i ∈ l.map (·.1) ++ l'.map (·.1), P i := by
  intro i hi
  rcases List.mem_append.mp hi with hi | hi <;> obtain ⟨x, hx, rfl⟩ := List.mem_map.mp hi
  · exact h x hx
  · exact h' x hx

end Sys2Proof.Claims

open Sys2Proof Sys2Proof.Machine Sys2Proof.Claims

/-- Settles O8: each of the operations puts timed results on their way and does nothing else. -/
theorem resultFrame : Obligations.ResultFrame := by
  intro u md src g s t h
  show TimedFrame s t
  rcases h with ⟨h, he⟩ | ⟨h, he⟩ | ⟨h, he⟩ | ⟨h, he⟩
  · exact timedFrame_scalar h (forall_mem_names (aluOps_times u) (aluFlags_times u)) he
  · exact timedFrame_scalar h (forall_mem_names mulOps_times divOps_times) he
  · exact timedFrame_scalar h (forall_mem_names prdOps_times prdFlags_times) he
  · rcases he with ⟨ty, e | e | e | e | e⟩ | ⟨ty, e | e⟩ | ⟨ty, e | e | e | e⟩ | ⟨ty, e | e | e⟩
    · exact timedFrame_vector h (fun v m => laneHooks_times _ _ _ v m _) e
    · exact timedFrame_vector h (fun v m => laneHooks_times _ _ _ v m _) e
    · exact timedFrame_vector h (fun v m => laneHooks_times _ _ _ v m _) e
    · exact timedFrame_vector h (fun v m => cmpHooks_times _ _ _ v m) e
    · exact timedFrame_vector h (fun v m => cmpHooks_times _ _ _ v m) e
    · exact timedFrame_vector h (fun v m => laneHooks_times _ _ _ v m _) e
    · exact timedFrame_vector h (fun v m => laneHooks_times _ _ _ v m _) e
    · exact timedFrame_vector h (fun v m => cmpHooks_times _ _ _ v m) e
    · exact timedFrame_vector h (fun v m => cmpHooks_times _ _ _ v m) e
    · exact timedFrame_vector h (fun v m => laneHooks_times _ _ _ v m _) e
    · exact timedFrame_vector h (fun v m => laneHooks_times _ _ _ v m _) e
    · exact timedFrame_vector h (fun v m => permHooks_times _ v m _) e
    · exact timedFrame_vector h (fun v m => laneHooks_times _ _ _ v m _) e
    · exact timedFrame_vector h (fun v m => laneHooks_times _ _ _ v m _) e

end

section
/-! PROOF. Results that land (O9), the guard of a sys trigger (O29) and the scrubber (O33). -/

namespace Sys2Proof.Machine

/-! ### One result that lands (R19-R21) -/

/-- The core behind the landing of one result. -/
def TileCore.landOne (c : TileCore) (q : Bool) (f : InFlight) : TileCore :=
  TileCore.land { c with flight := c.flight.filter (fun x => x ∉ [f]) } { c with flight := c.flight.filter (fun x => x ∉ [f]) } q f

theorem TileCore.own_res (c : TileCore) (q : Bool) (f : InFlight) : (c.own q f).res = c.res ∧ (c.own q f).ev = c.ev := by
  unfold TileCore.own
  split <;> exact ⟨rfl, rfl⟩

/-- What is counted depends on the counters alone. -/
theorem TileCore.count_ev {c d : TileCore} (h : c.ev = d.ev) (e : EvCount) : (c.count e).ev = (d.count e).ev := by
  unfold TileCore.count
  rw [h]

/-- A result lands in its port, merged under its mask over what stood there, and counts its events. -/
theorem TileCore.land_res (c : TileCore) (q : Bool) (f : InFlight) :
    (TileCore.land c c q f).res = (c.setRes f.sk f.port (mergeBits f.mask (c.res' f.sk f.port) f.value)).res ∧
    (TileCore.land c c q f).ev = (c.count f.evs).ev := by
  obtain ⟨hr, he⟩ := TileCore.own_res (c.setRes f.sk f.port (mergeBits f.mask (c.res' f.sk f.port) f.value)) q f
  unfold TileCore.land
  dsimp only
  rw [ite_self]
  cases q with
  | false => exact ⟨hr, TileCore.count_ev he _⟩
  | true => exact ⟨hr, TileCore.count_ev he _⟩

theorem TileCore.count_get (c : TileCore) (e : EvCount) (i : Fin 16) : (c.count e).ev.get i = satCount (c.ev.get i) (e.of i.val) :=
  Vector.getElem_ofFn i.isLt

/-- What the landing of one result does to a core. -/
theorem TileCore.landOne_res (c : TileCore) (q : Bool) (f : InFlight) :
    (c.landOne q f).res' f.sk f.port = mergeBits f.mask (c.res' f.sk f.port) f.value ∧
    (∀ sk p, (sk, p) ≠ (f.sk, f.port) → (c.landOne q f).res' sk p = c.res' sk p) ∧
    ∀ i : Fin 16, (c.landOne q f).ev.get i = satCount (c.ev.get i) (f.evs.of i.val) := by
  obtain ⟨hr, he⟩ := TileCore.land_res { c with flight := c.flight.filter (fun x => x ∉ [f]) } q f
  refine ⟨?_, fun sk p hne => ?_, fun i => ?_⟩
  · exact (congrArg (fun r => r.get (resIdx f.sk f.port)) hr).trans (TileCore.setRes_res' _ _ _ _)
  · exact (congrArg (fun r => r.get (resIdx sk p)) hr).trans
      (TileCore.setRes_res'_ne _ _ (fun e e' => hne (by rw [e, e'])))
  · exact (congrArg (fun v => v.get i) he).trans (TileCore.count_get _ _ i)

theorem TileCore.landOne_eq (c : TileCore) (q : Bool) (f : InFlight) :
    ∃ r qs o u e, c.landOne q f = { c with res := r, queues := qs, owners := o, unread := u, ev := e,
                                           flight := c.flight.filter (fun x => decide (x ≠ f)) } := by
  obtain ⟨r, qs, o, u, e, h⟩ := TileCore.land_eq { c with flight := c.flight.filter (fun x => x ∉ [f]) }
    { c with flight := c.flight.filter (fun x => x ∉ [f]) } q f
  refine ⟨r, qs, o, u, e, h.trans ?_⟩
  simp only [List.mem_singleton, ne_eq]

/-- One plain result that has not raced lands; in debug mode it may trap behind that, over a result that no move has read (R20). -/
theorem State.landNow_one (s : State) {f : InFlight} (hl : f.live = .plain) (hr : s.raced f.id = false) :
    ∃ t, t = s.modTile (fun t => t.mapCore (fun c => c.landOne s.ctx.qmode f)) ∧
      (s.landNow [f] = t ∨ (s.ctx.debug = true ∧ s.landNow [f] = t.takeTrap (t.overwriteCause f))) := by
  have hv : [f].map s.atDelivery = [f] := by simp [State.atDelivery, hr, hl]
  have hd (c : TileCore) : [f].foldl TileCore.delivered c = c := by simp [TileCore.delivered, hl]
  have hc (u : State) : [f].findSome? u.lostCause = none := by simp [State.lostCause, hl]
  refine ⟨_, rfl, ?_⟩
  unfold State.landNow
  dsimp only
  rw [hv]
  simp only [hd, hc]
  split
  · next g hg =>
    have hdebug : s.ctx.debug = true := by
      split at hg
      · next e => exact (Bool.and_eq_true_iff.mp e).1
      · cases hg
    have hgf : g = f := by
      rw [hdebug] at hg
      split at hg
      · unfold overwritten at hg
        split at hg
        · exact (Option.some.inj hg).symm
        · cases hg
      · cases hg
    exact .inr ⟨hdebug, hgf ▸ rfl⟩
  · exact .inl rfl

end Sys2Proof.Machine

namespace Sys2Proof.Claims

open Sys2Proof.Machine

/-- What the landing of one result leaves and does, in terms of the tile of the step. -/
structure Landed (f : InFlight) (s t : State) : Prop where
  port : t.tile.core.res' f.sk f.port = mergeBits f.mask (s.tile.core.res' f.sk f.port) f.value
  other : ∀ sk p, (sk, p) ≠ (f.sk, f.port) → t.tile.core.res' sk p = s.tile.core.res' sk p
  flight : t.tile.core.flight = s.tile.core.flight.filter (fun x => decide (x ≠ f))
  counts : ∀ i : Fin 16, t.tile.core.ev.get i = satCount (s.tile.core.ev.get i) (f.evs.of i.val)
  keeps : t.tile.core.m = s.tile.core.m ∧ t.tile.core.o = s.tile.core.o ∧ t.tile.core.p = s.tile.core.p ∧ t.tile.core.h = s.tile.core.h ∧
    t.tile.core.opnd = s.tile.core.opnd ∧ t.tile.core.seq = s.tile.core.seq
  bytes : SameBytes s t

theorem landed_landOne (s : State) (f : InFlight) (q : Bool) : Landed f s (s.modTile (fun t => t.mapCore (fun c => c.landOne q f))) := by
  obtain ⟨hp, ho, hc⟩ := TileCore.landOne_res s.tile.core q f
  obtain ⟨r, qs, o, u, e, h⟩ := TileCore.landOne_eq s.tile.core q f
  have ht : (s.modTile (fun t => t.mapCore (fun c => c.landOne q f))).tile.core = s.tile.core.landOne q f :=
    congrArg Tile.core (State.modTile_tile s _)
  refine ⟨by rw [ht, hp], fun sk p hne => by rw [ht, ho sk p hne], ?_, fun i => by rw [ht, hc], ?_, sameBytes_modTile _ _ rfl⟩ <;> rw [ht, h]
  exact ⟨rfl, rfl, rfl, rfl, rfl, rfl⟩

/-- The debug trap behind a landing leaves what has landed. -/
theorem Landed.trap {f : InFlight} {s t : State} (h : Landed f s t) (g : InFlight) : Landed f s (t.takeTrap (t.overwriteCause g)) := by
  obtain ⟨hp, ho, hf, hc, hk, hb⟩ := h
  have ht : (t.takeTrap (t.overwriteCause g)).tile.core = t.tile.core := by
    rw [takeTrap_tile]
    exact State.takeTrapAt_core t t.cur t.cur _ rfl
  refine ⟨by rw [ht, hp], fun sk p hne => by rw [ht, ho sk p hne], by rw [ht, hf], fun i => by rw [ht, hc], by rw [ht]; exact hk,
    sameBytes_trans hb (sameBytes_takeTrapAt t t.cur _)⟩

theorem timedLands : TimedLands := by
  intro s f hfz hdb hl hlive hr
  obtain ⟨t, rfl, ht⟩ := State.landNow_one s hlive hr
  obtain ⟨hp, ho, hf, hc, ⟨km, ko, kp, kh, kopnd, kseq⟩, hb⟩ := landed_landOne s f s.ctx.qmode
  have htrap : SameTrap s.tile (s.modTile (fun t => t.mapCore (fun c => c.landOne s.ctx.qmode f))).tile := by
    rw [State.modTile_tile]
    exact ⟨rfl, rfl, rfl, rfl, rfl, rfl⟩
  refine ⟨_, ?_, hp, ho, hf, hc, km, ko, kp, kh, kopnd, kseq, hb, htrap⟩
  have hx : exec .timedResultLands s = .next (s.landNow s.tile.landing) := if_neg (by simp [hfz, hl])
  rw [hx, hl, ht.resolve_right (fun h => Bool.false_ne_true (hdb.symm.trans h.1))]

/-- The entries of one interlocked operation are one result, so its removal is that result's. -/
theorem filter_ne_of_filter_eq {p : InFlight → Bool} {l : List InFlight} {f : InFlight} (h : l.filter p = [f]) :
    l.filter (fun x => decide (x ≠ f)) = l.filter (fun x => !p x) := by
  have hp : p f = true := (List.mem_filter.mp (h ▸ List.mem_singleton_self f)).2
  refine List.filter_congr fun x hx => ?_
  by_cases e : x = f
  · simp [e, hp]
  · have hn : p x = false := by
      rw [← Bool.not_eq_true]
      exact fun hxp => e (List.mem_singleton.mp (h ▸ List.mem_filter.mpr ⟨hx, hxp⟩))
    simp [e, hn]

theorem lockedDelivered : LockedDelivered := by
  intro s sk f hfz hlive hr hd hfl
  obtain ⟨t, ht, hland⟩ := State.landNow_one s hlive hr
  have hx : exec (.interlockedResultDelivered sk) s = .next (s.landNow [f]) := by
    show execInterlockedResultDelivered sk s = _
    unfold execInterlockedResultDelivered
    rw [if_neg (by simp [hfz]), hd]
    dsimp only
    rw [hfl]
  have hl : Landed f s (s.landNow [f]) := by
    have h : Landed f s t := ht ▸ landed_landOne s f s.ctx.qmode
    rcases hland with e | ⟨-, e⟩ <;> rw [e]
    · exact h
    · exact h.trap f
  exact ⟨_, hx, hl.port, hl.flight.trans (filter_ne_of_filter_eq hfl), hl.other, hl.bytes⟩

/-! ### A sys trigger under a false guard -/

/-- A machine whose tile runs in privileged mode. -/
def privileged : State := State.reset.modTile (fun t => { t with priv := true })

/-- A guard that does not hold: p0, which is all ones, inverted (R30). -/
def neverOn : Guard := { inv := true, p := 0 }

theorem privileged_tile : privileged.tile = { State.reset.tile with priv := true } := State.modTile_tile _ _

/-- SYSRD of a register that a stub may not read is refused before its guard is looked at (log 55). -/
theorem sysrd_refused : exec (.sysrd (.m 0) neverOn) privileged =
    .next (privileged.takeTrap (privileged.privViolation (sockIdx .sys).val (privileged.scalarSrc (.m 0)))) := by
  have hp : (privileged.tile.priv && !privileged.tile.frozen && !privSrcOk (.m 0)) = true := by
    rw [privileged_tile]; rfl
  show runSys hkSysrd (.m 0) neverOn privileged = _
  unfold runSys
  exact if_pos hp

theorem sysrd_freezes : (privileged.takeTrap (privileged.privViolation (sockIdx .sys).val (privileged.scalarSrc (.m 0)))).tile.frozen = true := by
  rw [takeTrap_tile]
  exact State.takeTrapAt_frozen_self _ _ _ (.inr rfl)

/-! ### The scrubber -/

/-- The image of a page behind the emptying of the page of that name. -/
def emptied (mac : BitVec 2) (page : BitVec 3) (clk : Nat) (x : PageImage) : PageImage :=
  if x.mac = mac && x.page = page && x.gone.isNone then { x with gone := some clk } else x

theorem emptied_name (mac : BitVec 2) (page : BitVec 3) (clk : Nat) (x : PageImage) :
    (emptied mac page clk x).mac = x.mac ∧ (emptied mac page clk x).page = x.page := by
  unfold emptied
  split <;> exact ⟨rfl, rfl⟩

theorem emptied_gone {mac : BitVec 2} {page : BitVec 3} {x : PageImage} (clk : Nat) (hm : x.mac = mac) (hp : x.page = page) :
    (emptied mac page clk x).gone ≠ none := by
  unfold emptied
  split
  · simp
  · next h => simpa [hm, hp] using h

theorem emptied_other {mac : BitVec 2} {page : BitVec 3} {x : PageImage} (clk : Nat) (h : ¬(x.mac = mac ∧ x.page = page)) :
    emptied mac page clk x = x :=
  if_neg fun e => by simp only [Bool.and_eq_true, decide_eq_true_eq] at e; exact h e.1

/-- Emptying keeps the pages of other names. -/
theorem mem_emptied {l : List PageImage} {mac : BitVec 2} {page : BitVec 3} {p : PageImage} (clk : Nat)
    (h : ¬(p.mac = mac ∧ p.page = page)) : p ∈ l.map (emptied mac page clk) ↔ p ∈ l := by
  rw [List.mem_map]
  constructor
  · rintro ⟨x, hx, rfl⟩
    obtain ⟨em, ep⟩ := emptied_name mac page clk x
    rw [em, ep] at h
    rwa [emptied_other clk h]
  · exact fun hp => ⟨p, hp, emptied_other clk h⟩

/-- The matrix engine behind the emptying of a page (R418, R419). -/
theorem emptyPage_mx (s : State) (mac : BitVec 2) (page : BitVec 3) :
    (s.modTile (fun t => t.emptyPage mac page)).mx.pages = s.mx.pages.map (emptied mac page s.mx.clk) ∧
    (s.modTile (fun t => t.emptyPage mac page)).mx.desc =
      s.mx.desc.filter (fun x => !(x.mac = mac && x.page = page) || s.mx.loading mac page) := by
  unfold State.mx
  rw [State.modTile_tile]
  exact ⟨rfl, rfl⟩

/-- A record of an error leaves every tile and byte, and stands last in the partition's record (R417, R426). -/
theorem logError_frame (s : State) (part : BitVec 4) (die : DieId) (r : ErrRec) :
    (s.logError part die r).tile = s.tile ∧ (s.logError part die r).errLog = s.errLog ++ [(part, die, r)] ∧
    SameBytes s (s.logError part die r) := ⟨rfl, rfl, fun _ => rfl, fun _ _ => rfl⟩

theorem execScrubRow_ok {mac : BitVec 2} {page : BitVec 3} {row : BitVec 8} {s : State} (hf : s.tile.frozen = false) (ho : s.tile.out = false) :
    exec (.scrubRow mac page row false) s = .next s := by
  show execScrubRow mac page row false s = _
  unfold execScrubRow
  rw [hf, ho]
  rfl

theorem execScrubRow_fails {mac : BitVec 2} {page : BitVec 3} {row : BitVec 8} {s : State} (hf : s.tile.frozen = false) (ho : s.tile.out = false)
    (hp : ∃ p ∈ s.mx.pages, p.mac = mac ∧ p.page = page ∧ p.gone = none) :
    exec (.scrubRow mac page row true) s = .next ((s.modTile (fun t => t.emptyPage mac page)).logError s.ctx.part s.cur.die
      (errRec (s.cycle s.cur.die) 0 0x05 (macroLoc mac page row) 0)) := by
  obtain ⟨p, hmem, hmac, hpage, hgone⟩ := hp
  have hany : s.mx.pages.any (fun p => p.mac = mac && p.page = page && p.gone.isNone) = true :=
    List.any_eq_true.mpr ⟨p, hmem, by simp [hmac, hpage, hgone]⟩
  show execScrubRow mac page row true s = _
  unfold execScrubRow
  rw [hf, ho, hany]
  rfl

theorem execScrubRow_waits {mac : BitVec 2} {page : BitVec 3} {row : BitVec 8} {fails : Bool} {s : State}
    (h : s.tile.frozen = true ∨ s.tile.out = true) :
    exec (.scrubRow mac page row fails) s = .next (s.addEvent (s.clock + 1) s.cur (.scrubRow mac page row fails)) := by
  show execScrubRow mac page row fails s = _
  unfold execScrubRow
  exact if_pos (Bool.or_eq_true_iff.mpr h)

/-- What the failing row leaves of the engine, the registers and the bytes. -/
theorem scrubbed (mac : BitVec 2) (page : BitVec 3) (s : State) (part : BitVec 4) (die : DieId) (r : ErrRec) {t : State}
    (ht : t = (s.modTile (fun t => t.emptyPage mac page)).logError part die r) :
    (∀ p ∈ t.mx.pages, p.mac = mac → p.page = page → p.gone ≠ none) ∧
    (s.mx.loading mac page = false → ∀ x ∈ t.mx.desc, ¬(x.mac = mac ∧ x.page = page)) ∧
    (s.mx.loading mac page = true → t.mx.desc = s.mx.desc) ∧
    (∀ p, ¬(p.mac = mac ∧ p.page = page) → (p ∈ t.mx.pages ↔ p ∈ s.mx.pages)) ∧
    t.errLog = s.errLog ++ [(part, die, r)] ∧ SameBytes s t ∧ SameRegisters s.tile.core t.tile.core := by
  obtain ⟨hpages, hdesc⟩ := emptyPage_mx s mac page
  obtain ⟨htile, hlog, hbytes⟩ := logError_frame (s.modTile (fun t => t.emptyPage mac page)) part die r
  rw [← ht] at htile hlog hbytes
  have hmx : t.mx = (s.modTile (fun t => t.emptyPage mac page)).mx := congrArg (fun t => t.core.mx) htile
  rw [hmx, hpages, hdesc, htile, State.modTile_tile]
  refine ⟨fun p hp hm hg => ?_, fun hl x hx => ?_, fun hl => ?_, fun p hp => mem_emptied _ hp, hlog,
    sameBytes_trans (sameBytes_modTile _ _ rfl) hbytes, ⟨rfl, rfl, rfl, rfl, rfl, rfl, rfl, rfl, rfl⟩, rfl⟩
  · obtain ⟨x, -, rfl⟩ := List.mem_map.mp hp
    obtain ⟨em, ep⟩ := emptied_name mac page s.mx.clk x
    exact emptied_gone _ (em.symm.trans hm) (ep.symm.trans hg)
  · have h := (List.mem_filter.mp hx).2
    simpa [hl, imp_iff_not_or] using h
  · simp [hl]

end Sys2Proof.Claims

open Sys2Proof Sys2Proof.Machine Sys2Proof.Claims

/-- Settles O9: one result that lands, with the debug trap that an interlocked one may take behind that. -/
theorem resultsArrive : Obligations.ResultsArrive := ⟨timedLands, lockedDelivered⟩

/-- Refutes O29: in privileged mode a trigger of sys whose source a stub may not read raises "privilege violation" under a false guard too
(log 55), so a false guard does not cancel it. -/
theorem not_issueRules : ¬ Obligations.IssueRules := by
  rintro ⟨-, hrules, -⟩
  have hoff : privileged.tile.core.guardOn neverOn = false := by
    rw [privileged_tile]; decide +kernel
  have h := ((hrules (.sysrd (.m 0) neverOn) _ privileged rfl).2.1 rfl hoff).symm.trans sysrd_refused
  have hf := congrArg (fun s => s.tile.frozen) (Host.Outcome.next.inj h)
  rw [sysrd_freezes, privileged_tile] at hf
  exact absurd hf (by decide +kernel)

/-- Settles O33: the three ways of SCRUB_ROW. -/
theorem scrubRow : Obligations.ScrubRow := by
  intro mac page row s
  refine ⟨fun hf ho => ⟨execScrubRow_ok hf ho, fun hp => ⟨_, execScrubRow_fails hf ho hp, scrubbed mac page s _ _ _ rfl⟩⟩, fun fails h => execScrubRow_waits h⟩

end

section
/-! PROOF. The issue of a bundle: what it reads, its refusal, and the rest of an issue cycle once the operations have acted (O60). -/

namespace Sys2Proof.Machine

/-! ### Changes of one tile after another -/

theorem assocSet_assocSet {α β : Type} [DecidableEq α] (l : List (α × β)) (k : α) (v w : β) :
    assocSet (assocSet l k v) k w = assocSet l k w := by
  induction l with
  | nil => simp [assocSet]
  | cons x l ih =>
    obtain ⟨a, b⟩ := x
    by_cases e : a = k <;> simp [assocSet, e, ih]

theorem State.setTileAt_setTileAt (s : State) (k : TileKey) (t u : Tile) : (s.setTileAt k t).setTileAt k u = s.setTileAt k u := by
  unfold State.setTileAt
  dsimp only
  rw [assocSet_assocSet]

theorem State.modTile_modTile (s : State) (f g : Tile → Tile) : (s.modTile f).modTile g = s.modTile (fun t => g (f t)) := by
  have hg : (s.modTile f).modTile g = (s.setTileAt s.cur (f s.tile)).setTileAt s.cur (g ((s.modTile f).tile)) := rfl
  rw [hg, State.setTileAt_setTileAt, State.modTile_tile]
  rfl

/-- A change that leaves the tile behind another change as it is. -/
theorem State.modTile_stays {f g : Tile → Tile} (s : State) (h : g (f s.tile) = f s.tile) : (s.modTile f).modTile g = s.modTile f := by
  rw [State.modTile_modTile]
  exact congrArg s.setTile h

/-! ### The decoded bundle -/

/-- A bundle that passes its checks decodes with its own header (R191). -/
theorem checkBundle_hdr {tow spinning : Bool} {replay : List Instr} {b : BitVec 512} {d : Decoded}
    (h : checkBundle tow spinning replay b = .ok d) : d.hdr = bundleHdr b := by
  unfold checkBundle at h
  dsimp only at h
  repeat' split at h
  all_goals cases h
  all_goals rfl

theorem State.checkIssue_hdr {s : State} {b : BitVec 512} {d : Decoded} (h : s.checkIssue b = .ok d) : d.hdr = bundleHdr b := by
  unfold State.checkIssue at h
  split at h
  · cases h
  · split at h
    · cases h
    · dsimp only at h
      split at h
      · cases h
      · next e => exact Except.ok.inj h ▸ checkBundle_hdr e

/-- A set MARK bit stands (R192). -/
theorem hdr_or_mark {h : BitVec 16} (e : hdrMark h = true) : h ||| 1 = h := by
  unfold hdrMark at e
  apply BitVec.eq_of_getLsbD_eq
  intro i hi
  rw [BitVec.getLsbD_or]
  cases i with
  | zero => rw [e, Bool.true_or]
  | succ i => rw [show (1 : BitVec 16).getLsbD (i + 1) = false by simp, Bool.or_false]

end Sys2Proof.Machine

namespace Sys2Proof.Claims

open Sys2Proof.Machine

/-! ### Reading a bundle -/

theorem reading_tile (s : State) (b : BitVec 512) : (reading s b).tile =
    s.tile.mapSeq (fun q => { q with here := q.pc, hdr := bundleHdr b, slot := 11, target := none, safe := false }) := State.modTile_tile _ _

/-- A tile that runs, in user mode, outside a tow set and with no spin in progress. -/
structure RunsAlone (s : State) : Prop where
  runs : s.tile.frozen = false
  user : s.tile.priv = false
  straight : s.tile.core.seq.diverged = none
  alone : s.tile.inTow = false
  unspun : s.tile.core.spin = none

theorem RunsAlone.spinNow {s : State} (h : RunsAlone s) : s.tile.spinNow = none := by
  unfold Tile.spinNow
  rw [h.unspun, ite_self]

theorem RunsAlone.towing {s : State} (h : RunsAlone s) : s.tile.towing = false := by
  unfold Tile.towing
  rw [h.alone, Bool.false_and]

theorem RunsAlone.replay {s : State} (h : RunsAlone s) (hdr : BitVec 16) : s.tile.replay hdr = [] := by
  unfold Tile.replay
  rw [h.spinNow]

theorem RunsAlone.reading {s : State} (h : RunsAlone s) (b : BitVec 512) : RunsAlone (reading s b) := by
  obtain ⟨h1, h2, h3, h4, h5⟩ := h
  constructor <;> rw [reading_tile] <;> assumption

/-- A bundle on such a tile is read and checked. -/
theorem exec_bundle {s : State} (h : RunsAlone s) (b : BitVec 512) :
    exec (.bundleIssue b) s = .next (match (reading s b).checkIssue b with
      | .error c => (reading s b).takeTrap c
      | .ok d =>
        let hdr := if d.isMark then d.hdr ||| 1 else d.hdr
        s.runCycle ((reading s b).modTile (fun t => t.mapSeq (fun q => { q with hdr := hdr })))
          { hdr := hdr, ctl := d.ctl, moves := d.moves.map (fun x => (x.1, hdr, x.2)) ++ (reading s b).tile.replay hdr, bits := b,
            mark := d.isMark && !(reading s b).tile.priv, empty := false }) := by
  have ha : s.areaRefused b = false := by
    unfold State.areaRefused
    rw [h.user]
    rfl
  have ht : s.heldTaskend b = false := by
    unfold State.heldTaskend
    rw [h.spinNow]
    rfl
  show execBundleIssue b s = _
  unfold execBundleIssue State.issueBundle
  rw [ha, h.runs, h.straight, ht]
  rfl

theorem exec_bundle_refused {s : State} (h : RunsAlone s) {b : BitVec 512} {c : Cause} (hc : (reading s b).checkIssue b = .error c) :
    exec (.bundleIssue b) s = .next ((reading s b).takeTrap c) := by
  rw [exec_bundle h, hc]

/-- The issue cycle of a bundle that has passed its checks. -/
def cycleOf (b : BitVec 512) (d : Decoded) : Cycle :=
  { hdr := d.hdr, ctl := d.ctl, moves := d.moves.map (fun x => (x.1, d.hdr, x.2)), bits := b, mark := d.isMark, empty := false }

/-- A bundle whose header says whether it is a MARK bundle goes through its issue cycle. -/
theorem exec_bundle_runs {s : State} (h : RunsAlone s) {b : BitVec 512} {d : Decoded} (hc : (reading s b).checkIssue b = .ok d)
    (hm : d.isMark = hdrMark d.hdr) : exec (.bundleIssue b) s = .next (s.runCycle (reading s b) (cycleOf b d)) := by
  have hh : (if d.isMark then d.hdr ||| 1 else d.hdr) = d.hdr := by
    split
    · next e => exact hdr_or_mark (hm ▸ e)
    · rfl
  have hp : (reading s b).modTile (fun t => t.mapSeq (fun q => { q with hdr := d.hdr })) = reading s b :=
    State.modTile_stays s (by rw [State.checkIssue_hdr hc]; rfl)
  rw [exec_bundle h, hc]
  dsimp only
  rw [hh, hp, (h.reading b).replay, (h.reading b).user, List.append_nil, Bool.not_false, Bool.and_true]
  rfl

/-! ### Bundles that fail a check of their encoding -/

theorem checkIssue_illegal {s : State} (h : RunsAlone s) {b : BitVec 512} (ho : s.orbitFirst b = none) (hp : s.bundlePriv b = none)
    (hn : (hdrNprof (bundleHdr b)).toNat < 8) {e : Reject × Nat} (he : checkBundle false false [] b = .error e) :
    s.checkIssue b = .error (s.illegalBundle b e) := by
  unfold State.checkIssue
  rw [ho, hp]
  dsimp only
  rw [if_neg (Nat.not_le.mpr hn), h.alone, h.spinNow, h.replay, show ([] : List (Nat × BitVec 16 × Instr)).map (fun x => x.2.2) = [] from rfl,
    Option.isSome_none, he]

theorem checkBundle_reserved {b : BitVec 512} (h : (bundleHdr b).extractLsb' 11 5 ≠ 0 ∨ bundleTop b ≠ 0) :
    checkBundle false false [] b = .error (.reservedBits, 11) := by
  unfold checkBundle
  dsimp only
  rw [if_pos (by simpa using h)]

/-- "illegal bundle" of the bundle at an address (R205). -/
def illegalAt (pc : BitVec 56) (i1 i2 : Word) : Cause := { code := 0x01, tepc := pc, i0 := addrWord pc, i1 := i1, i2 := i2, i3 := 0 }

theorem illegalBundle_reading (s : State) (b : BitVec 512) (e : Reject × Nat) : (reading s b).illegalBundle b e =
    illegalAt s.tile.core.seq.pc (BitVec.ofNat 64 (e.1.code.toNat * 256 + e.2)) (rawSlot b e.2) := by
  unfold State.illegalBundle
  rw [reading_tile]
  rfl

theorem illegalAt_reserved (pc : BitVec 56) (b : BitVec 512) :
    illegalAt pc (BitVec.ofNat 64 ((Reject.reservedBits, 11).1.code.toNat * 256 + (Reject.reservedBits, 11).2)) (rawSlot b (Reject.reservedBits, 11).2) =
    illegalAt pc 0x010B ((bundleTop b ++ bundleHdr b : BitVec 32).zeroExtend 64) := rfl

theorem illegalBundles : IllegalBundles := by
  intro s b hf hp hd hs ht ho hb hn
  have h : RunsAlone s := ⟨hf, hp, hd, ht, hs⟩
  have main (e : Reject × Nat) (he : checkBundle false false [] b = .error e) :
      exec (.bundleIssue b) s = .next ((reading s b).takeTrap (illegalAt s.tile.core.seq.pc (BitVec.ofNat 64 (e.1.code.toNat * 256 + e.2))
        (rawSlot b e.2))) := by
    rw [exec_bundle_refused h (checkIssue_illegal (h.reading b) ho hb hn he), illegalBundle_reading]
  refine ⟨main, fun hr => ?_⟩
  rw [main _ (checkBundle_reserved hr), illegalAt_reserved]
  rfl

end Sys2Proof.Claims
end

section
/-! PROOF. The rest of an issue cycle, once its operations have acted (O60). -/

namespace Sys2Proof.Machine

/-! ### Lanes served in a clock (R67, R217) -/

theorem State.yieldStep_frame (s : State) (p : Place) :
    (s.yieldStep p).tiles = s.tiles ∧ (s.yieldStep p).mem = s.mem ∧ (s.yieldStep p).cur = s.cur := by
  unfold State.yieldStep
  split
  · exact ⟨rfl, rfl, rfl⟩
  · dsimp only
    split <;> exact ⟨rfl, rfl, rfl⟩

theorem State.serveLane_frame (s : State) (u : Twin) :
    (s.serveLane u).tiles = s.tiles ∧ (s.serveLane u).mem = s.mem ∧ (s.serveLane u).cur = s.cur := by
  unfold State.serveLane
  split
  · exact State.yieldStep_frame _ _
  · exact ⟨rfl, rfl, rfl⟩

theorem State.serveLanes_frame (s : State) (issue allFree : Bool) :
    (s.serveLanes issue allFree).tiles = s.tiles ∧ (s.serveLanes issue allFree).mem = s.mem ∧ (s.serveLanes issue allFree).cur = s.cur := by
  have step (u : State) (b : Bool) (w : Twin) : (if b then u.serveLane w else u).tiles = u.tiles ∧
      (if b then u.serveLane w else u).mem = u.mem ∧ (if b then u.serveLane w else u).cur = u.cur := by
    cases b
    · exact ⟨rfl, rfl, rfl⟩
    · exact u.serveLane_frame w
  unfold State.serveLanes
  split
  · exact ⟨rfl, rfl, rfl⟩
  · dsimp only
    obtain ⟨t1, m1, c1⟩ := step s (issue || allFree || s.tile.core.seq.busyFree0) .u0
    generalize (if issue || allFree || s.tile.core.seq.busyFree0 then s.serveLane .u0 else s) = u at *
    obtain ⟨t2, m2, c2⟩ := step u (issue || allFree || u.tile.core.seq.busyFree1) .u1
    exact ⟨t2.trans t1, m2.trans m1, c2.trans c1⟩

/-! ### Steps that change nothing where no loop, branch or tow set is at work -/

/-- Nothing is to be decided about the bundle that follows: no branch was taken, no loop runs, the kernel of the task is behind (R43, R229). -/
structure Seq.Straight (q : Seq) : Prop where
  target : q.target = none
  loops : q.loops = []
  kernel : q.kernelDone = true

theorem Tile.atKernel_done {t : Tile} (h : t.core.seq.kernelDone = true) (k : Task) : t.atKernel k = false := by
  unfold Tile.atKernel
  rw [h, Bool.not_true, Bool.and_false, Bool.false_and]

theorem Tile.kernelFull_done {t : Tile} (h : t.core.seq.kernelDone = true) : t.kernelFull = false := by
  unfold Tile.kernelFull
  split
  · rw [Tile.atKernel_done h]
    rfl
  · rfl

theorem Tile.reachKernel_done {t : Tile} (h : t.core.seq.kernelDone = true) : t.reachKernel = t := by
  unfold Tile.reachKernel
  split
  · rfl
  · rw [Tile.atKernel_done h]
    rfl

/-- The sequencer behind its decision (R229). -/
def Seq.decide (q : Seq) : Seq :=
  match q.target with
  | some _ => q
  | none =>
    let r := loopNext q.pc q.loops
    { q with pc := r.1, loops := r.2.1, safe := q.safe || r.2.2 }

theorem Seq.decide_straight {q : Seq} (h : q.Straight) : q.decide = q := by
  obtain ⟨ht, hl, -⟩ := h
  have e : q.decide = { q with pc := (loopNext q.pc q.loops).1, loops := (loopNext q.pc q.loops).2.1,
                               safe := q.safe || (loopNext q.pc q.loops).2.2 } := by
    unfold Seq.decide
    split
    · next h => rw [ht] at h; cases h
    · rfl
  rw [e, hl, loopNext, Bool.or_false, ← hl]

theorem Tile.mapSeq_stays {t : Tile} {f : Seq → Seq} (h : f t.core.seq = t.core.seq) : t.mapSeq f = t := by
  show { t with core := { t.core with seq := f t.core.seq } } = t
  rw [h]

theorem Tile.sequence_eq (t : Tile) : t.sequence = if t.core.seq.ending then t else (t.mapSeq Seq.decide).reachKernel := rfl

/-- The sequencer's decision leaves a straight sequencer. -/
theorem Tile.sequence_straight {t : Tile} (h : t.core.seq.Straight) : t.sequence = t := by
  rw [Tile.sequence_eq, Tile.mapSeq_stays (Seq.decide_straight h), Tile.reachKernel_done h.kernel, ite_self]

theorem State.towPost_alone {s : State} (h : s.tile.towing = false) (ws : List (Dst × Wide)) : s.towPost ws = s := by
  unfold State.towPost
  dsimp only
  rw [h]
  rfl

theorem Tile.towCheck_alone {t : Tile} (h : t.towing = false) (r : BitVec 4) : (t.towCheck r).towStep = t := by
  have hc : t.towCheck r = t := by
    unfold Tile.towCheck
    rw [h]
    rfl
  rw [hc]
  unfold Tile.towStep
  rw [h]
  rfl

theorem State.kernelTrap_done {s : State} (h : s.tile.core.seq.kernelDone = true) : s.kernelTrap = s := by
  unfold State.kernelTrap
  rw [Tile.kernelFull_done h, Bool.not_false, Bool.or_true]
  rfl

/-! ### The tile behind an issue cycle -/

/-- A tile's notes and its sequencer behind a bundle without branch, loop or spin (R58, R204). -/
def Tile.cycled (l : List (Nat × Nat)) (x : Cycle) (t : Tile) : Tile :=
  ((t.noteWritten l).mapSeq (fun q => { q with slot := 10, hdr := x.hdr })).mapSeq (fun q =>
    { q with pc := q.here + 64, drain := hdrDrain x.hdr, safe := q.safe || isTaskend x.ctl, chose := q.chooses x.ctl })

/-- The state behind such a bundle: its clock has passed, and a MARK bundle has taken the mark. -/
def State.cycled (s : State) (l : List (Nat × Nat)) (x : Cycle) : State :=
  let u := (s.modTile (Tile.cycled l x)).clockTick true false
  if x.mark then u.modTile Tile.takeMark else u

/-- A control operation that is cancelled, or a NOP. -/
def Idle (ctl : Option Ctl) : Prop := ctl = none ∨ ctl = some ctlNop

theorem State.clockTick_tile (s : State) (issue allFree : Bool) : (s.clockTick issue allFree).tile = s.tile.clockTick issue allFree := by
  obtain ⟨ht, -, hc⟩ := s.serveLanes_frame issue allFree
  unfold State.clockTick
  rw [State.modTile_tile]
  unfold State.tile State.tileAt
  rw [ht, hc]

theorem State.cycled_kernelDone {s : State} (l : List (Nat × Nat)) (x : Cycle) (h : s.tile.core.seq.kernelDone = true) :
    (s.cycled l x).tile.core.seq.kernelDone = true := by
  have hu : ((s.modTile (Tile.cycled l x)).clockTick true false).tile.core.seq.kernelDone = true := by
    rw [State.clockTick_tile, State.modTile_tile]
    unfold Tile.clockTick
    dsimp only [Tile.mapCore]
    split <;> exact h
  unfold State.cycled
  dsimp only
  split
  · rw [State.modTile_tile]
    exact hu
  · exact hu

/-- The stages of such a bundle's tile before the clock, taken together. -/
theorem State.stages_eq {s : State} (l : List (Nat × Nat)) (x : Cycle) (htow : s.tile.towing = false) (hq : s.tile.core.seq.Straight)
    (ws : List (Dst × Wide)) :
    ((((((s.modTile (fun t => (t.noteWritten l).mapSeq (fun q => { q with slot := 10, hdr := x.hdr }))).modTile
      (fun t => t.mapCore (fun c => { c with spin := c.spin }))).modTile (fun t => t.mapSeq (fun q =>
        { q with pc := q.here + 64, drain := hdrDrain x.hdr, safe := q.safe || isTaskend x.ctl, chose := q.chooses x.ctl }))).modTile
      Tile.sequence).towPost ws).modTile (fun t => (t.towCheck (tidRing s.cur.tid)).towStep)) = s.modTile (Tile.cycled l x) := by
  have hs : (Tile.cycled l x s.tile).core.seq.Straight := ⟨hq.target, hq.loops, hq.kernel⟩
  have htw : (Tile.cycled l x s.tile).towing = false := htow
  have hc : ((s.modTile (fun t => (t.noteWritten l).mapSeq (fun q => { q with slot := 10, hdr := x.hdr }))).modTile
      (fun t => t.mapCore (fun c => { c with spin := c.spin }))).modTile (fun t => t.mapSeq (fun q =>
        { q with pc := q.here + 64, drain := hdrDrain x.hdr, safe := q.safe || isTaskend x.ctl, chose := q.chooses x.ctl })) =
      s.modTile (Tile.cycled l x) := by
    rw [State.modTile_stays s rfl, State.modTile_modTile]
    rfl
  rw [hc, State.modTile_stays s (Tile.sequence_straight hs), State.towPost_alone (by rw [State.modTile_tile]; exact htw),
    State.modTile_stays s (Tile.towCheck_alone htw _)]

/-- The rest of an issue cycle whose bundle neither branches nor spins nor records. -/
theorem State.finishCycle_eq {p s : State} {x : Cycle} {rs : List Ready} {ctl : Option Ctl} (hctl : Idle ctl) (hspin : p.tile.spinNow = none)
    (hrec : hdrSpinrec x.hdr = false) (hempty : x.empty = false) (hlast : ∀ v : State, v.runPhase rs 12 = v)
    (htow : s.tile.towing = false) (hq : s.tile.core.seq.Straight) :
    State.finishCycle p s x rs ctl = s.cycled (p.tile.writtenBy x rs ctl) x := by
  have hk := State.cycled_kernelDone (p.tile.writtenBy x rs ctl) x hq.kernel
  have main {v : State} (hv : v = s.cycled (p.tile.writtenBy x rs ctl) x) : v.kernelTrap = s.cycled (p.tile.writtenBy x rs ctl) x := by
    rw [hv, State.kernelTrap_done hk]
  rcases hctl with rfl | rfl
  · unfold State.finishCycle
    dsimp only
    rw [hspin, hrec, hempty, hlast, Bool.false_and]
    exact main (congrArg (fun u : State => if x.mark then (u.clockTick true false).modTile Tile.takeMark else u.clockTick true false)
      (State.stages_eq _ x htow hq _))
  · unfold State.finishCycle
    dsimp only
    rw [hspin, hrec, hempty, hlast, Bool.false_and]
    exact main (congrArg (fun u : State => if x.mark then (u.clockTick true false).modTile Tile.takeMark else u.clockTick true false)
      (State.stages_eq _ x htow hq _))

/-! ### What it leaves -/

theorem State.clockTick_frame (s : State) (issue allFree : Bool) :
    (s.clockTick issue allFree).mem = s.mem ∧ (s.clockTick issue allFree).cur = s.cur := by
  obtain ⟨-, hm, hc⟩ := s.serveLanes_frame issue allFree
  exact ⟨hm, hc⟩

theorem State.clockTick_keeps {β : Type} (g : Tile → β) (h : ∀ t i a, g (Tile.clockTick t i a) = g t) (s : State) (issue allFree : Bool)
    (k : TileKey) : g ((s.clockTick issue allFree).tileAt k) = g (s.tileAt k) := by
  obtain ⟨ht, -, -⟩ := s.serveLanes_frame issue allFree
  refine (State.modTileAt_keeps g (fun t => h t issue allFree) _ _ k).trans ?_
  unfold State.tileAt
  rw [ht]

theorem State.cycled_frame (s : State) (l : List (Nat × Nat)) (x : Cycle) : (s.cycled l x).mem = s.mem ∧ (s.cycled l x).cur = s.cur := by
  have h := (s.modTile (Tile.cycled l x)).clockTick_frame true false
  unfold State.cycled
  dsimp only
  split <;> exact h

theorem State.cycled_keeps {β : Type} (g : Tile → β) (hx : ∀ l x t, g (Tile.cycled l x t) = g t) (ht : ∀ t i a, g (Tile.clockTick t i a) = g t)
    (hm : ∀ t, g (Tile.takeMark t) = g t) (s : State) (l : List (Nat × Nat)) (x : Cycle) (k : TileKey) :
    g ((s.cycled l x).tileAt k) = g (s.tileAt k) := by
  have hu : g (((s.modTile (Tile.cycled l x)).clockTick true false).tileAt k) = g (s.tileAt k) :=
    (State.clockTick_keeps g ht _ _ _ k).trans (State.modTileAt_keeps g (hx l x) s s.cur k)
  unfold State.cycled
  dsimp only
  split
  · exact (State.modTileAt_keeps g hm _ _ k).trans hu
  · exact hu

theorem State.cycled_tile (s : State) (l : List (Nat × Nat)) (x : Cycle) :
    (s.cycled l x).tile = if x.mark then ((Tile.cycled l x s.tile).clockTick true false).takeMark
      else (Tile.cycled l x s.tile).clockTick true false := by
  have hu : ((s.modTile (Tile.cycled l x)).clockTick true false).tile = (Tile.cycled l x s.tile).clockTick true false := by
    rw [State.clockTick_tile, State.modTile_tile]
  unfold State.cycled
  dsimp only
  split
  · rw [State.modTile_tile, hu]
  · exact hu

/-- The core behind a clock in user mode. -/
theorem Tile.clockTick_core {t : Tile} (issue allFree : Bool) (hp : t.priv = false) :
    ∃ q m, (t.clockTick issue allFree).core = { t.core with seq := q, mx := m, flight := t.core.flight.map (stepFlight issue allFree) } ∧
      q.pc = t.core.seq.pc ∧ q.drain = t.core.seq.drain := by
  unfold Tile.clockTick
  dsimp only [Tile.mapCore]
  simp only [hp, Bool.false_and, Bool.false_eq_true, if_false]
  exact ⟨_, _, rfl, rfl, rfl⟩

theorem Tile.cycled_core (l : List (Nat × Nat)) (x : Cycle) (t : Tile) :
    ∃ q, (Tile.cycled l x t).core = { t.core with seq := q } ∧ q.pc = t.core.seq.here + 64 ∧ q.drain = hdrDrain x.hdr := ⟨_, rfl, rfl, rfl⟩

/-- The core behind an issue cycle in user mode: its sequencer stands 64 bytes further, its pipelines have advanced. -/
theorem State.cycled_core {s : State} (l : List (Nat × Nat)) (x : Cycle) (hp : s.tile.priv = false) :
    ∃ q m, (s.cycled l x).tile.core = { s.tile.core with seq := q, mx := m, flight := s.tile.core.flight.map (stepFlight true false) } ∧
      q.pc = s.tile.core.seq.here + 64 ∧ q.drain = hdrDrain x.hdr := by
  have hc : (s.cycled l x).tile.core = ((Tile.cycled l x s.tile).clockTick true false).core := by
    rw [State.cycled_tile]
    generalize (Tile.cycled l x s.tile).clockTick true false = u
    split <;> rfl
  obtain ⟨q, m, hq, hpc, hdr⟩ := Tile.clockTick_core (t := Tile.cycled l x s.tile) true false hp
  obtain ⟨q', hq', hpc', hdr'⟩ := Tile.cycled_core l x s.tile
  rw [hq'] at hq hpc hdr
  exact ⟨q, m, hc.trans hq, hpc.trans hpc', hdr.trans hdr'⟩

end Sys2Proof.Machine

namespace Sys2Proof.Claims

open Sys2Proof.Machine

/-- What an issue cycle leaves where its operations have acted. -/
structure Cycled (x : Cycle) (s t : State) : Prop where
  core : ∃ q m, t.tile.core = { s.tile.core with seq := q, mx := m, flight := s.tile.core.flight.map (stepFlight true false) } ∧
    q.pc = s.tile.core.seq.here + 64 ∧ q.drain = hdrDrain x.hdr
  trap : SameTrap s.tile t.tile
  gated : t.tile.gated = s.tile.gated
  stores : t.tile.stores = s.tile.stores
  lsq : t.tile.lsq = s.tile.lsq
  mark : x.mark = true → t.tile.mark = t.tile.core
  bytes : SameBytes s t
  full : ∀ k, (t.tileAt k).full = (s.tileAt k).full
  cur : t.cur = s.cur

/-- What a part of an issue cycle leaves of its own tile, apart from the core. -/
structure TileStays (t u : Tile) : Prop where
  tv : u.tv = t.tv
  code : u.code = t.code
  tepc : u.tepc = t.tepc
  tinfo : u.tinfo = t.tinfo
  frozen : u.frozen = t.frozen
  priv : u.priv = t.priv
  gated : u.gated = t.gated
  stores : u.stores = t.stores
  lsq : u.lsq = t.lsq

theorem tileStays_cycled (l : List (Nat × Nat)) (x : Cycle) (t : Tile) : TileStays t (Tile.cycled l x t) :=
  ⟨rfl, rfl, rfl, rfl, rfl, rfl, rfl, rfl, rfl⟩

theorem tileStays_clockTick (t : Tile) (issue allFree : Bool) : TileStays t (t.clockTick issue allFree) :=
  ⟨rfl, rfl, rfl, rfl, rfl, rfl, rfl, rfl, rfl⟩

theorem tileStays_takeMark (t : Tile) : TileStays t t.takeMark := ⟨rfl, rfl, rfl, rfl, rfl, rfl, rfl, rfl, rfl⟩

theorem TileStays.trans {a b c : Tile} (h : TileStays a b) (g : TileStays b c) : TileStays a c :=
  ⟨g.tv.trans h.tv, g.code.trans h.code, g.tepc.trans h.tepc, g.tinfo.trans h.tinfo, g.frozen.trans h.frozen, g.priv.trans h.priv,
    g.gated.trans h.gated, g.stores.trans h.stores, g.lsq.trans h.lsq⟩

theorem TileStays.trap {a b : Tile} (h : TileStays a b) : SameTrap a b := ⟨h.tv, h.code, h.tepc, h.tinfo, h.frozen, h.priv⟩

theorem sameTrap_trans {a b c : Tile} (h : SameTrap a b) (g : SameTrap b c) : SameTrap a c := by
  obtain ⟨h1, h2, h3, h4, h5, h6⟩ := h
  obtain ⟨g1, g2, g3, g4, g5, g6⟩ := g
  exact ⟨g1.trans h1, g2.trans h2, g3.trans h3, g4.trans h4, g5.trans h5, g6.trans h6⟩

theorem sameBytes_cycled (s : State) (l : List (Nat × Nat)) (x : Cycle) : SameBytes s (s.cycled l x) :=
  ⟨fun pa => congrArg (fun m => cellsGet m pa) (s.cycled_frame l x).1, fun k off => congrArg (fun c => cellsGet c off)
    (State.cycled_keeps Tile.scratch (fun _ _ _ => rfl) (fun _ _ _ => rfl) (fun _ => rfl) s l x k)⟩

theorem cycled_cycled {s : State} (l : List (Nat × Nat)) (x : Cycle) (hp : s.tile.priv = false) : Cycled x s (s.cycled l x) := by
  have ht := s.cycled_tile l x
  have hu := (tileStays_cycled l x s.tile).trans (tileStays_clockTick _ true false)
  have hstays : TileStays s.tile (s.cycled l x).tile := by
    rw [ht]
    split
    · exact hu.trans (tileStays_takeMark _)
    · exact hu
  refine ⟨State.cycled_core l x hp, hstays.trap, hstays.gated, hstays.stores, hstays.lsq, fun e => ?_, sameBytes_cycled s l x,
    State.cycled_keeps Tile.full (fun _ _ _ => rfl) (fun _ _ _ => rfl) (fun _ => rfl) s l x, (s.cycled_frame l x).2⟩
  rw [ht, if_pos e]
  generalize (Tile.cycled l x s.tile).clockTick true false = u
  rfl

/-- The rest of the issue cycle of a bundle that neither branches, spins, records nor stands in a tow set. -/
theorem finishCycle_cycled {p s : State} {x : Cycle} {rs : List Ready} {ctl : Option Ctl} (hctl : Idle ctl) (hspin : p.tile.spinNow = none)
    (hrec : hdrSpinrec x.hdr = false) (hempty : x.empty = false) (hlast : ∀ v : State, v.runPhase rs 12 = v)
    (hs : s.tile.priv = false) (htow : s.tile.towing = false) (hq : s.tile.core.seq.Straight) :
    Cycled x s (State.finishCycle p s x rs ctl) := by
  rw [State.finishCycle_eq hctl hspin hrec hempty hlast htow hq]
  exact cycled_cycled _ x hs

end Sys2Proof.Claims
end

section
/-! PROOF. A bundle of one operation of an alu (O60). -/

namespace Sys2Proof.Machine

/-! ### The slots and the control operation of a cycle -/

/-- The slots that the tile executes in an issue cycle, read with the state before it. -/
def Cycle.readies (x : Cycle) (p : State) : List Ready :=
  ((x.elected p.tile).filterMap (fun y => p.ready y.1 y.2.1 y.2.2)).map (fun r => r.freeze p)

/-- Its control operation, where its guard holds. -/
def Cycle.control (x : Cycle) (p : State) : Option Ctl :=
  match ctlOf x.ctl with
  | some c => if p.tile.core.guardOn c.g then some c.hk else none
  | none => none

theorem Cycle.control_nop {x : Cycle} {h : Guard} (e : x.ctl = .nop h) (p : State) : Idle (x.control p) := by
  unfold Cycle.control
  rw [e]
  show Idle (if p.tile.core.guardOn h then some ctlNop else none)
  split
  · exact .inr rfl
  · exact .inl rfl

/-- A tile outside a tow set executes every slot (R54). -/
theorem Tile.electSlots_alone {α : Type} {t : Tile} (h : t.inTow = false) (hdr : BitVec 16) (l : List (Nat × α)) : t.electSlots hdr l = l := by
  unfold Tile.electSlots
  rw [h, Bool.and_false, Bool.false_and]
  rfl

/-! ### A slot whose operation neither waits nor traps -/

/-- An operation of a unit other than lsu, that takes its effect with the other units and raises nothing. -/
structure Ready.Quiet (r : Ready) (p : State) : Prop where
  write : r.write = fun c => c
  times : ∃ h, r.hk = some h ∧ h.Times
  ready : ∀ y ∈ r.ports, p.portWait y = false
  late : p.earlyPort r.src = false
  sound : ∀ y ∈ r.ports, p.portCause y = none
  one : r.ports.eraseDups = r.ports
  store : r.isStore = false
  lsu : ∀ u, r.onLsu u = false
  phase : ∀ first, r.phase first = 3

variable {p : State} {r : Ready}

theorem Ready.Quiet.runPhase_other (h : r.Quiet p) (v : State) {n : Nat} (hn : n ≠ 3) : v.runPhase [r] n = v := by
  unfold State.runPhase
  rw [List.filter_cons_of_neg (by simp [h.phase, hn.symm])]
  rfl

theorem Ready.Quiet.runPhases_other (h : r.Quiet p) (v : State) {ns : List Nat} (hn : ∀ n ∈ ns, n ≠ 3) : v.runPhases [r] ns = v :=
  foldl_stays fun n hm => h.runPhase_other v (hn n hm)

/-- The state in which the operation of a slot acts (R191). -/
def Ready.acting (r : Ready) (v : State) : State := v.modTile (fun t => t.mapSeq (fun q => { q with slot := r.slot, hdr := r.hdr }))

theorem Ready.Quiet.runPhase_own (h : r.Quiet p) (v : State) :
    v.runPhase [r] 3 = (match r.hk with | some h => h.act (r.acting v) | none => v) := by
  unfold State.runPhase
  rw [List.filter_cons_of_pos (by simp [h.phase])]
  rfl

theorem Ready.Quiet.takeRing (h : r.Quiet p) (v : State) : v.takeRing [r] = v := by
  unfold State.takeRing
  rw [show usesRing [r] = false by simp [usesRing, h.lsu]]
  rfl

theorem Ready.Quiet.bankClash (h : r.Quiet p) (v : State) : bankClash v [r] = false := by
  unfold Machine.bankClash
  rw [show [r].find? (fun r => r.onLsu .u0) = none by simp [h.lsu]]

theorem Ready.Quiet.early (h : r.Quiet p) : [r].findSome? (fun r => p.slotEarly r) = none := by
  obtain ⟨hk, e, ht⟩ := h.times
  simp only [List.findSome?_cons, List.findSome?_nil, State.slotEarly, h.late, Bool.false_eq_true, if_false, e, (ht.plain _).2.1]

theorem Ready.Quiet.overflow (h : r.Quiet p) (v : State) : v.overflowCause [r] = none := by
  unfold State.overflowCause
  dsimp only
  rw [List.filter_cons_of_neg (by simp [h.store]), List.filter_nil, List.drop_nil]
  rfl

theorem Ready.Quiet.own (h : r.Quiet p) (v : State) : v.ownCause [r] = none := by
  obtain ⟨hk, e, ht⟩ := h.times
  simp only [State.ownCause, List.findSome?_cons, List.findSome?_nil, e, (ht.plain _).2.2.1]

theorem Ready.Quiet.prior (h : r.Quiet p) (v : State) : p.priorCause v [r] = none := by
  obtain ⟨hk, e, ht⟩ := h.times
  have hs : r.ports.findSome? (fun y => p.portCause y) = none := List.findSome?_eq_none_iff.mpr h.sound
  simp only [State.priorCause, List.findSome?_cons, List.findSome?_nil, e, (ht.plain _).2.2.2.1, hs]

theorem State.oweClash_none (s : State) (n : Nat) : s.oweClash false n = s := rfl

theorem State.queueFull_blocking {s : State} (h : s.ctx.qmode = false) (v : State) (rs : List Ready) (ps : List (Sock × RPort)) :
    s.queueFull v rs ps = false := by
  unfold State.queueFull
  rw [h, Bool.false_and]

theorem Ready.Quiet.runPhases_units (h : r.Quiet p) (v : State) :
    v.runPhases [r] [1, 2, 3] = (match r.hk with | some h => h.act (r.acting v) | none => v) := by
  show ((v.runPhase [r] 1).runPhase [r] 2).runPhase [r] 3 = _
  rw [h.runPhase_other v (by decide), h.runPhase_other v (by decide), h.runPhase_own]

theorem Ready.Quiet.effects (h : r.Quiet p) (v : State) : v.effects [r] false = v :=
  h.runPhases_other v (by decide)

/-- The issue cycle of one quiet operation: its ports are read, it acts, and the cycle ends. -/
theorem Ready.Quiet.runCycle (h : r.Quiet p) {s : State} {x : Cycle} (hrs : x.readies p = [r]) (hctl : Idle (x.control p))
    (hm : x.mark = false) (htow : p.tile.towing = false) (hwrite : p.modTile (fun t => t.mapCore (fun c => c)) = p)
    (hqm : p.ctx.qmode = false) :
    s.runCycle p x = State.finishCycle p (match r.hk with | some h => h.act (r.acting (p.consume r.ports)) | none => p.consume r.ports) x [r]
      (x.control p) := by
  have hports : ([r].flatMap Ready.ports).eraseDups = r.ports := by simp [h.one]
  have hwait : r.ports.any (fun y => p.portWait y) = false := by
    rw [List.any_eq_false]
    intro y hy
    simp [h.ready y hy]
  unfold State.runCycle
  extract_lets rs ports ctl s1 s2 s3 s4 s5 s6 s7
  have ers : rs = [r] := hrs
  have ectl : ctl = x.control p := rfl
  clear_value rs ctl
  subst ers ectl
  have eports : ports = r.ports := hports
  have e2 : s2 = p := by
    have e1 : s1 = p := by
      show p.modTile (fun t => t.mapCore r.write) = p
      rw [h.write, hwrite]
    show (if p.tile.towing && _ && _ then s1.modTile Tile.takePosts else s1) = p
    rw [htow, Bool.false_and, Bool.false_and, e1]
    rfl
  have e4 : s4 = p.consume r.ports := by
    show (s2.consume ports).runPhase [r] 0 = p.consume r.ports
    rw [h.runPhase_other _ (by decide), e2, eports]
  clear_value ports s4
  subst eports e4
  have e5 : s5 = (match r.hk with | some h => h.act (r.acting (p.consume r.ports)) | none => p.consume r.ports) := by
    show ((p.consume r.ports).takeRing [r]).runPhases [r] [1, 2, 3] = _
    rw [h.takeRing, h.runPhases_units]
  have e7 : s7 = s5 := by
    show s5.effects [r] x.mark = s5
    rw [hm, h.effects]
  obtain ⟨hk, ehk, ht⟩ := h.times
  rw [e7, e5, hwait]
  rcases hctl with e | e <;>
    simp only [e, ehk, hm, List.any_cons, List.any_nil, (ht.plain _).1, h.early, h.overflow, h.own, h.prior, h.bankClash,
      State.queueFull_blocking hqm, Bool.false_eq_true, Bool.or_false, Bool.false_and, if_false, State.oweClash_none, ctlNop, Ctl.plain]

end Sys2Proof.Machine
end

section
namespace Sys2Proof.Claims

open Sys2Proof.Machine

/-! ### The operations of an alu in a bundle -/

/-- The slot of an operation of an alu, read with the state before the bundle (R204). -/
def aluReady (u : Twin) (e : (Src → Guard → Instr) × (Word → Word → Word → Word)) (p : State) (j : Nat) (hdr : BitVec 16) (src : Src)
    (g : Guard) : Ready :=
  { slot := j, hdr := hdr, i := e.1 src g, sk := (sockIdx (aluOfTwin u)).val, src := src, ports := srcPorts src,
    t := wideOfWord (p.scalarSrc src), write := fun c => c,
    hk := some (scalarHooks (aluOfTwin u) 1 (wideOfWord (p.scalarSrc src)) e.2), post := none }

/-- What an instruction that triggers an operation of an alu is to a bundle. -/
structure AluSlot (u : Twin) (e : (Src → Guard → Instr) × (Word → Word → Word → Word)) : Prop where
  ready : ∀ (p : State) (j : Nat) (hdr : BitVec 16) (src : Src) (g : Guard),
    p.ready j hdr (e.1 src g) = if !p.tile.core.guardOn g then none else some (aluReady u e p j hdr src g)
  freeze : ∀ (p : State) (j : Nat) (hdr : BitVec 16) (src : Src) (g : Guard), (aluReady u e p j hdr src g).freeze p = aluReady u e p j hdr src g
  store : ∀ (p : State) (j : Nat) (hdr : BitVec 16) (src : Src) (g : Guard), (aluReady u e p j hdr src g).isStore = false
  phase : ∀ (p : State) (j : Nat) (hdr : BitVec 16) (src : Src) (g : Guard) (first : Bool), (aluReady u e p j hdr src g).phase first = 3
  barrier : ∀ (src : Src) (g : Guard), (e.1 src g).isBarrier = false

theorem aluSlot {u : Twin} {e : (Src → Guard → Instr) × (Word → Word → Word → Word)} (he : e ∈ aluOps u) : AluSlot u e := by
  constructor
  · intro p j hdr src g
    fin_cases he <;> rfl
  · intro p j hdr src g
    fin_cases he <;> rfl
  · intro p j hdr src g
    fin_cases he <;> rfl
  · intro p j hdr src g first
    cases u <;> fin_cases he <;> rfl
  · intro src g
    fin_cases he <;> rfl

theorem aluSlot_quiet {u : Twin} {e : (Src → Guard → Instr) × (Word → Word → Word → Word)} {p : State} {src : Src} {g : Guard}
    (h : AluSlot u e) (hi : ScalarIssues (aluOfTwin u) src g p) (j : Nat) (hdr : BitVec 16) : (aluReady u e p j hdr src g).Quiet p where
  write := rfl
  times := ⟨_, rfl, scalarHooks_times _ 1 _ _⟩
  ready := hi.ready
  late := hi.late
  sound := hi.sound
  one := by cases src <;> rfl
  store := h.store p j hdr src g
  lsu := fun w => by cases u <;> cases w <;> rfl
  phase := h.phase p j hdr src g

/-- The bundle of the statement: one operation of an alu and NOPs. -/
def aluBundle (e : (Src → Guard → Instr) × (Word → Word → Word → Word)) (hdr : BitVec 16) (h : Guard) (j : Nat) (src : Src) (g : Guard) : Decoded :=
  { hdr := hdr, ctl := .nop h, moves := [(j, e.1 src g)] }

theorem aluBundle_isMark {u : Twin} {e : (Src → Guard → Instr) × (Word → Word → Word → Word)} (ha : AluSlot u e) (hdr : BitVec 16) (h : Guard)
    (j : Nat) (src : Src) (g : Guard) : (aluBundle e hdr h j src g).isMark = hdrMark hdr := by
  simp [Decoded.isMark, aluBundle, ha.barrier]

theorem aluBundle_readies {u : Twin} {e : (Src → Guard → Instr) × (Word → Word → Word → Word)} (ha : AluSlot u e) {p : State}
    (b : BitVec 512) (hdr : BitVec 16) (h : Guard) (j : Nat) (src : Src) {g : Guard} (hon : p.tile.core.guardOn g = true)
    (hal : p.tile.inTow = false) : (cycleOf b (aluBundle e hdr h j src g)).readies p = [aluReady u e p j hdr src g] := by
  unfold Cycle.readies Cycle.elected
  rw [Tile.electSlots_alone hal]
  show (([(j, hdr, e.1 src g)] : List (Nat × BitVec 16 × Instr)).filterMap (fun y => p.ready y.1 y.2.1 y.2.2)).map (fun r => r.freeze p) = _
  rw [List.filterMap_cons_some (b := aluReady u e p j hdr src g) (by rw [ha.ready, hon]; rfl), List.filterMap_nil, List.map_singleton, ha.freeze]

/-- The operation's result on its way (R19, R219). -/
def aluFlight (p : State) (u : Twin) (v : Word) (free : Bool) : InFlight :=
  { sk := aluOfTwin u, port := .q, value := wideOfWord v, mask := allBits, rem := 1, free := free, locked := false, ready := true, due := 0,
    id := p.tile.nextId, evs := EvCount.zero, live := .plain }

theorem scalarHooks_act (sk : Sock) (lat : Nat) (t : Wide) (f : Word → Word → Word → Word) (v : State) : (scalarHooks sk lat t f).act v =
    v.timed sk lat [(.q, wideOfWord (f (lowWord (v.opA sk)) (lowWord (v.opB sk)) (lowWord t)), allBits)] EvCount.zero := rfl

/-- The tile behind the operation: its source is read, its result is on its way. -/
theorem aluReady_acts (u : Twin) (e : (Src → Guard → Instr) × (Word → Word → Word → Word)) (p : State) (j : Nat) (hdr : BitVec 16) (src : Src)
    (g : Guard) {v : State} (hv : v = (scalarHooks (aluOfTwin u) 1 (wideOfWord (p.scalarSrc src)) e.2).act
      ((aluReady u e p j hdr src g).acting (p.taken src))) :
    SameBytes p v ∧ ∃ free, v.tile = { p.tile with
      core := { p.tile.core.consume p.ctx.qmode (srcPorts src) with
        seq := { p.tile.core.seq with slot := j, hdr := hdr },
        flight := p.tile.core.flight ++ [aluFlight p u
          (e.2 (lowWord (p.opA (aluOfTwin u))) (lowWord (p.opB (aluOfTwin u))) (p.scalarSrc src)) free] },
      nextId := p.tile.nextId + 1 } := by
  have ht : ((aluReady u e p j hdr src g).acting (p.taken src)).tile = (p.tile.mapCore (fun c => c.consume p.ctx.qmode (srcPorts src))).mapSeq
      (fun q => { q with slot := j, hdr := hdr }) := by
    unfold Ready.acting
    rw [State.modTile_tile, State.taken_tile]
    rfl
  obtain ⟨hopnd, -, -, -, -, -, -, hfl, -, hseq, -⟩ := TileCore.consume_frame p.ctx.qmode (srcPorts src) p.tile.core
  have hA : ((aluReady u e p j hdr src g).acting (p.taken src)).opA (aluOfTwin u) = p.opA (aluOfTwin u) := by
    unfold State.opA
    rw [ht]
    exact congrArg (fun o => o.get (opIdx (aluOfTwin u) .a)) hopnd
  have hB : ((aluReady u e p j hdr src g).acting (p.taken src)).opB (aluOfTwin u) = p.opB (aluOfTwin u) := by
    unfold State.opB
    rw [ht]
    exact congrArg (fun o => o.get (opIdx (aluOfTwin u) .b)) hopnd
  have hvt : v = ((aluReady u e p j hdr src g).acting (p.taken src)).timed (aluOfTwin u) 1 [(.q, wideOfWord
      (e.2 (lowWord (p.opA (aluOfTwin u))) (lowWord (p.opB (aluOfTwin u))) (p.scalarSrc src)), allBits)] EvCount.zero := by
    rw [hv, scalarHooks_act, hA, hB, lowWord_wideOfWord]
  refine ⟨?_, ?_⟩
  · rw [hvt]
    exact sameBytes_trans (sameBytes_taken p src) (sameBytes_trans (sameBytes_modTile _ _ rfl) (sameBytes_timed _ _ _ _ _))
  · rw [hvt]
    unfold State.timed
    rw [State.modTile_tile, ht]
    refine ⟨((aluReady u e p j hdr src g).acting (p.taken src)).runsFree (aluOfTwin u), ?_⟩
    unfold Tile.mapSeq Tile.mapCore
    dsimp only
    rw [hfl, hseq]
    rfl

/-- In an issue cycle a timed result comes one clock nearer (R24). -/
theorem stepFlight_issue {f : InFlight} (h : f.locked = false) (allFree : Bool) : stepFlight true allFree f = { f with rem := f.rem - 1 } := by
  unfold stepFlight
  rw [h, Bool.or_true, Bool.true_or]
  rfl

/-- A bundle of one operation of an alu issues. -/
theorem aluBundles : AluBundles := by
  intro u e src g h s b hdr j he p hc hm hsp hi hd ht hspin hqm hl hk
  have ha := aluSlot he
  have hp : p.tile = s.tile.mapSeq (fun q => { q with here := q.pc, hdr := bundleHdr b, slot := 11, target := none, safe := false }) :=
    reading_tile s b
  have hruns : RunsAlone s := by
    refine ⟨?_, ?_, hd, ht, hspin⟩
    · have := hi.runs
      rwa [hp] at this
    · have := hi.mode.resolve_right (by cases u <;> decide)
      rwa [hp] at this
  have hrp := hruns.reading b
  have hx := exec_bundle_runs hruns hc (aluBundle_isMark ha hdr h j src g)
  have hq := aluSlot_quiet ha hi j hdr
  have hidle : Idle ((cycleOf b (aluBundle e hdr h j src g)).control p) := Cycle.control_nop (h := h) rfl p
  have hcyc := hq.runCycle (s := s) (aluBundle_readies ha b hdr h j src hi.on hrp.alone) hidle
    ((aluBundle_isMark ha hdr h j src g).trans hm) hrp.towing (State.modTile_stays s rfl) hqm
  obtain ⟨v, ev⟩ : ∃ v, v = (scalarHooks (aluOfTwin u) 1 (wideOfWord (p.scalarSrc src)) e.2).act
    ((aluReady u e p j hdr src g).acting (p.taken src)) := ⟨_, rfl⟩
  obtain ⟨hbv, free, hv⟩ := aluReady_acts u e p j hdr src g ev
  have hrun : s.runCycle p (cycleOf b (aluBundle e hdr h j src g)) = State.finishCycle p v (cycleOf b (aluBundle e hdr h j src g))
      [aluReady u e p j hdr src g] ((cycleOf b (aluBundle e hdr h j src g)).control p) := by
    rw [hcyc, ev]
    rfl
  have hfin := finishCycle_cycled (p := p) (s := v) (x := cycleOf b (aluBundle e hdr h j src g)) (rs := [aluReady u e p j hdr src g])
    hidle hrp.spinNow hsp rfl (fun w => hq.runPhase_other w (by decide)) (by rw [hv]; exact hrp.user)
    (by rw [hv]; exact hrp.towing) (by rw [hv, hp]; exact ⟨rfl, hl, hk⟩)
  obtain ⟨⟨q, m, hcore, hpc, hdrain⟩, htrap, -, -, -, -, hbt, -, -⟩ := hfin
  obtain ⟨h1, h2, h3, h4, h5, h6, -, -, h9, -, h11, h12, h13, -⟩ := TileCore.consume_frame p.ctx.qmode (srcPorts src) p.tile.core
  have hbytes : SameBytes s p := sameBytes_modTile _ _ rfl
  have hA : p.opA (aluOfTwin u) = s.opA (aluOfTwin u) := by
    unfold State.opA
    rw [hp]
    rfl
  have hB : p.opB (aluOfTwin u) = s.opB (aluOfTwin u) := by
    unfold State.opB
    rw [hp]
    rfl
  refine ⟨_, hx.trans (congrArg Host.Outcome.next hrun), ?_, ?_, sameBytes_trans hbytes (sameBytes_trans hbv hbt), ?_, sameTrap_trans ?_ htrap, ?_⟩
  · rw [hcore, hpc, hv, hp]
    rfl
  · rw [hcore]
    exact hdrain
  · have hregs : SameRegisters p.tile.core (p.tile.core.consume p.ctx.qmode (srcPorts src)) :=
      ⟨⟨h3, h4, h5, h6, h1, h2, h9, h11, h12⟩, h13⟩
    rw [hcore, hv]
    rwa [hp] at hregs ⊢
  · rw [hv, hp]
    exact ⟨rfl, rfl, rfl, rfl, rfl, rfl⟩
  · rw [hcore, hv, ← hA, ← hB]
    exact ⟨_, List.mem_map.mpr ⟨_, List.mem_append_right _ List.mem_cons_self, stepFlight_issue rfl false⟩, rfl, rfl, rfl, rfl, rfl⟩

end Sys2Proof.Claims
end

section
/-! PROOF. A MARK bundle of no operation: the issue cycle that commits its region (O60). -/

namespace Sys2Proof.Machine

theorem State.runPhase_nil (s : State) (n : Nat) : s.runPhase [] n = s := rfl

theorem State.runPhases_nil (s : State) (ns : List Nat) : s.runPhases [] ns = s := foldl_stays fun _ _ => rfl

/-- The issue cycle of a closing bundle without operations: the region is committed. -/
theorem State.runCycle_closes {s p : State} {x : Cycle} (hrs : x.readies p = []) (hctl : Idle (x.control p)) (hm : x.mark = true)
    (htow : p.tile.towing = false) (hstall : p.closeStall = false) (hcause : p.closeCause = none) (hqm : p.ctx.qmode = false)
    (hgated : p.modTile (fun t => { t with gated := t.gated.filter (· ∉ []) }) = p) :
    s.runCycle p x = State.finishCycle p p.commitRegion x [] (x.control p) := by
  have hcell : p.cellStall = false := by
    unfold State.closeStall at hstall
    simp only [Bool.or_eq_false_iff] at hstall
    exact hstall.1.1
  unfold State.runCycle
  extract_lets rs ports ctl s1 s2 s3 s4 s5 s6 s7
  have ers : rs = [] := hrs
  have ectl : ctl = x.control p := rfl
  clear_value rs ctl
  subst ers ectl
  have eports : ports = [] := rfl
  have hover : p.overflowCause [] = none := by
    unfold State.overflowCause
    dsimp only
    rw [List.filter_nil, List.drop_nil]
    rfl
  have e4 : s4 = p := by
    show ((if p.tile.towing && _ && _ then p.modTile Tile.takePosts else p).consume []) = p
    rw [htow, Bool.false_and, Bool.false_and]
    rfl
  have e5 : s5 = p := e4
  have e6 : s6 = p := e4
  have e7 : s7 = p.commitRegion := by
    show s5.effects [] x.mark = p.commitRegion
    rw [e5, hm]
    show ((p.modTile (fun t => { t with gated := t.gated.filter (· ∉ []) })).commitRegion.commitAll []).runPhases [] _ = _
    rw [State.runPhases_nil, hgated]
    rfl
  rw [e7, e6, e5, e4, eports, hm, hstall, hcause, hcell, hover, State.queueFull_blocking hqm]
  rcases hctl with e | e <;> rw [e] <;> rfl

end Sys2Proof.Machine
end

section
/-! PROOF. What the commit of a region leaves of every tile (O60). -/

namespace Sys2Proof.Machine

/-! ### Folds over a list -/

/-- A fold of steps of which each keeps a part of every tile. -/
theorem State.foldl_keeps {α β : Type} {f : State → α → State} (g : Tile → β) (h : ∀ (s : State) a j, g ((f s a).tileAt j) = g (s.tileAt j))
    (l : List α) (s : State) (j : TileKey) : g ((l.foldl f s).tileAt j) = g (s.tileAt j) := by
  induction l generalizing s with
  | nil => rfl
  | cons a l ih => exact (ih (f s a)).trans (h s a j)

/-- A fold of steps that leave DRAM and the tile of the step. -/
theorem State.foldl_frame {α : Type} {f : State → α → State} (h : ∀ (s : State) a, (f s a).mem = s.mem ∧ (f s a).cur = s.cur)
    (l : List α) (s : State) : (l.foldl f s).mem = s.mem ∧ (l.foldl f s).cur = s.cur := by
  induction l generalizing s with
  | nil => exact ⟨rfl, rfl⟩
  | cons a l ih => exact ⟨(ih (f s a)).1.trans (h s a).1, (ih (f s a)).2.trans (h s a).2⟩

/-! ### Notes of a write: race tags, release tags, group loads (R73, R95, R105, R109) -/

/-- A part of a tile that the notes of a write do not belong to. -/
structure OffNotes {β : Type} (g : Tile → β) : Prop where
  shadow : ∀ (t : Tile) l, g { t with shadow := l } = g t
  lines : ∀ (t : Tile) l, g { t with lines := l } = g t
  tags : ∀ (t : Tile) l, g { t with tags := l } = g t
  gloads : ∀ (t : Tile) a b, g { t with core := { t.core with gloads := a }, mark := { t.mark with gloads := b } } = g t

/-- The group loads that learn of a write (R95). -/
def markedBy (owner : TileKey) (line : Nat) (writer : TileKey) (v : VClock) (k : TileKey) (t : Tile) : Tile :=
  if k.ctx = owner.ctx && k.die = owner.die then
    t.mapBoth (fun c => { c with gloads := c.gloads.map (fun g =>
      if g.race.isNone && !g.closed && addrOff g.addr / 64 = line && owner.tid ∈ g.members &&
          !ordered v writer k pathGR pathLS g.ep then
        { g with race := some (owner.tid, (g.members.findIdx? (fun m => m = owner.tid)).getD 0, writer.tid) }
      else g) })
  else t

theorem markGLoads_eq (s : State) (owner : TileKey) (line : Nat) (writer : TileKey) (v : VClock) :
    markGLoads s owner line writer v = s.mapTiles (markedBy owner line writer v) := by
  unfold markGLoads State.mapTiles markedBy
  congr 1
  refine List.map_congr_left fun x _ => ?_
  split <;> rfl

section
variable {β : Type} {g : Tile → β} (hg : OffNotes g)
include hg

theorem OffNotes.markGLoads (s : State) (owner : TileKey) (line : Nat) (writer : TileKey) (v : VClock) (j : TileKey) :
    g ((Machine.markGLoads s owner line writer v).tileAt j) = g (s.tileAt j) := by
  rw [markGLoads_eq]
  refine State.mapTiles_keeps g (fun k t => ?_) s j
  unfold markedBy
  split
  · exact hg.gloads t _ _
  · rfl

theorem OffNotes.noteLines (s : State) (k : TileKey) (p : Place) (is : List Nat) (v : VClock) (plain : Bool) (j : TileKey) :
    g ((s.noteLines k p is v plain).tileAt j) = g (s.tileAt j) := by
  unfold State.noteLines State.noteGLoads
  split
  · rfl
  · dsimp only
    rw [State.foldl_keeps g (fun s _ => hg.markGLoads s _ _ _ _)]
    exact State.foldl_keeps g (fun s _ => State.modTileAt_keeps g (fun t => hg.lines t _) s _) _ _ _

theorem OffNotes.tagBytes (s : State) (k : TileKey) (p : Place) (chain : Bool) (tag : RelTag) (is : List Nat) (j : TileKey) :
    g ((s.tagBytes k p chain tag is).tileAt j) = g (s.tileAt j) := by
  have hb (s : State) (p : Place) : g ((s.tagByte k p chain tag).tileAt j) = g (s.tileAt j) := by
    unfold State.tagByte
    dsimp only
    split
    · exact State.modTileAt_keeps g (fun t => hg.tags t _) s _ j
    · rfl
  induction is generalizing s with
  | nil => rfl
  | cons i is ih => exact (ih _).trans (hb s _)

theorem OffNotes.noteWrite (s : State) (k : TileKey) (p : Place) (is : List Nat) (v : VClock) (rel : List (BitVec 3 × VClock)) (plain chain : Bool)
    (j : TileKey) : g ((s.noteWrite k p is v rel plain chain).tileAt j) = g (s.tileAt j) :=
  (hg.noteLines _ _ _ _ _ _ j).trans (hg.tagBytes _ _ _ _ _ _ j)

theorem OffNotes.shade (s : State) (l : List Shade) (j : TileKey) : g ((s.modTile (fun t => t.shade l)).tileAt j) = g (s.tileAt j) :=
  State.modTileAt_keeps g (fun t => hg.shadow t _) s s.cur j

end

theorem State.noteLines_frame (s : State) (k : TileKey) (p : Place) (is : List Nat) (v : VClock) (plain : Bool) :
    (s.noteLines k p is v plain).mem = s.mem ∧ (s.noteLines k p is v plain).cur = s.cur := by
  unfold State.noteLines State.noteGLoads
  split
  · exact ⟨rfl, rfl⟩
  · dsimp only
    obtain ⟨m1, c1⟩ := State.foldl_frame (f := fun (s : State) line => s.modTileAt (keyPeer k _) (fun t =>
      t.setLine ((t.lineTag line).write k (vcGet v (k, pathLS)) plain))) (fun _ _ => ⟨rfl, rfl⟩) (linesOfBytes _ is) s
    obtain ⟨m2, c2⟩ := State.foldl_frame (f := fun (s : State) line => markGLoads s (keyPeer k _) line k v) (fun _ _ => ⟨rfl, rfl⟩)
      (linesOfBytes _ is) (List.foldl _ s _)
    exact ⟨m2.trans m1, c2.trans c1⟩

theorem State.tagBytes_frame (s : State) (k : TileKey) (p : Place) (chain : Bool) (tag : RelTag) (is : List Nat) :
    (s.tagBytes k p chain tag is).mem = s.mem ∧ (s.tagBytes k p chain tag is).cur = s.cur := by
  have hb (s : State) (p : Place) : (s.tagByte k p chain tag).mem = s.mem ∧ (s.tagByte k p chain tag).cur = s.cur := by
    unfold State.tagByte
    dsimp only
    split <;> exact ⟨rfl, rfl⟩
  induction is generalizing s with
  | nil => exact ⟨rfl, rfl⟩
  | cons i is ih => exact ⟨(ih _).1.trans (hb s _).1, (ih _).2.trans (hb s _).2⟩

theorem State.noteWrite_cur (s : State) (k : TileKey) (p : Place) (is : List Nat) (v : VClock) (rel : List (BitVec 3 × VClock))
    (plain chain : Bool) : (s.noteWrite k p is v rel plain chain).cur = s.cur :=
  (State.noteLines_frame _ _ _ _ _ _).2.trans (State.tagBytes_frame _ _ _ _ _ _).2

/-! ### Stores performed (R57, R101, R415) -/

/-- A part of a tile that the writing of bytes does not belong to either. -/
structure OffStores {β : Type} (g : Tile → β) : Prop extends OffNotes g where
  scratch : ∀ (t : Tile) l, g { t with scratch := l } = g t
  poison : ∀ (t : Tile) l, g { t with poison := l } = g t

theorem State.writeEach_cur (s : State) (k : TileKey) (p : Place) (bs : List (Nat × Byte × Byte)) : (s.writeEach k p bs).cur = s.cur := by
  induction bs generalizing s with
  | nil => rfl
  | cons b bs ih =>
    refine (ih _).trans ?_
    unfold State.writeByteAt
    split <;> rfl

theorem State.writeBytesAt_cur (s : State) (k : TileKey) (p : Place) (bs : List (Nat × Byte × Byte)) : (s.writeBytesAt k p bs).cur = s.cur := by
  refine Eq.trans ?_ (s.writeEach_cur k p bs)
  unfold State.writeBytesAt State.unpoison
  split <;> split <;> rfl

theorem State.performStore_cur (s : State) (k : TileKey) (x : Gated) : (s.performStore k x).cur = s.cur := by
  unfold State.performStore
  split
  · split
    · rfl
    · exact (State.tagBytes_frame _ _ _ _ _ _).2.trans (s.writeBytesAt_cur k _ _)
  · rfl

section
variable {β : Type} {g : Tile → β} (hg : OffStores g)
include hg

theorem OffStores.writeBytesAt (s : State) (k : TileKey) (p : Place) (bs : List (Nat × Byte × Byte)) (j : TileKey) :
    g ((s.writeBytesAt k p bs).tileAt j) = g (s.tileAt j) := by
  have hone (s : State) (p : Place) (v m : Byte) : g ((s.writeByteAt k p v m).tileAt j) = g (s.tileAt j) := by
    unfold State.writeByteAt
    split
    · exact State.modTileAt_keeps g (fun t => hg.scratch t _) s _ j
    · rfl
  have heach : g ((s.writeEach k p bs).tileAt j) = g (s.tileAt j) := by
    induction bs generalizing s with
    | nil => rfl
    | cons b bs ih => exact (ih _).trans (hone s _ _ _)
  refine Eq.trans ?_ heach
  unfold State.writeBytesAt State.unpoison
  split
  · split
    · rfl
    · exact State.modTileAt_keeps g (fun t => hg.poison t _) _ _ j
  · split <;> rfl

theorem OffStores.performStore (s : State) (k : TileKey) (x : Gated) (j : TileKey) :
    g ((s.performStore k x).tileAt j) = g (s.tileAt j) := by
  unfold State.performStore
  split
  · split
    · rfl
    · exact (hg.toOffNotes.tagBytes _ _ _ _ _ _ j).trans (hg.writeBytesAt s k _ _ j)
  · rfl

end

/-- The committed operations of a tile are stores alone: no atomic is among them. -/
def OnlyStores (t : Tile) : Prop := ∀ o ∈ t.lsq, ∃ x, o = .store x

theorem OnlyStores.congr {a b : Tile} (h : OnlyStores a) (e : b.lsq = a.lsq) : OnlyStores b := by
  unfold OnlyStores at h ⊢
  rwa [e]

/-- A part of a tile that no commit changes. -/
structure OffCommit {β : Type} (g : Tile → β) : Prop extends OffStores g where
  lsq : ∀ (t : Tile) l, g { t with lsq := l } = g t
  cells : ∀ (t : Tile) f h a b, g { t with full := f, held := h, cfill := a, cdrain := b } = g t

theorem offStores_lsq : OffStores Tile.lsq := ⟨⟨fun _ _ => rfl, fun _ _ => rfl, fun _ _ => rfl, fun _ _ _ => rfl⟩, fun _ _ => rfl, fun _ _ => rfl⟩

theorem offStores_full : OffStores Tile.full := ⟨⟨fun _ _ => rfl, fun _ _ => rfl, fun _ _ => rfl, fun _ _ _ => rfl⟩, fun _ _ => rfl, fun _ _ => rfl⟩

theorem offNotes_scratch : OffNotes Tile.scratch := ⟨fun _ _ => rfl, fun _ _ => rfl, fun _ _ => rfl, fun _ _ _ => rfl⟩

/-- The stores among the committed operations performed: what it leaves. -/
theorem State.performLs_stores {β : Type} {g : Tile → β} (hg : OffStores g) {k : TileKey} {l : List LsOp} (hl : ∀ o ∈ l, ∃ x, o = .store x)
    (s : State) : (∀ j, g ((l.foldl (fun s o => s.performLs k o) s).tileAt j) = g (s.tileAt j)) ∧
      (l.foldl (fun s o => s.performLs k o) s).cur = s.cur := by
  induction l generalizing s with
  | nil => exact ⟨fun _ => rfl, rfl⟩
  | cons o l ih =>
    obtain ⟨x, rfl⟩ := hl o List.mem_cons_self
    obtain ⟨ht, hc⟩ := ih (fun o ho => hl o (List.mem_cons_of_mem _ ho)) (s.performStore k x)
    exact ⟨fun j => (ht j).trans (hg.performStore s k x j), hc.trans (s.performStore_cur k x)⟩

/-- Behind a flush of stores the tile has no committed operation left (R101). -/
theorem State.flushLs_stores {s : State} {k : TileKey} (h : OnlyStores (s.tileAt k)) :
    ((s.flushLs k).tileAt k).lsq = [] ∧ (s.flushLs k).cur = s.cur ∧
    ∀ {β : Type} {g : Tile → β}, OffCommit g → ∀ j, g ((s.flushLs k).tileAt j) = g (s.tileAt j) := by
  obtain ⟨hl, hc⟩ := State.performLs_stores offStores_lsq (k := k) h (s.modTileAt k (fun t => { t with lsq := [] }))
  refine ⟨(hl k).trans (by rw [State.modTileAt_tileAt]), hc, fun hg j => ?_⟩
  obtain ⟨ht, -⟩ := State.performLs_stores hg.toOffStores (k := k) h (s.modTileAt k (fun t => { t with lsq := [] }))
  exact (ht j).trans (State.modTileAt_keeps _ (fun t => hg.lsq t _) s k j)

/-! ### The commit of gated operations (R57, R78) -/

/-- What the commit of a region keeps while it goes on. -/
structure CommitKeeps (s t : State) : Prop where
  cur : t.cur = s.cur
  stores : OnlyStores t.tile
  keeps : ∀ {β : Type} {g : Tile → β}, OffCommit g → ∀ j, g (t.tileAt j) = g (s.tileAt j)

theorem CommitKeeps.refl {s : State} (h : OnlyStores s.tile) : CommitKeeps s s := ⟨rfl, h, fun _ _ => rfl⟩

theorem CommitKeeps.trans {a b c : State} (h : CommitKeeps a b) (h' : CommitKeeps b c) : CommitKeeps a c :=
  ⟨h'.cur.trans h.cur, h'.stores, fun hg j => (h'.keeps hg j).trans (h.keeps hg j)⟩

/-- A step that leaves the committed operations as they are. -/
theorem CommitKeeps.of_stores {s t : State} (h : OnlyStores s.tile) (hc : t.cur = s.cur)
    (hk : ∀ {β : Type} {g : Tile → β}, OffStores g → ∀ j, g (t.tileAt j) = g (s.tileAt j)) : CommitKeeps s t := by
  refine ⟨hc, h.congr ?_, fun hg => hk hg.toOffStores⟩
  unfold State.tile
  rw [hc]
  exact hk offStores_lsq s.cur

/-- A change of one tile that leaves the committed operations as they are. -/
theorem CommitKeeps.of_modTileAt {s : State} (h : OnlyStores s.tile) (k : TileKey) {f : Tile → Tile} (hl : ∀ t, (f t).lsq = t.lsq)
    (hf : ∀ {β : Type} {g : Tile → β}, OffCommit g → ∀ t, g (f t) = g t) : CommitKeeps s (s.modTileAt k f) :=
  ⟨rfl, h.congr (State.modTileAt_keeps Tile.lsq hl s k s.cur), fun hg j => State.modTileAt_keeps _ (hf hg) s k j⟩

theorem commitKeeps_flushLs {s : State} (h : OnlyStores s.tile) : CommitKeeps s (s.flushLs s.cur) := by
  obtain ⟨hl, hc, hk⟩ := State.flushLs_stores h
  refine ⟨hc, ?_, hk⟩
  unfold State.tile OnlyStores
  rw [hc, hl]
  simp

/-- The notes that a gated store leaves at its commit (R73, R95, R109). -/
def State.noted (s : State) (x : Gated) (bs : List (Nat × Byte × Byte)) : State :=
  (s.modTile (fun t => t.shade (s.shadowBytes x bs))).noteLines s.cur x.place (bs.map (·.1)) x.vc true

theorem State.noted_frame (s : State) (x : Gated) (bs : List (Nat × Byte × Byte)) :
    (s.noted x bs).mem = s.mem ∧ (s.noted x bs).cur = s.cur := State.noteLines_frame _ _ _ _ _ _

theorem OffNotes.noted {β : Type} {g : Tile → β} (hg : OffNotes g) (s : State) (x : Gated) (bs : List (Nat × Byte × Byte)) (j : TileKey) :
    g ((s.noted x bs).tileAt j) = g (s.tileAt j) := (hg.noteLines _ _ _ _ _ _ j).trans (hg.shade s _ j)

theorem commitKeeps_noted {s : State} (h : OnlyStores s.tile) (x : Gated) (bs : List (Nat × Byte × Byte)) : CommitKeeps s (s.noted x bs) :=
  .of_stores h (s.noted_frame x bs).2 (fun hg j => hg.toOffNotes.noted s x bs j)

/-- A store to the tile's own scratchpad is performed at its commit (R73, R101). -/
theorem State.commitNow_own {s : State} {x : Gated} {bs : List (Nat × Byte × Byte)} (hk : x.kind = .write bs) (ha : addrSpace x.addr = 0) :
    s.commitNow x = ((s.noted x bs).flushLs (s.noted x bs).cur).performStore (s.noted x bs).cur x := by
  unfold State.commitNow
  rw [hk]
  exact if_pos ha

/-- Any other store joins the committed operations of the tile (R101). -/
theorem State.commitNow_other {s : State} {x : Gated} {bs : List (Nat × Byte × Byte)} (hk : x.kind = .write bs) (ha : addrSpace x.addr ≠ 0) :
    s.commitNow x = ((s.noted x bs).modTile (fun t => { t with lsq := t.lsq ++ [.store x] })).addLater (s.noted x bs).cur .storePerformed := by
  unfold State.commitNow
  rw [hk]
  exact if_neg ha

theorem commitKeeps_commitCell {s : State} (h : OnlyStores s.tile) (x : Gated) (v : Word) : CommitKeeps s (s.commitCell x v) := by
  unfold State.commitCell
  split
  · dsimp only
    have h1 := commitKeeps_flushLs h
    generalize s.flushLs s.cur = u at h1 ⊢
    have h2 : CommitKeeps u (u.writeBytesAt u.cur x.place (fullBytes v.toNat 8)) :=
      .of_stores h1.stores (State.writeBytesAt_cur _ _ _ _) (fun hg j => hg.writeBytesAt _ _ _ _ j)
    generalize u.writeBytesAt u.cur x.place (fullBytes v.toNat 8) = w at h2 ⊢
    have h3 : CommitKeeps w (w.noteWrite w.cur x.place (List.range 8) x.vc x.rel false false) :=
      .of_stores h2.stores (State.noteWrite_cur _ _ _ _ _ _ _ _) (fun hg j => hg.toOffNotes.noteWrite _ _ _ _ _ _ _ _ j)
    generalize w.noteWrite w.cur x.place (List.range 8) x.vc x.rel false false = y at h3 ⊢
    refine h1.trans (h2.trans (h3.trans (.of_modTileAt h3.stores _ (fun t => ?_) (fun hg t => ?_))))
    · unfold Tile.setFull; split <;> rfl
    · unfold Tile.setFull
      split
      · rfl
      · exact hg.cells t _ t.held _ t.cdrain
  · exact .refl h

theorem commitKeeps_write {s : State} (h : OnlyStores s.tile) {x : Gated} {bs : List (Nat × Byte × Byte)} (hk : x.kind = .write bs) :
    CommitKeeps s (s.commitNow x) := by
  have h1 := commitKeeps_noted h x bs
  by_cases ha : addrSpace x.addr = 0
  · rw [State.commitNow_own hk ha]
    have h2 := commitKeeps_flushLs h1.stores
    exact h1.trans (h2.trans (.of_stores h2.stores (State.performStore_cur _ _ _) (fun hg j => hg.performStore _ _ _ j)))
  · rw [State.commitNow_other hk ha]
    refine h1.trans ⟨rfl, ?_, fun hg j => State.modTileAt_keeps _ (fun t => hg.lsq t _) (s.noted x bs) _ j⟩
    have hl := congrArg Tile.lsq (State.modTile_tile (s.noted x bs) (fun t => { t with lsq := t.lsq ++ [.store x] }))
    intro o ho
    rcases List.mem_append.mp (hl ▸ ho) with ho | ho
    · exact h1.stores o ho
    · exact ⟨x, List.mem_singleton.mp ho⟩

theorem commitKeeps_commitNow {s : State} (h : OnlyStores s.tile) (x : Gated) : CommitKeeps s (s.commitNow x) := by
  cases hk : x.kind with
  | write bs => exact commitKeeps_write h hk
  | cellw v =>
    unfold State.commitNow
    rw [hk]
    exact commitKeeps_commitCell h x v
  | cellwr v =>
    unfold State.commitNow
    rw [hk]
    exact commitKeeps_commitCell h x v
  | cellr w =>
    unfold State.commitNow
    rw [hk]
    dsimp only
    split
    · have h1 := commitKeeps_flushLs h
      exact h1.trans (.of_modTileAt h1.stores _ (fun _ => rfl) (fun hg t => (hg.tags _ _).trans (hg.cells t _ _ t.cfill _)))
    · exact .refl h
  | cqclear q =>
    unfold State.commitNow
    rw [hk]
    exact ⟨rfl, h, fun _ _ => rfl⟩

theorem commitKeeps_commitOne {s : State} (h : OnlyStores s.tile) (x : Gated) : CommitKeeps s (s.commitOne x) := by
  unfold State.commitOne
  split
  · exact ⟨rfl, h, fun _ _ => rfl⟩
  · exact commitKeeps_commitNow h x

theorem commitKeeps_commitAll {s : State} (h : OnlyStores s.tile) (l : List Gated) : CommitKeeps s (s.commitAll l) := by
  induction l generalizing s with
  | nil => exact .refl h
  | cons x l ih =>
    have h1 := commitKeeps_commitOne h x
    exact h1.trans (ih h1.stores)

end Sys2Proof.Machine
end

section
/-! PROOF. The bytes and the committed operations behind the commit of a region (O60). -/

namespace Sys2Proof.Claims

open Sys2Proof.Machine

/-! ### The bytes of a store (R57) -/

theorem byte_spWrite_one {t : Tile} (hw : Memory.wf t.scratch = true) (a : Nat) (b : Byte) (off : Nat) :
    (t.spWrite a [b]).byte off = if off = a then b else t.byte off := by
  split
  · next e =>
    subst e
    exact cellsGet_write_in off [b] (i := 0) hw Nat.one_pos
  · next e => exact Tile.byte_spWrite_out t a [b] (by simp only [List.length_singleton]; omega)

theorem storedByte_cons (x : Nat × Byte × Byte) (bs : List (Nat × Byte × Byte)) (i : Nat) (old : Byte) :
    storedByte (x :: bs) i old = storedByte bs i (if x.1 = i then mergeByte old x.2.1 x.2.2 else old) := rfl

/-- A byte of the scratchpad that a store writes into. -/
theorem writeEach_byte {s : State} {k : TileKey} {tid : BitVec 6} {o : Nat} (bs : List (Nat × Byte × Byte))
    (hw : Memory.wf (s.tileAt (keyPeer k tid)).scratch = true) (off : Nat) :
    ((s.writeEach k (.scratch tid o) bs).tileAt (keyPeer k tid)).byte off =
      if o ≤ off then storedByte bs (off - o) ((s.tileAt (keyPeer k tid)).byte off) else (s.tileAt (keyPeer k tid)).byte off := by
  induction bs generalizing s with
  | nil => exact (ite_self _).symm
  | cons x bs ih =>
    obtain ⟨i, v, m⟩ := x
    have ht : (s.writeByteAt k (.scratch tid (o + i)) v m).tileAt (keyPeer k tid) =
        (s.tileAt (keyPeer k tid)).spWrite (o + i) [mergeByte ((s.tileAt (keyPeer k tid)).byte (o + i)) v m] := State.modTileAt_tileAt _ _ _
    have hb := byte_spWrite_one hw (o + i) (mergeByte ((s.tileAt (keyPeer k tid)).byte (o + i)) v m) off
    have hw' : Memory.wf ((s.writeByteAt k (.scratch tid (o + i)) v m).tileAt (keyPeer k tid)).scratch = true := by
      rw [ht]
      exact cellsWrite_wf _ _ hw
    refine (ih hw').trans ?_
    rw [ht, hb, storedByte_cons]
    by_cases h : o ≤ off
    · rw [if_pos h, if_pos h]
      by_cases e : off = o + i
      · rw [if_pos e, if_pos (by omega), e]
      · rw [if_neg e, if_neg (by omega)]
    · rw [if_neg h, if_neg h, if_neg (by omega)]

theorem writeEach_wf {s : State} {k : TileKey} {tid : BitVec 6} {o : Nat} (bs : List (Nat × Byte × Byte))
    (hw : Memory.wf (s.tileAt (keyPeer k tid)).scratch = true) :
    Memory.wf ((s.writeEach k (.scratch tid o) bs).tileAt (keyPeer k tid)).scratch = true := by
  induction bs generalizing s with
  | nil => exact hw
  | cons x bs ih =>
    refine ih (s := s.writeByteAt k (.scratch tid (o + x.1)) x.2.1 x.2.2) ?_
    rw [show (s.writeByteAt k (.scratch tid (o + x.1)) x.2.1 x.2.2).tileAt (keyPeer k tid) = (s.tileAt (keyPeer k tid)).spWrite (o + x.1)
      [mergeByte ((s.tileAt (keyPeer k tid)).byte (o + x.1)) x.2.1 x.2.2] from State.modTileAt_tileAt _ _ _]
    exact cellsWrite_wf _ _ hw

/-- No other tile's scratchpad, and no byte of DRAM, is written into by a store to a scratchpad. -/
theorem writeEach_other (s : State) (k : TileKey) (tid : BitVec 6) (o : Nat) (bs : List (Nat × Byte × Byte)) :
    (s.writeEach k (.scratch tid o) bs).mem = s.mem ∧
    ∀ j, j ≠ keyPeer k tid → (s.writeEach k (.scratch tid o) bs).tileAt j = s.tileAt j := by
  induction bs generalizing s with
  | nil => exact ⟨rfl, fun _ _ => rfl⟩
  | cons x bs ih =>
    obtain ⟨hm, ht⟩ := ih (s.writeByteAt k (.scratch tid (o + x.1)) x.2.1 x.2.2)
    exact ⟨hm, fun j hj => (ht j hj).trans (State.modTileAt_tileAt_ne _ _ hj)⟩

/-- What becomes of poison is apart from the bytes (R415). -/
theorem unpoison_scratch (s : State) (k : TileKey) (p : Place) (is : List Nat) (j : TileKey) :
    ((s.unpoison k p is).tileAt j).scratch = (s.tileAt j).scratch := by
  unfold State.unpoison
  split
  · split
    · rfl
    · refine State.modTileAt_keeps Tile.scratch (fun t => ?_) s _ j
      rfl
  · split <;> rfl

/-- So are the race tags and those of the group loads (R95, R109). -/
theorem sameBytes_noteLines (s : State) (k : TileKey) (p : Place) (is : List Nat) (v : VClock) (plain : Bool) :
    SameBytes s (s.noteLines k p is v plain) :=
  ⟨fun pa => congrArg (fun m => cellsGet m pa) (State.noteLines_frame s k p is v plain).1,
    fun j off => congrArg (fun c => cellsGet c off) (offNotes_scratch.noteLines s k p is v plain j)⟩

theorem sameBytes_noted (s : State) (x : Gated) (bs : List (Nat × Byte × Byte)) : SameBytes s (s.noted x bs) :=
  sameBytes_trans (sameBytes_modTile s _ rfl) (sameBytes_noteLines _ _ _ _ _ _)

/-- The bytes behind a store to a scratchpad. -/
theorem writeBytesAt_byte {s : State} {k : TileKey} {tid : BitVec 6} {o : Nat} (bs : List (Nat × Byte × Byte))
    (hw : Memory.wf (s.tileAt (keyPeer k tid)).scratch = true) :
    Memory.wf ((s.writeBytesAt k (.scratch tid o) bs).tileAt (keyPeer k tid)).scratch = true ∧
    (∀ off, ((s.writeBytesAt k (.scratch tid o) bs).tileAt (keyPeer k tid)).byte off =
      if o ≤ off then storedByte bs (off - o) ((s.tileAt (keyPeer k tid)).byte off) else (s.tileAt (keyPeer k tid)).byte off) ∧
    (∀ j off, j ≠ keyPeer k tid → ((s.writeBytesAt k (.scratch tid o) bs).tileAt j).byte off = (s.tileAt j).byte off) := by
  have hu := unpoison_scratch (s.writeEach k (.scratch tid o) bs) k (.scratch tid o) ((bs.filter (fun b => b.2.2 = 0xFF)).map (·.1))
  refine ⟨?_, fun off => ?_, fun j off hj => ?_⟩
  · unfold State.writeBytesAt
    rw [hu]
    exact writeEach_wf bs hw
  · exact (congrArg (fun c => cellsGet c off) (hu _)).trans (writeEach_byte bs hw off)
  · refine (congrArg (fun c => cellsGet c off) (hu j)).trans ?_
    rw [(writeEach_other s k tid o bs).2 j hj]
    rfl

/-! ### Stores to the tile's own scratchpad (R57, R101) -/

/-- A gated operation is a store to the tile's own scratchpad. -/
def OwnStore (k : TileKey) (x : Gated) : Prop := addrSpace x.addr = 0 ∧ ∃ bs o, x.kind = .write bs ∧ x.place = .scratch k.tid o

/-- A byte of the scratchpad behind such a store. -/
def storedAt (off : Nat) (old : Byte) (x : Gated) : Byte :=
  match x.kind, x.place with
  | .write bs, .scratch _ o => if o ≤ off then storedByte bs (off - o) old else old
  | _, _ => old

/-- A state that commits stores to its own scratchpad: no other store is on its way, and the scratchpad has its canonical form. -/
structure CommitsOwn (k : TileKey) (s : State) : Prop where
  cur : s.cur = k
  lsq : (s.tileAt k).lsq = []
  wf : Memory.wf (s.tileAt k).scratch = true

/-- A tile that has no committed operation left (R101). -/
def noneLeft (t : Tile) : Tile := { t with lsq := [] }

theorem noneLeft_eq {t : Tile} (h : t.lsq = []) : noneLeft t = t := by
  unfold noneLeft
  rw [← h]

theorem flushLs_none {s : State} {k : TileKey} (h : (s.tileAt k).lsq = []) : s.flushLs k = s.modTileAt k noneLeft := by
  unfold State.flushLs
  rw [h]
  rfl

theorem commitOne_write {s : State} {x : Gated} {bs : List (Nat × Byte × Byte)} (hk : x.kind = .write bs) : s.commitOne x = s.commitNow x := by
  unfold State.commitOne
  rw [hk]
  rfl

/-- A store to a scratchpad is performed where it stands: no memory side is concerned (R423). -/
theorem performStore_scratch {s : State} {k : TileKey} {x : Gated} {bs : List (Nat × Byte × Byte)} {tid : BitVec 6} {o : Nat}
    (hk : x.kind = .write bs) (hp : x.place = .scratch tid o) (j : TileKey) :
    ((s.performStore k x).tileAt j).scratch = ((s.writeBytesAt k (.scratch tid o) bs).tileAt j).scratch := by
  unfold State.performStore
  rw [hk, hp]
  exact offNotes_scratch.tagBytes _ _ _ _ _ _ j

theorem commitOne_own {k : TileKey} {s : State} {x : Gated} (h : CommitsOwn k s) (hx : OwnStore k x) :
    CommitsOwn k (s.commitOne x) ∧ ∀ off, ((s.commitOne x).tileAt k).byte off = storedAt off ((s.tileAt k).byte off) x := by
  obtain ⟨ha, bs, o, hk, hp⟩ := hx
  obtain ⟨rfl, hlsq, hwf⟩ := h
  have hwc := (s.noted_frame x bs).2
  have hwl : ((s.noted x bs).tileAt s.cur).lsq = [] := (offStores_lsq.toOffNotes.noted s x bs s.cur).trans hlsq
  have hws : ((s.noted x bs).tileAt s.cur).scratch = (s.tileAt s.cur).scratch := offNotes_scratch.noted s x bs s.cur
  rw [commitOne_write hk, State.commitNow_own hk ha, hwc, flushLs_none hwl]
  generalize s.noted x bs = w at *
  have hy : ((w.modTileAt s.cur noneLeft).tileAt s.cur).scratch = (s.tileAt s.cur).scratch := by
    rw [State.modTileAt_tileAt]; exact hws
  have hyl : ((w.modTileAt s.cur noneLeft).tileAt s.cur).lsq = [] := by
    rw [State.modTileAt_tileAt]; rfl
  have hyc : (w.modTileAt s.cur noneLeft).cur = s.cur := hwc
  generalize w.modTileAt s.cur noneLeft = y at *
  obtain ⟨hzw, hzb, -⟩ := writeBytesAt_byte (s := y) (k := s.cur) (tid := s.cur.tid) (o := o) bs (hy ▸ hwf)
  have hz := performStore_scratch (s := y) (k := s.cur) hk hp s.cur
  refine ⟨⟨(State.performStore_cur y s.cur x).trans hyc, (offStores_lsq.performStore y s.cur x s.cur).trans hyl, hz ▸ hzw⟩, fun off => ?_⟩
  refine (congrArg (fun c => cellsGet c off) hz).trans ((hzb off).trans ?_)
  unfold storedAt
  rw [hk, hp]
  show (if o ≤ off then storedByte bs (off - o) (cellsGet (y.tileAt s.cur).scratch off) else cellsGet (y.tileAt s.cur).scratch off) = _
  rw [hy]
  rfl

theorem commitAll_own {k : TileKey} {s : State} (h : CommitsOwn k s) {l : List Gated} (hl : ∀ x ∈ l, OwnStore k x) (off : Nat) :
    ((s.commitAll l).tileAt k).byte off = l.foldl (storedAt off) ((s.tileAt k).byte off) := by
  induction l generalizing s with
  | nil => rfl
  | cons x l ih =>
    obtain ⟨h1, hb⟩ := commitOne_own h (hl x List.mem_cons_self)
    refine (ih h1 (fun y hy => hl y (List.mem_cons_of_mem _ hy))).trans ?_
    rw [hb, List.foldl_cons]

/-! ### Stores to the window and through handles (R57, R101) -/

theorem sameBytes_addLater (s : State) (k : TileKey) (i : Instr) : SameBytes s (s.addLater k i) := ⟨fun _ => rfl, fun _ _ => rfl⟩

/-- They join the committed operations, with every byte as it was. -/
theorem commitAll_other {s : State} {l : List Gated} (hl : ∀ x ∈ l, addrSpace x.addr ≠ 0 ∧ ∃ bs, x.kind = .write bs) :
    (s.commitAll l).tile.lsq = s.tile.lsq ++ l.map .store ∧ SameBytes s (s.commitAll l) := by
  induction l generalizing s with
  | nil => exact ⟨(List.append_nil _).symm, sameBytes_refl s⟩
  | cons x l ih =>
    obtain ⟨ha, bs, hk⟩ := hl x List.mem_cons_self
    have e : s.commitOne x = ((s.noted x bs).modTile (fun t => { t with lsq := t.lsq ++ [.store x] })).addLater (s.noted x bs).cur
        .storePerformed := (commitOne_write hk).trans (State.commitNow_other hk ha)
    have hlsq : (s.commitOne x).tile.lsq = s.tile.lsq ++ [.store x] := by
      rw [e]
      refine (congrArg Tile.lsq (State.modTile_tile (s.noted x bs) (fun t => { t with lsq := t.lsq ++ [.store x] }))).trans ?_
      have hn : (s.noted x bs).tile.lsq = s.tile.lsq := by
        unfold State.tile
        rw [(s.noted_frame x bs).2]
        exact offStores_lsq.toOffNotes.noted s x bs s.cur
      exact congrArg (· ++ [LsOp.store x]) hn
    have hbytes : SameBytes s (s.commitOne x) := by
      rw [e]
      exact sameBytes_trans (sameBytes_noted s x bs) (sameBytes_trans (sameBytes_modTile _ _ rfl) (sameBytes_addLater _ _ _))
    obtain ⟨h1, h2⟩ := ih (s := s.commitOne x) (fun y hy => hl y (List.mem_cons_of_mem _ hy))
    refine ⟨h1.trans ?_, sameBytes_trans hbytes h2⟩
    rw [hlsq, List.append_assoc]
    rfl

/-! ### Cells (R77, R78) -/

theorem mergeByte_full (b v : Byte) : mergeByte b v 0xFF = v := by
  unfold mergeByte
  apply BitVec.eq_of_getLsbD_eq
  intro i hi
  have h : (0xFF : Byte).getLsbD i = true := by
    rw [show (0xFF : Byte) = BitVec.allOnes 8 from rfl, BitVec.getLsbD_allOnes]
    exact decide_eq_true hi
  rw [BitVec.getLsbD_or, BitVec.getLsbD_and, BitVec.getLsbD_and, BitVec.getLsbD_not, h, Bool.and_true, Bool.not_true, Bool.and_false,
    Bool.and_false, Bool.false_or]

/-- A store of n whole bytes. -/
theorem storedByte_fullBytes (v n i : Nat) (old : Byte) : storedByte (fullBytes v n) i old = if i < n then byteOf v i else old := by
  induction n with
  | zero => rfl
  | succ n ih =>
    have e : fullBytes v (n + 1) = fullBytes v n ++ [(n, byteOf v n, 0xFF)] := by
      unfold fullBytes
      rw [List.range_succ, List.map_append]
      rfl
    have hs : storedByte (fullBytes v (n + 1)) i old =
        if n = i then mergeByte (storedByte (fullBytes v n) i old) (byteOf v n) 0xFF else storedByte (fullBytes v n) i old := by
      rw [e]
      exact List.foldl_append
    rw [hs, mergeByte_full, ih]
    by_cases h : n = i
    · rw [if_pos h, if_pos (by omega), h]
    · rw [if_neg h]
      by_cases h' : i < n
      · rw [if_pos h', if_pos (by omega)]
      · rw [if_neg h', if_neg (by omega)]

theorem setFull_cellFull (t : Tile) (off o : Nat) : (t.setFull off).cellFull o = (decide (o = off) || t.cellFull o) := by
  unfold Tile.setFull
  split
  · next h =>
    by_cases e : o = off
    · rw [e, h, Bool.or_true]
    · simp [e]
  · unfold Tile.cellFull
    simp [List.mem_cons]

/-- A CELLW or CELLWR at its commit: it sets its cell full and stores its word, and changes no other cell and no other byte. -/
theorem commitCell_cell {s : State} {x : Gated} {v : Word} {tid : BitVec 6} {off : Nat} (hp : x.place = .scratch tid off)
    (hlsq : s.tile.lsq = []) (hwf : ∀ k, Memory.wf (s.tileAt k).scratch = true) :
    ((s.commitCell x v).tileAt (keyPeer s.cur tid)).cellFull off = true ∧
    (∀ i, i < 8 → ((s.commitCell x v).tileAt (keyPeer s.cur tid)).byte (off + i) = byteOf v.toNat i) ∧
    (∀ k o, ¬(k = keyPeer s.cur tid ∧ off ≤ o ∧ o < off + 8) → ((s.commitCell x v).tileAt k).byte o = (s.tileAt k).byte o) ∧
    (∀ k o, ¬(k = keyPeer s.cur tid ∧ o = off) → ((s.commitCell x v).tileAt k).cellFull o = (s.tileAt k).cellFull o) := by
  unfold State.commitCell
  rw [hp]
  dsimp only
  rw [flushLs_none hlsq]
  have hys (k : TileKey) : ((s.modTileAt s.cur noneLeft).tileAt k).scratch = (s.tileAt k).scratch :=
    State.modTileAt_keeps Tile.scratch (f := noneLeft) (fun _ => rfl) s s.cur k
  have hyf (k : TileKey) : ((s.modTileAt s.cur noneLeft).tileAt k).full = (s.tileAt k).full :=
    State.modTileAt_keeps Tile.full (f := noneLeft) (fun _ => rfl) s s.cur k
  have hyc : (s.modTileAt s.cur noneLeft).cur = s.cur := rfl
  generalize s.modTileAt s.cur noneLeft = y at *
  rw [hyc]
  obtain ⟨-, hzb, hzo⟩ := writeBytesAt_byte (s := y) (k := s.cur) (tid := tid) (o := off) (fullBytes v.toNat 8)
    (by rw [hys]; exact hwf (keyPeer s.cur tid))
  have hzf := offStores_full.writeBytesAt y s.cur (.scratch tid off) (fullBytes v.toNat 8)
  have hzc := (State.writeBytesAt_cur y s.cur (.scratch tid off) (fullBytes v.toNat 8)).trans hyc
  generalize y.writeBytesAt s.cur (.scratch tid off) (fullBytes v.toNat 8) = z at *
  rw [hzc]
  have hws := offNotes_scratch.noteWrite z s.cur (.scratch tid off) (List.range 8) x.vc x.rel false false
  have hwf' := offStores_full.toOffNotes.noteWrite z s.cur (.scratch tid off) (List.range 8) x.vc x.rel false false
  have hwc := (State.noteWrite_cur z s.cur (.scratch tid off) (List.range 8) x.vc x.rel false false).trans hzc
  generalize z.noteWrite s.cur (.scratch tid off) (List.range 8) x.vc x.rel false false = w at *
  rw [show w.ownerKey tid = keyPeer s.cur tid from congrArg (keyPeer · tid) hwc]
  have hts (k : TileKey) : ((w.modTileAt (keyPeer s.cur tid) (fun t => t.setFull off)).tileAt k).scratch = (z.tileAt k).scratch :=
    (State.modTileAt_keeps Tile.scratch (f := fun t => t.setFull off) (fun t => by unfold Tile.setFull; split <;> rfl) w _ k).trans (hws k)
  have hbyte (k : TileKey) (o : Nat) : ((w.modTileAt (keyPeer s.cur tid) (fun t => t.setFull off)).tileAt k).byte o = (z.tileAt k).byte o :=
    congrArg (fun c => cellsGet c o) (hts k)
  have hyb (k : TileKey) (o : Nat) : (y.tileAt k).byte o = (s.tileAt k).byte o := congrArg (fun c => cellsGet c o) (hys k)
  have hfull (k : TileKey) : (w.tileAt k).full = (s.tileAt k).full := (hwf' k).trans ((hzf k).trans (hyf k))
  refine ⟨?_, fun i hi => ?_, fun k o hk => ?_, fun k o hk => ?_⟩
  · rw [State.modTileAt_tileAt, setFull_cellFull]
    simp
  · rw [hbyte, hzb, if_pos (Nat.le_add_right off i), Nat.add_sub_cancel_left, storedByte_fullBytes, if_pos hi]
  · rw [hbyte]
    by_cases e : k = keyPeer s.cur tid
    · subst e
      rw [hzb, hyb, storedByte_fullBytes]
      split
      · next h => rw [if_neg (fun h' => hk ⟨rfl, h, by omega⟩)]
      · rfl
    · rw [hzo k o e, hyb]
  · by_cases e : k = keyPeer s.cur tid
    · subst e
      rw [State.modTileAt_tileAt, setFull_cellFull, show decide (o = off) = false from decide_eq_false (fun h => hk ⟨rfl, h⟩), Bool.false_or]
      exact congrArg (fun l => decide (o ∈ l)) (hfull _)
    · rw [State.modTileAt_tileAt_ne _ _ e]
      exact congrArg (fun l => decide (o ∈ l)) (hfull _)

end Sys2Proof.Claims
end

section
/-! PROOF. Bundles issue, commit their regions, or raise "illegal bundle" (O60). -/

namespace Sys2Proof.Machine

/-- A tile whose region has been committed (R57). -/
def Tile.closed (t : Tile) : Tile :=
  { t.mapCore (fun c => { c with cellRds := c.cellRds.filter (fun r => !r.done), gloads := [] }) with gated := [], stores := 0 }

/-- What the commit of a region leaves of a tile, as far as the issue of the bundle depends on it. -/
def Tile.steady (t : Tile) : TileCore × Bool × Bool := ({ t.core with gloads := [] }, t.priv, t.inTow)

theorem offCommit_steady : OffCommit Tile.steady :=
  ⟨⟨⟨fun _ _ => rfl, fun _ _ => rfl, fun _ _ => rfl, fun _ _ _ => rfl⟩, fun _ _ => rfl, fun _ _ => rfl⟩, fun _ _ => rfl, fun _ _ _ _ _ => rfl⟩

theorem Tile.fenceRegion_none {t : Tile} (h : t.core.seq.fences = []) (k : TileKey) : t.fenceRegion k = t := by
  unfold Tile.fenceRegion
  rw [h]
  rfl

theorem State.performFenced_none {s : State} (h : s.tile.core.seq.fences = []) : s.performFenced = s := by
  unfold State.performFenced
  rw [h]
  rfl

theorem onlyStores_none {t : Tile} (h : t.lsq = []) : OnlyStores t := by
  unfold OnlyStores
  rw [h]
  exact fun _ ho => absurd ho List.not_mem_nil

/-- The gated operations of a region leave what the issue of its closing bundle depends on. -/
theorem State.commitAll_steady {s : State} (h : s.tile.lsq = []) (l : List Gated) :
    (s.commitAll l).cur = s.cur ∧ (s.commitAll l).tile.steady = s.tile.steady := by
  obtain ⟨hc, -, hk⟩ := commitKeeps_commitAll (onlyStores_none h) l
  refine ⟨hc, ?_⟩
  unfold State.tile
  rw [hc]
  exact hk offCommit_steady s.cur

/-- The commit of a region without fences, where no committed operation waits. -/
theorem State.commitRegion_closed {s : State} (hl : s.tile.lsq = []) (hn : s.flushLs s.cur = s) (hf : s.tile.core.seq.fences = []) :
    s.commitRegion = (s.commitAll s.tile.gated).modTile Tile.closed := by
  have hv : (s.commitAll s.tile.gated).tile.core.seq.fences = [] :=
    (congrArg (fun x => x.1.seq.fences) (s.commitAll_steady hl s.tile.gated).2).trans hf
  unfold State.commitRegion
  dsimp only
  rw [hn, State.performFenced_none hv]
  exact congrArg (fun t => (s.commitAll s.tile.gated).setTile
    { t.mapCore (fun c => { c with cellRds := c.cellRds.filter (fun r => !r.done), gloads := [] }) with gated := [], stores := 0 })
    (Tile.fenceRegion_none hv _)

end Sys2Proof.Machine

namespace Sys2Proof.Claims

open Sys2Proof.Machine

/-! ### The region of a MARK bundle (R57, R58) -/

theorem sameBytes_closed (s : State) : SameBytes s (s.modTile Tile.closed) :=
  ⟨fun _ => rfl, fun k off => congrArg (fun c => cellsGet c off)
    (State.modTileAt_keeps Tile.scratch (f := Tile.closed) (fun _ => rfl) s s.cur k)⟩

theorem full_closed (s : State) (k : TileKey) : ((s.modTile Tile.closed).tileAt k).full = (s.tileAt k).full :=
  State.modTileAt_keeps Tile.full (f := Tile.closed) (fun _ => rfl) s s.cur k

/-- A state whose region a MARK bundle closes: no committed operation waits, no fence, no branch and no loop is at work. -/
structure Closes (p : State) : Prop where
  wf : ∀ k, Memory.wf (p.tileAt k).scratch = true
  lsq : p.tile.lsq = []
  fences : p.tile.core.seq.fences = []
  flushed : p.flushLs p.cur = p
  straight : p.tile.core.seq.Straight

/-- A tile that reads a bundle (R204). -/
def Tile.reads (b : BitVec 512) (t : Tile) : Tile :=
  t.mapSeq (fun q => { q with here := q.pc, hdr := bundleHdr b, slot := 11, target := none, safe := false })

theorem reading_scratch (s : State) (b : BitVec 512) (k : TileKey) : ((reading s b).tileAt k).scratch = (s.tileAt k).scratch :=
  State.modTileAt_keeps Tile.scratch (f := Tile.reads b) (fun _ => rfl) s s.cur k

theorem reading_full (s : State) (b : BitVec 512) (k : TileKey) : ((reading s b).tileAt k).full = (s.tileAt k).full :=
  State.modTileAt_keeps Tile.full (f := Tile.reads b) (fun _ => rfl) s s.cur k

theorem sameBytes_reading (s : State) (b : BitVec 512) : SameBytes s (reading s b) :=
  ⟨fun _ => rfl, fun k off => congrArg (fun c => cellsGet c off) (reading_scratch s b k)⟩

theorem closes_reading {s : State} (b : BitVec 512) (hw : s.canonical) (hl : s.tile.lsq = []) (hf : s.tile.core.seq.fences = [])
    (hloops : s.tile.core.seq.loops = []) (hk : s.tile.core.seq.kernelDone = true) : Closes (reading s b) := by
  have ht := reading_tile s b
  have hlsq : (reading s b).tile.lsq = [] := by rw [ht]; exact hl
  refine ⟨fun k => ?_, hlsq, by rw [ht]; exact hf, ?_, by rw [ht]; exact ⟨rfl, hloops, hk⟩⟩
  · rw [reading_scratch]
    exact s.canonical_tileAt hw k
  · exact (flushLs_none hlsq).trans (State.modTile_stays s (noneLeft_eq hl))

/-- The bundle of the statement: no operation. -/
def emptyBundle (hdr : BitVec 16) (h : Guard) : Decoded := { hdr := hdr, ctl := .nop h, moves := [] }

theorem emptyBundle_readies (b : BitVec 512) (hdr : BitVec 16) (h : Guard) {p : State} (hal : p.tile.inTow = false) :
    (cycleOf b (emptyBundle hdr h)).readies p = [] := by
  unfold Cycle.readies Cycle.elected
  rw [Tile.electSlots_alone hal]
  rfl

/-- No gated operation is dropped where none of the bundle comes before the mark (R58). -/
theorem keepGated (t : Tile) : { t with gated := t.gated.filter (· ∉ []) } = t := by
  rw [List.filter_eq_self.mpr (fun x _ => decide_eq_true List.not_mem_nil)]

theorem emptyBundle_isMark (hdr : BitVec 16) (h : Guard) : (emptyBundle hdr h).isMark = hdrMark hdr := by
  simp [Decoded.isMark, emptyBundle]

/-- The issue of such a MARK bundle commits the region and takes the mark. -/
theorem exec_bundle_closes {s : State} (h : RunsAlone s) {b : BitVec 512} {hdr : BitVec 16} {g : Guard} (hx : Closes (reading s b))
    (hc : (reading s b).checkIssue b = .ok (emptyBundle hdr g)) (hm : hdrMark hdr = true) (hsp : hdrSpinrec hdr = false)
    (hq : s.ctx.qmode = false) (hstall : (reading s b).closeStall = false) (hcause : (reading s b).closeCause = none) :
    ∃ t, exec (.bundleIssue b) s = .next t ∧
      Cycled (cycleOf b (emptyBundle hdr g)) (((reading s b).commitAll (reading s b).tile.gated).modTile Tile.closed) t := by
  have hrp := h.reading b
  have hmark := emptyBundle_isMark hdr g
  have hidle : Idle ((cycleOf b (emptyBundle hdr g)).control (reading s b)) := Cycle.control_nop (h := g) rfl _
  have hrs := emptyBundle_readies b hdr g hrp.alone
  have hg : (reading s b).modTile (fun t => { t with gated := t.gated.filter (· ∉ []) }) = reading s b :=
    State.modTile_stays s (keepGated _)
  have hrun := State.runCycle_closes (s := s) hrs hidle (hmark.trans hm) hrp.towing hstall hcause hq hg
  refine ⟨_, (exec_bundle_runs h hc hmark).trans (congrArg Host.Outcome.next hrun), ?_⟩
  rw [State.commitRegion_closed hx.lsq hx.flushed hx.fences]
  obtain ⟨-, hsteady⟩ := (reading s b).commitAll_steady hx.lsq (reading s b).tile.gated
  have hseq := congrArg (fun x => x.1.seq) hsteady
  have hpriv := congrArg (fun x => x.2.1) hsteady
  have htow := congrArg (fun x => x.2.2) hsteady
  generalize (reading s b).commitAll (reading s b).tile.gated = v at *
  refine finishCycle_cycled hidle hrp.spinNow hsp rfl (fun w => w.runPhase_nil 12) ?_ ?_ ?_ <;> rw [State.modTile_tile]
  · exact hpriv.trans hrp.user
  · exact (congrArg (· && _) (htow.trans hrp.alone)).trans (Bool.false_and _)
  · exact hseq ▸ hx.straight

theorem sameFiles_of_steady {t u : Tile} (h : u.steady = t.steady) : SameFiles t.core u.core :=
  ⟨congrArg (fun x => x.1.m) h, congrArg (fun x => x.1.o) h, congrArg (fun x => x.1.p) h, congrArg (fun x => x.1.h) h,
    congrArg (fun x => x.1.opnd) h, congrArg (fun x => x.1.opMask) h, congrArg (fun x => x.1.lockmask) h, congrArg (fun x => x.1.frm) h,
    congrArg (fun x => x.1.bf) h⟩

/-- A region of one cell write that comes behind no other tile's operation (R77, R79). -/
theorem commitAll_cell {s : State} {x : Gated} {v : Word} (hk : x.kind = .cellw v ∨ x.kind = .cellwr v)
    (hb : x.kind = .cellwr v → s.goesBehind x.place = false) : s.commitAll [x] = s.commitCell x v := by
  show s.commitOne x = s.commitCell x v
  unfold State.commitOne State.commitNow
  rcases hk with hk | hk
  · rw [hk]
    rfl
  · rw [hb hk, Bool.and_false, hk]
    rfl

theorem regionCommits : RegionCommits := by
  intro s b hdr h hw hc hm hsp hf hp hd ht hspin hqm hl hk hlsq hfe hstall hcause
  obtain ⟨t, hx, hcyc⟩ := exec_bundle_closes ⟨hf, hp, hd, ht, hspin⟩ (closes_reading b hw hlsq hfe hl hk) hc hm hsp hqm hstall hcause
  have hcl := closes_reading b hw hlsq hfe hl hk
  have hread := reading_tile s b
  have hpt (k : TileKey) (off : Nat) : ((reading s b).tileAt k).byte off = (s.tileAt k).byte off := (sameBytes_reading s b).2 k off
  have hgs : (reading s b).tile.gated = s.tile.gated := by rw [hread]; rfl
  rw [hgs] at hcyc
  obtain ⟨hcur, hsteady⟩ := (reading s b).commitAll_steady hcl.lsq s.tile.gated
  have hbytes := sameBytes_trans (sameBytes_closed ((reading s b).commitAll s.tile.gated)) hcyc.bytes
  have hfull (k : TileKey) : (t.tileAt k).full = (((reading s b).commitAll s.tile.gated).tileAt k).full := (hcyc.full k).trans (full_closed _ k)
  have htc : t.cur = s.cur := hcyc.cur.trans hcur
  have htile : (((reading s b).commitAll s.tile.gated).modTile Tile.closed).tile = ((reading s b).commitAll s.tile.gated).tile.closed :=
    State.modTile_tile _ _
  obtain ⟨⟨q, m, hcore, hpc, -⟩, -, hgated, hstores, hlsq', hmark, -, -, -⟩ := hcyc
  rw [htile] at hcore hpc hgated hstores hlsq'
  refine ⟨t, hx, hgated, hstores, hmark ((emptyBundle_isMark hdr h).trans hm), ?_, ?_, fun ho off => ?_, fun ho => ?_, fun g v tid off hone hkind hplace hbehind => ?_⟩
  · rw [hcore]
    refine hpc.trans (congrArg (· + 64) ((congrArg (fun x => x.1.seq.here) hsteady).trans ?_))
    rw [hread]
    rfl
  · have hfiles := sameFiles_of_steady hsteady
    rw [hread] at hfiles
    rw [hcore]
    exact hfiles
  · have hown := commitAll_own (k := s.cur) (s := reading s b) ⟨rfl, hcl.lsq, hcl.wf s.cur⟩ ho off
    rw [hpt] at hown
    unfold State.tile
    rw [htc]
    exact (hbytes.2 s.cur off).trans hown
  · obtain ⟨hjoin, hsame⟩ := commitAll_other (s := reading s b) ho
    refine ⟨hlsq'.trans (hjoin.trans ?_), sameBytes_trans (sameBytes_reading s b) (sameBytes_trans hsame hbytes)⟩
    rw [hcl.lsq, List.nil_append]
  · rw [hone, commitAll_cell (s := reading s b) hkind hbehind] at hbytes hfull
    obtain ⟨h1, h2, h3, h4⟩ := commitCell_cell (v := v) hplace hcl.lsq hcl.wf
    have hcell (k : TileKey) (o : Nat) : (t.tileAt k).cellFull o = (((reading s b).commitCell g v).tileAt k).cellFull o :=
      congrArg (fun l => decide (o ∈ l)) (hfull k)
    refine ⟨(hcell _ _).trans h1, fun i hi => (hbytes.2 _ _).trans (h2 i hi), fun k o ho => ?_, fun k o ho => ?_⟩
    · exact (hbytes.2 k o).trans ((h3 k o ho).trans (hpt k o))
    · exact (hcell k o).trans ((h4 k o ho).trans (congrArg (fun l => decide (o ∈ l)) (reading_full s b k)))

end Sys2Proof.Claims

open Sys2Proof Sys2Proof.Machine Sys2Proof.Claims

/-- Settles O60: each of its three parts goes through the issue cycle of a tile outside a tow set. -/
theorem bundleIssues : Obligations.BundleIssues := ⟨aluBundles, illegalBundles, regionCommits⟩

end

section
/-! PROOF. Groups (O24): what is triggered beside an interlocked result, and a group behind its change. -/

namespace Sys2Proof.Machine

/-! ### A read of a source port -/

/-- A read of a source port changes tiles alone (R20, R27). -/
theorem State.taken_eq (s : State) (src : Src) : ∃ l, s.taken src = { s with tiles := l } := by
  unfold State.taken State.consume
  split
  · exact ⟨s.tiles, rfl⟩
  · exact ⟨_, rfl⟩

theorem State.taken_nextId (s : State) (src : Src) : (s.taken src).tile.nextId = s.nextOp := by
  rw [State.taken_tile]; rfl

/-- A checked operation of a scalar slot that issues takes the trap of its check. -/
theorem runScalar_trap {sk : Sock} {hk : Wide → Word → Hooks} {src : Src} {g : Guard} {s : State} (h : ScalarIssues sk src g s)
    {check : State → Option Cause} {act : State → State} (e : hk (wideOfWord (s.scalarSrc src)) (BitVec.allOnes 64) = Hooks.checked check act)
    {c : Cause} (hc : check s = some c) : runScalar sk hk src g s = .next (s.takeTrap c) := by
  rw [runScalar_checked h e, hc]

/-- A state with the tiles of another reads a tile as that one does. -/
theorem State.tileAt_congr {s t : State} (h : t.tiles = s.tiles) (k : TileKey) : t.tileAt k = s.tileAt k := by
  unfold State.tileAt; rw [h]

theorem State.tile_congr {s t : State} (h : t.tiles = s.tiles) (hc : t.cur = s.cur) : t.tile = s.tile := by
  unfold State.tile; rw [hc, State.tileAt_congr h]

/-- An operand below a power of two has no bit from there on. -/
theorem bitsOf_eq_zero_iff {x lo len : Nat} (h : x < 2 ^ (lo + len)) : bitsOf x lo len = 0 ↔ x < 2 ^ lo := by
  have hd : x / 2 ^ lo < 2 ^ len := by
    rw [Nat.div_lt_iff_lt_mul (by positivity), ← Nat.pow_add, Nat.add_comm]; exact h
  rw [bitsOf, Nat.shiftRight_eq_div_pow, Nat.mod_eq_of_lt hd, Nat.div_eq_zero_iff]
  simp

/-! ### Groups (R48, R255) -/

theorem groupIdOk_iff (w : Word) : groupIdOk (wideOfWord w) = true ↔ w.toNat < 256 := by
  rw [groupIdOk, lowWord_wideOfWord, decide_eq_true_iff]
  exact bitsOf_eq_zero_iff (lo := 8) (len := 56) w.isLt

theorem groupId_wideOfWord (w : Word) : groupId (wideOfWord w) = w.extractLsb' 0 8 := by
  apply BitVec.eq_of_getLsbD_eq
  intro i hi
  have h : i < 512 := by omega
  simp [groupId, wideOfWord, hi, h]

/-- A group is found under its own die and number. -/
theorem State.group_names (s : State) (k : TileKey) (n : BitVec 8) : (s.group k n).die = k.die ∧ (s.group k n).g = n := by
  unfold State.group
  cases h : (s.ctxAt k.ctx).groups.find? (fun x => x.die = k.die && x.g = n) with
  | none => exact ⟨rfl, rfl⟩
  | some x => simpa using List.find?_some h

@[simp] theorem State.modGroup_cur (s : State) (k : TileKey) (n : BitVec 8) (f : Group → Group) : (s.modGroup k n f).cur = s.cur := rfl

/-- A group of a context that exists, behind its change. -/
theorem State.modGroup_group {s : State} {k : TileKey} {n : BitVec 8} {f : Group → Group} (hc : (s.ctxAt? k.ctx).isSome = true)
    (hd : (f (s.group k n)).die = (s.group k n).die) (hg : (f (s.group k n)).g = (s.group k n).g) :
    (s.modGroup k n f).group k n = f (s.group k n) := by
  obtain ⟨e1, e2⟩ := s.group_names k n
  have hf : (decide ((f (s.group k n)).die = k.die) && decide ((f (s.group k n)).g = n)) = true := by
    rw [hd, hg, e1, e2]; simp
  have hm : (s.modGroup k n f).ctxAt k.ctx = _ :=
    State.modCtx_ctxAt (f := fun c => { c with groups := f (s.group k n) :: c.groups.filter (fun x => !(x.die = k.die && x.g = n)) })
      (fun _ => rfl) s k.ctx hc
  conv_lhs => rw [State.group, hm]
  simp only [List.find?_cons, hf, Option.getD_some]

theorem Group.join_names (g : Group) (tid : BitVec 6) (q : BitVec 4) : (g.join tid q).die = g.die ∧ (g.join tid q).g = g.g := by
  unfold Group.join; split <;> exact ⟨rfl, rfl⟩

theorem Group.remove_names (g : Group) (tid : BitVec 6) : (g.remove tid).die = g.die ∧ (g.remove tid).g = g.g := by
  unfold Group.remove; split <;> exact ⟨rfl, rfl⟩

/-- The group of the step's tile behind its change in the state that has read the trigger's source. -/
theorem State.taken_modGroup {s : State} (src : Src) (n : BitVec 8) {f : Group → Group} (hc : (s.ctxAt? s.cur.ctx).isSome = true)
    (hf : ∀ x, (f x).die = x.die ∧ (f x).g = x.g) :
    ((s.taken src).modGroup s.cur n (fun x => x.changeAt s.clock f)).group s.cur n = (s.group s.cur n).changeAt s.clock f := by
  obtain ⟨l, e⟩ := s.taken_eq src
  rw [e]
  exact State.modGroup_group (s := { s with tiles := l }) hc (hf _).1 (hf _).2

/-- The check of JOIN (R255). -/
theorem joinCheck_eq {s : State} {w : Word} (h : w.toNat < 256) : (hkJoin (wideOfWord w) (BitVec.allOnes 64)).check s =
    if s.cur.tid ∉ (s.group s.cur (w.extractLsb' 0 8)).members ∧ 64 ≤ (s.group s.cur (w.extractLsb' 0 8)).members.length then
      some (s.groupFull (wideOfWord w)) else none := by
  have hg : groupIdOk (wideOfWord w) = true := (groupIdOk_iff w).mpr h
  simp [hkJoin, Hooks.checked, hg, groupId_wideOfWord]

end Sys2Proof.Machine

namespace Sys2Proof.Claims

open Sys2Proof.Machine

/-! ### An operation that is answered at its trigger, beside a change of other parts of the state -/

/-- The results are on their way, and no byte and no register of the tile has changed (R21). -/
theorem locked_frame {s u : State} {src : Src} (ht : u.tiles = (s.taken src).tiles) (hm : u.mem = s.mem) (hc : u.cur = s.cur) (sk : Sock)
    (rs : List (RPort × Wide)) : SameBytes s (u.locked sk rs) ∧ SameRegisters s.tile.core (u.locked sk rs).tile.core ∧
    ∀ x ∈ rs, Delivers s (u.locked sk rs) sk x.1 x.2 := by
  have htile : u.tile = (s.taken src).tile := State.tile_congr ht (hc.trans (State.taken_cur s src).symm)
  have hbytes : SameBytes s u := by
    obtain ⟨-, hb⟩ := sameBytes_taken s src
    exact ⟨fun pa => congrArg (fun m => cellsGet m pa) hm, fun k off => by rw [State.tileAt_congr ht, hb]⟩
  refine ⟨sameBytes_trans hbytes (sameBytes_locked _ _ _), ?_, fun x hx => ?_⟩
  · obtain ⟨fl, e⟩ := u.locked_tile sk rs
    obtain ⟨fl', e'⟩ := (s.taken src).locked_tile sk rs
    have := sameRegisters_takenLocked s src sk rs
    rw [e'] at this
    rw [e, htile]
    exact this
  · have hn : u.tile.nextId = s.nextOp := htile ▸ State.taken_nextId s src
    unfold Delivers State.locked State.lockedBy State.answer
    rw [State.modTile_tile]
    exact ⟨_, List.mem_append_right _ (List.mem_map_of_mem hx), hn, rfl, rfl, rfl, rfl, rfl, rfl⟩

/-- A change of the tile's group with its new generation delivered (R48, R255). -/
theorem group_changes {s : State} (src : Src) (n : BitVec 8) {f : Group → Group} (hc : (s.ctxAt? s.cur.ctx).isSome = true)
    (hf : ∀ x, (f x).die = x.die ∧ (f x).g = x.g) :
    let u := (s.taken src).modGroup s.cur n (fun x => x.changeAt s.clock f)
    let t := u.locked .sync [(.q, (u.group s.cur n).gen.zeroExtend 512)]
    t.group s.cur n = (s.group s.cur n).changeAt s.clock f ∧ SameBytes s t ∧ SameRegisters s.tile.core t.tile.core ∧
      Delivers s t .sync .q ((f (s.group s.cur n)).gen.zeroExtend 512) := by
  intro u t
  have hg : u.group s.cur n = (s.group s.cur n).changeAt s.clock f := State.taken_modGroup src n hc hf
  have hm : u.mem = s.mem := by
    obtain ⟨l, e⟩ := s.taken_eq src
    change (s.taken src).mem = s.mem
    rw [e]
  obtain ⟨hb, hr, hd⟩ := locked_frame (u := u) (src := src) rfl hm (State.taken_cur s src) .sync [(.q, (u.group s.cur n).gen.zeroExtend 512)]
  have hv : (u.group s.cur n).gen = (f (s.group s.cur n)).gen := (congrArg Group.gen hg).trans rfl
  exact ⟨hg, hb, hr, hv ▸ hd _ List.mem_cons_self⟩

/-- The queue of the task, the clock and the key of the tile behind a read of its source. -/
theorem taken_reads (s : State) (src : Src) : (s.taken src).cur = s.cur ∧ (s.taken src).clock = s.clock ∧
    (s.taken src).tile.queueNo = s.tile.queueNo := by
  refine ⟨State.taken_cur s src, ?_, by rw [State.taken_tile]; rfl⟩
  obtain ⟨l, e⟩ := s.taken_eq src
  rw [e]

theorem join_joins {src : Src} {g : Guard} {s : State} (h : ScalarIssues .sync src g s) (hw : (s.scalarSrc src).toNat < 256)
    (hroom : s.cur.tid ∈ (s.group s.cur ((s.scalarSrc src).extractLsb' 0 8)).members ∨
      (s.group s.cur ((s.scalarSrc src).extractLsb' 0 8)).members.length < 64) :
    let n : BitVec 8 := (s.scalarSrc src).extractLsb' 0 8
    let u := (s.taken src).modGroup s.cur n (fun x => x.changeAt s.clock (fun x => x.join s.cur.tid s.tile.queueNo))
    exec (.join src g) s = .next (u.locked .sync [(.q, (u.group s.cur n).gen.zeroExtend 512)]) := by
  obtain ⟨hcur, hclock, hq⟩ := taken_reads s src
  have hck := joinCheck_eq (s := s) hw
  rw [if_neg (by rintro ⟨h1, h2⟩; rcases hroom with h | h; exacts [h1 h, absurd h2 (by omega)])] at hck
  refine (runScalar_act (hk := hkJoin) h rfl rfl hck rfl).trans ?_
  simp only [hkJoin, Hooks.checked, groupId_wideOfWord, State.modGroup_cur, hcur, hclock, hq]

theorem leave_leaves {src : Src} {g : Guard} {s : State} (h : ScalarIssues .sync src g s) (hw : (s.scalarSrc src).toNat < 256) :
    let n : BitVec 8 := (s.scalarSrc src).extractLsb' 0 8
    let u := (s.taken src).modGroup s.cur n (fun x => x.changeAt s.clock (fun x => x.remove s.cur.tid))
    exec (.leave src g) s = .next (u.locked .sync [(.q, (u.group s.cur n).gen.zeroExtend 512)]) := by
  obtain ⟨hcur, hclock, -⟩ := taken_reads s src
  refine (runScalar_act (hk := hkLeave) h rfl rfl (if_pos ((groupIdOk_iff _).mpr hw)) rfl).trans ?_
  simp only [hkLeave, Hooks.checked, groupId_wideOfWord, State.modGroup_cur, hcur, hclock]

theorem join_full {src : Src} {g : Guard} {s : State} (h : ScalarIssues .sync src g s) (hw : (s.scalarSrc src).toNat < 256)
    (hn : s.cur.tid ∉ (s.group s.cur ((s.scalarSrc src).extractLsb' 0 8)).members)
    (hl : 64 ≤ (s.group s.cur ((s.scalarSrc src).extractLsb' 0 8)).members.length) :
    exec (.join src g) s = .next (s.takeTrap (s.groupFull (wideOfWord (s.scalarSrc src)))) := by
  have hck := joinCheck_eq (s := s) hw
  rw [if_pos ⟨hn, hl⟩] at hck
  exact runScalar_trap (hk := hkJoin) h rfl hck

end Sys2Proof.Claims

open Sys2Proof Sys2Proof.Machine Sys2Proof.Claims

/-- Settles O24: a lawful JOIN or LEAVE is the group's change with its generation delivered, or the trap of a full group. -/
theorem groupMembership : Obligations.GroupMembership := by
  unfold Obligations.GroupMembership
  intro src g s h hc n old hw
  refine ⟨fun hroom => ⟨_, join_joins h hw hroom, ?_⟩, fun hn hl => ?_, ⟨_, leave_leaves h hw, ?_⟩⟩
  · exact group_changes src n hc (fun x => x.join_names _ _)
  · rw [join_full h hw hn hl, State.groupFull, lowWord_wideOfWord]
  · exact group_changes src n hc (fun x => x.remove_names _)

end

section
/-! PROOF. Barriers (O25): an EVGATH of a tile outside the group waits for a fence on the GR path before its check. -/

namespace Sys2Proof.Claims

open Sys2Proof.Machine

/-- A cell read that has not read its cell, so that the LS path has an access in progress (R103). -/
def openCellRead : CellRd := { id := 0, u := .u0, tid := 0, off := 0, consume := false, done := false }

/-- An XFENCE of a tile whose GR path waits for its LS path (R103). -/
def readFence (k : TileKey) : Fence :=
  { early := 1, late := 2, who := [(k, 1)], acq := false, scope := 0, region := false, rel := false }

/-- A machine whose tile has that fence in force, and belongs to no group. -/
def fenced : State := State.reset.modTile (fun t => t.mapCore (fun c =>
  { c with cellRds := [openCellRead], seq := { c.seq with fences := [readFence State.reset.cur] } }))

/-- A guard that holds: p0 is all ones (R28, R30). -/
def alwaysOn : Guard := { inv := false, p := 0 }

theorem fenced_issues : ScalarIssues .sync (.imm8 0) alwaysOn fenced where
  runs := by decide +kernel
  on := by decide +kernel
  mode := .inl (by decide +kernel)
  ready := by simp [srcPorts]
  late := by decide +kernel
  sound := by simp [srcPorts]

theorem fenced_stalls : fenced.fenceStall pathGR = true := by decide +kernel

/-- The tile is no member of group 0, which its operand names (R48). -/
theorem fenced_stranger : (fenced.scalarSrc (.imm8 0)).toNat < 256 ∧
    fenced.cur.tid ∉ (fenced.group fenced.cur ((fenced.scalarSrc (.imm8 0)).extractLsb' 0 8)).members := by decide +kernel

/-- The EVGATH waits: the stage that stalls a bundle comes before the one that raises its traps (R23, R206). -/
theorem evgath_waits : exec (.evgath (.imm8 0) alwaysOn) fenced = .next fenced :=
  (runScalar_issues (hk := hkEvgath) fenced_issues).trans (congrArg _ (State.runHooks_stall fenced_stalls))

end Sys2Proof.Claims

open Sys2Proof Sys2Proof.Machine Sys2Proof.Claims

/-- Refutes O25: an EVGATH outside the group raises nothing while a fence holds the GR path, for which its bundle waits before any check. -/
theorem not_barriers : ¬ Obligations.Barriers := by
  rintro ⟨harrive, -⟩
  obtain ⟨-, hout, -⟩ := harrive (.imm8 0) alwaysOn fenced fenced_issues
  obtain ⟨-, hbad⟩ := hout fenced_stranger.1 fenced_stranger.2
  have hf : fenced.tile.frozen = _ := congrArg (fun s => s.tile.frozen) (Host.Outcome.next.inj (evgath_waits.symm.trans hbad))
  have hz : (fenced.takeTrap (fenced.courseViolation .sync (wideOfWord (fenced.scalarSrc (.imm8 0))))).tile.frozen = true := by
    rw [takeTrap_tile]
    exact State.takeTrapAt_frozen_self _ _ _ (.inr rfl)
  rw [hz] at hf
  exact absurd hf (by decide +kernel)

end

section
/-! PROOF. Launches (O27): a SPAWN before which a committed atomic meets poison offers its descriptor to the queue that the mark's operand names. -/

namespace Sys2Proof.Machine

theorem spawnCheck_none {s : State} {w : Word} (ha : bitsOf (lowWord (s.opA .sync)).toNat 4 60 = 0)
    (hq : (lowWord (s.opA .sync)).toNat < s.ctx.queues.length) (hw : bitsOf w.toNat 56 8 = 0) :
    (hkSpawn (wideOfWord w) (BitVec.allOnes 64)).check s = none := by
  simp [hkSpawn, Hooks.checked, ha, hw, hq]

end Sys2Proof.Machine

namespace Sys2Proof.Claims

open Sys2Proof.Machine

/-- A committed atomic at the first unit of the tile's scratchpad (R113). -/
def atomAtZero : AtomReq :=
  { id := 0, sk := .lsu0, op := .add, wide := true, place := .scratch 0 0, a := 0, b := 0, vc := [], rel := [] }

/-- A queue without courses (R386). -/
def emptyQueue : Queue := { cls := 0, halted := false, courses := [], next := 0, lastAdm := none, lastStart := none, lastRet := none, hb := [], tails := [] }

/-- A machine whose context has queue 0 alone. The tile's operand names it; at the mark it named queue 15. The unit that its committed atomic
reads is poisoned, so that the atomic rolls the tile back when it is performed (R58, R416). -/
def poisonedSpawn : State :=
  ({ State.reset with ctxs := [{ Ctx.blank TileKey.none.ctx with queues := [emptyQueue] }] } : State).modTile (fun t =>
    { t with mark := t.mark.setOpnd .sync .a 15 0, lsq := [.atom atomAtZero], poison := [0] })

theorem poisonedSpawn_issues : ScalarIssues .sync (.imm8 1) alwaysOn poisonedSpawn where
  runs := by decide +kernel
  on := by decide +kernel
  mode := .inl (by decide +kernel)
  ready := by simp [srcPorts]
  late := by decide +kernel
  sound := by simp [srcPorts]

/-- Its operands are lawful (R257). -/
theorem poisonedSpawn_lawful : bitsOf (lowWord (poisonedSpawn.opA .sync)).toNat 4 60 = 0 ∧
    (lowWord (poisonedSpawn.opA .sync)).toNat < poisonedSpawn.ctx.queues.length ∧
    bitsOf (poisonedSpawn.scalarSrc (.imm8 1)).toNat 56 8 = 0 := by decide +kernel

/-- The values that are on their way to the result ports of the tile of the step. -/
def answers (s : State) : List Wide := s.tile.core.flight.map InFlight.value

/-- The SPAWN acts behind the atomic, with the operand of the mark: queue 15 does not exist, and the answer is that of a full queue. -/
theorem poisonedSpawn_answers : answers ((hkSpawn (wideOfWord (poisonedSpawn.scalarSrc (.imm8 1))) (BitVec.allOnes 64)).act
    (poisonedSpawn.taken (.imm8 1))) = [2 ^ 64 - 1, 0] := by decide +kernel

end Sys2Proof.Claims

open Sys2Proof Sys2Proof.Machine Sys2Proof.Claims

/-- Refutes O27: the statement offers the descriptor, whose address is not a multiple of 128, to queue 0, which answers with offset 0. -/
theorem not_launches : ¬ Obligations.Launches := by
  intro h
  obtain ⟨ha, hq, hw⟩ := poisonedSpawn_lawful
  have hact := runScalar_act (hk := hkSpawn) poisonedSpawn_issues rfl rfl (spawnCheck_none ha hq hw) rfl
  have heq := congrArg answers (Host.Outcome.next.inj (hact.symm.trans ((h (.imm8 1) alwaysOn poisonedSpawn poisonedSpawn_issues).1 ha hq hw)))
  rw [poisonedSpawn_answers] at heq
  exact absurd heq (by decide +kernel)

end

section
/-! PROOF. Waits (O12): what the end of a WAITU, of a WAITB and of the waits beside it leaves of the tile. -/

namespace Sys2Proof.Machine

/-! ### Clocks of the paths -/

theorem Tile.setVc_eq (t : Tile) (p : Nat) (v : VClock) : ∃ l, t.setVc p v = { t with vcs := l } := by
  unfold Tile.setVc
  split
  · exact ⟨_, rfl⟩
  · exact ⟨t.vcs, rfl⟩

theorem Tile.bump_eq (t : Tile) (k : TileKey) (p : Nat) : ∃ l, t.bump k p = { t with vcs := l } := t.setVc_eq _ _

theorem Tile.waitJoin_eq (t : Tile) (both : Bool) (v : VClock) : ∃ l m, t.waitJoin both v = { t with vcs := l, markHb := m } := by
  obtain ⟨l, e⟩ := t.setVc_eq pathLS (vcJoin (t.vcOf pathLS) v)
  unfold Tile.waitJoin
  cases both
  · exact ⟨l, t.markHb, e⟩
  · exact ⟨l, _, congrArg (fun u : Tile => { u with markHb := { t.markHb with vcs := t.markHb.vcs.set pathLS (vcJoin (t.markHb.vcs.get 0) v) } }) e⟩

/-! ### The end of a WAITU (R179) -/

/-- A WAITU of a sequencer is over. -/
def Seq.dropWaitu (w : Option WaitU) (q : Seq) : Seq := if q.waitu = w then { q with waitu := none } else q

theorem Tile.clearWaitu_eq (t : Tile) (k : TileKey) :
    ∃ l m, t.clearWaitu k = { t.mapSeqs (Seq.dropWaitu t.core.seq.waitu) with vcs := l, markHb := m } := by
  obtain ⟨l, e⟩ := (t.mapSeqs (Seq.dropWaitu t.core.seq.waitu)).bump_eq k pathDM
  obtain ⟨l', m, e'⟩ := ((t.mapSeqs (Seq.dropWaitu t.core.seq.waitu)).bump k pathDM).waitJoin_eq (t.mark.seq.waitu = t.core.seq.waitu)
    (((t.mapSeqs (Seq.dropWaitu t.core.seq.waitu)).bump k pathDM).vcOf pathDM)
  exact ⟨l', m, e'.trans (by rw [e])⟩

/-! ### The end of a WAITB (R189) -/

/-- A WAITB of a sequencer is over. -/
def Seq.dropWaitb (w : WaitB) (q : Seq) : Seq := if q.waitb = some w then { q with waitb := none } else q

/-- What the end of a wait of a tile leaves of it: its cells, its bytes, its station, and of its core all but the wait itself. -/
structure Waited (a b : Tile) : Prop where
  scratch : b.scratch = a.scratch
  full : b.full = a.full
  core : ∃ q, b.core = { a.core with seq := q } ∧ q.pc = a.core.seq.pc ∧ (q.waitb = a.core.seq.waitb ∨ q.waitb = none)

theorem Waited.refl (a : Tile) : Waited a a := ⟨rfl, rfl, _, rfl, rfl, .inl rfl⟩

theorem Waited.trans {a b c : Tile} (h : Waited a b) (g : Waited b c) : Waited a c := by
  obtain ⟨hs, hf, q, hq, hpc, hw⟩ := h
  obtain ⟨gs, gf, r, gr, gpc, gw⟩ := g
  refine ⟨gs.trans hs, gf.trans hf, r, by rw [gr, hq], by rw [gpc, hq, hpc], ?_⟩
  rw [hq] at gw
  rcases gw with gw | gw
  · rw [gw]; exact hw
  · exact .inr gw

theorem waited_waitJoin (t : Tile) (both : Bool) (v : VClock) : Waited t (t.waitJoin both v) := by
  obtain ⟨l, m, e⟩ := t.waitJoin_eq both v
  rw [e]
  exact ⟨rfl, rfl, _, rfl, rfl, .inl rfl⟩

theorem waited_dropWaitb (t : Tile) (w : WaitB) : Waited t (t.mapSeqs (Seq.dropWaitb w)) := by
  refine ⟨rfl, rfl, _, rfl, ?_⟩
  unfold Seq.dropWaitb
  split
  · exact ⟨rfl, .inr rfl⟩
  · exact ⟨rfl, .inl rfl⟩

/-- What the end of waits of the tile of the step leaves of the state. -/
structure WaitsEnd (s t : State) : Prop where
  rest : ∃ l, t = { s with tiles := l }
  own : Waited s.tile t.tile
  other : ∀ k, k ≠ s.cur → t.tileAt k = s.tileAt k

theorem WaitsEnd.refl (s : State) : WaitsEnd s s := ⟨⟨s.tiles, rfl⟩, Waited.refl _, fun _ _ => rfl⟩

theorem WaitsEnd.cur {s t : State} (h : WaitsEnd s t) : t.cur = s.cur := by
  obtain ⟨l, e⟩ := h.rest
  rw [e]

theorem WaitsEnd.trans {a b c : State} (h : WaitsEnd a b) (g : WaitsEnd b c) : WaitsEnd a c := by
  refine ⟨?_, h.own.trans g.own, fun k hk => (g.other k (h.cur ▸ hk)).trans (h.other k hk)⟩
  obtain ⟨l, e⟩ := h.rest
  obtain ⟨l', e'⟩ := g.rest
  exact ⟨l', by rw [e', e]⟩

theorem waitsEnd_modTile (s : State) {f : Tile → Tile} (h : Waited s.tile (f s.tile)) : WaitsEnd s (s.modTile f) :=
  ⟨⟨_, rfl⟩, by rw [State.modTile_tile]; exact h, fun _ hk => State.modTile_tileAt_ne _ _ hk⟩

/-- Its cells and bytes stand. -/
theorem WaitsEnd.tileAt {s t : State} (h : WaitsEnd s t) (k : TileKey) :
    (t.tileAt k).scratch = (s.tileAt k).scratch ∧ (t.tileAt k).full = (s.tileAt k).full := by
  by_cases hk : k = s.cur
  · obtain ⟨hs, hf, -⟩ := h.own
    rw [State.tile, h.cur] at hs hf
    exact hk ▸ ⟨hs, hf⟩
  · rw [h.other k hk]
    exact ⟨rfl, rfl⟩

/-- What a wait compares stands. -/
theorem WaitsEnd.waitOver {s t : State} (h : WaitsEnd s t) (k : TileKey) (w : WaitB) : t.waitOver k w = s.waitOver k w := by
  have hcell (j : TileKey) (o : Nat) : (t.tileAt j).cellFull o = (s.tileAt j).cellFull o := by
    rw [Tile.cellFull, (h.tileAt j).2]; rfl
  have hread (j : TileKey) (o n : Nat) : (t.tileAt j).spRead o n = (s.tileAt j).spRead o n := by
    rw [Tile.spRead, (h.tileAt j).1]; rfl
  obtain ⟨l, e⟩ := h.rest
  have hmem (pa n : Nat) : t.memRead pa n = s.memRead pa n := by rw [e]; rfl
  have hq : t.waitQueue k w = s.waitQueue k w := by rw [e]; rfl
  have hn : t.waitCount k w = s.waitCount k w := by rw [e]; rfl
  have hc : t.cycle k.die = s.cycle k.die := by rw [e]; rfl
  have hf : t.waitFlag k w = s.waitFlag k w := by
    unfold State.waitFlag
    cases w.pa with
    | some pa => exact congrArg _ (hmem pa 8)
    | none => exact congrArg _ (hread _ _ _)
  unfold State.waitOver State.waitHolds
  simp only [hc, hcell, hf, hq, hn]

theorem waitsEnd_seeFlag (s : State) (w : WaitB) : WaitsEnd s (s.seeFlag w) := by
  unfold State.seeFlag
  split
  · exact WaitsEnd.refl s
  · exact waitsEnd_modTile s (waited_waitJoin _ _ _)

theorem waitsEnd_clearWaitb (s : State) (w : WaitB) : WaitsEnd s (s.clearWaitb w) := waitsEnd_modTile s (waited_dropWaitb _ w)

theorem waitsEnd_endWait (s : State) (w : WaitB) : WaitsEnd s (s.endWait w) := by
  unfold State.endWait
  split
  · exact (waitsEnd_seeFlag s w).trans (waitsEnd_clearWaitb _ w)
  · exact WaitsEnd.refl s

/-- The waits beside the tile's own end, each as the tile's own does (R189). -/
theorem waitsEnd_endSideWaits (s : State) : WaitsEnd s s.endSideWaits := by
  suffices ∀ (l : List WaitB) (u : State), WaitsEnd s u → WaitsEnd s (l.foldl State.endWait u) from this _ _ (WaitsEnd.refl s)
  intro l
  induction l with
  | nil => exact fun _ h => h
  | cons w l ih => exact fun u h => ih _ (h.trans (waitsEnd_endWait u w))

theorem clearWaitb_waitb (s : State) (w : WaitB) (h : s.tile.core.seq.waitb = some w ∨ s.tile.core.seq.waitb = none) :
    (s.clearWaitb w).tile.core.seq.waitb = none := by
  have e : (s.clearWaitb w).tile = s.tile.mapSeqs (Seq.dropWaitb w) := State.modTile_tile _ _
  rw [e]
  change (Seq.dropWaitb w s.tile.core.seq).waitb = none
  unfold Seq.dropWaitb
  split
  · rfl
  · next hn => exact h.resolve_left hn

/-- Where the condition of the tile's own wait holds, it is over (R189). -/
theorem endWaitb_ends {s : State} {w : WaitB} (hw : s.tile.core.seq.waitb = some w) (ho : s.waitOver s.cur w = true) :
    WaitsEnd s s.endSideWaits.endWaitb ∧ s.endSideWaits.endWaitb.tile.core.seq.waitb = none := by
  have hside := waitsEnd_endSideWaits s
  obtain ⟨q, hq, -, hb⟩ := hside.own.core
  have hb' : s.endSideWaits.tile.core.seq.waitb = some w ∨ s.endSideWaits.tile.core.seq.waitb = none := by rw [hq]; exact hw ▸ hb
  unfold State.endWaitb
  rcases hb' with hb | hb <;> rw [hb] <;> dsimp only
  · have hov : s.endSideWaits.waitOver s.endSideWaits.cur w = true := by rw [hside.waitOver, hside.cur, ho]
    have hsee := waitsEnd_seeFlag s.endSideWaits w
    refine ⟨hside.trans (waitsEnd_endWait _ w), ?_⟩
    rw [State.endWait, if_pos hov]
    obtain ⟨q', hq', -, hb'⟩ := hsee.own.core
    exact clearWaitb_waitb _ w (by rw [hq']; exact hb ▸ hb')
  · exact ⟨hside, hb⟩

/-! ### The clock in which a wait ends (R23) -/

/-- That clock advances the pipelines of the tile of the step, or does nothing. -/
theorem State.endClock_cases (s : State) (q : Seq) : s.endClock q = s ∨ s.endClock q = s.modTile (fun t => t.clockTick false false) := by
  unfold State.endClock
  split
  · exact .inl rfl
  · exact .inr rfl

/-- A clock leaves the sequencer but for the units that a VLDG occupies (R24, R217). -/
theorem Tile.clockTick_seq (t : Tile) (issue allFree : Bool) :
    (t.clockTick issue allFree).core.seq.pc = t.core.seq.pc ∧ (t.clockTick issue allFree).core.seq.waitu = t.core.seq.waitu ∧
    (t.clockTick issue allFree).core.seq.waitb = t.core.seq.waitb := by
  unfold Tile.clockTick
  cases h : t.priv <;> simp

end Sys2Proof.Machine

namespace Sys2Proof.Claims

open Sys2Proof.Machine

/-- A wait has ended: the bytes, the registers and the address of the next bundle are as they were. -/
structure WaitEnded (s t : State) : Prop where
  pc : t.tile.core.seq.pc = s.tile.core.seq.pc
  registers : SameRegisters s.tile.core t.tile.core
  bytes : SameBytes s t

theorem WaitEnded.endClock {s t : State} (h : WaitEnded s t) (q : Seq) : WaitEnded s (t.endClock q) := by
  rcases t.endClock_cases q with e | e <;> rw [e]
  · exact h
  · obtain ⟨hpc, hr, hb⟩ := h
    refine ⟨?_, ?_, sameBytes_trans hb (sameBytes_modTile _ _ rfl)⟩ <;> rw [State.modTile_tile]
    · exact (Tile.clockTick_seq _ _ _).1.trans hpc
    · exact hr

theorem endClock_waits (t : State) (q : Seq) : (t.endClock q).tile.core.seq.waitu = t.tile.core.seq.waitu ∧
    (t.endClock q).tile.core.seq.waitb = t.tile.core.seq.waitb := by
  rcases t.endClock_cases q with e | e <;> rw [e]
  · exact ⟨rfl, rfl⟩
  · rw [State.modTile_tile]; exact (Tile.clockTick_seq _ _ _).2

theorem sameBytes_of_waitsEnd {s t : State} (h : WaitsEnd s t) : SameBytes s t := by
  refine ⟨fun pa => ?_, fun k off => ?_⟩
  · obtain ⟨l, e⟩ := h.rest
    rw [e]; rfl
  · rw [Tile.byte, (h.tileAt k).1]; rfl

theorem waitEnded_of_waitsEnd {s t : State} (h : WaitsEnd s t) : WaitEnded s t := by
  obtain ⟨q, hq, hpc, -⟩ := h.own.core
  refine ⟨by rw [hq]; exact hpc, ?_, sameBytes_of_waitsEnd h⟩
  rw [hq]
  exact ⟨⟨rfl, rfl, rfl, rfl, rfl, rfl, rfl, rfl, rfl⟩, rfl⟩

/-! ### WAITU -/

end Sys2Proof.Claims

namespace Sys2Proof.Machine

/-- The state whose tile waits for a promise (R179). -/
def State.awaiting (s : State) (w : WaitU) : State := s.modTile (fun t => t.mapSeq (fun q => { q with waitu := some w }))

theorem State.awaiting_waitu (s : State) (w : WaitU) : (s.awaiting w).tile.core.seq.waitu = some w :=
  congrArg (fun t : Tile => t.core.seq.waitu) (State.modTile_tile _ _)

end Sys2Proof.Machine

namespace Sys2Proof.Claims

open Sys2Proof.Machine

theorem clearWaitu_ended (s : State) : WaitEnded s s.clearWaitu ∧ s.clearWaitu.tile.core.seq.waitu = none := by
  obtain ⟨l, m, e⟩ := s.tile.clearWaitu_eq s.cur
  have ht : s.clearWaitu.tile = _ := (State.modTile_tile _ _).trans e
  have hq : s.clearWaitu.tile.core = { s.tile.core with seq := Seq.dropWaitu s.tile.core.seq.waitu s.tile.core.seq } := by rw [ht]; rfl
  have hd : Seq.dropWaitu s.tile.core.seq.waitu s.tile.core.seq = { s.tile.core.seq with waitu := none } := if_pos rfl
  rw [hd] at hq
  refine ⟨⟨by rw [hq], ?_, sameBytes_modTile s _ (by rw [e]; rfl)⟩, by rw [hq]⟩
  rw [hq]
  exact ⟨⟨rfl, rfl, rfl, rfl, rfl, rfl, rfl, rfl, rfl⟩, rfl⟩

theorem endWaitu_none {s : State} (h : s.tile.core.seq.waitu = none) : s.endWaitu = s := by
  unfold State.endWaitu; rw [h]

theorem missWaitu_none {s : State} (h : s.tile.core.seq.waitu = none) : s.missWaitu = s := by
  unfold State.missWaitu; rw [h]

/-- Before its promised cycle a WAITU neither ends nor traps (R179). -/
theorem waitu_waits {s : State} {w : WaitU} (h : s.tile.core.seq.waitu = some w) (hp : s.cycle s.cur.die < w.p) :
    s.endWaitu = s ∧ s.missWaitu = s := by
  have hd : s.promiseDue w = false := by simp [State.promiseDue, hp]
  unfold State.endWaitu State.missWaitu
  rw [h]
  simp [hd]

theorem waituEnd_ends {s : State} {w : WaitU} (h : s.tile.core.seq.waitu = some w) (hp : w.p ≤ s.cycle s.cur.die) (ht : w.inTime = true) :
    exec .waituEnd s = .next (s.clearWaitu.endClock s.tile.core.seq) := by
  have hd : s.promiseDue w = true := by simp [State.promiseDue, hp]
  change Host.Outcome.next (s.endWaitu.endClock s.tile.core.seq) = _
  unfold State.endWaitu
  rw [h]
  simp [hd, ht]

theorem promiseMissed_traps {s : State} {w : WaitU} (h : s.tile.core.seq.waitu = some w) (hp : w.p ≤ s.cycle s.cur.die) (ht : w.inTime = false) :
    exec .promiseMissed s = .next ((s.clearWaitu.takeTrap (s.missedCause w)).promiseKept s.cur w.tag w.done) := by
  have hd : s.promiseDue w = true := by simp [State.promiseDue, hp]
  change Host.Outcome.next s.missWaitu = _
  unfold State.missWaitu
  rw [h]
  simp [hd, ht]

/-- WAITU begins its wait, or passes where its TAG names no transfer (R179, R233). -/
theorem waitu_begins {n : BitVec 3} {g : Guard} {s : State} (h : ControlIssues g s) :
    exec (.waitu n g) s = .next ((ctlWaitu n).act (s.atSlot 10) (s.atSlot 10)).endWaitu.missWaitu :=
  runControl_act (hk := ctlWaitu n) h rfl rfl

theorem atSlot_tile (s : State) (i : Nat) : (s.atSlot i).tile = s.tile.mapSeq (fun q => { q with slot := i }) := State.modTile_tile _ _

theorem atSlot_oreg (s : State) (i : Nat) (n : BitVec 3) : (s.atSlot i).oreg n = s.tile.core.o.get n.toFin := by
  rw [State.oreg, atSlot_tile]; rfl

theorem waitu : Waitu := by
  refine ⟨fun n g s h => ⟨fun ht hw => ?_, fun d ht hp => ?_⟩, fun s w h hp => ⟨fun hin => ?_, fun hin => promiseMissed_traps h hp hin⟩,
    fun s hd he => if_pos (by rw [hd, he]; rfl)⟩
  · have hnone : (s.atSlot 10).tile.core.seq.waitu = none := by rw [atSlot_tile]; exact hw
    have htr : (s.atSlot 10).tile.transfer? (((s.atSlot 10).oreg n).extractLsb' 48 16) = none := by rw [atSlot_oreg, atSlot_tile]; exact ht
    have hact : (ctlWaitu n).act (s.atSlot 10) (s.atSlot 10) = s.atSlot 10 := by simp only [ctlWaitu, htr]
    rw [waitu_begins h, hact, endWaitu_none hnone, missWaitu_none hnone]
  · have htr : (s.atSlot 10).tile.transfer? (((s.atSlot 10).oreg n).extractLsb' 48 16) = some d := by rw [atSlot_oreg, atSlot_tile]; exact ht
    obtain ⟨w, hw⟩ : ∃ w : WaitU, w =
        { start := s.cycle s.cur.die, p := d.promise, done := d.done, tag := (s.tile.core.o.get n.toFin).extractLsb' 48 16 } := ⟨_, rfl⟩
    have hact : (ctlWaitu n).act (s.atSlot 10) (s.atSlot 10) = (s.atSlot 10).awaiting w := by
      rw [hw, ← atSlot_oreg s 10]
      simp only [ctlWaitu, htr]
      rfl
    have hp' : ((s.atSlot 10).awaiting w).cycle ((s.atSlot 10).awaiting w).cur.die < w.p := hw ▸ hp
    obtain ⟨he, hm⟩ := waitu_waits ((s.atSlot 10).awaiting_waitu w) hp'
    rw [waitu_begins h, hact, he, hm, hw]
    rfl
  · obtain ⟨hend, hnone⟩ := clearWaitu_ended s
    obtain ⟨hpc, hr, hb⟩ := hend.endClock s.tile.core.seq
    exact ⟨_, waituEnd_ends h hp hin, (endClock_waits _ _).1.trans hnone, hpc, hr, hb⟩

/-! ### WAITB -/

/-- A wait whose condition does not hold, before its last clock, neither ends nor traps (R189, R190). -/
theorem waitb_waits {s : State} {w : WaitB} (h : s.tile.core.seq.waitb = some w) (hn : s.waitHolds s.cur w = false)
    (hs : s.cycle s.cur.die < w.stop) : s.endWaitb.expireWaitb = s := by
  have he : s.endWaitb = s := by
    unfold State.endWaitb
    rw [h]
    exact if_neg (by simp [State.waitOver, hn])
  rw [he, State.expireWaitb, h]
  exact if_pos (by simp [hs])

theorem waitExpired_traps {s : State} {w : WaitB} (h : s.tile.core.seq.waitb = some w) (hn : s.waitHolds s.cur w = false)
    (hs : w.stop ≤ s.cycle s.cur.die) : exec .waitExpired s = .next ((s.clearWaitb w).takeTrap (s.expiredCause s.cur w)) := by
  change Host.Outcome.next s.expireWaitb = _
  rw [State.expireWaitb, h]
  exact congrArg _ (if_neg (by simp [hn, Nat.not_lt.mpr hs]))

theorem waitb : Waitb := by
  refine ⟨?_, fun s w h => ⟨fun hs hh => ?_, fun hs hh => waitExpired_traps h hh hs⟩⟩
  · intro n g s h p v w t hst hc hn hs
    have hv : p.oreg n = v := atSlot_oreg s 10 n
    have hstall : (ctlWaitb n).stall p p = false := by
      simp only [ctlWaitb, hv, Bool.and_eq_false_iff, decide_eq_false_iff_not]
      by_cases hk : waitKind (waitWord v 0) = 2
      · exact .inr (hst hk)
      · exact .inl hk
    refine (runControl_act (hk := ctlWaitb n) h hstall ((congrArg p.waitbCause hv).trans hc)).trans (congrArg _ ?_)
    have hact : (ctlWaitb n).act p p = t := by simp only [ctlWaitb, hv]; rfl
    change ((ctlWaitb n).act p p).endWaitb.expireWaitb = t
    rw [hact, waitb_waits (by rw [State.modTile_tile]; rfl) hn hs]
  · obtain ⟨hend, hnone⟩ := endWaitb_ends h (by simp [State.waitOver, hs, hh])
    obtain ⟨hpc, hr, hb⟩ := (waitEnded_of_waitsEnd hend).endClock s.tile.core.seq
    exact ⟨_, rfl, (endClock_waits _ _).2.trans hnone, hpc, hr, hb⟩

end Sys2Proof.Claims

open Sys2Proof Sys2Proof.Machine Sys2Proof.Claims

/-- Settles O12: WAITU and WAITB by what they begin, what their ends leave and what they trap with (log 106). -/
theorem waits : Obligations.Waits := ⟨waitu, waitb⟩

end

section
/-! PROOF. ConjunctionsAndLaps (O36): the conjunction that a free tile starts, and what a lap's end makes of the orbit. -/

namespace Sys2Proof.Machine

/-! ### The registers that a task is preloaded with (R41, R46) -/

/-- Registers preloaded one after the other. -/
def TileCore.preload (c : TileCore) (pre : List (BitVec 6 × Word)) : TileCore := pre.foldl (fun c x => c.setM x.1 (wideOfWord x.2)) c

theorem TileCore.preload_get_ne {n : BitVec 6} {pre : List (BitVec 6 × Word)} (h : n ∉ pre.map Prod.fst) (c : TileCore) :
    (c.preload pre).m.get n.toFin = c.m.get n.toFin := by
  induction pre generalizing c with
  | nil => rfl
  | cons x l ih =>
    rw [List.map_cons, List.mem_cons, not_or] at h
    exact (ih h.2 _).trans (TileCore.setM_get_ne _ _ h.1)

/-- Each of several registers holds what it was preloaded with. -/
theorem TileCore.preload_get {pre : List (BitVec 6 × Word)} (hd : (pre.map Prod.fst).Nodup) (c : TileCore) :
    ∀ x ∈ pre, (c.preload pre).m.get x.1.toFin = wideOfWord x.2 := by
  induction pre generalizing c with
  | nil => simp
  | cons y l ih =>
    obtain ⟨hy, hl⟩ := List.nodup_cons.mp hd
    intro x hx
    rcases List.mem_cons.mp hx with rfl | hx
    · exact (TileCore.preload_get_ne hy _).trans (TileCore.setM_get _ _ _)
    · exact ih hl _ x hx

theorem Tile.startTask_m (t : Tile) (k : Task) (pc : BitVec 56) (pre : List (BitVec 6 × Word)) :
    (t.startTask k pc pre).core.m = (t.core.preload pre).m := rfl

theorem Tile.startTask_get (t : Tile) (k : Task) (pc : BitVec 56) {pre : List (BitVec 6 × Word)} (hd : (pre.map Prod.fst).Nodup) :
    ∀ x ∈ pre, (t.startTask k pc pre).core.m.get x.1.toFin = wideOfWord x.2 := TileCore.preload_get hd t.core

/-! ### The orbit of the cluster of the step -/

/-- The orbit depends on the contexts and on the tile of the step alone. -/
theorem State.orbit?_congr {s t : State} (hc : t.ctxs = s.ctxs) (hk : t.cur = s.cur) : t.orbit? = s.orbit? := by
  unfold State.orbit? State.ctx State.ctxAt State.ctxAt?
  rw [hc, hk]

/-- The orbits of a context changed. -/
def Ctx.mapOrbits (g : List Orbit → List Orbit) (c : Ctx) : Ctx := { c with orbits := g c.orbits }

/-- The orbits of the context, behind their change; a context that is not there has none. -/
theorem State.mapOrbits_orbits {g : List Orbit → List Orbit} (hg : g [] = []) (s : State) :
    (s.modCtx s.cur.ctx (Ctx.mapOrbits g)).ctx.orbits = g s.ctx.orbits := by
  cases h : s.ctxAt? s.cur.ctx with
  | some c => exact congrArg Ctx.orbits (State.modCtx_ctxAt (f := Ctx.mapOrbits g) (fun _ => rfl) s s.cur.ctx (by rw [h]; rfl))
  | none =>
    have ho : s.ctx.orbits = [] := by rw [State.ctx, State.ctxAt, h]; rfl
    have hn : (s.modCtx s.cur.ctx (Ctx.mapOrbits g)).ctxAt? s.cur.ctx = none := by
      rw [State.ctxAt?, List.find?_eq_none] at h ⊢
      intro c hc
      obtain ⟨d, hd, rfl⟩ := List.mem_map.mp hc
      have hne : d.id ≠ s.cur.ctx := by simpa using h d hd
      simp [hne]
    rw [ho, hg, State.ctx, State.ctxAt, State.modCtx_cur, hn]
    rfl

theorem State.modOrbit_orbit {s : State} {o : Orbit} {f : Orbit → Orbit} (hf : ∀ o, (f o).cl = o.cl) (h : s.orbit? = some o) :
    (s.modOrbit f).orbit? = some (f o) := by
  have hp : (fun o : Orbit => decide (o.cl = keyCluster s.cur)) ∘ (fun o => if o.cl = keyCluster s.cur then f o else o) =
      fun o => decide (o.cl = keyCluster s.cur) := by
    funext o
    by_cases e : o.cl = keyCluster s.cur <;> simp [e, hf]
  have hl : s.ctx.orbits.find? (fun o => decide (o.cl = keyCluster s.cur)) = some o := h
  have hcl : o.cl = keyCluster s.cur := by simpa using List.find?_some hl
  have hm := State.mapOrbits_orbits (g := List.map (fun o => if o.cl = keyCluster s.cur then f o else o)) rfl s
  change ((s.modCtx s.cur.ctx (Ctx.mapOrbits _)).ctx.orbits).find? (fun o => decide (o.cl = keyCluster s.cur)) = _
  rw [hm, List.find?_map, hp, hl, Option.map_some, if_pos hcl]

/-! ### What leaves the contexts -/

theorem State.writeEntries_eq (s : State) (k : TileKey) (a b : Bool) : ∃ m, s.writeEntries k a b = { s with mem := m } := by
  have h : ∀ (f : Option Frame) (x : Nat), ∃ m, (match f with
      | some f => if a then s.memWrite x (snapEntries (sortSnap f.flight) (min 160 f.flight.length)) else s
      | none => s) = { s with mem := m } := fun f x => by cases f <;> cases a <;> exact ⟨_, rfl⟩
  obtain ⟨m, e⟩ := h (s.tileAt k).frame ((s.tileAt k).area + 0x15000)
  unfold State.writeEntries
  dsimp only
  split
  · cases b
    · exact ⟨m, e⟩
    · exact ⟨_, (congrArg (fun u : State => u.memWrite _ _) e).trans rfl⟩
  · exact ⟨m, e⟩

/-- Results that arrive leave the contexts. -/
theorem State.fillAt_ctxs (s : State) (k : TileKey) (id due : Nat) (rs : List (RPort × Wide)) :
    (s.fillAt k id due rs).ctxs = s.ctxs ∧ (s.fillAt k id due rs).cur = s.cur := by
  obtain e | ⟨a, b, e⟩ := s.fillAt_cases k id due rs <;> rw [e]
  · exact ⟨rfl, rfl⟩
  · obtain ⟨m, e'⟩ := (s.mapFlights k (fun l => fillFlight l id due rs)).writeEntries_eq k a b
    rw [e']; exact ⟨rfl, rfl⟩

theorem State.answerAll_ctxs (v : Nat) (l : List (TileKey × Nat)) (s : State) :
    (s.answerAll v l).ctxs = s.ctxs ∧ (s.answerAll v l).cur = s.cur := by
  induction l generalizing s with
  | nil => exact ⟨rfl, rfl⟩
  | cons x l ih =>
    obtain ⟨hc, hk⟩ := s.fillAt_ctxs x.1 x.2 s.clock [(.q, BitVec.ofNat 512 v)]
    exact ⟨(ih _).1.trans hc, (ih _).2.trans hk⟩

theorem State.modStations_ctxs (s : State) (f : TileKey → Station → Station) :
    (s.modStations f).ctxs = s.ctxs ∧ (s.modStations f).cur = s.cur := by  
  have h (u : State) (k : TileKey) : (u.modTileAt k (fun t => t.mapStation (f k))).ctxs = u.ctxs ∧
      (u.modTileAt k (fun t => t.mapStation (f k))).cur = u.cur := ⟨rfl, rfl⟩
  exact ⟨Machine.foldl_keeps State.ctxs (fun u k => (h u k).1) _ _, Machine.foldl_keeps State.cur (fun u k => (h u k).2) _ _⟩

/-! ### The three ends of a lap (R172, R173) -/

theorem State.detachOrbit_orbit (s : State) : s.detachOrbit.orbit? = none := by
  have hd (u : State) : (u.modCtx u.cur.ctx (Ctx.mapOrbits (List.filter (fun o => o.cl ≠ keyCluster u.cur)))).orbit? = none := by
    change ((u.modCtx u.cur.ctx (Ctx.mapOrbits _)).ctx.orbits).find? (fun o => decide (o.cl = keyCluster u.cur)) = none
    rw [State.mapOrbits_orbits rfl, List.find?_eq_none]
    intro o ho
    simpa using (List.mem_filter.mp ho).2
  exact hd _

theorem State.recoveryLap_orbit {s : State} {o : Orbit} (h : s.orbit? = some o) :
    ∃ o', s.recoveryLap.orbit? = some o' ∧ o'.lap = o.lap + 1 ∧ o'.step = 0 ∧ o'.total = o.total :=
  ⟨_, State.modOrbit_orbit (fun _ => rfl) ((State.orbit?_congr (s.modStations_ctxs _).1 (s.modStations_ctxs _).2).trans h), rfl, rfl, rfl⟩

end Sys2Proof.Machine

namespace Sys2Proof.Claims

open Sys2Proof.Machine

theorem lapEnd_auto {s : State} {o : Orbit} (ho : s.orbit? = some o) (hr : s.lapReady o = true) (ha : attachAuto o.word = true) :
    exec .lapEnd s = .next (if s.allMisses.length = 0 then s.detachOrbit else s.recoveryLap) := by
  change execLapEnd s = _
  unfold execLapEnd
  simp [ho, hr, ha]

theorem lapEnd_told {s : State} {o : Orbit} (ho : s.orbit? = some o) (hr : s.lapReady o = true) (ha : attachAuto o.word = false) :
    exec .lapEnd s = .next (
      if o.wantsLap && decide (s.allMisses.length ≠ 0) then (s.answerAll s.allMisses.length o.olap).recoveryLap
      else if o.wantsEnd then ((s.answerAll s.allMisses.length o.olap).answerAll s.allMisses.length o.odet).detachOrbit
      else (s.answerAll s.allMisses.length o.olap).modOrbit (fun o => { o with lapOver := true, want := false, olap := [] })) := by
  change execLapEnd s = _
  unfold execLapEnd
  simp only [ho, hr, ha]
  cases o.wantsLap && decide (s.allMisses.length ≠ 0) <;> cases o.wantsEnd <;> rfl

theorem lapEnds : LapEnds := by
  intro s o ho hr
  have hans : (s.answerAll s.allMisses.length o.olap).orbit? = some o := (State.orbit?_congr (State.answerAll_ctxs _ _ _).1 (State.answerAll_ctxs _ _ _).2).trans ho
  refine ⟨fun ha hm => ?_, fun hl hm => ?_, fun ha hl he => ?_, fun ha hl he => ?_⟩
  · exact ⟨_, lapEnd_auto ho hr ha, by rw [hm]; exact State.detachOrbit_orbit s⟩
  · have hlen : s.allMisses.length ≠ 0 := fun e => hm (List.length_eq_zero_iff.mp e)
    cases ha : attachAuto o.word with
    | true =>
      obtain ⟨o', h'⟩ := State.recoveryLap_orbit ho
      exact ⟨_, o', by rw [lapEnd_auto ho hr ha, if_neg hlen], h'⟩
    | false =>
      have hw : o.wantsLap = true := hl.resolve_left (by simp [ha])
      obtain ⟨o', h'⟩ := State.recoveryLap_orbit hans
      exact ⟨_, o', by rw [lapEnd_told ho hr ha, if_pos (by simp [hw, hlen])], h'⟩
  · exact ⟨_, by rw [lapEnd_told ho hr ha, if_neg (by simp [hl]), if_pos he], State.detachOrbit_orbit _⟩
  · have hn : ¬(o.wantsLap && decide (s.allMisses.length ≠ 0)) = true := by
      rcases hl with hl | hl <;> simp [hl]
    have ht := lapEnd_told ho hr ha
    rw [if_neg hn, if_neg (by simp [he])] at ht
    exact ⟨_, _, ht, State.modOrbit_orbit (fun _ => rfl) hans, rfl, rfl⟩

/-! ### The conjunction task -/

/-- The task of a conjunction (R45, R46). -/
def conjTask (s : State) (c : Conj) (o : Orbit) (code : BitVec 56) : Task :=
  { conj := some c.serial, q := o.q, course := o.course, gate := o.gate, pos := tidRing s.cur.tid, code := code,
    pro := 0, ker := 0, epi := 0, trip := 0, cluster := true, tow := 0, dist := 0, pins := [c.pro, c.ret], step := c.step }

/-- The tile of a conjunction whose task has started (R46, R169). -/
def conjStarted (s : State) (c : Conj) (r : List Conj) (o : Orbit) (code : BitVec 56) : State :=
  s.modTile (fun t => (({ t with conjQ := r }).admitHeld).startTask (conjTask s c o code)
    (code + BitVec.ofNat 56 (64 * c.task)) c.preloads)

theorem conjunctionTaskStart_starts {s : State} {c : Conj} {r : List Conj} {o : Orbit} {x : Course} (hr : s.conjReady s.cur = true)
    (hq : s.tile.conjQ = c :: r) (ho : s.orbit? = some o) (hx : s.ctx.course? o.q o.course = some x) :
    exec .conjunctionTaskStart s = .next (conjStarted s c r o x.cr.code) := by
  change execConjunctionTaskStart s = _
  unfold execConjunctionTaskStart
  simp only [hr, hq, ho, hx]
  rfl

theorem admitHeld_scratch (t : Tile) : t.admitHeld.scratch = t.scratch := by
  unfold Tile.admitHeld
  split
  · split <;> rfl
  · rfl

theorem conjunctionStarts : ConjunctionStarts := by
  intro s c r o x hr hq ho hx
  have ht : (conjStarted s c r o x.cr.code).tile = _ := State.modTile_tile _ _
  refine ⟨_, _, conjunctionTaskStart_starts hr hq ho hx, by rw [ht]; rfl, rfl, rfl, rfl, ?_⟩
  rw [ht]
  have hm := Tile.startTask_get (({ s.tile with conjQ := r }).admitHeld) (conjTask s c o x.cr.code)
    (x.cr.code + BitVec.ofNat 56 (64 * c.task)) (pre := c.preloads) (show [(56 : BitVec 6), 57, 58, 59].Nodup by decide)
  rw [Conj.preloads, List.forall_mem_cons, List.forall_mem_cons, List.forall_mem_cons, List.forall_mem_singleton] at hm
  obtain ⟨h56, h57, h58, h59⟩ := hm
  exact ⟨rfl, rfl, rfl, h56, h57, h58, h59, sameBytes_modTile _ _ (admitHeld_scratch _)⟩

end Sys2Proof.Claims

open Sys2Proof Sys2Proof.Machine Sys2Proof.Claims

/-- Settles O36: the tile of the conjunction that starts, and the orbit that each end of a lap leaves. -/
theorem conjunctionsAndLaps : Obligations.ConjunctionsAndLaps := ⟨conjunctionStarts, lapEnds⟩

end

section
/-! PROOF. StoresComplete (O18): a VST that reads a flagged scale brings what the flag says to the gated store before it, which changes. -/

namespace Sys2Proof.Claims

open Sys2Proof.Machine

/-- A typed store whose place and scales are in order acts (R246). -/
theorem vst_acts {u : Twin} {src : Src} {g : Guard} {s : State} (h : ScalarIssues (lsuOfTwin u) src g s)
    (hst : s.lsStall u (wideOfWord (s.scalarSrc src)) = false) {r : Run} (hr : s.runAt (s.scalarSrc src) = some r) {p : Place}
    (hp : s.runPlace .store (s.scalarSrc src) r (fun i => laneOn (s.maskA u) (r.width / 8) i) = .ok p)
    (he : s.scalesEarly u (s.scalarSrc src) (runScales p (s.bankWord (s.scalarSrc src)) r (fun i => laneOn (s.maskA u) (r.width / 8) i)) = none)
    (hc : s.scalesCause u (s.scalarSrc src) (runScales p (s.bankWord (s.scalarSrc src)) r (fun i => laneOn (s.maskA u) (r.width / 8) i)) = none) :
    exec (.vst u src g) s = .next ((hkVst u (wideOfWord (s.scalarSrc src)) (BitVec.allOnes 64)).act (s.taken src)) := by
  refine runScalar_act (hk := hkVst u) h hst ?_ ?_ ?_ <;> simp only [hkVst, vstHooks, lowWord_wideOfWord, hr, hp]
  · exact he
  · exact hc

/-- What a completion flag brings: an access of the tile's LS path (R106). -/
def flagClock : VClock := [((State.reset.cur, 0), 1)]

/-- A gated store with an operation index above the tile's next one. -/
def laterStore : Gated :=
  { place := .scratch 0 64, kind := .write [], here := 0, slot := 0, u := .u0, addr := 64, num := 1, vc := [], rel := [] }

/-- A machine whose tile has that store gated. Bank 0 is of a grouped format, the scale of its first group is at offset 0, and a completion
flag stands there; lane 0 of the operand is active (R68, R69, R106). -/
def flagged : State := State.reset.modTile (fun t =>
  { t.mapCore (fun c => { (c.setOpnd .lsu0 .a 0 1) with bf := c.bf.set 0 29 }) with
    gated := [laterStore], tags := [(0, { owner := State.reset.cur, rel := [(0, flagClock)], whole := true })] })

theorem flagged_issues : ScalarIssues .lsu0 (.imm8 0) alwaysOn flagged where
  runs := by decide +kernel
  on := by decide +kernel
  mode := .inl (by decide +kernel)
  ready := by simp [srcPorts]
  late := by decide +kernel
  sound := by simp [srcPorts]

theorem flagged_lsStall : flagged.lsStall .u0 (wideOfWord (flagged.scalarSrc (.imm8 0))) = false := by decide +kernel

/-- The run of the bank's format: 16 elements of 3 bits (R246). -/
def flaggedRun : Run := { elems := 16, bits := 3, bytes := 6, width := 32, first := fun o => 16 * o / 6 }

theorem flagged_run : flagged.runAt (flagged.scalarSrc (.imm8 0)) = some flaggedRun := by
  have h : flagged.runAt (flagged.scalarSrc (.imm8 0)) = runOf 13 true := by
    unfold State.runAt
    rw [if_neg (by decide +kernel), show bfFmt (flagged.bankWord (flagged.scalarSrc (.imm8 0))) = 13 by decide +kernel,
      show bfGrouped (flagged.bankWord (flagged.scalarSrc (.imm8 0))) = true by decide +kernel]
  exact h

/-- Its scale is free of traps (R74, R110, R416). -/
theorem flagged_scales : flagged.runPlace .store (flagged.scalarSrc (.imm8 0)) flaggedRun
      (fun i => laneOn (flagged.maskA .u0) (flaggedRun.width / 8) i) = .ok (.scratch flagged.cur.tid 0) ∧
    runScales (.scratch flagged.cur.tid 0) (flagged.bankWord (flagged.scalarSrc (.imm8 0))) flaggedRun
      (fun i => laneOn (flagged.maskA .u0) (flaggedRun.width / 8) i) = [.scratch flagged.cur.tid 0] ∧
    flagged.scalesEarly .u0 (flagged.scalarSrc (.imm8 0)) [.scratch flagged.cur.tid 0] = none ∧
    flagged.scalesCause .u0 (flagged.scalarSrc (.imm8 0)) [.scratch flagged.cur.tid 0] = none := by decide +kernel

/-- The clocks that the gated operations of the tile follow (R105). -/
def gatedClocks (s : State) : List VClock := s.tile.gated.map Gated.vc

theorem flagged_gated : flagged.tile.gated = [laterStore] := by decide +kernel

/-- The VST brings the flag's clock to the store before it. -/
theorem flagged_clocks : (gatedClocks ((hkVst .u0 (wideOfWord (flagged.scalarSrc (.imm8 0))) (BitVec.allOnes 64)).act
    (flagged.taken (.imm8 0)))).head? = some flagClock := by decide +kernel

end Sys2Proof.Claims

open Sys2Proof Sys2Proof.Machine Sys2Proof.Claims

/-- Refutes O18: the statement leaves the stores that are gated already as they were, where a scale carries a completion flag too. -/
theorem not_storesComplete : ¬ Obligations.StoresComplete := by
  rintro ⟨hgate, -⟩
  obtain ⟨hp, hs, he, hc⟩ := flagged_scales
  obtain ⟨-, -, hrun, -⟩ := hgate .u0 (.imm8 0) alwaysOn flagged (.scratch flagged.cur.tid 0) flagged_issues flagged_lsStall
  obtain ⟨t, vc, rel, hex, -, hg⟩ := hrun flaggedRun flagged_run hp (hs.symm ▸ he) (hs.symm ▸ hc)
  have ht := vst_acts (u := .u0) flagged_issues flagged_lsStall flagged_run hp (hs.symm ▸ he) (hs.symm ▸ hc)
  have hclocks := flagged_clocks
  rw [Host.Outcome.next.inj (ht.symm.trans hex), gatedClocks, hg, flagged_gated] at hclocks
  exact absurd (Option.some.inj hclocks) (by decide)

end

section
/-! PROOF. What the steps of courses leave beside what they change (O47): the tiles, the contexts, the tile of the step. -/

namespace Sys2Proof.Machine

/-! ### The runnable contexts of a die (R393) -/

/-- A part of the state that the clusters do not belong to. -/
def OffClusters {β : Type} (g : State → β) : Prop := ∀ (s : State) (cl : ClusterId) (f : Cluster → Cluster), g (s.modCluster cl f) = g s

theorem OffClusters.noteDie {β : Type} {g : State → β} (hg : OffClusters g) (s : State) (d : DieId) : g (s.noteDie d) = g s := by
  unfold State.noteDie
  refine foldl_keeps g (fun u i => ?_) _ s
  dsimp only
  split
  · rfl
  · exact hg _ _ _

theorem OffClusters.noteCtx {β : Type} {g : State → β} (hg : OffClusters g) (s : State) (id : CtxId) : g (s.noteCtx id) = g s :=
  foldl_keeps g (fun u d => hg.noteDie u d) _ s

/-- The lists of runnable contexts are no part of the tiles, the memory, the contexts and the key of the step. -/
theorem State.noteCtx_frame (s : State) (id : CtxId) :
    (s.noteCtx id).tiles = s.tiles ∧ (s.noteCtx id).mem = s.mem ∧ (s.noteCtx id).ctxs = s.ctxs ∧ (s.noteCtx id).cur = s.cur :=
  ⟨OffClusters.noteCtx (fun _ _ _ => rfl) s id, OffClusters.noteCtx (fun _ _ _ => rfl) s id, OffClusters.noteCtx (fun _ _ _ => rfl) s id,
    OffClusters.noteCtx (fun _ _ _ => rfl) s id⟩

/-- Which sides of a die are in service (R421). -/
def State.sides (d : DieId) (s : State) : Bool × Bool := ((s.dieAt d).cs, (s.dieAt d).ms)

theorem offClusters_sides (d : DieId) : OffClusters (State.sides d) := by
  intro s cl f
  unfold State.sides State.modCluster
  by_cases e : d = cl.die
  · subst e
    rw [State.modDie_dieAt]
    unfold Die.setCluster
    split <;> rfl
  · rw [State.modDie_dieAt_ne _ _ e]

/-! ### Messages to the host (R383, R429) -/

/-- A message to the host changes memory, the inboxes and what waits for them. -/
theorem State.flushInbox_frame (s : State) (part : BitVec 4) (ep : BitVec 7) (n : Nat) :
    (s.flushInbox part ep n).tiles = s.tiles ∧ (s.flushInbox part ep n).ctxs = s.ctxs ∧ (s.flushInbox part ep n).cur = s.cur := by
  have h1 (u : State) : (u.flushOne part ep).tiles = u.tiles ∧ (u.flushOne part ep).ctxs = u.ctxs ∧ (u.flushOne part ep).cur = u.cur := by
    unfold State.flushOne
    split
    · split <;> exact ⟨rfl, rfl, rfl⟩
    · exact ⟨rfl, rfl, rfl⟩
  induction n generalizing s with
  | zero => exact ⟨rfl, rfl, rfl⟩
  | succ n ih =>
    obtain ⟨t, c, k⟩ := ih (s.flushOne part ep)
    obtain ⟨t1, c1, k1⟩ := h1 s
    exact ⟨t.trans t1, c.trans c1, k.trans k1⟩

theorem State.post_frame (s : State) (part : BitVec 4) (ep : BitVec 7) (ws : List Word) :
    (s.post part ep ws).tiles = s.tiles ∧ (s.post part ep ws).ctxs = s.ctxs ∧ (s.post part ep ws).cur = s.cur :=
  State.flushInbox_frame { s with outbox := s.outbox ++ [{ part := part, ep := ep, w := ws }] } _ _ _

/-! ### A context behind its change -/

theorem State.ctxAt_congr {s t : State} (h : t.ctxs = s.ctxs) (i : CtxId) : t.ctxAt i = s.ctxAt i := by
  unfold State.ctxAt State.ctxAt?; rw [h]

theorem State.ctx_congr {s t : State} (h : t.ctxs = s.ctxs) (hc : t.cur = s.cur) : t.ctx = s.ctx := by
  unfold State.ctx; rw [hc, State.ctxAt_congr h]

theorem State.ctxAt_id (s : State) (i : CtxId) : (s.ctxAt i).id = i := by
  unfold State.ctxAt State.ctxAt?
  cases h : s.ctxs.find? (fun c => c.id = i) with
  | none => rfl
  | some c => simpa using List.find?_some h

/-- A context that is not there is not there behind a change of one. -/
theorem State.modCtx_ctxAt?_none {f : Ctx → Ctx} (hid : ∀ c, (f c).id = c.id) {s : State} {i : CtxId} (h : s.ctxAt? i = none) (j : CtxId) :
    (s.modCtx j f).ctxAt? i = none := by
  rw [State.ctxAt?, List.find?_eq_none] at h ⊢
  intro c hc
  obtain ⟨d, hd, rfl⟩ := List.mem_map.mp hc
  have hne : d.id ≠ i := by simpa using h d hd
  by_cases e : d.id = j <;> simp [e, hid] <;> simpa [e] using hne

theorem State.modCtx_ctxAt_ne {f : Ctx → Ctx} (hid : ∀ c, (f c).id = c.id) (s : State) {i j : CtxId} (h : i ≠ j) :
    (s.modCtx j f).ctxAt i = s.ctxAt i := by
  have hl (l : List Ctx) : (l.map (fun c => if c.id = j then f c else c)).find? (fun c => decide (c.id = i)) = l.find? (fun c => decide (c.id = i)) := by
    induction l with
    | nil => rfl
    | cons c l ih =>
      rw [List.map_cons, List.find?_cons, List.find?_cons, ih]
      by_cases e : c.id = j
      · have hn : c.id ≠ i := fun e' => h (e'.symm.trans e)
        simp [e, hid, Ne.symm h]
      · simp [e]
  exact congrArg (fun o : Option Ctx => o.getD (Ctx.blank i)) (hl s.ctxs)

/-- What a change of a context makes true of it, and what is true of a context that is not there. -/
theorem State.modCtx_makes {P : Ctx → Prop} {f : Ctx → Ctx} (hid : ∀ c, (f c).id = c.id) (s : State) (i : CtxId) (hb : P (Ctx.blank i))
    (hf : ∀ c, P (f c)) : P ((s.modCtx i f).ctxAt i) := by
  cases h : s.ctxAt? i with
  | some c => rw [State.modCtx_ctxAt hid s i (by rw [h]; rfl)]; exact hf _
  | none => rw [State.ctxAt, State.modCtx_ctxAt?_none hid h]; exact hb

/-- What a change of one context keeps of any. -/
theorem State.modCtx_keeps {P : Ctx → Prop} {f : Ctx → Ctx} (hid : ∀ c, (f c).id = c.id) (hf : ∀ c, P c → P (f c)) {s : State} {i : CtxId}
    (j : CtxId) (h : P (s.ctxAt i)) : P ((s.modCtx j f).ctxAt i) := by
  by_cases e : i = j
  · subst e
    cases hc : s.ctxAt? i with
    | some c => rw [State.modCtx_ctxAt hid s i (by rw [hc]; rfl)]; exact hf _ h
    | none =>
      rw [State.ctxAt, State.modCtx_ctxAt?_none hid hc]
      rwa [State.ctxAt, hc] at h
  · rw [State.modCtx_ctxAt_ne hid s e]; exact h

/-! ### Queues and courses -/

theorem Ctx.modQueue_queue (c : Ctx) (q : BitVec 4) (f : Queue → Queue) : (c.modQueue q f).queue? q = (c.queue? q).map f :=
  List.getElem?_modify_eq _ _ _

/-- No course of that serial is in the queue. -/
theorem Ctx.course?_none_iff (c : Ctx) (q : BitVec 4) (n : Nat) :
    c.course? q n = none ↔ ∀ u, c.queue? q = some u → ∀ y ∈ u.courses, y.serial ≠ n := by
  unfold Ctx.course?
  cases c.queue? q with
  | none => simp
  | some u => simp

theorem Ctx.course?_serial {c : Ctx} {q : BitVec 4} {n : Nat} {x : Course} (h : c.course? q n = some x) : x.serial = n := by
  unfold Ctx.course? at h
  cases hq : c.queue? q with
  | none => rw [hq] at h; cases h
  | some u => rw [hq] at h; simpa using List.find?_some h

/-- A change that leaves the courses of every queue brings back no course. -/
theorem Ctx.course?_none_modQueue {c : Ctx} {q : BitVec 4} {n : Nat} {f : Queue → Queue} (hf : ∀ u, (f u).courses = u.courses)
    (h : c.course? q n = none) : (c.modQueue q f).course? q n = none := by
  rw [Ctx.course?_none_iff] at h ⊢
  intro u hu
  rw [Ctx.modQueue_queue] at hu
  obtain ⟨v, hv, rfl⟩ := Option.map_eq_some_iff.mp hu
  rw [hf]
  exact h v hv

/-- What the way of a course out of its queue does to the context (R47, R48, R106). -/
def Ctx.dropCourse (q : BitVec 4) (x : Course) (l : List (TileKey × Nat)) (c : Ctx) : Ctx :=
  { c.modQueue q (fun u => { u with courses := u.courses.filter (fun y => y.serial ≠ x.serial), lastRet := some x.serial,
                                    hb := vcJoin u.hb x.out, tails := u.tails ++ l }) with
    groups := c.groups.map (fun g => g.removeCourse q), transit := c.transit.filter (fun u => !(u.q = q && u.course = x.serial)) }

theorem State.leaveQueue_eq (s : State) (i : CtxId) (q : BitVec 4) (x : Course) : ∃ l,
    s.leaveQueue i q x = (s.mapTiles (fun k t => if k.ctx = i then { t with locks := [] } else t)).modCtx i (Ctx.dropCourse q x l) := ⟨_, rfl⟩

/-- A course that leaves its queue is not in it (R47). -/
theorem State.leaveQueue_course (s : State) (i : CtxId) (q : BitVec 4) (x : Course) :
    ((s.leaveQueue i q x).ctxAt i).course? q x.serial = none := by
  obtain ⟨l, e⟩ := s.leaveQueue_eq i q x
  rw [e]
  refine State.modCtx_makes (P := fun c => c.course? q x.serial = none) (f := Ctx.dropCourse q x l) (fun _ => rfl) _ i rfl (fun c => ?_)
  rw [Ctx.course?_none_iff]
  intro u hu y hy
  change (c.modQueue q _).queue? q = some u at hu
  rw [Ctx.modQueue_queue] at hu
  obtain ⟨v, hv, rfl⟩ := Option.map_eq_some_iff.mp hu
  simpa using (List.mem_filter.mp hy).2

theorem State.leaveQueue_cur (s : State) (i : CtxId) (q : BitVec 4) (x : Course) : (s.leaveQueue i q x).cur = s.cur := rfl

theorem State.dropOrbits_cur (s : State) (i : CtxId) (q : BitVec 4) (n : Nat) : (s.dropOrbits i q n).cur = s.cur := rfl

/-- What follows the retirement of a course brings it back in no case (R389). -/
theorem State.signalStok_course {s : State} {i : CtxId} {q : BitVec 4} {n : Nat} (c : Ctx) (x : Course) (h : (s.ctxAt i).course? q n = none)  :
    ((s.signalStok c q x).ctxAt i).course? q n = none := by
  unfold State.signalStok
  split
  · exact h
  · split
    · rw [State.faultMessage, State.ctxAt_congr (State.post_frame _ _ _ _).2.1]
      exact State.modCtx_keeps (P := fun c => c.course? q n = none)
        (f := fun c => c.modQueue q (fun u => { u with halted := true })) (fun _ => rfl) (fun c hc => Ctx.course?_none_modQueue (fun _ => rfl) hc) _ h
    · rw [State.ctxAt_congr (State.post_frame _ _ _ _).2.1]
      exact State.modCtx_keeps (P := fun c => c.course? q n = none) (f := fun c => c.raise x.cr.stok x.out) (fun _ => rfl) (fun c hc => hc) _ h

/-! ### The tile of the step -/

theorem State.spreadLate_cur (s : State) (fs : List Fence) (v : VClock) : (s.spreadLate fs v).cur = s.cur := by
  unfold State.spreadLate; split <;> rfl

theorem State.lateEdge_cur (s : State) (k : TileKey) (path id : Nat) (v : VClock) : (s.lateEdge k path id v).cur = s.cur := by
  unfold State.lateEdge
  split
  · rfl
  · exact State.spreadLate_cur _ _ _

theorem State.noteTags_cur (s : State) (k : TileKey) (id : Nat) (tags : List RelTag) : (s.noteTags k id tags).cur = s.cur := by
  unfold State.noteTags State.seeTags
  split
  · rfl
  · exact (Machine.foldl_keeps State.cur (fun u f => u.spreadLate_cur _ _) _ _).trans (State.lateEdge_cur _ _ _ _ _)

theorem State.performAtom_cur (s : State) (k : TileKey) (a : AtomReq) : (s.performAtom k a).cur = s.cur := by
  unfold State.performAtom
  split
  · exact (State.takeTrapAt_mem_cur _ _ _).2
  · refine (State.fillAt_ctxs _ _ _ _ _).2.trans ?_
    exact (State.noteWrite_cur _ _ _ _ _ _ _ _).trans ((State.writeBytesAt_cur _ _ _ _).trans (State.noteTags_cur _ _ _ _))

theorem State.flushLs_cur (s : State) (k : TileKey) : (s.flushLs k).cur = s.cur := by
  unfold State.flushLs
  refine (Machine.foldl_keeps State.cur (fun u o => ?_) _ _).trans rfl
  cases o with
  | store g => exact State.performStore_cur _ _ _
  | atom a => exact State.performAtom_cur _ _ _

theorem State.flushCtx_cur (s : State) (id : CtxId) : (s.flushCtx id).cur = s.cur :=
  Machine.foldl_keeps State.cur (fun u k => u.flushLs_cur k) _ _

theorem State.abandonAt_cur (s : State) (k : TileKey) : (s.abandonAt k).cur = s.cur := (s.closeTask_mem k).2

theorem State.endCourse_cur (s : State) (c : CtxId) (q : BitVec 4) (n : Nat) (info : List Word) : (s.endCourse c q n info).cur = s.cur := by
  unfold State.endCourse
  split
  · rfl
  · rw [State.faultMessage, (State.post_frame _ _ _ _).2.2]
    rw [State.modCtx_cur, State.leaveQueue_cur, State.dropOrbits_cur]
    exact Machine.foldl_keeps (f := State.abandonAt) State.cur (fun u k => u.abandonAt_cur k) _ s

theorem State.untag_cur (s : State) (k : TileKey) (p : Place) (n : Nat) : (s.untag k p n).cur = s.cur := by
  unfold State.untag
  split <;> split <;> rfl

theorem State.closeAdds_cur (s : State) (id : CtxId) (q : BitVec 4) (n : Nat) : (s.closeAdds id q n).cur = s.cur := by
  have harr (u : State) (x : OsUpd) : (u.updateArrives id x).cur = u.cur := by
    unfold State.updateArrives
    dsimp only
    split
    · split
      · exact (State.endCourse_cur _ _ _ _ _).trans rfl
      · rfl
    · split
      · exact (State.endCourse_cur _ _ _ _ _).trans rfl
      · rfl
  have happly (u : State) (x : OsUpd) : (u.applyUpd x).cur = u.cur := by
    unfold State.applyUpd
    split
    · rfl
    · exact State.untag_cur _ _ _ _
  have hall : (s.allArrive id q n).cur = s.cur := Machine.foldl_keeps State.cur harr _ s
  unfold State.closeAdds
  dsimp only
  split
  · exact hall
  · exact (Machine.foldl_keeps State.cur happly _ _).trans hall

theorem State.signalStok_cur (s : State) (c : Ctx) (q : BitVec 4) (x : Course) : (s.signalStok c q x).cur = s.cur := by
  unfold State.signalStok
  split
  · rfl
  · split
    · exact (State.post_frame _ _ _ _).2.2
    · exact (State.post_frame _ _ _ _).2.2

end Sys2Proof.Machine
end

section
/-! PROOF. Courses (O47): the gate that a walker starts, and the steps of the lodge on a course. -/

namespace Sys2Proof.Machine

/-! ### A gate's task on a tile (R41, R43) -/

theorem Tile.reachKernel_eq (t : Tile) : ∃ f : Seq → Seq, t.reachKernel = t.mapSeq f := by
  have hid : t = t.mapSeq id := rfl
  unfold Tile.reachKernel
  split
  · exact ⟨id, hid⟩
  · split
    · exact ⟨id, hid⟩
    · exact ⟨_, rfl⟩

/-- The start of a gate's task leaves the scratchpad, and writes the registers of the walker (R41). -/
theorem Tile.startGate_frame (t : Tile) (k : TileKey) (task : Task) (hb : VClock) (pre : List (BitVec 6 × Word)) :
    (t.startGate k task hb pre).scratch = t.scratch ∧ (t.startGate k task hb pre).task = some task ∧
    (t.startGate k task hb pre).core.m = (t.core.preload pre).m := by
  obtain ⟨v, e⟩ := (t.joinAll hb).bumpAll_eq k
  unfold Tile.startGate
  dsimp only
  rw [e]
  obtain ⟨f, ef⟩ := ((({ t.joinAll hb with vcs := v } : Tile).startTask task (task.code + BitVec.ofNat 56 (64 * task.pro)) pre).mapSeq
    (fun q => { q with skew := task.dist })).reachKernel_eq
  rw [ef]
  exact ⟨rfl, rfl, Tile.startTask_m { t.joinAll hb with vcs := v } task (task.code + BitVec.ofNat 56 (64 * task.pro)) pre⟩

/-! ### The first dispatch of a context to a tile (R66) -/

theorem State.firstDispatch_other (s : State) {j k : TileKey} (h : j ≠ k) : (s.firstDispatch k).tileAt j = s.tileAt j := by
  unfold State.firstDispatch
  split
  · rfl
  · exact State.setTileAt_tileAt_ne _ _ h

theorem State.firstDispatch_again {s : State} {k : TileKey} (h : (s.tileAt k).dispatched = true) : s.firstDispatch k = s := by
  unfold State.firstDispatch; rw [if_pos h]

theorem State.firstDispatch_new {s : State} {k : TileKey} (h : (s.tileAt k).dispatched = false) :
    ((s.firstDispatch k).tileAt k).dispatched = true ∧ ((s.firstDispatch k).tileAt k).scratch = [] := by
  unfold State.firstDispatch
  rw [if_neg (by simp [h])]
  dsimp only
  rw [State.setTileAt_tileAt]
  exact ⟨rfl, rfl⟩

theorem State.firstDispatch_frame (s : State) (k : TileKey) : (s.firstDispatch k).mem = s.mem ∧ (s.firstDispatch k).cur = s.cur := by
  unfold State.firstDispatch; split <;> exact ⟨rfl, rfl⟩

/-- The tiles that some dispatches leave as they are. -/
theorem State.foldl_firstDispatch_stays (l : List TileKey) {s : State} {k : TileKey} (h : (s.tileAt k).dispatched = true ∨ k ∉ l) :
    (l.foldl State.firstDispatch s).tileAt k = s.tileAt k := by
  induction l generalizing s with
  | nil => rfl
  | cons j l ih =>
    have hj : (s.firstDispatch j).tileAt k = s.tileAt k := by
      by_cases e : k = j
      · subst e
        rw [State.firstDispatch_again (h.resolve_right (fun hn => hn List.mem_cons_self))]
      · exact State.firstDispatch_other s e
    exact (ih (hj ▸ h.imp_right (fun hn hk => hn (List.mem_cons_of_mem _ hk)))).trans hj

/-- A tile that is dispatched to for the first time starts with a scratchpad of zeros (R66). -/
theorem State.foldl_firstDispatch_new {l : List TileKey} {s : State} {k : TileKey} (hk : k ∈ l) (h : (s.tileAt k).dispatched = false) :
    ((l.foldl State.firstDispatch s).tileAt k).scratch = [] := by
  induction l generalizing s with
  | nil => cases hk
  | cons j l ih =>
    by_cases e : k = j
    · subst e
      obtain ⟨hd, hs⟩ := State.firstDispatch_new h
      rw [List.foldl_cons, State.foldl_firstDispatch_stays l (.inl hd), hs]
    · exact ih ((List.mem_cons.mp hk).resolve_left e) (by rw [State.firstDispatch_other s e]; exact h)

/-! ### The gate on its unit (R40, R41) -/

/-- The tiles of a unit of the context of the step. -/
def unitKeys (id : CtxId) (die : DieId) (cr : CourseRec) (lead : BitVec 6) : List TileKey :=
  (unitTiles cr lead).map (fun tid => { ctx := id, die := die, tid := tid })

theorem mem_unitKeys {id : CtxId} {die : DieId} {cr : CourseRec} {lead tid : BitVec 6} (h : tid ∈ unitTiles cr lead) :
    ({ ctx := id, die := die, tid := tid } : TileKey) ∈ unitKeys id die cr lead := List.mem_map.mpr ⟨tid, h, rfl⟩

/-- One tile of a unit starts its task. -/
def State.startOn (q : BitVec 4) (x : Course) (g : Nat) (s : State) (y : TileKey × Nat) : State :=
  s.modTileAt y.1 (fun t => t.startGate y.1 (gateTask q x g y.2) x.hb (gatePreloads x.cr g))

theorem State.startGate_eq (s : State) (id : CtxId) (q : BitVec 4) (x : Course) (die : DieId) (lead : BitVec 6) (g : Nat) :
    s.startGate id q x die lead g = ((unitKeys id die x.cr lead).zip (List.range (unitKeys id die x.cr lead).length)).foldl (State.startOn q x g)
      ((unitKeys id die x.cr lead).foldl State.firstDispatch s) := rfl

/-- A tile runs a gate's task, with the registers that the walker writes (R41). -/
def Tile.RunsGate (q : BitVec 4) (x : Course) (g : Nat) (t : Tile) : Prop :=
  (∃ i, t.task = some (gateTask q x g i)) ∧ ∀ y ∈ gatePreloads x.cr g, t.core.m.get y.1.toFin = wideOfWord y.2

theorem gatePreloads_nodup (cr : CourseRec) (g : Nat) : ((gatePreloads cr g).map Prod.fst).Nodup :=
  show [(60 : BitVec 6), 61, 62, 63, 59, 58].Nodup by decide

theorem State.startOn_runs (q : BitVec 4) (x : Course) (g : Nat) (s : State) (y : TileKey × Nat) :
    ((s.startOn q x g y).tileAt y.1).RunsGate q x g := by
  unfold State.startOn
  rw [State.modTileAt_tileAt]
  obtain ⟨-, ht, hm⟩ := (s.tileAt y.1).startGate_frame y.1 (gateTask q x g y.2) x.hb (gatePreloads x.cr g)
  refine ⟨⟨y.2, ht⟩, ?_⟩
  rw [hm]
  exact TileCore.preload_get (gatePreloads_nodup _ _) _

theorem State.startOn_frame (q : BitVec 4) (x : Course) (g : Nat) (s : State) (y : TileKey × Nat) :
    (s.startOn q x g y).mem = s.mem ∧ ∀ k, ((s.startOn q x g y).tileAt k).scratch = (s.tileAt k).scratch :=
  ⟨rfl, fun k => State.modTileAt_keeps Tile.scratch (fun t => (t.startGate_frame y.1 (gateTask q x g y.2) x.hb (gatePreloads x.cr g)).1) s y.1 k⟩

/-- Every tile of the unit runs the gate. -/
theorem State.startGate_runs (s : State) (id : CtxId) (q : BitVec 4) (x : Course) (die : DieId) (lead : BitVec 6) (g : Nat) :
    ∀ k ∈ unitKeys id die x.cr lead, ((s.startGate id q x die lead g).tileAt k).RunsGate q x g := by
  intro k hk
  obtain ⟨n, hn, rfl⟩ := List.mem_iff_getElem.mp hk
  have hz : ((unitKeys id die x.cr lead)[n], n) ∈ (unitKeys id die x.cr lead).zip (List.range (unitKeys id die x.cr lead).length) := by
    refine List.mem_iff_getElem.mpr ⟨n, by simpa using hn, by simp⟩
  rw [State.startGate_eq]
  refine foldl_makes (f := State.startOn q x g) (P := fun y u => (u.tileAt y.1).RunsGate q x g) (fun u y => u.startOn_runs q x g y)
    (fun u a b h => ?_) _ _ _ hz
  by_cases e : a.1 = b.1
  · rw [e]; exact u.startOn_runs q x g b
  · unfold State.startOn
    rw [State.modTileAt_tileAt_ne _ _ e]
    exact h

/-- Beside the scratchpads of the tiles that it dispatches to first, a gate's start writes no memory. -/
theorem State.startGate_frame (s : State) (id : CtxId) (q : BitVec 4) (x : Course) (die : DieId) (lead : BitVec 6) (g : Nat) :
    (s.startGate id q x die lead g).mem = s.mem ∧ ∀ k, ((s.startGate id q x die lead g).tileAt k).scratch =
      (((unitKeys id die x.cr lead).foldl State.firstDispatch s).tileAt k).scratch := by
  rw [State.startGate_eq]
  refine ⟨?_, fun k => ?_⟩
  · exact (Machine.foldl_keeps State.mem (fun u y => (u.startOn_frame q x g y).1) _ _).trans
      (Machine.foldl_keeps State.mem (fun u k => (u.firstDispatch_frame k).1) _ _)
  · exact State.foldl_keeps Tile.scratch (fun u y j => (u.startOn_frame q x g y).2 j) _ _ k

end Sys2Proof.Machine

namespace Sys2Proof.Claims

open Sys2Proof.Machine

/-! ### The dispatch of a gate -/

theorem gateDispatch_starts {s : State} {q : BitVec 4} {cls : Nat} {x : Course} {y : Share} {lead : BitVec 6} {g : Nat}
    (hh : (s.dieAt s.cur.die).hot = false) (hc : (s.dieAt s.cur.die).cs = true) (hn : s.nextOffer s.ctx s.cur.die = some (q, cls, x))
    (ho : s.offer s.ctx x s.cur.die = some (y, lead, g)) :
    exec .gateDispatch s = .next ((s.startGate s.cur.ctx q x s.cur.die lead g).modCtx s.cur.ctx (fun c => c.noteGate q cls x y lead)) := by
  change execGateDispatch s = _
  unfold execGateDispatch
  simp only [hh, hc, hn, ho]
  rfl

theorem gateDispatch : GateDispatch := by
  refine ⟨fun s q cls x y lead g hh hc hn ho => ?_, fun s h => if_pos (by rcases h with h | h <;> simp [h])⟩
  obtain ⟨hmem, hscr⟩ := s.startGate_frame s.cur.ctx q x s.cur.die lead g
  have hbyte (k : TileKey) (off : Nat) : ((s.startGate s.cur.ctx q x s.cur.die lead g).tileAt k).byte off =
      (((unitKeys s.cur.ctx s.cur.die x.cr lead).foldl State.firstDispatch s).tileAt k).byte off := by
    rw [Tile.byte, hscr]; rfl
  refine ⟨_, gateDispatch_starts hh hc hn ho, fun pa => congrArg (fun m => cellsGet m pa) hmem, fun k off h => ?_, fun tid ht hd off => ?_,
    fun tid ht => ?_⟩
  · refine (hbyte k off).trans ?_
    rw [State.foldl_firstDispatch_stays _ (h.imp_right fun hk hm => ?_)]
    obtain ⟨tid, ht, e⟩ := List.mem_map.mp hm
    exact hk tid ht e.symm
  · refine (hbyte _ off).trans ?_
    rw [Tile.byte, State.foldl_firstDispatch_new (mem_unitKeys ht) hd]
    rfl
  · obtain ⟨⟨i, htask⟩, hm⟩ := s.startGate_runs s.cur.ctx q x s.cur.die lead g _ (mem_unitKeys ht)
    rw [gatePreloads, List.forall_mem_cons, List.forall_mem_cons, List.forall_mem_cons, List.forall_mem_cons, List.forall_mem_cons,
      List.forall_mem_singleton] at hm
    obtain ⟨h60, h61, h62, h63, h59, h58⟩ := hm
    exact ⟨⟨_, htask, rfl, rfl, rfl, rfl⟩, h60, h61, h62, h63, h59, h58⟩

end Sys2Proof.Claims
end

section
/-! PROOF. Courses (O47): the steps of the lodge. -/

namespace Sys2Proof.Machine

/-! ### A part of a context behind a change (R33) -/

/-- A part of a context behind its change; a context that is not there has that part of the blank one. -/
theorem State.modCtx_part {β : Type} (π : Ctx → β) {g : β → β} {f : Ctx → Ctx} (hid : ∀ c, (f c).id = c.id) (hf : ∀ c, π (f c) = g (π c))
    (s : State) (i : CtxId) (hb : g (π (Ctx.blank i)) = π (Ctx.blank i)) : π ((s.modCtx i f).ctxAt i) = g (π (s.ctxAt i)) := by
  cases h : s.ctxAt? i with
  | some c => rw [State.modCtx_ctxAt hid s i (by rw [h]; rfl), hf]
  | none => rw [State.ctxAt, State.modCtx_ctxAt?_none hid h, State.ctxAt, h]; exact hb.symm

/-- A part of every context that a change of all of them leaves. -/
theorem State.mapCtxs_part {β : Type} (π : Ctx → β) {f : Ctx → Ctx} (hid : ∀ c, (f c).id = c.id) (hf : ∀ c, π (f c) = π c) (s : State)
    (i : CtxId) : π ((s.mapCtxs f).ctxAt i) = π (s.ctxAt i) := by
  have hp : (fun c : Ctx => decide (c.id = i)) ∘ f = fun c => decide (c.id = i) := by
    funext c; simp [hid]
  unfold State.ctxAt State.ctxAt? State.mapCtxs
  rw [List.find?_map, hp]
  cases s.ctxs.find? (fun c => decide (c.id = i)) with
  | none => rfl
  | some c => exact hf c

/-! ### What the lodge's search and its walks leave (R402) -/

/-- Only the log and the free values have changed. -/
def Logged (s t : State) : Prop := ∃ e f, t = { s with errLog := e, free := f }

theorem Logged.refl (s : State) : Logged s s := ⟨s.errLog, s.free, rfl⟩

theorem Logged.trans {a b c : State} (h : Logged a b) (g : Logged b c) : Logged a c := by
  obtain ⟨e, f, rfl⟩ := h
  obtain ⟨e', f', rfl⟩ := g
  exact ⟨e', f', rfl⟩

theorem logged_spend (s : State) : Logged s s.spend := ⟨s.errLog, _, rfl⟩

theorem logged_noteWalk (s : State) (asid : BitVec 16) (va : BitVec 56) : Logged s (s.noteWalk asid va) := by
  unfold State.noteWalk
  split
  · exact ⟨_, s.free, rfl⟩
  · exact Logged.refl s

theorem logged_noteSpans (asid : BitVec 16) (n k : Nat) (s : State) (va : Nat) : Logged s (s.noteSpans asid n va k) := by
  have h1 (u : State) (va : Nat) : Logged u (u.noteSpan asid va n) := by
    unfold State.noteSpan
    split
    · exact logged_noteWalk _ _ _
    · exact Logged.refl u
  induction k generalizing s va with
  | zero => exact Logged.refl s
  | succ k ih =>
    unfold State.noteSpans
    split
    · exact Logged.refl s
    · exact (h1 s va).trans (ih _ _)

theorem logged_takeSpan (s : State) (asid : BitVec 16) (n : Nat) : Logged s (s.takeSpan asid n).2 :=
  (logged_noteSpans asid n 4096 s _).trans (logged_spend _)

/-- The next retranslation begins beside the tiles, the memory and the contexts (R331). -/
theorem State.startJob_frame (s : State) : s.startJob.tiles = s.tiles ∧ s.startJob.mem = s.mem ∧ s.startJob.ctxs = s.ctxs ∧ s.startJob.cur = s.cur := by
  unfold State.startJob
  dsimp only
  split
  · exact ⟨rfl, rfl, rfl, rfl⟩
  · split <;> exact ⟨rfl, rfl, rfl, rfl⟩

/-! ### Pages that the lodge maps are no tile's (R400-R408) -/

theorem State.makeTables_tiles (va : BitVec 56) (n : Nat) (s : State) (table : Nat) : (s.makeTables va n table).tiles = s.tiles := by
  induction n using Nat.strong_induction_on generalizing s table with
  | _ n ih =>
    match n with
    | 0 => rfl
    | 1 => rfl
    | n + 2 =>
      unfold State.makeTables
      dsimp only
      split
      · exact ih (n + 1) (by omega) s _
      · obtain ⟨x, e⟩ : ∃ x, s.takeTable = (x, { s with free := s.spend.free + 1 }) := ⟨_, rfl⟩
        rw [e]
        cases x with
        | none => rfl
        | some f => exact (ih (n + 1) (by omega) _ _).trans rfl

theorem State.mapPage_tiles (s : State) (a : AddrSpace) (va : BitVec 56) (rights : Nat) : (s.mapPage a va rights).tiles = s.tiles := by
  have hf (u : State) (f : Nat) : (u.mapFrame a va rights f).tiles = u.tiles := by
    unfold State.mapFrame
    dsimp only
    split
    · exact (State.touchSpace_frame _ _ _).2.1.trans (State.makeTables_tiles _ _ _ _)
    · exact State.makeTables_tiles _ _ _ _
  unfold State.mapPage
  dsimp only
  split
  · rfl
  · split
    · next e => exact (congrArg (fun p : Option Nat × State => p.2.tiles) e).symm
    · next e => exact (hf _ _).trans (congrArg (fun p : Option Nat × State => p.2.tiles) e).symm

theorem State.placeBytes_tiles (s : State) (id : CtxId) (asid : BitVec 16) (va rights : Nat) (bs : List Byte) :
    (s.placeBytes id asid va rights bs).tiles = s.tiles := by
  unfold State.placeBytes
  split
  · rfl
  · refine Machine.foldl_keeps State.tiles (fun u i => ?_) _ s
    dsimp only
    split
    · unfold State.touchMem
      split <;> exact State.mapPage_tiles _ _ _ _
    · exact State.mapPage_tiles _ _ _ _

/-! ### A template that is freed (R331, R407) -/

/-- The tiles, the tile of the step, and the images that contexts know, are as they were. -/
structure SameImages (s t : State) : Prop where
  tiles : t.tiles = s.tiles
  cur : t.cur = s.cur
  imgs : ∀ i, (t.ctxAt i).imgs = (s.ctxAt i).imgs

theorem SameImages.refl (s : State) : SameImages s s := ⟨rfl, rfl, fun _ => rfl⟩

theorem SameImages.trans {a b c : State} (h : SameImages a b) (g : SameImages b c) : SameImages a c :=
  ⟨g.tiles.trans h.tiles, g.cur.trans h.cur, fun i => (g.imgs i).trans (h.imgs i)⟩

theorem SameImages.foldl {α : Type} {f : State → α → State} (h : ∀ u a, SameImages u (f u a)) (l : List α) (s : State) :
    SameImages s (l.foldl f s) := by
  induction l generalizing s with
  | nil => exact SameImages.refl s
  | cons a l ih => exact (h s a).trans (ih _)

theorem sameImages_logged {s t : State} (h : Logged s t) : SameImages s t := by
  obtain ⟨e, f, rfl⟩ := h
  exact ⟨rfl, rfl, fun _ => rfl⟩

theorem sameImages_touchSpace (s : State) (asid : BitVec 16) (pa : Nat) : SameImages s (s.touchSpace asid pa) := by
  unfold State.touchSpace
  split
  · exact SameImages.refl s
  · refine ⟨rfl, rfl, State.mapCtxs_part Ctx.imgs (fun c => ?_) (fun c => ?_) s⟩ <;> split <;> rfl

theorem sameImages_changeEntry (s : State) (r : PageReq) (pa e : Nat) : SameImages s (s.changeEntry r pa e) := by
  have hw : SameImages s (s.writeEntry pa (fun _ => e)) := ⟨rfl, rfl, fun _ => rfl⟩
  have ht := SameImages.foldl (f := fun u (l : Leaf) => u.touchSpace l.asid l.frame) (fun u l => sameImages_touchSpace u l.asid l.frame)
    ((s.writeEntry pa (fun _ => e)).allLeaves.filter (fun l => l ∉ s.allLeaves)) (s.writeEntry pa (fun _ => e))
  have hr (u : State) (l : List PageReq) : SameImages u { u with pageReqs := l } := ⟨rfl, rfl, fun _ => rfl⟩
  have hd := SameImages.foldl (f := fun u (l : Leaf) => u.tlbDrop { asid := l.asid, va := l.va }) (fun u l => ⟨rfl, rfl, fun _ => rfl⟩)
  exact hw.trans (ht.trans ((hr _ _).trans (hd _ _)))

theorem sameImages_submitChange (s : State) (r : PageReq) (pa e : Nat) : SameImages s (s.submitChange r pa e) := by
  have hr : SameImages s { s with pageReqs := s.pageReqs ++ [r] } := ⟨rfl, rfl, fun _ => rfl⟩
  unfold State.submitChange
  dsimp only
  split
  · exact hr.trans (sameImages_changeEntry _ _ _ _)
  · exact hr

/-- The pages of a template lose their leaves beside the tiles and the images that a context knows. -/
theorem sameImages_unmap (s : State) (asid : BitVec 16) (va n : Nat) : SameImages s (s.unmap asid va n) := by
  unfold State.unmap
  refine SameImages.foldl (fun u i => ?_) _ s
  dsimp only
  split
  · exact sameImages_logged (logged_noteWalk _ _ _)
  · exact sameImages_submitChange _ _ _ _

/-! ### The end of a course (R47, R364, R391) -/

theorem Tile.ended_of_task {t : Tile} (h : t.Ended) : t.task = none ∧ t.frozen = false := ⟨h.1, h.2.1⟩

/-- Each of some abandoned tiles has ended. -/
theorem State.foldl_abandonAt_ended (l : List TileKey) (s : State) : ∀ k ∈ l, ((l.foldl State.abandonAt s).tileAt k).Ended :=
  foldl_makes (P := fun k (u : State) => (u.tileAt k).Ended)
    (fun u k => by rw [State.abandonAt_self]; exact Tile.abandon_ended _) (fun u j k h => u.abandonAt_keeps_ended j k h) l s

/-- A tile that runs a task is one of the tiles of its course. -/
theorem State.mem_courseTiles {s : State} {k : TileKey} {x : Task} (h : (s.tileAt k).task = some x) :
    k ∈ s.courseTiles k.ctx x.q x.course := by
  cases e : assocGet s.tiles k with
  | none => rw [State.tileAt, e] at h; cases h
  | some t =>
    have ht : s.tileAt k = t := by rw [State.tileAt, e]; rfl
    refine List.mem_map.mpr ⟨(k, t), List.mem_filter.mpr ⟨assocGet_mem e, ?_⟩, rfl⟩
    rw [ht] at h
    simp [Tile.ofCourse, h]

/-- A queue that is halted (R391). -/
def haltQueue (u : Queue) : Queue := { u with halted := true }

/-- A course whose tasks are abandoned and whose orbits are gone (R176, R370). -/
def State.cleared (s : State) (c : CtxId) (q : BitVec 4) (n : Nat) : State := ((s.courseTiles c q n).foldl State.abandonAt s).dropOrbits c q n

/-- A course that has left its queue, which is halted (R391). -/
def State.stopped (s : State) (c : CtxId) (q : BitVec 4) (y : Course) : State :=
  (s.leaveQueue c q y).modCtx c (fun z => z.modQueue q haltQueue)

theorem State.endCourse_eq {s : State} {c : CtxId} {q : BitVec 4} {n : Nat} {x : Course} (h : (s.ctxAt c).course? q n = some x) (info : List Word) :
    ∃ (y : Course) (d : Ctx), y.serial = n ∧ s.endCourse c q n info = ((s.cleared c q n).stopped c q y).faultMessage d q n info := by
  obtain ⟨y, hy⟩ : ∃ y, y = (((s.cleared c q n).ctxAt c).course? q n).getD x := ⟨_, rfl⟩
  refine ⟨y, ((s.cleared c q n).stopped c q y).ctxAt c, ?_, ?_⟩
  · rw [hy]
    cases e : ((s.cleared c q n).ctxAt c).course? q n with
    | none => exact Ctx.course?_serial h
    | some y => exact Ctx.course?_serial e
  · unfold State.endCourse
    rw [h, hy]
    rfl

theorem State.stopped_keeps {β : Type} (g : Tile → β) (h : ∀ (t : Tile) l, g { t with locks := l } = g t) (s : State) (c : CtxId) (q : BitVec 4)
    (y : Course) (k : TileKey) : g (((s.stopped c q y)).tileAt k) = g (s.tileAt k) := by
  refine State.mapTiles_keeps g (f := fun k t => if k.ctx = c then { t with locks := [] } else t) (fun k t => ?_) s k
  split
  · exact h t []
  · rfl

theorem State.dropOrbits_keeps {β : Type} (g : Tile → β) (h : ∀ (t : Tile), g t.detach = g t) (s : State) (c : CtxId) (q : BitVec 4)
    (n : Nat) (k : TileKey) : g ((s.dropOrbits c q n).tileAt k) = g (s.tileAt k) := by
  refine State.mapTiles_keeps g (f := fun k t => if k.ctx = c && ((s.ctxAt c).orbits.filter (fun o => o.q = q && o.course = n)).any
    (fun o => o.cl = keyCluster k) then t.detach else t) (fun k t => ?_) s k
  split
  · exact h t
  · rfl

/-- A course that the lodge ends is in its queue no more, its queue is halted, and its tiles run no task (R364, R391). -/
theorem State.endCourse_ends {s : State} {c : CtxId} {q : BitVec 4} {n : Nat} {x : Course} (h : (s.ctxAt c).course? q n = some x) (info : List Word) :
    ((s.endCourse c q n info).ctxAt c).course? q n = none ∧ (∀ u, ((s.endCourse c q n info).ctxAt c).queue? q = some u → u.halted = true) ∧
    ∀ k ∈ s.courseTiles c q n, ((s.endCourse c q n info).tileAt k).Ended := by
  obtain ⟨y, d, hy, e⟩ := State.endCourse_eq h info
  obtain ⟨ht, hc, -⟩ := ((s.cleared c q n).stopped c q y).post_frame d.part 0 ([header 0x42 d.id 0, courseWord q n] ++ info)
  rw [e, State.faultMessage, State.ctxAt_congr hc]
  refine ⟨?_, ?_, fun k hk => ?_⟩
  · exact State.modCtx_keeps (P := fun z => z.course? q n = none) (f := fun z => z.modQueue q haltQueue) (fun _ => rfl)
      (fun z hz => Ctx.course?_none_modQueue (fun _ => rfl) hz) c (hy ▸ (s.cleared c q n).leaveQueue_course c q y)
  · refine State.modCtx_makes (P := fun z => ∀ u, z.queue? q = some u → u.halted = true) (f := fun z => z.modQueue q haltQueue) (fun _ => rfl) _ c
      (fun u hu => by cases hu) (fun z u hu => ?_)
    rw [Ctx.modQueue_queue] at hu
    obtain ⟨v, -, rfl⟩ := Option.map_eq_some_iff.mp hu
    rfl
  · rw [State.tileAt_congr ht, State.stopped_keeps Tile.Ended (fun _ _ => rfl)]
    exact (State.dropOrbits_keeps Tile.Ended (fun _ => rfl) _ c q n k).mpr (State.foldl_abandonAt_ended _ s k hk)

end Sys2Proof.Machine

namespace Sys2Proof.Claims

open Sys2Proof.Machine

/-! ### The seven steps -/

theorem courseDies_startCourse (c : Ctx) (q : BitVec 4) (u : Queue) (x : Course) (cr : CourseRec) :
    courseDies (c.startCourse q u x) cr = courseDies c cr := by
  unfold Ctx.startCourse
  dsimp only
  split <;> rfl

theorem startCourse_id (c : Ctx) (q : BitVec 4) (u : Queue) (x : Course) : (c.startCourse q u x).id = c.id := by
  unfold Ctx.startCourse
  dsimp only
  split <;> rfl

theorem lostSide_none {s : State} {ds : List DieId} (h : ∀ d ∈ ds, (s.dieAt d).cs = true ∧ (s.dieAt d).ms = true) : s.lostSide ds = none := by
  have hc : ds.any (fun d => !(s.dieAt d).cs) = false := by
    rw [List.any_eq_false]; intro d hd; simp [(h d hd).1]
  have hm : ds.any (fun d => !(s.dieAt d).ms) = false := by
    rw [List.any_eq_false]; intro d hd; simp [(h d hd).2]
  simp [State.lostSide, hc, hm]

/-- The state of a course that has started (R387). -/
def begun (s : State) (q : BitVec 4) (u : Queue) (x : Course) : State :=
  (s.noteCtx s.cur.ctx).modCtx s.cur.ctx (fun c => c.startCourse q u x)

theorem courseStart_starts {s : State} {q : BitVec 4} {u : Queue} {x : Course} (hn : s.ctx.nextStart = some q) (hq : s.ctx.queue? q = some u)
    (hx : s.ctx.headReady u = some x) (hd : ∀ d ∈ courseDies s.ctx x.cr, (s.dieAt d).cs = true ∧ (s.dieAt d).ms = true) (hg : x.gates ≠ 0) :
    exec .courseStart s = .next ((begun s q u x).noteCtx s.cur.ctx) := by
  obtain ⟨ht, hm, hc, hk⟩ := s.noteCtx_frame s.cur.ctx
  have hdies : courseDies (begun s q u x).ctx x.cr = courseDies s.ctx x.cr := by
    have h := State.modCtx_part (fun c => courseDies c x.cr) (g := id) (f := fun c => c.startCourse q u x) (fun c => startCourse_id c q u x)
      (fun c => courseDies_startCourse c q u x x.cr) (s.noteCtx s.cur.ctx) s.cur.ctx rfl
    rw [State.ctxAt_congr hc] at h
    rw [State.ctx, begun, State.modCtx_cur, hk]
    exact h
  have hside : (begun s q u x).lostSide (courseDies (begun s q u x).ctx x.cr) = none := by
    rw [hdies]
    refine lostSide_none fun d hmem => ?_
    have hs : State.sides d (s.noteCtx s.cur.ctx) = State.sides d s := OffClusters.noteCtx (offClusters_sides d) s s.cur.ctx
    obtain ⟨h1, h2⟩ := Prod.ext_iff.mp hs
    exact ⟨h1.trans (hd d hmem).1, h2.trans (hd d hmem).2⟩
  have hcur : (begun s q u x).cur = s.cur := hk
  change execCourseStart s = _
  unfold execCourseStart
  simp only [hn, hq, hx]
  rw [show (s.noteCtx s.cur.ctx).modCtx s.cur.ctx (fun c => c.startCourse q u x) = begun s q u x from rfl, hside, if_neg hg, hcur]

end Sys2Proof.Claims
end

section
/-! PROOF. Courses (O47): each of the lodge's steps, by what it leaves. -/

namespace Sys2Proof.Claims

open Sys2Proof.Machine

/-- Runnable contexts noted around a change of a context leave what it changes. -/
theorem noted_modCtx_frame (s : State) (f : Ctx → Ctx) :
    let t := ((s.noteCtx s.cur.ctx).modCtx s.cur.ctx f).noteCtx s.cur.ctx
    t.ctxs = (s.modCtx s.cur.ctx f).ctxs ∧ t.tiles = s.tiles ∧ t.mem = s.mem := by
  obtain ⟨t1, m1, c1, -⟩ := s.noteCtx_frame s.cur.ctx
  obtain ⟨t2, m2, c2, -⟩ := ((s.noteCtx s.cur.ctx).modCtx s.cur.ctx f).noteCtx_frame s.cur.ctx
  refine ⟨c2.trans ?_, t2.trans t1, m2.trans m1⟩
  simp only [State.modCtx, c1]

/-- The course that a generation's end lets grow (R42). -/
def growing (s : State) : Option (BitVec 4 × Course) :=
  (s.ctx.queues.zip (List.range s.ctx.queues.length)).findSome? (fun u =>
    (u.1.courses.find? (fun x => s.extends s.ctx (BitVec.ofNat 4 u.2) x)).map (fun x => (BitVec.ofNat 4 u.2, x)))

/-- A course behind the growth of its generation (R42). -/
def grownBy (c : Ctx) (z : Course) : Course := { (z.give c z.gates z.growth) with gates := z.gates + z.growth, growth := 0 }

theorem growExtension_grows {s : State} {q : BitVec 4} {x : Course} (h : growing s = some (q, x)) : exec .growExtension s =
    .next (((s.noteCtx s.cur.ctx).modCtx s.cur.ctx (fun c => c.modCourse q x.serial (grownBy c))).noteCtx s.cur.ctx) := by
  change execGrowExtension s = _
  unfold growing at h
  unfold execGrowExtension
  dsimp only
  rw [h]
  rfl

/-- A course that retires has left its queue (R47). -/
theorem retire_course (s : State) (q : BitVec 4) (n : Nat) : (s.retire s.cur.ctx q n).ctx.course? q n = none := by
  have hcur : ((s.flushCtx s.cur.ctx).closeAdds s.cur.ctx q n).cur = s.cur := (State.closeAdds_cur _ _ _ _).trans (s.flushCtx_cur _)
  unfold State.retire
  dsimp only
  generalize (s.flushCtx s.cur.ctx).closeAdds s.cur.ctx q n = u at *
  split
  · next h => rw [State.ctx, hcur]; exact h
  · next x h =>
    obtain ⟨-, -, hc, hk⟩ := ((u.leaveQueue s.cur.ctx q x).signalStok ((u.leaveQueue s.cur.ctx q x).ctxAt s.cur.ctx) q x).noteCtx_frame s.cur.ctx
    rw [State.ctx, State.ctxAt_congr hc, hk, State.signalStok_cur, State.leaveQueue_cur, hcur]
    exact State.signalStok_course _ _ (Ctx.course?_serial h ▸ u.leaveQueue_course s.cur.ctx q x)

theorem courseRetire_retires {s : State} {q : BitVec 4} {n : Nat} (h : s.retiring s.ctx = some (q, n)) :
    exec .courseRetire s = .next (s.retire s.cur.ctx q n) := by
  change execCourseRetire s = _
  unfold execCourseRetire
  rw [h]

theorem courseEndByFault_ends {s : State} {k : Task} (hf : s.tile.frozen = true) (ht : s.tile.tv = true) (hk : s.tile.task = some k) :
    exec .courseEndByFault s = .next (s.endCourse s.cur.ctx k.q k.course s.tile.report) := by
  change execCourseEndByFault s = _
  unfold execCourseEndByFault
  simp [hf, ht, hk]

/-- A course that starves on a die is offered units there as one of class 7 (R390). -/
def promoteCourse (d : DieId) (x : Course) : Course :=
  if x.starves d then { x with grants := x.grants.map (fun g => if g.1 = d then (g.1, g.2.1, true) else g) } else x

/-- Every course of a queue that starves there. -/
def promoteQueue (d : DieId) (u : Queue) : Queue := { u with courses := u.courses.map (promoteCourse d) }

theorem starvationPromotion_promotes (s : State) : exec .starvationPromotion s =
    .next (s.modCtx s.cur.ctx (fun c => { c with queues := c.queues.map (promoteQueue s.cur.die) })) := rfl

theorem promoted_class {x : Course} {d : DieId} (h : x.starves d = true) :
    (promoteCourse d x).serial = x.serial ∧ (promoteCourse d x).cr = x.cr ∧ ∀ cls, (promoteCourse d x).classOn cls d = 7 := by
  unfold promoteCourse
  rw [if_pos h]
  refine ⟨rfl, rfl, fun cls => if_pos ?_⟩
  obtain ⟨g, hg, hs⟩ := List.any_eq_true.mp h
  have hd : g.1 = d := by
    rw [Bool.and_eq_true, Bool.and_eq_true] at hs
    simpa using hs.1.1
  refine List.any_eq_true.mpr ⟨_, List.mem_map.mpr ⟨g, hg, rfl⟩, ?_⟩
  simp [hd]

/-! ### Retranslations -/

theorem retranslationSwap_swaps {s : State} {j : RetransJob} (hj : s.job = some j) (hc : s.swapComing = false) :
    exec .retranslationSwap s = .next (s.endJob j) := by
  change execRetranslationSwap s = _
  unfold execRetranslationSwap
  simp [hj, hc]

theorem retranslationSwap_frees {s : State} {m : CtxImage} (h : s.job = none ∨ s.swapComing = true) (hm : s.ctx.oldImage = some m) :
    exec .retranslationSwap s = .next ((s.unmap s.ctx.asid m.base.toNat m.size).modCtx s.ctx.id
      (fun c => { c with imgs := c.imgs.map (fun x => if x = m then { x with freed := true } else x) })) := by
  have hj : (if s.swapComing then none else s.job) = none := by
    rcases h with h | h <;> simp [h]
  change execRetranslationSwap s = _
  unfold execRetranslationSwap
  rw [hj]
  dsimp only
  rw [hm]

/-- A context that runs a retranslation at an address from now on (R331). -/
def swapTo (j : RetransJob) (v : Nat) (c : Ctx) : Ctx :=
  { c with imgs := c.imgs.map (fun (x : CtxImage) => if x.base = j.base then { x with cur := some (BitVec.ofNat 56 v) } else x) }

/-- The place that the lodge finds for a retranslation, and the state behind its search. -/
def placing (s : State) (j : RetransJob) : Option Nat × State :=
  ({ s with job := none } : State).takeSpan (s.ctxAt j.ctx).asid (retranslated (s.ctxAt j.ctx).qmode j.code).length

theorem endJob_none {s : State} {j : RetransJob} (h : (placing s j).1 = none) : s.endJob j = (placing s j).2.startJob := by
  unfold State.endJob
  dsimp only
  rw [show ({ s with job := none } : State).takeSpan (s.ctxAt j.ctx).asid (retranslated (s.ctxAt j.ctx).qmode j.code).length = placing s j from rfl, h]

theorem endJob_some {s : State} {j : RetransJob} {v : Nat} (h : (placing s j).1 = some v) : s.endJob j =
    (((placing s j).2.placeBytes j.ctx (s.ctxAt j.ctx).asid v 5 (retranslated (s.ctxAt j.ctx).qmode j.code)).modCtx j.ctx
      (swapTo j v)).startJob := by
  unfold State.endJob
  dsimp only
  rw [show ({ s with job := none } : State).takeSpan (s.ctxAt j.ctx).asid (retranslated (s.ctxAt j.ctx).qmode j.code).length = placing s j from rfl, h]
  rfl

theorem placing_frame (s : State) (j : RetransJob) : (placing s j).2.tiles = s.tiles ∧ (placing s j).2.ctxs = s.ctxs ∧ (placing s j).2.mem = s.mem := by
  obtain ⟨e, f, h⟩ := logged_takeSpan { s with job := none } (s.ctxAt j.ctx).asid (retranslated (s.ctxAt j.ctx).qmode j.code).length
  rw [placing, h]
  exact ⟨rfl, rfl, rfl⟩

theorem swapTo_imgs {s : State} {j : RetransJob} {v : Nat} : ∀ c ∈ (s.modCtx j.ctx (swapTo j v)).ctxs, c.id = j.ctx →
    ∀ m ∈ c.imgs, m.base = j.base → m.cur = some (BitVec.ofNat 56 v) := by
  intro c hc hid m hm hb
  obtain ⟨d, -, rfl⟩ := List.mem_map.mp hc
  by_cases e : d.id = j.ctx
  · rw [if_pos e] at hm
    obtain ⟨x, -, rfl⟩ := List.mem_map.mp hm
    by_cases hx : x.base = j.base
    · rw [if_pos hx]
    · rw [if_neg hx] at hb
      exact absurd hb hx
  · rw [if_neg e] at hid
    exact absurd hid e

theorem retranslationSwap_frame (s : State) (j : RetransJob) :
    (s.endJob j).tiles = s.tiles ∧ ((placing s j).1 = none → (s.endJob j).ctxs = s.ctxs ∧ (s.endJob j).mem = s.mem) ∧
    ∀ v, (placing s j).1 = some v → ∀ c ∈ (s.endJob j).ctxs, c.id = j.ctx → ∀ m ∈ c.imgs, m.base = j.base → m.cur = some (BitVec.ofNat 56 v) := by
  obtain ⟨ht, hc, hm⟩ := placing_frame s j
  cases h : (placing s j).1 with
  | none =>
    obtain ⟨t1, m1, c1, -⟩ := (placing s j).2.startJob_frame
    rw [endJob_none h]
    exact ⟨t1.trans ht, fun _ => ⟨c1.trans hc, m1.trans hm⟩, fun v hv => by cases hv⟩
  | some v =>
    rw [endJob_some h]
    obtain ⟨t1, -, c1, -⟩ := (((placing s j).2.placeBytes j.ctx (s.ctxAt j.ctx).asid v 5 (retranslated (s.ctxAt j.ctx).qmode j.code)).modCtx j.ctx
      (swapTo j v)).startJob_frame
    refine ⟨t1.trans ((State.placeBytes_tiles _ _ _ _ _ _).trans ht), fun hn => (by cases hn), fun w hw => ?_⟩
    cases Option.some.inj hw
    rw [c1]
    exact swapTo_imgs

theorem courseSteps : CourseSteps := by
  refine ⟨fun s q u x hn hq hx hd hg => ?_, fun s q x h => ?_, fun s q n h => ⟨_, courseRetire_retires h, retire_course s q n⟩,
    fun s k x hf ht _ _ _ hk hx => ?_, fun s u x hu hx hs => ?_, fun s j hj hc => ⟨_, retranslationSwap_swaps hj hc, retranslationSwap_frame s j⟩,
    fun s m h hm => ?_⟩
  · exact ⟨_, courseStart_starts hn hq hx hd hg, noted_modCtx_frame s _⟩
  · obtain ⟨hc, ht, hm⟩ := noted_modCtx_frame s (fun c => c.modCourse q x.serial (grownBy c))
    exact ⟨_, growExtension_grows h, ht, hm, hc⟩
  · obtain ⟨hc, hq, he⟩ := State.endCourse_ends hx s.tile.report
    obtain ⟨htask, hfrozen⟩ := Tile.ended_of_task (he s.cur (State.mem_courseTiles hk))
    have hcur := s.endCourse_cur s.cur.ctx k.q k.course s.tile.report
    refine ⟨_, courseEndByFault_ends hf ht hk, ?_⟩
    generalize s.endCourse s.cur.ctx k.q k.course s.tile.report = t at hc hq htask hfrozen hcur ⊢
    rw [State.ctx, State.tile, hcur]
    exact ⟨hc, htask, hfrozen, hq⟩
  · have hqs : (s.modCtx s.cur.ctx (fun c => { c with queues := c.queues.map (promoteQueue s.cur.die) })).ctx.queues =
        s.ctx.queues.map (promoteQueue s.cur.die) :=
      State.modCtx_part Ctx.queues (f := fun c => { c with queues := c.queues.map (promoteQueue s.cur.die) }) (fun _ => rfl) (fun _ => rfl) s
        s.cur.ctx rfl
    refine ⟨_, starvationPromotion_promotes s, rfl, rfl, promoteQueue s.cur.die u, ?_, promoteCourse s.cur.die x,
      List.mem_map.mpr ⟨x, hx, rfl⟩, promoted_class hs⟩
    rw [hqs]
    exact List.mem_map.mpr ⟨u, hu, rfl⟩
  · obtain ⟨ht, hc, hi⟩ := sameImages_unmap s s.ctx.asid m.base.toNat m.size
    refine ⟨_, retranslationSwap_frees h hm, ht, ?_⟩
    rw [State.ctx, State.modCtx_cur, hc, show s.ctx.id = s.cur.ctx from s.ctxAt_id _]
    refine (State.modCtx_part Ctx.imgs (g := List.map (fun x => if x = m then { x with freed := true } else x))
      (f := fun c => { c with imgs := c.imgs.map (fun x => if x = m then { x with freed := true } else x) }) (fun _ => rfl) (fun _ => rfl) _
      s.cur.ctx rfl).trans ?_
    rw [hi]
    rfl

end Sys2Proof.Claims

open Sys2Proof Sys2Proof.Machine Sys2Proof.Claims

/-- Settles O47: the dispatch of a gate by its folds over the unit, each step of the lodge by the change that it makes. -/
theorem courses : Obligations.Courses := ⟨gateDispatch, courseSteps⟩

end

section
/-! PROOF. The lodge's messages (O46): how a message is taken, SIGNAL, QSTAT, QRESUME and CTXDESTROY. -/

namespace Sys2Proof.Machine

/-! ### A message is taken (R382, R384, R397) -/

/-- A message of its type that is in order is taken and answered (R382, R397). -/
theorem State.onLodge_taken {s : State} {m : Msg} {ty : Nat} (f : Msg → State → State) (hm : s.lodgeMsg = some m) (ht : m.ty = ty)
    (ho : s.lodgeOk m = true) : s.onLodge ty f = .next (f m (s.takeMsg m)) := by
  subst ht
  simp [State.onLodge, hm, ho]

/-- A message about a context that the partition does not have gets status 4 (R384, R397). -/
theorem State.onCtx_none {s : State} {m : Msg} {ty : Nat} (f : Msg → Ctx → State → State) (hm : s.lodgeMsg = some m) (ht : m.ty = ty)
    (ho : s.lodgeOk m = true) (hc : s.ctxOf m.part m.ctx = none) : s.onCtx ty f = .next ((s.takeMsg m).reply m 4 0 []) := by
  rw [State.onCtx, State.onLodge_taken _ hm ht ho, show (s.takeMsg m).ctxOf m.part m.ctx = none from hc]
  rfl

/-- A message about a context of its partition is answered for that context (R384, R397). -/
theorem State.onCtx_some {s : State} {m : Msg} {c : Ctx} {ty : Nat} (f : Msg → Ctx → State → State) (hm : s.lodgeMsg = some m)
    (ht : m.ty = ty) (ho : s.lodgeOk m = true) (hc : s.ctxOf m.part m.ctx = some c) :
    s.onCtx ty f = .next (f m c (s.takeMsg m)) := by
  rw [State.onCtx, State.onLodge_taken _ hm ht ho, show (s.takeMsg m).ctxOf m.part m.ctx = some c from hc]

theorem State.ctxOf_mem {s : State} {p : BitVec 4} {i : CtxId} {c : Ctx} (h : s.ctxOf p i = some c) : c ∈ s.ctxs ∧ s.ctxAt? c.id = some c := by
  unfold State.ctxOf at h
  cases hc : s.ctxAt? i with
  | none => rw [hc] at h; cases h
  | some d =>
    rw [hc] at h
    obtain ⟨-, rfl⟩ : d.part = p ∧ d = c := by simpa using h
    have hi : d.id = i := by simpa using List.find?_some hc
    exact ⟨List.mem_of_find?_eq_some hc, by rw [hi, hc]⟩

theorem State.ctxOf_ctxAt {s : State} {p : BitVec 4} {i : CtxId} {c : Ctx} (h : s.ctxOf p i = some c) : s.ctxAt c.id = c := by
  rw [State.ctxAt, (State.ctxOf_mem h).2]
  rfl

/-! ### Tokens (R389) -/

theorem Ctx.tokenCount_setToken (c : Ctx) (t n : BitVec 32) (hb : VClock) (hn : n ≠ 0) : (c.setToken t n hb).tokenCount t = n := by
  unfold Ctx.tokenCount Ctx.setToken
  rw [if_neg hn]
  simp

/-- A raised token counts one more, up to the largest count (R389). -/
theorem Ctx.tokenCount_raise (c : Ctx) (t : BitVec 32) (hb : VClock) : ((c.raise t hb).tokenCount t).toNat =
    if c.tokenCount t = 0xFFFFFFFF then 0xFFFFFFFF else (c.tokenCount t).toNat + 1 := by
  have hraise : (c.raise t hb).tokenCount t = if c.tokenCount t = 0xFFFFFFFF then 0xFFFFFFFF else c.tokenCount t + 1 := by
    unfold Ctx.raise
    rw [Ctx.tokenCount_setToken]
    · split <;> simp_all
    · split <;> bv_omega
  rw [hraise]
  split <;> bv_omega

/-! ### A context that is destroyed (R101, R370, R383) -/

/-- The tiles of a context emptied: what they have committed is performed, their tasks are abandoned. -/
def State.emptied (s : State) (id : CtxId) : State :=
  ((s.tiles.filter (fun x => x.1.ctx = id)).map (·.1)).foldl (fun s k => (s.flushLs k).abandonAt k) s

/-- The pairings of a context that still wait are answered. -/
def State.unlinked (s : State) (id : CtxId) : State :=
  (s.pairings.filter (fun p => p.ctx = id && !p.active)).foldl (fun s p => s.linkReply p 5) s

/-- Every trace of a context taken out of the lists that name it. -/
def State.erased (s : State) (id : CtxId) : State :=
  let s := s.dropServes (fun k => k.ctx = id)
  let s := s.mapDies (fun _ d => d.mapClusters (fun c => c.forget id))
  { s with
    tiles := s.tiles.filter (fun x => x.1.ctx ≠ id), ctxs := s.ctxs.filter (fun c => c.id ≠ id),
    pairings := s.pairings.filter (fun p => p.ctx ≠ id), turn := s.turn.filter (fun k => k.ctx ≠ id),
    jobs := s.jobs.filter (fun j => j.ctx ≠ id) }

theorem State.startJob_pairings (s : State) : s.startJob.pairings = s.pairings := by
  unfold State.startJob
  dsimp only
  split
  · rfl
  · split <;> rfl

/-- What the retranslations do not decide is as it is once every trace of the context is out. -/
theorem State.dropCtx_keeps {β : Type} (g : State → β) (hs : ∀ v : State, g v.startJob = g v)
    (hj : ∀ (v : State) e, g { v with job := none, events := e } = g v) (s : State) (id : CtxId) :
    g (s.dropCtx id) = g (((s.emptied id).unlinked id).erased id) := by
  unfold State.dropCtx
  dsimp only
  split
  · split
    · exact (hs _).trans (hj (((s.emptied id).unlinked id).erased id) _)
    · rfl
  · rfl

/-- Nothing of the context is left (R383). -/
theorem State.dropCtx_gone (s : State) (id : CtxId) : (∀ x ∈ (s.dropCtx id).ctxs, x.id ≠ id) ∧
    (∀ x ∈ (s.dropCtx id).tiles, x.1.ctx ≠ id) ∧ ∀ p ∈ (s.dropCtx id).pairings, p.ctx ≠ id := by
  rw [State.dropCtx_keeps State.ctxs (fun v => v.startJob_frame.2.2.1) (fun _ _ => rfl),
    State.dropCtx_keeps State.tiles (fun v => v.startJob_frame.1) (fun _ _ => rfl),
    State.dropCtx_keeps State.pairings State.startJob_pairings (fun _ _ => rfl)]
  exact ⟨fun x hx => of_decide_eq_true (List.mem_filter.mp hx).2, fun x hx => of_decide_eq_true (List.mem_filter.mp hx).2,
    fun x hx => of_decide_eq_true (List.mem_filter.mp hx).2⟩

theorem Tile.abandon_lsq (t : Tile) : t.abandon.lsq = t.lsq := by
  obtain ⟨c, m, e, h⟩ := Tile.settleOwed_eq _
  exact (congrArg Tile.lsq h).trans rfl

theorem State.abandonAt_lsq (s : State) (k j : TileKey) : ((s.abandonAt k).tileAt j).lsq = (s.tileAt j).lsq := by
  have hb : ((s.beforeAbandon k).tileAt j).lsq = (s.tileAt j).lsq := State.beforeAbandon_keeps Tile.lsq (fun _ _ => rfl) (fun _ _ => rfl) s k j
  by_cases e : j = k
  · subst e; rw [State.abandonAt_self, Tile.abandon_lsq, hb]
  · rw [State.abandonAt_other _ e, hb]

theorem State.abandonAt_pairings (s : State) (k : TileKey) : (s.abandonAt k).pairings = s.pairings := by
  have hc : (s.closeTask k).pairings = s.pairings := by
    unfold State.closeTask
    split <;> rfl
  exact hc

/-- The context's tiles have no committed operation left, and memory and pairings stand. -/
structure NoneToPerform (s : State) (id : CtxId) (u : State) : Prop where
  mem : u.mem = s.mem
  pairings : u.pairings = s.pairings
  lsq : ∀ k : TileKey, k.ctx = id → (u.tileAt k).lsq = []

theorem NoneToPerform.emptyTile {s u : State} {id : CtxId} (h : NoneToPerform s id u) {k : TileKey} (hk : k.ctx = id) :
    NoneToPerform s id ((u.flushLs k).abandonAt k) := by
  rw [Claims.flushLs_none (h.lsq k hk)]
  refine ⟨((u.modTileAt k Claims.noneLeft).closeTask_mem k).1.trans h.mem, (State.abandonAt_pairings _ k).trans h.pairings, fun j hj => ?_⟩
  rw [State.abandonAt_lsq]
  by_cases e : j = k
  · subst e; rw [State.modTileAt_tileAt]; rfl
  · rw [State.modTileAt_tileAt_ne _ _ e]; exact h.lsq j hj

/-- Where no tile of the context has anything left to perform and no pairing of it waits, its end leaves memory (R101, R383). -/
theorem State.dropCtx_mem {s : State} {id : CtxId} (ht : ∀ x ∈ s.tiles, x.1.ctx = id → x.2.lsq = [])
    (hp : ∀ p ∈ s.pairings, p.ctx = id → p.active = true) : (s.dropCtx id).mem = s.mem := by
  have h0 : NoneToPerform s id s := by
    refine ⟨rfl, rfl, fun k hk => ?_⟩
    unfold State.tileAt
    cases e : assocGet s.tiles k with
    | none => rfl
    | some t => exact ht (k, t) (assocGet_mem e) hk
  have hl (l : List TileKey) (hm : ∀ k ∈ l, k.ctx = id) (u : State) (hu : NoneToPerform s id u) :
      NoneToPerform s id (l.foldl (fun s k => (s.flushLs k).abandonAt k) u) := by
    induction l generalizing u with
    | nil => exact hu
    | cons k l ih => exact ih (fun j hj => hm j (List.mem_cons_of_mem _ hj)) _ (hu.emptyTile (hm k List.mem_cons_self))
  have he : NoneToPerform s id (s.emptied id) := hl _ (fun k hk => by
    obtain ⟨x, hx, rfl⟩ := List.mem_map.mp hk
    exact of_decide_eq_true (List.mem_filter.mp hx).2) s h0
  have hu : (s.emptied id).unlinked id = s.emptied id := by
    unfold State.unlinked
    rw [he.pairings, List.filter_eq_nil_iff.mpr]
    · rfl
    · intro p h
      by_cases e : p.ctx = id
      · simp [hp p h e]
      · simp [e]
  rw [State.dropCtx_keeps State.mem (fun v => v.startJob_frame.2.1) (fun _ _ => rfl), hu]
  exact he.mem

end Sys2Proof.Machine

namespace Sys2Proof.Claims

open Sys2Proof.Machine

theorem hostMessages : HostMessages := by
  intro s m hm
  refine ⟨fun ho => ?_, fun ho hc x hx ht => ?_, fun c ho hc => ⟨fun ht hr => ?_, fun ht hr => ?_, fun ht => ?_, fun q hq => ⟨fun ht => ?_, fun ht => ?_⟩,
    fun hq => ⟨fun ht => ?_, fun ht => ?_, fun ht => ?_⟩⟩⟩
  · change execBadMessage s = _
    unfold execBadMessage
    rw [hm]
    simp [ho]
  · simp only [List.mem_cons, List.not_mem_nil, or_false] at hx
    rcases hx with rfl | rfl | rfl | rfl | rfl | rfl | rfl
    · exact (show execCtxdestroy s = _ from State.onCtx_none _ hm ht ho hc)
    · exact (show execLaunch s = _ from State.onCtx_none _ hm ht ho hc)
    · exact (show execSignal s = _ from State.onCtx_none _ hm ht ho hc)
    · exact (show execQstat s = _ from State.onCtx_none _ hm ht ho hc)
    · exact (show execQresume s = _ from State.onCtx_none _ hm ht ho hc)
    · exact (show execLoad s = _ from State.onCtx_none _ hm ht ho hc)
    · exact (show execLinkmap s = _ from State.onCtx_none _ hm ht ho hc)
  · have hi : ((s.takeMsg m).ctxAt? c.id).isSome = true := by
      rw [show (s.takeMsg m).ctxAt? c.id = some c from (State.ctxOf_mem hc).2]; rfl
    refine (show execSignal s = _ from State.onCtx_some _ hm ht ho hc).trans ?_
    dsimp only
    rw [hr, ← Ctx.tokenCount_raise c _ [], State.modCtx_ctxAt (f := fun c => c.raise (m.w1.truncate 32) []) (fun _ => rfl) _ _ hi,
      show (s.takeMsg m).ctxAt c.id = c from State.ctxOf_ctxAt hc]
    rfl
  · refine (show execSignal s = _ from State.onCtx_some _ hm ht ho hc).trans ?_
    dsimp only
    rw [hr]
    rfl
  · obtain ⟨hctxs, htiles, hpairings⟩ := (s.takeMsg m).dropCtx_gone c.id
    exact ⟨_, (show execCtxdestroy s = _ from State.onCtx_some _ hm ht ho hc), hctxs, htiles, hpairings, fun hl hp => State.dropCtx_mem (s := s.takeMsg m) hl hp⟩
  · refine (show execQstat s = _ from State.onCtx_some _ hm ht ho hc).trans ?_
    rw [hq]
    rfl
  · refine (show execQresume s = _ from State.onCtx_some _ hm ht ho hc).trans ?_
    rw [hq]
  · refine (show execQstat s = _ from State.onCtx_some _ hm ht ho hc).trans ?_
    rw [hq]
  · refine (show execQresume s = _ from State.onCtx_some _ hm ht ho hc).trans ?_
    rw [hq]
  · refine (show execLaunch s = _ from State.onCtx_some _ hm ht ho hc).trans ?_
    dsimp only
    rw [Ctx.hasQueue, hq]
    rfl

end Sys2Proof.Claims
end

section
/-! PROOF. The lodge's messages (O46): CTXCREATE, LAUNCH and LOAD, and the bytes of a page. -/

namespace Sys2Proof.Machine

/-! ### What the log and the taken message do not decide -/

theorem Logged.foldl {α : Type} {f : State → α → State} (h : ∀ u a, Logged u (f u a)) (l : List α) (s : State) : Logged s (l.foldl f s) := by
  induction l generalizing s with
  | nil => exact Logged.refl s
  | cons a l ih => exact (h s a).trans (ih _)

theorem logged_noteRange (s : State) (asid : BitVec 16) (va n : Nat) : Logged s (s.noteRange asid va n) := by
  unfold State.noteRange
  split
  · exact Logged.refl s
  · exact Logged.foldl (fun u j => logged_noteWalk u asid _) _ s

/-- The same memory and the same address spaces: the lodge reads the same. -/
structure SameSpaces (s t : State) : Prop where
  mem : t.mem = s.mem
  asids : t.asids = s.asids

theorem SameSpaces.walk {s t : State} (h : SameSpaces s t) : t.walk = s.walk := by
  funext asid va
  unfold State.walk
  rw [h.mem, h.asids]

theorem SameSpaces.virtPa {s t : State} (h : SameSpaces s t) : t.virtPa = s.virtPa := by
  funext asid va need
  unfold State.virtPa
  rw [h.walk]

theorem SameSpaces.vaBytes {s t : State} (h : SameSpaces s t) : t.vaBytes = s.vaBytes := by
  funext asid va n
  unfold State.vaBytes State.vaByte State.memByte
  rw [h.virtPa, h.mem]

theorem SameSpaces.vaOk {s t : State} (h : SameSpaces s t) : t.vaOk = s.vaOk := by
  funext asid va n
  unfold State.vaOk
  rw [h.virtPa]

theorem SameSpaces.tfoWord {s t : State} (h : SameSpaces s t) : t.tfoWord = s.tfoWord := by
  funext asid va off
  unfold State.tfoWord
  rw [h.vaBytes]

theorem SameSpaces.readImage {s t : State} (h : SameSpaces s t) : t.readImage = s.readImage := by
  funext asid va i
  unfold State.readImage
  rw [h.tfoWord, h.vaOk, h.vaBytes]

theorem SameSpaces.headerFail {s t : State} (h : SameSpaces s t) : t.headerFail = s.headerFail := by
  funext asid va
  unfold State.headerFail
  rw [h.tfoWord, h.vaOk]

theorem SameSpaces.entriesFail {s t : State} (h : SameSpaces s t) (asid : BitVec 16) (va n : Nat) (is before : List Nat) :
    t.entriesFail asid va n is before = s.entriesFail asid va n is before := by
  have hi : t.imageFail = s.imageFail := by
    funext asid va n i before
    unfold State.imageFail
    rw [h.tfoWord, h.vaOk, h.readImage]
  induction is generalizing before with
  | nil => rfl
  | cons i r ih =>
    unfold State.entriesFail
    rw [hi, h.readImage, ih]

theorem SameSpaces.readTfo {s t : State} (h : SameSpaces s t) (asid : BitVec 16) (va : Nat) : t.readTfo asid va = s.readTfo asid va := by
  unfold State.readTfo
  rw [h.headerFail, h.tfoWord, h.readImage]
  simp only [h.entriesFail]

theorem SameSpaces.readReloc {s t : State} (h : SameSpaces s t) : t.readReloc = s.readReloc := by
  funext asid o i
  unfold State.readReloc
  rw [h.tfoWord]

theorem SameSpaces.relocFail {s t : State} (h : SameSpaces s t) : t.relocFail = s.relocFail := by
  funext asid o
  unfold State.relocFail
  rw [h.readReloc]

theorem SameSpaces.relocate {s t : State} (h : SameSpaces s t) : t.relocate = s.relocate := by
  funext asid o bases m
  unfold State.relocate
  rw [h.readReloc]

theorem SameSpaces.unplaced {s t : State} (h : SameSpaces s t) : t.unplaced = s.unplaced := by
  funext asid o m
  unfold State.unplaced
  rw [h.readReloc]

/-! ### CTXCREATE (R33, R385) -/

/-- The identifier that comes i places behind the next one. -/
def State.idAt (s : State) (i : Nat) : CtxId := BitVec.ofNat 16 ((s.nextCtx.toNat + i) % 0xFFFF)

theorem State.idAt_inj {s : State} {i j : Nat} (hi : i < 0xFFFF) (hj : j < 0xFFFF) (h : s.idAt i = s.idAt j) : i = j := by
  unfold State.idAt at h
  have := congrArg BitVec.toNat h
  simp only [BitVec.toNat_ofNat] at this
  omega

/-- Among one more identifier than there are contexts, one is free. -/
theorem State.exists_freeId {s : State} (h : s.ctxs.length < 0xFFFF) : ∃ i < s.ctxs.length + 1, ∀ c ∈ s.ctxs, c.id ≠ s.idAt i := by
  by_contra hn
  push Not at hn
  have hsub : (Finset.range (s.ctxs.length + 1)).image s.idAt ⊆ (s.ctxs.map Ctx.id).toFinset := by
    intro x hx
    obtain ⟨i, hi, rfl⟩ := Finset.mem_image.mp hx
    obtain ⟨c, hc, e⟩ := hn i (Finset.mem_range.mp hi)
    exact List.mem_toFinset.mpr (List.mem_map.mpr ⟨c, hc, e⟩)
  have hinj : ((Finset.range (s.ctxs.length + 1)).image s.idAt).card = s.ctxs.length + 1 := by
    rw [Finset.card_image_of_injOn, Finset.card_range]
    intro i hi j hj e
    have hi' := Finset.mem_range.mp hi
    have hj' := Finset.mem_range.mp hj
    exact State.idAt_inj (by omega) (by omega) e
  have hle := (Finset.card_le_card hsub).trans (List.toFinset_card_le _)
  rw [hinj, List.length_map] at hle
  omega

/-- No context has the identifier that the next one gets (R33). -/
theorem State.freshCtx_free {s : State} (h : s.ctxs.length < 0xFFFF) : ∀ c ∈ s.ctxs, c.id ≠ s.freshCtx := by
  obtain ⟨i, hi, hfree⟩ := State.exists_freeId h
  have hf : s.freshCtx = s.idAt (((List.range (s.ctxs.length + 1)).find? (fun i => !s.ctxs.any (fun c => c.id = s.idAt i))).getD 0) := rfl
  cases e : (List.range (s.ctxs.length + 1)).find? (fun i => !s.ctxs.any (fun c => c.id = s.idAt i)) with
  | none =>
    have := List.find?_eq_none.mp e i (List.mem_range.mpr hi)
    simp at this
    obtain ⟨c, hc, hid⟩ := this
    exact absurd hid (hfree c hc)
  | some j =>
    rw [hf, e]
    have := List.find?_some e
    intro c hc hid
    simp at this
    exact this c hc hid

/-! ### A page's bytes (R326, R401) -/

theorem State.makeTables_wf (va : BitVec 56) (n : Nat) (s : State) (table : Nat) (h : Memory.wf s.mem = true) :
    Memory.wf (s.makeTables va n table).mem = true := by
  induction n using Nat.strong_induction_on generalizing s table with
  | _ n ih =>
    match n with
    | 0 => exact h
    | 1 => exact h
    | n + 2 =>
      unfold State.makeTables
      dsimp only
      split
      · exact ih (n + 1) (by omega) s _ h
      · obtain ⟨x, e⟩ : ∃ x, s.takeTable = (x, { s with free := s.spend.free + 1 }) := ⟨_, rfl⟩
        rw [e]
        cases x with
        | none => exact h
        | some f => exact ih (n + 1) (by omega) _ _ (State.memWrite_wf _ _ _ (State.zeroRange_wf _ _ _ h))

theorem State.mapPage_wf {s : State} (a : AddrSpace) (va : BitVec 56) (rights : Nat) (h : Memory.wf s.mem = true) :
    Memory.wf (s.mapPage a va rights).mem = true := by
  have hf (u : State) (f : Nat) (hu : Memory.wf u.mem = true) : Memory.wf (u.mapFrame a va rights f).mem = true := by
    unfold State.mapFrame
    dsimp only
    split
    · rw [(State.touchSpace_frame _ _ _).1]
      exact State.memWrite_wf _ _ _ (State.zeroRange_wf _ _ _ (State.makeTables_wf _ _ _ _ hu))
    · exact State.makeTables_wf _ _ _ _ hu
  unfold State.mapPage
  dsimp only
  split
  · exact h
  · next d _ =>
    obtain ⟨x, e⟩ : ∃ x, s.spend.takeFrame d 0 = (x, { s with free := s.spend.free + 1 }) := ⟨_, rfl⟩
    rw [e]
    cases x with
    | none => exact h
    | some f => exact hf _ f h

theorem State.touchMem_mem (s : State) (c : CtxId) (pa : Nat) : (s.touchMem c pa).mem = s.mem := by
  unfold State.touchMem
  split <;> rfl

/-- An image of one page placed where the lodge has mapped the page. -/
theorem State.placeBytes_page {s : State} {a : AddrSpace} {id : CtxId} {asid : BitVec 16} {va rights pa : Nat} {bs : List Byte}
    (ha : s.asids.find? (fun x => x.asid = asid) = some a) (hl : bs.length ≤ 16384)
    (hp : (s.mapPage a (BitVec.ofNat 56 va) rights).virtPa asid (BitVec.ofNat 56 va) .read = some pa) :
    s.placeBytes id asid va rights bs = ((s.mapPage a (BitVec.ofNat 56 va) rights).memWrite pa bs).touchMem id pa := by
  have hn : max 1 (pagesOf bs.length) = 1 := by unfold pagesOf; omega
  unfold State.placeBytes
  rw [ha, hn]
  simp [hp, List.take_of_length_le hl]

end Sys2Proof.Machine

namespace Sys2Proof.Claims

open Sys2Proof.Machine

theorem pagesHoldBytes : PagesHoldBytes := by
  intro s a id asid va rights pa bs hc ha hl hp i hi
  rw [State.placeBytes_page ha hl hp, State.memByte, State.touchMem_mem, List.getElem?_eq_getElem hi]
  exact congrArg some (cellsGet_write_in pa bs (State.mapPage_wf a _ rights hc.1) hi)

end Sys2Proof.Claims
end

section
/-! PROOF. The lodge's messages (O46): LAUNCH, LOAD, and the statement. -/

namespace Sys2Proof.Machine

/-! ### Admission (R36, R37, R386) -/

section
variable {s : State} {id : CtxId} {q : BitVec 4} {va : BitVec 56} {x : Queue}

theorem State.enqueue_misaligned (hq : (s.ctxAt id).queue? q = some x) (hv : va.toNat % 128 ≠ 0) : s.enqueue id q va = (.bad 0, s) := by
  simp [State.enqueue, hq, hv]

theorem State.enqueue_unmapped (hq : (s.ctxAt id).queue? q = some x) (hv : va.toNat % 128 = 0)
    (hp : s.virtPa (s.ctxAt id).asid va .read = none) : s.enqueue id q va = (.bad 0x80, s.noteWalk (s.ctxAt id).asid va) := by
  simp [State.enqueue, hq, hv, hp]

/-- The words of the record at a place. -/
def State.recordWord (s : State) (pa i : Nat) : Nat := s.memRead (pa + 8 * i) 8

theorem State.enqueue_fails {pa off : Nat} (hq : (s.ctxAt id).queue? q = some x) (hv : va.toNat % 128 = 0)
    (hp : s.virtPa (s.ctxAt id).asid va .read = some pa) (hf : recordFail (s.recordWord pa) (s.ctxAt id).dieList.length = some off) :
    s.enqueue id q va = (.bad off, s) := by
  unfold State.recordWord at hf
  simp [State.enqueue, hq, hv, hp, hf]

theorem State.enqueue_full {pa : Nat} (hq : (s.ctxAt id).queue? q = some x) (hv : va.toNat % 128 = 0)
    (hp : s.virtPa (s.ctxAt id).asid va .read = some pa) (hf : recordFail (s.recordWord pa) (s.ctxAt id).dieList.length = none)
    (hl : 256 ≤ x.courses.length) : s.enqueue id q va = (.full, s) := by
  unfold State.recordWord at hf
  simp [State.enqueue, hq, hv, hp, hf, hl]

/-- A queue behind the admission of a record, with the queue's next serial. -/
def admitted (n : Nat) (r : CourseRec) (x : Queue) : Queue :=
  { x with courses := x.courses ++ [newCourse n r], lastAdm := some n, next := (n + 1) % 2 ^ 48 }

/-- The record of an admitted course: with its code where a retranslation has moved it (R331). -/
def Ctx.admits (c : Ctx) (w : Nat → Nat) : CourseRec := { CourseRec.ofWords w with code := c.codeBase (CourseRec.ofWords w).code }

/-- The newest course of the queue is the record's (R37, R386). -/
theorem admitted_course (n : Nat) (r : CourseRec) (x : Queue) : (admitted n r x).lastAdm = some n ∧ (admitted n r x).next = (n + 1) % 2 ^ 48 ∧
    ∃ y, (admitted n r x).courses = x.courses ++ [y] ∧ y.serial = n ∧ y.started = false ∧ y.gates = r.gates :=
  ⟨rfl, rfl, newCourse n r, rfl, rfl, rfl, rfl⟩

theorem Ctx.admits_gates (c : Ctx) (w : Nat → Nat) : (c.admits w).gates = (CourseRec.ofWords w).gates := rfl

theorem State.enqueue_admits {pa : Nat} (hq : (s.ctxAt id).queue? q = some x) (hv : va.toNat % 128 = 0)
    (hp : s.virtPa (s.ctxAt id).asid va .read = some pa) (hf : recordFail (s.recordWord pa) (s.ctxAt id).dieList.length = none)
    (hl : x.courses.length < 256) : s.enqueue id q va = (.serial x.next,
      (s.flushBuffers (courseDies (s.ctxAt id) ((s.ctxAt id).admits (s.recordWord pa)))).modCtx id
        (fun c => c.modQueue q (fun y => admitted y.next ((s.ctxAt id).admits (s.recordWord pa)) y))) := by
  have hl' : ¬ 256 ≤ x.courses.length := by omega
  unfold State.recordWord at hf
  unfold State.enqueue
  simp only [hq, hv, hp, hf, if_neg hl', ne_eq, not_true_eq_false, if_false]
  rfl

end

/-- The answer to a LAUNCH (R37, R386). -/
def answered (m : Msg) (v : State) : Admit → State
  | .serial n => v.reply m 0 n []
  | .bad off => v.reply m 1 off []
  | .full => v.reply m 2 0 []

theorem launch_answered {s v : State} {m : Msg} {c : Ctx} {r : Admit} (hm : s.lodgeMsg = some m) (ho : s.lodgeOk m = true) (ht : m.ty = 0x03)
    (hc : s.ctxOf m.part m.ctx = some c) (hq : (c.queue? m.queue).isSome = true)
    (he : (s.takeMsg m).enqueue c.id m.queue (m.w2.truncate 56) = (r, v)) : exec .launch s = .next (answered m v r) := by
  refine (show execLaunch s = _ from State.onCtx_some _ hm ht ho hc).trans ?_
  dsimp only
  rw [Ctx.hasQueue, hq, he]
  cases r <;> rfl

/-! ### Loading (R326, R331) -/

/-- A retranslation that is offered leaves memory, and the context knows the image (R331). -/
theorem State.offerRetranslation_frame (s : State) (id : CtxId) (base size : Nat) (patched : List Byte) :
    (s.offerRetranslation id base size patched).mem = s.mem ∧
    ∀ z ∈ (s.offerRetranslation id base size patched).ctxs, z.id = id →
      ∃ i ∈ z.imgs, i.base = BitVec.ofNat 56 base ∧ i.size = size ∧ i.cur = none := by
  have hknown : ∀ z ∈ (s.spend.modCtx id (fun c => { c with imgs :=
      { base := BitVec.ofNat 56 base, size := size, cur := none, freed := false } :: c.imgs })).ctxs, z.id = id →
      ∃ i ∈ z.imgs, i.base = BitVec.ofNat 56 base ∧ i.size = size ∧ i.cur = none := by
    intro z hz hid
    obtain ⟨d, -, rfl⟩ := List.mem_map.mp hz
    by_cases e : d.id = id
    · rw [if_pos e]; exact ⟨_, List.mem_cons_self, rfl, rfl, rfl⟩
    · rw [if_neg e] at hid; exact absurd hid e
  unfold State.offerRetranslation
  dsimp only
  split
  · obtain ⟨-, hm, hc, -⟩ := State.startJob_frame _
    exact ⟨hm, fun z hz => hknown z (hc ▸ hz)⟩
  · exact ⟨rfl, hknown⟩

end Sys2Proof.Machine

namespace Sys2Proof.Claims

open Sys2Proof.Machine

theorem loadPlaces {s u : State} {m : Msg} {c : Ctx} {o : Tfo} {code data : Nat × TfoImage} (hs : SameSpaces s u) (hc : u.ctxs = s.ctxs)
    (hx : exec .load s = .next (u.placeObject m c o code data)) : LoadPlaces s u m c o code data := by
  unfold LoadPlaces
  unfold State.placeObject at hx
  dsimp only at hx ⊢
  rw [hs.relocate] at hx
  simp only [hx]
  have refused (v : State) (st val : Nat) : ∃ t : State, Host.Outcome.next ((u.afterAll v).reply m st val []) =
      (.next (t.reply m st val []) : Out) ∧ t.mem = s.mem ∧ t.ctxs = s.ctxs := ⟨u.afterAll v, rfl, hs.mem, hc⟩
  clear hx
  generalize u.takeSpan c.asid (if code.2.kind = 2 then (translated c.qmode code.2.bytes).length else code.2.size) = p
  obtain ⟨_ | base, s1⟩ := p
  · exact ⟨fun _ => refused _ _ _, nofun⟩
  refine ⟨nofun, fun b hb => ?_⟩
  obtain rfl := Option.some.inj hb
  dsimp only
  generalize s1.placeBytes c.id c.asid base 5 (List.replicate _ 0) = v
  generalize v.takeSpan c.asid data.2.size = p
  obtain ⟨y, s2⟩ := p
  refine ⟨fun h => ?_, fun dbase hm hy => ?_⟩
  · have hy : (if v.spanMapped c.asid base (if code.2.kind = 2 then (translated c.qmode code.2.bytes).length else code.2.size) = true then y
        else none) = none := by
      rcases h with h | h
      · rw [h]; rfl
      · rw [show y = none from h, ite_self]
    rw [hy]
    exact refused _ _ _
  subst hy
  rw [if_pos hm]
  dsimp only
  refine ⟨fun off hf => ?_, fun hf => ?_⟩
  · rw [hf]; exact refused _ _ _
  rw [hf]
  dsimp only
  refine ⟨fun hw => ?_, fun hw => ?_⟩
  · rw [hw]; exact refused _ _ _
  rw [hw]
  by_cases hk : code.2.kind = 2
  · simp only [if_pos hk]
    obtain ⟨hmem, himgs⟩ := State.offerRetranslation_frame _ c.id base (translated c.qmode code.2.bytes).length
      (s.relocate c.asid o [(code.1, base), (data.1, dbase)] code.2)
    exact ⟨_, rfl, hmem, fun hn => absurd hk hn, fun _ => himgs⟩
  · simp only [if_neg hk]
    exact ⟨_, rfl, rfl, fun _ => rfl, fun h => absurd h hk⟩

/-- The state behind the walks that the lodge makes for an object (R402). -/
def noted (s : State) (c : Ctx) (va : Nat) : State := (s.tfoRanges c.asid va).foldl (fun u x => u.noteRange c.asid x.1 x.2) s

theorem logged_noted (s : State) (c : Ctx) (va : Nat) : Logged s (noted s c va) :=
  Logged.foldl (fun u _ => logged_noteRange u _ _ _) _ s

theorem hostWork_ctxcreate {s : State} {m : Msg} (hm : s.lodgeMsg = some m) (ho : s.lodgeOk m = true) (ht : m.ty = 0x01) :
    let u := s.takeMsg m
    ((∃ d ∈ maskDies m.w7, (s.dieAt d).cs = false ∨ (s.dieAt d).ms = false) → exec .ctxcreate s = .next (u.reply m 5 0 [])) ∧
    ∀ l, (∀ d ∈ maskDies m.w7, (s.dieAt d).cs = true ∧ (s.dieAt d).ms = true) → s.newSlots m.w7 = some l →
      exec .ctxcreate s = .next (({ u with
        ctxs := s.ctxs ++ [newCtxOf m s.freshCtx l]
        nextCtx := if s.freshCtx + 1 = 0xFFFF then 0 else s.freshCtx + 1 } : State).reply m 0 s.freshCtx.toNat []) := by
  have hx := show execCtxcreate s = _ from State.onLodge_taken _ hm ht ho
  refine ⟨fun h => hx.trans ?_, fun l h hl => hx.trans ?_⟩
  · refine congrArg _ (if_pos ?_)
    obtain ⟨d, hd, h⟩ := h
    exact List.any_eq_true.mpr ⟨d, hd, by rw [show (s.takeMsg m).dieAt d = s.dieAt d from rfl]; rcases h with h | h <;> simp [h]⟩
  · refine congrArg _ ((if_neg ?_).trans ?_)
    · intro ha
      obtain ⟨d, hd, hn⟩ := List.any_eq_true.mp ha
      obtain ⟨hcs, hms⟩ := h d hd
      rw [show (s.takeMsg m).dieAt d = s.dieAt d from rfl, hcs, hms] at hn
      cases hn
    · rw [show (s.takeMsg m).newSlots m.w7 = some l from hl]
      rfl

theorem hostWork_load {s : State} {m : Msg} {c : Ctx} (hm : s.lodgeMsg = some m) (ho : s.lodgeOk m = true) (ht : m.ty = 0x08)
    (hc : s.ctxOf m.part m.ctx = some c) :
    let va := (m.w1.truncate 56 : BitVec 56).toNat
    let u := noted (s.takeMsg m) c va
    (∀ off, s.readTfo c.asid va = .error off → exec .load s = .next (u.reply m 6 off [])) ∧
    (∀ o, s.readTfo c.asid va = .ok o →
      (o.select c.qmode = none → exec .load s = .next (u.reply m 6 0x20 [])) ∧
      (∀ code data, o.select c.qmode = some code → o.data = some data →
        (∀ off, s.relocFail c.asid o = some off →
          exec .load s = .next (u.reply m 6 ((earlier (some off) (code.2.bodyFail code.2.bytes)).getD off) [])) ∧
        (s.relocFail c.asid o = none →
          (∀ off, code.2.bodyFail (s.unplaced c.asid o code.2) = some off → exec .load s = .next (u.reply m 6 off [])) ∧
          (code.2.bodyFail (s.unplaced c.asid o code.2) = none → LoadPlaces s u m c o code data)))) := by
  intro va u
  have hx := show execLoad s = _ from State.onCtx_some _ hm ht ho hc
  obtain ⟨e, f, hu⟩ := logged_noted (s.takeMsg m) c va
  have hs : SameSpaces s u := ⟨(congrArg State.mem hu).trans rfl, (congrArg State.asids hu).trans rfl⟩
  have hctxs : u.ctxs = s.ctxs := (congrArg State.ctxs hu).trans rfl
  dsimp only at hx
  rw [show ((s.takeMsg m).tfoRanges c.asid va).foldl (fun u x => u.noteRange c.asid x.1 x.2) (s.takeMsg m) = u from rfl,
    hs.readTfo, hs.relocFail, hs.unplaced] at hx
  change exec .load s = _ at hx
  refine ⟨fun off h => by rw [hx, h], fun o h => ?_⟩
  rw [h] at hx
  dsimp only at hx
  refine ⟨fun hn => by rw [hx, hn], fun code data hcode hdata => ?_⟩
  rw [hcode, hdata] at hx
  dsimp only at hx
  refine ⟨fun off hf => by rw [hx, hf], fun hf => ?_⟩
  rw [hf] at hx
  refine ⟨fun off hb => by rw [hx, hb], fun hb => ?_⟩
  rw [hb] at hx
  exact loadPlaces hs hctxs hx

theorem hostWork_launch {s : State} {m : Msg} {c : Ctx} {q : Queue} (hm : s.lodgeMsg = some m) (ho : s.lodgeOk m = true) (ht : m.ty = 0x03)
    (hc : s.ctxOf m.part m.ctx = some c) (hq : c.queue? m.queue = some q) :
    let u := s.takeMsg m
    let va : BitVec 56 := m.w2.truncate 56
    (va.toNat % 128 ≠ 0 → exec .launch s = .next (u.reply m 1 0 [])) ∧
    (va.toNat % 128 = 0 → s.virtPa c.asid va .read = none → exec .launch s = .next ((u.noteWalk c.asid va).reply m 1 0x80 [])) ∧
    (∀ pa, va.toNat % 128 = 0 → s.virtPa c.asid va .read = some pa →
      (∀ off, recordFail (s.recordWord pa) c.dieList.length = some off → exec .launch s = .next (u.reply m 1 off [])) ∧
      (recordFail (s.recordWord pa) c.dieList.length = none → 256 ≤ q.courses.length → exec .launch s = .next (u.reply m 2 0 [])) ∧
      (recordFail (s.recordWord pa) c.dieList.length = none → q.courses.length < 256 →
        ∃ t : State, exec .launch s = .next (t.reply m 0 q.next []) ∧ t.mem = s.mem ∧
          (∃ x ∈ t.ctxs, x.id = c.id ∧ ∃ q', x.queue? m.queue = some q' ∧ q'.lastAdm = some q.next ∧ q'.next = (q.next + 1) % 2 ^ 48 ∧
            ∃ y, q'.courses = q.courses ++ [y] ∧ y.serial = q.next ∧ y.started = false ∧
              y.gates = (CourseRec.ofWords (s.recordWord pa)).gates))) := by
  intro u va
  have hu : u.ctxAt c.id = c := State.ctxOf_ctxAt hc
  have hq' : (u.ctxAt c.id).queue? m.queue = some q := by rw [hu, hq]
  have answer {r : Admit} {v : State} := launch_answered (r := r) (v := v) hm ho ht hc (by rw [hq]; rfl)
  refine ⟨fun hv => ?_, fun hv hp => ?_, fun pa hv hp => ⟨fun off hf => ?_, fun hf hl => ?_, fun hf hl => ?_⟩⟩
  · exact answer (State.enqueue_misaligned hq' hv)
  · rw [answer (State.enqueue_unmapped hq' hv (by rw [hu]; exact hp)), hu]
    rfl
  · exact answer (State.enqueue_fails hq' hv (by rw [hu]; exact hp) (by rw [hu]; exact hf))
  · exact answer (State.enqueue_full hq' hv (by rw [hu]; exact hp) (by rw [hu]; exact hf) hl)
  · have he := State.enqueue_admits hq' hv (by rw [hu]; exact hp) (by rw [hu]; exact hf) hl
    rw [hu, show u.recordWord pa = s.recordWord pa from rfl] at he
    obtain ⟨hadm, hnext, y, hy, hserial, hstarted, hgates⟩ := admitted_course q.next (c.admits (s.recordWord pa)) q
    exact ⟨_, answer he, rfl, _, List.mem_map.mpr ⟨c, (State.ctxOf_mem hc).1, if_pos rfl⟩, rfl, _,
      (Ctx.modQueue_queue _ _ _).trans (congrArg _ hq), hadm, hnext, y, hy, hserial, hstarted, hgates.trans (Ctx.admits_gates _ _)⟩

theorem hostWork : HostWork := by
  intro s m hm ho
  refine ⟨fun ht => ?_, fun c hc => ⟨fun ht q hq => hostWork_launch hm ho ht hc hq, fun ht => hostWork_load hm ho ht hc⟩⟩
  obtain ⟨hfull, hmade⟩ := hostWork_ctxcreate hm ho ht
  exact ⟨hfull, hmade, State.freshCtx_free⟩

end Sys2Proof.Claims

section
open Sys2Proof Sys2Proof.Machine Sys2Proof.Claims

/-- Settles O46: a message in order is taken and answered from the state it finds (R382-R386, R389, R391, R397); the lodge reads the same
behind the walks that it logs, so that a load is refused or placed as the object asks (R326, R331); one of more identifiers than there are
contexts is free (R33); and the memory in which a page is mapped keeps its canonical form, so that the bytes written read back. -/
theorem lodgeMessages : Obligations.LodgeMessages := ⟨hostMessages, hostWork, pagesHoldBytes⟩

end
end

section
/-! PROOF. What leaves a tile's scratchpad as it is (O56). -/

namespace Sys2Proof.Machine

/-- A fold of changes that leave a scratchpad as it is. -/
theorem foldl_scratch {α : Type} {f : Tile → α → Tile} (hf : ∀ t a, (f t a).scratch = t.scratch) (l : List α) (t : Tile) :
    (l.foldl f t).scratch = t.scratch :=
  foldl_keeps Tile.scratch hf l t

theorem ite_scratch {c : Prop} [Decidable c] {t u v : Tile} (ht : t.scratch = v.scratch) (hu : u.scratch = v.scratch) :
    (if c then t else u).scratch = v.scratch := by
  split
  · exact ht
  · exact hu

@[simp] theorem Tile.setTcause_scratch (t : Tile) (v : Word) : (t.setTcause v).scratch = t.scratch := rfl

@[simp] theorem Tile.giveSnap_scratch (t : Tile) : t.giveSnap.scratch = t.scratch := rfl

@[simp] theorem Tile.setVc_scratch (t : Tile) (p : Nat) (v : VClock) : (t.setVc p v).scratch = t.scratch := by
  unfold Tile.setVc; split <;> rfl

@[simp] theorem Tile.bump_scratch (t : Tile) (k : TileKey) (p : Nat) : (t.bump k p).scratch = t.scratch := t.setVc_scratch _ _

@[simp] theorem Tile.bumpAll_scratch (t : Tile) (k : TileKey) : (t.bumpAll k).scratch = t.scratch :=
  foldl_scratch (fun t p => t.bump_scratch k p) _ t

@[simp] theorem Tile.countLate_scratch (t : Tile) (e : EvCount) : (t.countLate e).scratch = t.scratch := by
  unfold Tile.countLate; split <;> rfl

@[simp] theorem Tile.seeTags_scratch (t : Tile) (id : Nat) (l : List RelTag) : (t.seeTags id l).scratch = t.scratch := by
  unfold Tile.seeTags; dsimp only; split <;> rfl

@[simp] theorem Tile.recordCause_scratch (t : Tile) (c : Cause) : (t.recordCause c).scratch = t.scratch := by
  unfold Tile.recordCause; dsimp only; split <;> rfl

@[simp] theorem Tile.freeze_scratch (svc : Bool) (t : Tile) : (t.freeze svc).scratch = t.scratch := by
  unfold Tile.freeze; cases t.frozen <;> cases svc <;> rfl

@[simp] theorem Tile.settleOwed_scratch (t : Tile) : t.settleOwed.scratch = t.scratch := by
  unfold Tile.settleOwed; split <;> rfl

@[simp] theorem Tile.abandon_scratch (t : Tile) : t.abandon.scratch = t.scratch := Tile.settleOwed_scratch _

@[simp] theorem Tile.uncover_scratch (t : Tile) : t.uncover.scratch = t.scratch := by
  unfold Tile.uncover; split <;> rfl

@[simp] theorem Tile.thaw_scratch (t : Tile) : t.thaw.scratch = t.scratch :=
  (Tile.uncover_scratch _).trans t.settleOwed_scratch

@[simp] theorem Tile.setFull_scratch (t : Tile) (off : Nat) : (t.setFull off).scratch = t.scratch := by
  unfold Tile.setFull; split <;> rfl

@[simp] theorem Tile.fenceRegion_scratch (t : Tile) (k : TileKey) : (t.fenceRegion k).scratch = t.scratch := by
  unfold Tile.fenceRegion
  dsimp only
  split
  · rfl
  · exact (foldl_scratch (fun t _ => foldl_scratch (fun t _ => t.setVc_scratch _ _) _ t) _ _).trans (t.bump_scratch _ _)

@[simp] theorem Tile.restoreFrame_scratch (t : Tile) : t.restoreFrame.scratch = t.scratch := by
  unfold Tile.restoreFrame; split <;> rfl

@[simp] theorem Tile.leaveStub_scratch (t : Tile) : t.leaveStub.scratch = t.scratch :=
  (Tile.uncover_scratch _).trans (Tile.settleOwed_scratch _)

@[simp] theorem Tile.reachKernel_scratch (t : Tile) : t.reachKernel.scratch = t.scratch := by
  unfold Tile.reachKernel
  split
  · rfl
  · split <;> rfl

@[simp] theorem Tile.sequence_scratch (t : Tile) : t.sequence.scratch = t.scratch := by
  unfold Tile.sequence
  split
  · rfl
  · exact Tile.reachKernel_scratch _

@[simp] theorem Tile.startGate_scratch (t : Tile) (k : TileKey) (x : Task) (hb : VClock) (pre : List (BitVec 6 × Word)) :
    (t.startGate k x hb pre).scratch = t.scratch := by
  unfold Tile.startGate
  dsimp only
  rw [show ∀ u : Tile, u.takeMark.scratch = u.scratch from fun _ => rfl, Tile.reachKernel_scratch, Tile.mapSeq_scratch,
    show ∀ (u : Tile) a, (u.startTask x a pre).scratch = u.scratch from fun _ _ => rfl, Tile.bumpAll_scratch]
  rfl

@[simp] theorem Tile.enter_scratch (t : Tile) (va : BitVec 56) (tepc : Word) (skew : Nat) (keep : List GLoad) :
    (t.enter va tepc skew keep).scratch = t.scratch := t.settleOwed_scratch

@[simp] theorem Tile.fire_scratch (t : Tile) (pass wake : Bool) (pid rid : BitVec 16) (c : Conj) :
  (t.fire pass wake pid rid c).scratch = t.scratch := by
  unfold Tile.fire
  split
  · rfl
  · split <;> rfl

@[simp] theorem Tile.checkPair_scratch (t : Tile) (o : Orbit) (u : Nat) (wake : Bool) (b : Body) :
  (t.checkPair o u wake b).scratch = t.scratch := by
  unfold Tile.checkPair
  dsimp only
  split
  · rfl
  · exact Tile.fire_scratch _ _ _ _ _ _

@[simp] theorem Tile.checks_scratch (t : Tile) (o : Orbit) (u : Nat) : (t.checks o u).scratch = t.scratch := by
  unfold Tile.checks
  refine Eq.trans (b := (t.checkPair o u false t.station.ret).scratch) ?_ (t.checkPair_scratch _ _ _ _)
  dsimp only [Tile.mapStation]
  split
  · exact Tile.checkPair_scratch _ _ _ _ _
  · rfl

@[simp] theorem Tile.leaveBarrier_scratch (t : Tile) (k : TileKey) (ob : BarObj) (v : VClock) (f : Fence) (b : Bool) :
    (t.leaveBarrier k ob v f b).scratch = t.scratch := by
  unfold Tile.leaveBarrier
  dsimp only
  rw [show ∀ (u : Tile) q, (u.mapSeqs q).scratch = u.scratch from fun _ _ => rfl]
  dsimp only
  rw [Tile.bumpAll_scratch]
  split <;> rfl

@[simp] theorem Tile.joinLs_scratch (t : Tile) (v : VClock) : (t.joinLs v).scratch = t.scratch := t.setVc_scratch _ _

@[simp] theorem Tile.waitJoin_scratch (t : Tile) (both : Bool) (v : VClock) : (t.waitJoin both v).scratch = t.scratch := by
  cases both <;> exact t.joinLs_scratch v

@[simp] theorem Tile.clearWaitu_scratch (t : Tile) (k : TileKey) : (t.clearWaitu k).scratch = t.scratch :=
  (Tile.waitJoin_scratch _ _ _).trans (Tile.bump_scratch _ _ _)

@[simp] theorem Tile.towCheck_scratch (t : Tile) (r : BitVec 4) : (t.towCheck r).scratch = t.scratch := by
  unfold Tile.towCheck
  split
  · rfl
  · split
    · rfl
    · dsimp only; split <;> rfl

@[simp] theorem Tile.towStep_scratch (t : Tile) : t.towStep.scratch = t.scratch := by
  unfold Tile.towStep; split <;> rfl

@[simp] theorem Tile.takePosts_scratch (t : Tile) : t.takePosts.scratch = t.scratch := by
  unfold Tile.takePosts; split <;> rfl

@[simp] theorem Tile.gain_scratch (t : Tile) : t.gain.scratch = t.scratch := by
  unfold Tile.gain; split <;> rfl

end Sys2Proof.Machine
end

section
/-! PROOF. The canonical form of the memories (O55, O56): the rules of the primitive changes of a state. -/

namespace Sys2Proof.Machine

variable {s t : State}

/-- A state whose memories are those of another. -/
theorem State.canonical.of_eq (h : s.canonical) (e : (t.mem, t.tiles) = (s.mem, s.tiles)) : t.canonical := by
  obtain ⟨hm, ht⟩ := Prod.mk.inj e
  unfold State.canonical
  rw [hm, ht]
  exact h

/-- A state of which other parts than the memories are set. -/
theorem State.canonical.withRest {k : TileKey} {turn : List TileKey} {free : Nat} {saved : List SavedBlock} {copies : List BlockCopy}
    {reqs : List PageReq} {pairings : List Pairing} (h : s.canonical) :
    State.canonical { s with cur := k, turn := turn, free := free, saved := saved, copies := copies, pageReqs := reqs, pairings :=
      pairings } := h

/-- A state whose scratchpads are among those of another. -/
theorem State.canonical.of_tiles (h : s.canonical) (hm : t.mem = s.mem)
    (ht : ∀ x ∈ t.tiles, ∃ y ∈ s.tiles, x.2.scratch = y.2.scratch) : t.canonical := by
  refine ⟨hm ▸ h.1, fun x hx => ?_⟩
  obtain ⟨y, hy, e⟩ := ht x hx
  exact e ▸ h.2 y hy

theorem State.canonical.ite {c : Prop} [Decidable c] (hs : s.canonical) (ht : t.canonical) : (if c then s else t).canonical := by
  split
  · exact hs
  · exact ht

theorem State.canonical.foldl_mem {α : Type} {f : State → α → State} {l : List α} (h : s.canonical)
    (hf : ∀ {s : State} {a : α}, a ∈ l → s.canonical → (f s a).canonical) : (l.foldl f s).canonical :=
  List.foldlRecOn l f h fun _ hs _ ha => hf ha hs

theorem State.canonical.foldl {α : Type} {f : State → α → State} {l : List α} (h : s.canonical)
    (hf : ∀ {s : State} {a : α}, s.canonical → (f s a).canonical) : (l.foldl f s).canonical := h.foldl_mem fun _ => hf

/-- The state of a pair. -/
theorem State.canonical.of_snd {α : Type} {p : α × State} {a : α} (h : p.2.canonical) (e : p = (a, t)) : t.canonical := by
  subst e; exact h

theorem State.canonical.ite_snd {α : Type} {c : Prop} [Decidable c] {p q : α × State} (hp : p.2.canonical) (hq : q.2.canonical) :
    (if c then p else q).2.canonical := by
  split
  · exact hp
  · exact hq

theorem assocSet_values {α β : Type} [DecidableEq α] {P : β → Prop} {l : List (α × β)} {k : α} {v : β} (h : ∀ x ∈ l, P x.2) (hv : P v) :
    ∀ x ∈ assocSet l k v, P x.2 := by
  induction l with
  | nil => simpa [assocSet] using hv
  | cons y l ih =>
    obtain ⟨hy, hl⟩ := List.forall_mem_cons.mp h
    unfold assocSet
    split
    · exact List.forall_mem_cons.mpr ⟨hv, hl⟩
    · exact List.forall_mem_cons.mpr ⟨hy, ih hl⟩

theorem State.canonical.setTileAt {k : TileKey} {u : Tile} (h : s.canonical) (hu : Memory.wf u.scratch = true) :
    (s.setTileAt k u).canonical :=
  ⟨h.1, assocSet_values (P := fun u : Tile => Memory.wf u.scratch = true) h.2 hu⟩

theorem State.canonical.modTileAt_wf {k : TileKey} {f : Tile → Tile} (h : s.canonical)
    (hf : ∀ u : Tile, Memory.wf u.scratch = true → Memory.wf (f u).scratch = true) : (s.modTileAt k f).canonical :=
  h.setTileAt (hf _ (State.canonical_tileAt h k))

theorem State.canonical.modTileAt {k : TileKey} {f : Tile → Tile} (h : s.canonical)
    (hf : ∀ u : Tile, (f u).scratch = u.scratch) : (s.modTileAt k f).canonical :=
  h.modTileAt_wf fun u hu => by rw [hf]; exact hu

theorem State.canonical.modTile_wf {f : Tile → Tile} (h : s.canonical)
    (hf : ∀ u : Tile, Memory.wf u.scratch = true → Memory.wf (f u).scratch = true) : (s.modTile f).canonical := h.modTileAt_wf hf

theorem State.canonical.spWrite {k : TileKey} {off : Nat} {f : Tile → List Byte} (h : s.canonical) :
    (s.modTileAt k fun t => t.spWrite off (f t)).canonical := h.modTileAt_wf fun u => u.spWrite_wf _ _

theorem State.canonical.modTile {f : Tile → Tile} (h : s.canonical) (hf : ∀ u : Tile, (f u).scratch = u.scratch) :
    (s.modTile f).canonical := h.modTileAt hf

/-- A state whose tiles are those of another, each with its scratchpad as it was. -/
theorem State.canonical.of_map {f : TileKey × Tile → TileKey × Tile} (h : s.canonical) (hm : t.mem = s.mem) (ht : t.tiles = s.tiles.map f)
    (hf : ∀ x, (f x).2.scratch = x.2.scratch) : t.canonical :=
  h.of_tiles hm fun x hx => by
    obtain ⟨y, hy, e⟩ := List.mem_map.mp (ht ▸ hx)
    exact ⟨y, hy, e ▸ hf y⟩

/-- A state whose tiles stand among those of another. -/
theorem State.canonical.of_subset (h : s.canonical) (hm : t.mem = s.mem) (ht : ∀ x ∈ t.tiles, x ∈ s.tiles) : t.canonical :=
  h.of_tiles hm fun x hx => ⟨x, ht x hx, rfl⟩

theorem State.canonical.mapTiles {f : TileKey → Tile → Tile} (h : s.canonical)
    (hf : ∀ k u, (f k u).scratch = u.scratch) : (s.mapTiles f).canonical := h.of_map rfl rfl fun x => hf x.1 x.2

theorem State.canonical.memWrite {a : Nat} {bs : List Byte} (h : s.canonical) : (s.memWrite a bs).canonical :=
  ⟨s.memWrite_wf a bs h.1, h.2⟩

theorem State.canonical.zeroRange {a n : Nat} (h : s.canonical) : (s.zeroRange a n).canonical := ⟨s.zeroRange_wf a n h.1, h.2⟩

theorem State.canonical.copyRange {a b n : Nat} (h : s.canonical) : (s.copyRange a b n).canonical := ⟨s.copyRange_wf a b n h.1, h.2⟩

/-- What an instruction answers: the memories of its next state, where there is one, have their canonical form. -/
def Out.canonical (o : Out) : Prop := ∀ t, o = .next t → t.canonical

theorem Out.canonical.next (h : t.canonical) : Out.canonical (.next t) := by
  intro u e; cases e; exact h

theorem Out.canonical.fault {f : Fault} : Out.canonical (.fault f) := by
  intro u e; cases e

theorem Out.canonical.ite {c : Prop} [Decidable c] {o p : Out} (ho : o.canonical) (hp : p.canonical) : (if c then o else p).canonical := by
  split
  · exact ho
  · exact hp

/-- What comes next starts from memories in their canonical form. -/
def Next.canonical : Next → Prop
  | .run s _ => s.canonical
  | .pass s => s.canonical

/-- A slot's operation keeps the memories canonical. -/
def Hooks.Keeps (h : Hooks) : Prop := ∀ s : State, s.canonical → (h.act s).canonical

/-- A slot that has been read and its operation, where it has one, keep the memories canonical. -/
def Ready.Keeps (r : Ready) : Prop := ∀ h, r.hk = some h → h.Keeps

/-- A control operation keeps the memories canonical. -/
def Ctl.Keeps (h : Ctl) : Prop := (∀ p s : State, s.canonical → (h.act p s).canonical) ∧ ∀ p s : State, s.canonical →
  (h.after p s).canonical

end Sys2Proof.Machine
end

section
/-! PROOF. The canonical form of the memories (O56): one rule for each operation of the model that answers a state. -/

namespace Sys2Proof.Machine

variable {s : State}

/-! ### The memories through the parts of the state -/

theorem State.canonical.modDie {d : DieId} {f : Die → Die} (h : s.canonical) : (s.modDie d f).canonical := h

theorem State.canonical.modCluster {c : ClusterId} {f : Cluster → Cluster} (h : s.canonical) : (s.modCluster c f).canonical := h.modDie

theorem State.canonical.modCtx {id : CtxId} {f : Ctx → Ctx} (h : s.canonical) : (s.modCtx id f).canonical := h

theorem State.canonical.mapCtxs {f : Ctx → Ctx} (h : s.canonical) : (s.mapCtxs f).canonical := h

theorem State.canonical.spend (h : s.canonical) : s.spend.canonical := h

theorem State.canonical.drawDelay (h : s.canonical) : s.drawDelay.2.canonical := h.spend

theorem State.canonical.addEvent {due : Nat} {k : TileKey} {i : Instr} (h : s.canonical) : (s.addEvent due k i).canonical := h

theorem State.canonical.addLater {k : TileKey} {i : Instr} (h : s.canonical) : (s.addLater k i).canonical := h

theorem State.canonical.giveWalker (h : s.canonical) : s.giveWalker.canonical := by
  unfold State.giveWalker
  dsimp only
  split
  · exact h
  · split
    · exact h
    · exact (h.of_eq (by rfl)).addLater

theorem State.canonical.askWalk {k : TileKey} {i : Instr} (h : s.canonical) : (s.askWalk k i).canonical := (h.of_eq (by rfl)).giveWalker

theorem State.canonical.endWalk {k : TileKey} {i : Instr} (h : s.canonical) : (s.endWalk k i).canonical := (h.of_eq (by rfl)).giveWalker

theorem State.canonical.startJob (h : s.canonical) : s.startJob.canonical := by
  unfold State.startJob
  dsimp only
  split
  · exact h
  · split
    · exact h
    · exact (h.of_eq (by rfl)).addLater

/-! ### The memories through the shared operations -/

theorem State.canonical.timed {sk : Sock} {lat : Nat} {rs : List (RPort × Wide × Wide)} {ev : EvCount} (h : s.canonical) :
    (s.timed sk lat rs ev).canonical := h.modTile (by intro; rfl)

theorem State.canonical.pend {sk : Sock} {ports : List RPort} (h : s.canonical) : (s.pend sk ports).canonical := h.modTile (by intro; rfl)

theorem State.canonical.deliverAs {id : Nat} {l : Delivery} (h : s.canonical) : (s.deliverAs id l).canonical := h.modTile (by intro; rfl)

theorem State.canonical.mapFlights {k : TileKey} {f : List InFlight → List InFlight} (h : s.canonical) : (s.mapFlights k f).canonical :=
  .withRest (.modTileAt h (by intro; rfl))

theorem State.canonical.writeEntries {k : TileKey} {frame snap : Bool} (h : s.canonical) : (s.writeEntries k frame snap).canonical := by
  unfold State.writeEntries
  extract_lets a u
  have hu : u.canonical := by
    dsimp only [u]
    split
    · exact h.memWrite.ite h
    · exact h
  split
  · exact hu.memWrite.ite hu
  · exact hu

theorem State.canonical.fillAt {k : TileKey} {id due : Nat} {rs : List (RPort × Wide)} (h : s.canonical) :
    (s.fillAt k id due rs).canonical := h.mapFlights.writeEntries.ite h.mapFlights

theorem State.canonical.chargeAt {k : TileKey} {id : Nat} {ev : EvCount} (h : s.canonical) : (s.chargeAt k id ev).canonical :=
  h.mapFlights

theorem State.canonical.answer {sk : Sock} {due : Nat} {rs : List (RPort × Wide)} (h : s.canonical) : (s.answer sk due rs).canonical :=
  h.modTile (by intro; rfl)

theorem State.canonical.lockedBy {sk : Sock} {bound : Option Nat} {rs : List (RPort × Wide)} (h : s.canonical) :
    (s.lockedBy sk bound rs).canonical := (h.of_eq (by rfl)).answer

theorem State.canonical.locked {sk : Sock} {rs : List (RPort × Wide)} (h : s.canonical) : (s.locked sk rs).canonical := h.lockedBy

theorem State.canonical.logError {part : BitVec 4} {die : DieId} {r : ErrRec} (h : s.canonical) :
    (s.logError part die r).canonical := h

theorem State.canonical.logTaken {k : TileKey} {c : Cause} (h : s.canonical) : (s.logTaken k c).canonical := h.logError.ite h

theorem State.canonical.rollbackAt {k : TileKey} (h : s.canonical) : (s.rollbackAt k).canonical :=
  ((h.foldl fun h => h.modTileAt (by intro; rfl)).modTileAt (by intro; rfl)).of_map rfl rfl fun _ => ite_scratch rfl rfl

theorem State.canonical.takeTrapAt {k : TileKey} {c : Cause} (h : s.canonical) : (s.takeTrapAt k c).canonical := by
  have hs {b : Prop} [Decidable b] : (if b then s.spend else s).canonical := h.spend.ite h
  have frozen {a b : Prop} [Decidable a] [Decidable b] {l : List TileKey} {v : Bool} :
      (l.foldl (fun s j => s.modTileAt j (Tile.freeze v))
        (if a then (if b then s.spend else s).rollbackAt k else if b then s.spend else s)).canonical :=
    (hs.rollbackAt.ite hs).foldl fun h => h.modTileAt (Tile.freeze_scratch v)
  have recorded {x : Cause} {u : State} (hu : u.canonical) : (u.modTileAt k fun t => t.recordCause x).canonical :=
    hu.modTileAt fun t => t.recordCause_scratch x
  unfold State.takeTrapAt
  refine .ite (hs.ite (hs.setTileAt (State.canonical_tileAt hs k))) ?_
  dsimp only
  split
  · exact .ite (.askWalk (.logTaken (recorded frozen))) (.addLater (.logTaken (recorded frozen)))
  · exact .logTaken (recorded frozen)

theorem State.canonical.takeTrap {c : Cause} (h : s.canonical) : (s.takeTrap c).canonical := h.takeTrapAt

theorem State.canonical.settlePassed {k : TileKey} (h : s.canonical) : (s.settlePassed k).canonical :=
  h.ite (h.modTileAt (by intro; rfl)).rollbackAt

theorem State.canonical.takeHeld {k : TileKey} (h : s.canonical) : (s.takeHeld k).canonical := by
  unfold State.takeHeld
  dsimp only
  split
  · exact h.settlePassed
  · exact (h.settlePassed.modTileAt (by intro; rfl)).takeTrapAt

theorem State.canonical.thawSet {k : TileKey} (h : s.canonical) : (s.thawSet k).canonical :=
  (h.foldl (fun h => (h.modTileAt Tile.thaw_scratch))).foldl fun h => h.ite h.takeHeld

theorem State.canonical.writeByteAt {k : TileKey} {p : Place} {v mask : Byte} (h : s.canonical) :
    (s.writeByteAt k p v mask).canonical := by
  unfold State.writeByteAt
  split
  · exact h.spWrite
  · exact h.memWrite

theorem State.canonical.writeEach {k : TileKey} {p : Place} {l : List (Nat × Byte × Byte)} (h : s.canonical) :
    (s.writeEach k p l).canonical := by
  induction l generalizing s with
  | nil => exact h
  | cons x l ih => exact ih h.writeByteAt

theorem State.canonical.unpoison {k : TileKey} {p : Place} {is : List Nat} (h : s.canonical) : (s.unpoison k p is).canonical := by
  unfold State.unpoison
  split
  · exact h.ite (h.modTileAt (by intro; rfl))
  · exact h.ite h

theorem State.canonical.writeBytesAt {k : TileKey} {p : Place} {bs : List (Nat × Byte × Byte)} (h : s.canonical) :
    (s.writeBytesAt k p bs).canonical := h.writeEach.unpoison

theorem State.canonical.tagByte {k : TileKey} {p : Place} {chain : Bool} {tag : RelTag} (h : s.canonical) :
    (s.tagByte k p chain tag).canonical := by
  unfold State.tagByte
  dsimp only
  split
  · exact h.modTileAt (by intro; rfl)
  · exact h

theorem State.canonical.tagBytes {k : TileKey} {p : Place} {chain : Bool} {tag : RelTag} {l : List Nat} (h : s.canonical) :
    (s.tagBytes k p chain tag l).canonical := by
  induction l generalizing s with
  | nil => exact h
  | cons i l ih => exact ih h.tagByte

theorem State.canonical.untag {k : TileKey} {p : Place} {n : Nat} (h : s.canonical) : (s.untag k p n).canonical := by
  unfold State.untag
  split
  · exact h.ite (h.modTileAt (by intro; rfl))
  · exact h.ite h

theorem State.canonical.spreadLate {fs : List Fence} {v : VClock} (h : s.canonical) : (s.spreadLate fs v).canonical := by
  unfold State.spreadLate
  split
  · exact h
  · exact h.of_map rfl rfl fun _ => rfl

theorem State.canonical.lateTails {k : TileKey} {id : Nat} {v : VClock} (h : s.canonical) : (s.lateTails k id v).canonical := h.modCtx

theorem State.canonical.lateEdge {k : TileKey} {path id : Nat} {v : VClock} (h : s.canonical) : (s.lateEdge k path id v).canonical :=
  h.ite (h.modTileAt (by intro; rfl)).lateTails.spreadLate

theorem State.canonical.seeTags {k : TileKey} {id : Nat} {tags : List RelTag} (h : s.canonical) : (s.seeTags k id tags).canonical :=
  (h.modTileAt (fun u => Tile.seeTags_scratch u _ _)).lateEdge.foldl fun h => h.spreadLate

theorem State.canonical.noteFlag {k : TileKey} {path id : Nat} {p : Place} {n : Nat} (h : s.canonical) :
    (s.noteFlag k path id p n).canonical := h.lateEdge

theorem State.canonical.noteTags {k : TileKey} {id : Nat} {tags : List RelTag} (h : s.canonical) : (s.noteTags k id tags).canonical :=
  h.ite h.seeTags

theorem State.canonical.noteRead {k : TileKey} {id : Nat} {p : Place} {n : Nat} (h : s.canonical) : (s.noteRead k id p n).canonical :=
  h.noteTags

theorem State.canonical.markGLoads {owner : TileKey} {line : Nat} {writer : TileKey} {v : VClock} (h : s.canonical) :
    (Machine.markGLoads s owner line writer v).canonical := by
  refine h.of_map rfl rfl fun x => ?_
  split
  · rfl
  · rfl

theorem State.canonical.noteGLoads {k : TileKey} {p : Place} {is : List Nat} {v : VClock} (h : s.canonical) :
    (s.noteGLoads k p is v).canonical := by
  unfold State.noteGLoads
  split
  · exact h
  · exact h.foldl fun h => h.markGLoads

theorem State.canonical.noteLines {k : TileKey} {p : Place} {is : List Nat} {v : VClock} {plain : Bool} (h : s.canonical) :
    (s.noteLines k p is v plain).canonical := by
  unfold State.noteLines
  split
  · exact h
  · exact (h.foldl fun h => h.modTileAt (by intro; rfl)).noteGLoads

theorem State.canonical.noteWrite {k : TileKey} {p : Place} {is : List Nat} {v : VClock} {rel : List (BitVec 3 × VClock)}
    {plain chain : Bool} (h : s.canonical) : (s.noteWrite k p is v rel plain chain).canonical := h.tagBytes.noteLines

theorem State.canonical.performStore {k : TileKey} {g : Gated} (h : s.canonical) : (s.performStore k g).canonical := by
  unfold State.performStore
  split
  · exact h.ite h.writeBytesAt.tagBytes
  · exact h

theorem State.canonical.performAtom {k : TileKey} {a : AtomReq} (h : s.canonical) : (s.performAtom k a).canonical := by
  unfold State.performAtom
  split
  · exact h.takeTrapAt
  · exact ((h.noteRead.writeBytesAt.noteWrite.modTileAt (fun u => Tile.countLate_scratch u _)).of_eq (by rfl)).fillAt

theorem State.canonical.performLs {k : TileKey} {o : LsOp} (h : s.canonical) : (s.performLs k o).canonical := by
  unfold State.performLs
  split
  · exact h.performStore
  · exact h.performAtom

theorem State.canonical.flushLs {k : TileKey} (h : s.canonical) : (s.flushLs k).canonical :=
  (h.modTileAt (by intro; rfl)).foldl fun h => h.performLs

theorem State.canonical.yieldStep {p : Place} (h : s.canonical) : (s.yieldStep p).canonical := by
  unfold State.yieldStep
  split
  · exact h
  · exact h.spend.modCtx.ite h

theorem State.canonical.noteLanes {p : Place} {n : Nat} (h : s.canonical) : (s.noteLanes p n).canonical := by
  unfold State.noteLanes
  dsimp only
  split
  · exact h.noteTags
  · exact h.noteTags.foldl fun h => h.modTileAt (by intro; rfl)

theorem State.canonical.noteLoad {p : Place} {n : Nat} (h : s.canonical) : (s.noteLoad p n).canonical := h.noteLanes.yieldStep

theorem State.canonical.gate {u : Twin} {place : Place} {kind : GKind} {addr : Word} (h : s.canonical) :
    (s.gate u place kind addr).canonical := h.modTile (by intro; rfl)

theorem State.canonical.commitCell {g : Gated} {v : Word} (h : s.canonical) : (s.commitCell g v).canonical := by
  unfold State.commitCell
  split
  · exact h.flushLs.writeBytesAt.noteWrite.modTileAt (fun u => Tile.setFull_scratch u _)
  · exact h

theorem State.canonical.commitNow {g : Gated} (h : s.canonical) : (s.commitNow g).canonical := by
  unfold State.commitNow
  split
  · exact (h.modTile (by intro; rfl)).noteLines.flushLs.performStore.ite
      ((h.modTile (by intro; rfl)).noteLines.modTile (by intro; rfl)).addLater
  · exact h.commitCell
  · exact h.commitCell
  · split
    · exact h.flushLs.modTileAt (by intro; rfl)
    · exact h
  · exact h.modCtx

theorem State.canonical.commitOne {g : Gated} (h : s.canonical) : (s.commitOne g).canonical := (h.of_eq (by rfl)).ite h.commitNow

/-! ### The memories through restart regions -/

theorem State.canonical.performFenced (h : s.canonical) : s.performFenced.canonical := h.flushLs.ite h

theorem State.canonical.commitAll {gs : List Gated} (h : s.canonical) : (s.commitAll gs).canonical := h.foldl fun h => h.commitOne

theorem State.canonical.commitRegion (h : s.canonical) : s.commitRegion.canonical := h.flushLs.commitAll.performFenced.modTile (by simp)

/-! ### The memories through the slots -/

theorem State.canonical.consume {ps : List (Sock × RPort)} (h : s.canonical) : (s.consume ps).canonical := by
  unfold State.consume
  split
  · exact h
  · exact h.modTile (by intro; rfl)

theorem State.canonical.takeBundleTrap {c : Cause} {id : Option Nat} (h : s.canonical) : (s.takeBundleTrap c id).canonical :=
  (h.modTile (by intro; rfl)).takeTrap.ite h.takeTrap

theorem State.canonical.runHooks {x : Hooks} {ports : List (Sock × RPort)} (h : s.canonical) (hx : x.Keeps) :
    (s.runHooks x ports).canonical := by
  unfold State.runHooks
  split
  · exact h
  · split
    · exact h.takeTrap
    · split
      · exact h.takeTrap
      · split
        · exact h.takeBundleTrap
        · exact hx _ h.consume

theorem State.canonical.runScalar {sk : Sock} {hk : Wide → Word → Hooks} {src : Src} {g : Guard} (h : s.canonical)
    (hx : ∀ t g, (hk t g).Keeps) : Out.canonical (Machine.runScalar sk hk src g s) :=
  .ite (.next h) (.ite (.next h) (.ite (.next h.takeTrap) (.ite (.next h) (.ite (.next h.takeTrap) (.next (h.runHooks (hx _ _)))))))

theorem State.canonical.runVector {sk : Sock} {hk : Wide → Word → Hooks} {md : SrcMod} {src : Src} {g : Guard} (h : s.canonical)
    (hx : ∀ t g, (hk t g).Keeps) : Out.canonical (Machine.runVector sk hk md src g s) :=
  .ite (.next h) (.ite (.next h.takeTrap) (.ite (.next h) (.ite (.next h.takeTrap) (.next (h.runHooks (hx _ _))))))

theorem State.canonical.runEither {sk : Sock} {hk : Wide → Word → Hooks} {md : Option SrcMod} {src : Src} {g : Guard} (h : s.canonical)
    (hx : ∀ t g, (hk t g).Keeps) : Out.canonical (Machine.runEither sk hk md src g s) := by
  cases md with
  | none => exact h.runScalar hx
  | some md => exact h.runVector hx

/-! ### The memories through the lanes -/

theorem State.canonical.laneResult {sk : Sock} {lat w : Nat} {g : Word} {f : Nat → Res} (h : s.canonical) :
    (s.laneResult sk lat w g f).canonical := h.timed

theorem laneHooks_keeps {sk : Sock} {lat w : Nat} {t : Wide} {g : Word} {f : Nat → Nat → Nat → Nat → Res} :
    (laneHooks sk lat w t g f).Keeps := fun _ h => h.laneResult

theorem cmpHooks_keeps {sk : Sock} {op : Cmp} {ty : ElTy} {t : Wide} {g : Word} : (cmpHooks sk op ty t g).Keeps := fun _ h => h.timed

theorem bitHooks_keeps {sk : Sock} {t : Wide} {g : Word} {f : Wide → Wide → Wide} : (bitHooks sk t g f).Keeps := fun _ h => h.timed

theorem absHooks_keeps {isNeg : Bool} {sk : Sock} {t : Wide} {g : Word} : (absHooks isNeg sk t g).Keeps := fun _ h => h.laneResult

theorem cvtHooks_keeps {sk : Sock} {t : Wide} {g : Word} : (cvtHooks sk t g).Keeps := fun _ h => h.timed

theorem reduceHooks_keeps {op lat : Nat} {sk : Sock} {t : Wide} {g : Word} : (reduceHooks op lat sk t g).Keeps := fun _ h =>
  h.timed

theorem sfuHooks_keeps {fn : Sfu} {f : Fmt} {t : Wide} {g : Word} : (sfuHooks fn f t g).Keeps := laneHooks_keeps

/-! ### The memories through perm -/

theorem permHooks_keeps {w : Nat} {t : Wide} {g : Word} {f : (Nat → Nat) → (Nat → Nat) → (Nat → Nat) → Nat → Nat} :
    (permHooks w t g f).Keeps := fun _ h => h.laneResult

theorem packHooks_keeps {f : IFmt} {t : Wide} {g : Word} : (packHooks f t g).Keeps := fun _ h => h.laneResult

theorem widenHooks_keeps {f : IFmt} {t : Wide} {g : Word} : (widenHooks f t g).Keeps := fun _ h => h.laneResult

theorem unpk5Hooks_keeps {t : Wide} {g : Word} : (unpk5Hooks t g).Keeps := fun _ h => h.timed

theorem pack5Hooks_keeps {t : Wide} {g : Word} : (pack5Hooks t g).Keeps := fun _ h => h.timed

theorem unpkgHooks_keeps {four : Bool} {t : Wide} {g : Word} : (unpkgHooks four t g).Keeps := fun _ h => h.laneResult

theorem qntgHooks_keeps {ty : GT3} {t : Wide} {g : Word} : (qntgHooks ty t g).Keeps := fun _ h => h.timed

theorem vcmprHooks_keeps {ty : ElTy} {t : Wide} {g : Word} : (vcmprHooks ty t g).Keeps := fun _ h => h.timed

theorem vtopkHooks_keeps {ty : ElTy} {t : Wide} {g : Word} : (vtopkHooks ty t g).Keeps := fun _ h => h.timed

theorem vsortHooks_keeps {ty : ElTy} {t : Wide} {g : Word} : (vsortHooks ty t g).Keeps := fun _ h => h.timed

theorem hkVslide_keeps {ty : W3} {t : Wide} {g : Word} : (hkVslide ty t g).Keeps := fun _ h => h.laneResult

/-! ### The memories through lsu -/

theorem State.canonical.loadResult {u : Twin} {addr : Word} {lat : Nat} {v : Wide} {ev : EvCount} (h : s.canonical) :
    (s.loadResult u addr lat v ev).canonical := by
  unfold State.loadResult
  split
  · exact h.timed
  · exact h.timed
  · exact h.locked.deliverAs

theorem loadHooks_keeps {u : Twin} {align n : Nat} {f : Nat → Wide} {t : Wide} : (loadHooks u align n f t).Keeps := by
  intro s h
  dsimp only [loadHooks]
  split
  · exact h
  · exact h.flushLs.noteLoad.loadResult

theorem ldHooks_keeps {u : Twin} {w : Nat} {signed : Bool} {t : Wide} : (ldHooks u w signed t).Keeps := loadHooks_keeps

theorem storeHooks_keeps {u : Twin} {align n : Nat} {bytes : State → List (Nat × Byte × Byte)} {t : Wide} :
    (storeHooks u align n bytes t).Keeps := by
  intro s h
  dsimp only [storeHooks, Hooks.stalled]
  split
  · exact h
  · exact h.gate

theorem stHooks_keeps {u : Twin} {w : Nat} {t : Wide} : (stHooks u w t).Keeps := storeHooks_keeps

theorem vstrHooks_keeps {u : Twin} {t : Wide} : (vstrHooks u t).Keeps := storeHooks_keeps

theorem State.canonical.noteScales {ps : List Place} (h : s.canonical) : (s.noteScales ps).canonical := h.foldl fun h => h.noteLoad

theorem vldHooks_keeps {u : Twin} {t : Wide} : (vldHooks u t).Keeps := by
  intro s h
  dsimp only [vldHooks]
  split
  · split
    · exact h
    · exact h.flushLs.noteLoad.loadResult
  · split
    · exact h.flushLs
    · split
      · exact h.flushLs.noteLoad.noteScales.loadResult
      · exact h.flushLs

theorem vstHooks_keeps {u : Twin} {t : Wide} : (vstHooks u t).Keeps := by
  intro s h
  dsimp only [vstHooks]
  split
  · exact vstrHooks_keeps s h
  · split
    · exact h
    · exact h.noteScales.gate.modTile (by intro; rfl)

theorem vldgHooks_keeps {u : Twin} {t : Wide} : (vldgHooks u t).Keeps := fun _ h =>
  (h.flushLs.foldl fun h => h.noteLanes).timed.deliverAs.modTile (by intro; rfl)

theorem vstsHooks_keeps {u : Twin} {t : Wide} : (vstsHooks u t).Keeps := fun _ h => h.gate

theorem gldHooks_keeps {u : Twin} {trapping : Bool} {t : Wide} : (gldHooks u trapping t).Keeps := fun _ h =>
  ((h.flushLs.foldl fun h => h.noteFlag).pend.modTile (by intro; rfl)).addLater

theorem State.canonical.execGroupLoadCombine (h : s.canonical) : Out.canonical (Machine.execGroupLoadCombine s) := by
  unfold Machine.execGroupLoadCombine
  split
  · exact .next h
  · exact .next ((h.of_eq (by rfl)).fillAt.chargeAt.modTile (by intro; rfl))

theorem cellWriteHooks_keeps {u : Twin} {kind : Word → GKind} {t : Wide} : (cellWriteHooks u kind t).Keeps := by
  intro s h
  dsimp only [cellWriteHooks, Hooks.stalled]
  split
  · exact h
  · exact h.gate

theorem State.canonical.readCell {r : CellRd} (h : s.canonical) : (s.readCell r).canonical :=
  .fillAt (.withRest (.modTile (.ite (.modTileAt h.noteRead (by intro; rfl)) h.noteRead) (by intro; rfl)))

theorem State.canonical.execCellReadSatisfied (h : s.canonical) : Out.canonical (Machine.execCellReadSatisfied s) := by
  unfold Machine.execCellReadSatisfied
  split
  · exact .next h
  · split
    · exact .next h.takeTrap
    · exact .next h.readCell

theorem cellReadHooks_keeps {u : Twin} {consume : Bool} {t : Wide} : (cellReadHooks u consume t).Keeps := by
  intro s h
  dsimp only [cellReadHooks]
  split
  · exact (((h.flushLs.pend.modTile (by intro; rfl)).gate.ite (h.flushLs.pend.modTile (by intro; rfl))).readCell).ite
      ((h.flushLs.pend.modTile (by intro; rfl)).gate.ite (h.flushLs.pend.modTile (by intro; rfl)))
  · exact h

theorem atomHooks_keeps {u : Twin} {op : AtomOp} {wide : Bool} {t : Wide} : (atomHooks u op wide t).Keeps := by
  intro s h
  dsimp only [atomHooks]
  split
  · exact h
  · exact (h.pend.modTile (by intro; rfl)).addLater

theorem State.canonical.performFirst {k : TileKey} {n : Nat} (h : s.canonical) : (s.performFirst k n).canonical :=
  (h.modTileAt (by intro; rfl)).foldl fun h => h.performLs

theorem State.canonical.execStorePerformed (h : s.canonical) : Out.canonical (Machine.execStorePerformed s) := by
  unfold Machine.execStorePerformed
  split
  · exact .next (h.modTile (by intro; rfl)).performLs
  · exact .next h.addEvent
  · exact .next h

theorem State.canonical.execAtomicPerform (h : s.canonical) : Out.canonical (Machine.execAtomicPerform s) := .next h.performFirst

theorem osaddHooks_keeps {u : Twin} {isF : Bool} {t : Wide} : (osaddHooks u isF t).Keeps := by
  intro s h
  dsimp only [osaddHooks, Hooks.stalled]
  split
  · exact h
  · exact (h.flushLs.modTile (by intro; rfl)).modCtx.foldl fun h => h.addLater

/-! ### The memories through the ends of tasks and courses -/

theorem State.canonical.flushOne {part : BitVec 4} {ep : BitVec 7} (h : s.canonical) : (s.flushOne part ep).canonical := by
  unfold State.flushOne
  split
  · exact h.ite h.memWrite
  · exact h

theorem State.canonical.flushInbox {part : BitVec 4} {ep : BitVec 7} {n : Nat} (h : s.canonical) :
    (s.flushInbox part ep n).canonical := by
  induction n generalizing s with
  | zero => exact h
  | succ n ih => exact ih h.flushOne

theorem State.canonical.post {part : BitVec 4} {ep : BitVec 7} {ws : List Word} (h : s.canonical) : (s.post part ep ws).canonical :=
  (h.of_eq (by rfl)).flushInbox

theorem State.canonical.faultMessage {c : Ctx} {q : BitVec 4} {serial : Nat} {info : List Word} (h : s.canonical) :
    (s.faultMessage c q serial info).canonical := h.post

theorem State.canonical.closeTask {k : TileKey} (h : s.canonical) : (s.closeTask k).canonical := by
  unfold State.closeTask
  split
  · exact h
  · exact (h.modTileAt (fun u => Tile.bumpAll_scratch u _)).modCtx

theorem State.canonical.abandonAt {k : TileKey} (h : s.canonical) : (s.abandonAt k).canonical :=
  .modCtx (.withRest (.modTileAt (.mapTiles h.closeTask fun _ _ => ite_scratch rfl rfl) Tile.abandon_scratch))

theorem State.canonical.dropOrbits {c : CtxId} {q : BitVec 4} {serial : Nat} (h : s.canonical) : (s.dropOrbits c q serial).canonical :=
  .modCtx (h.mapTiles fun _ _ => ite_scratch rfl rfl)

theorem State.canonical.leaveQueue {c : CtxId} {q : BitVec 4} {x : Course} (h : s.canonical) : (s.leaveQueue c q x).canonical :=
  .modCtx (h.mapTiles fun _ _ => ite_scratch rfl rfl)

theorem State.canonical.endCourse {c : CtxId} {q : BitVec 4} {serial : Nat} {info : List Word} (h : s.canonical) :
    (s.endCourse c q serial info).canonical := by
  unfold State.endCourse
  split
  · exact h
  · exact (h.foldl .abandonAt).dropOrbits.leaveQueue.modCtx.faultMessage

theorem State.canonical.spillExhausted {c : CtxId} {q : BitVec 4} {serial : Nat} (h : s.canonical) :
    (s.spillExhausted c q serial).canonical := h.endCourse

theorem State.canonical.execCourseEndByFault (h : s.canonical) : Out.canonical (Machine.execCourseEndByFault s) := by
  unfold Machine.execCourseEndByFault
  refine .ite (.next h) ?_
  split
  · exact .next h.abandonAt
  · exact .next h.endCourse

/-! ### The memories through translation -/

theorem State.canonical.tlbFill {d : DieId} {l : Leaf} (h : s.canonical) : (s.tlbFill d l).canonical := h.ite h.modDie

theorem State.canonical.touchMem {c : CtxId} {pa : Nat} (h : s.canonical) : (s.touchMem c pa).canonical := h.ite h.modCtx

theorem State.canonical.touchSpace {asid : BitVec 16} {pa : Nat} (h : s.canonical) : (s.touchSpace asid pa).canonical := h.ite h.mapCtxs

theorem State.canonical.writeH {k : TileKey} {r : XlatReq} {x : Handle} (h : s.canonical) : (s.writeH k r x).canonical :=
  h.modTileAt (by intro; rfl)

theorem State.canonical.finishXlat {k : TileKey} {r : XlatReq} {x : Handle} {bound : Option Nat} (h : s.canonical) :
    (s.finishXlat k r x bound).canonical := .fillAt (.writeH h)

theorem State.canonical.answerXlt {k : TileKey} {id : Nat} {v : Word} (h : s.canonical) : (s.answerXlt k id v).canonical :=
  ((h.of_eq (by rfl)).modTileAt (by intro; rfl)).fillAt

theorem State.canonical.stepXlt {k : TileKey} {r : XlatReq} (h : s.canonical) : (s.stepXlt k r).canonical := by
  unfold State.stepXlt
  dsimp only
  split
  · exact h.writeH
  · exact h.answerXlt
  · exact h.answerXlt
  · split
    · exact h.touchMem.finishXlat
    · exact (h.modTileAt (by intro; rfl)).askWalk

theorem State.canonical.runXlt {k : TileKey} {n : Nat} (h : s.canonical) : (s.runXlt k n).canonical := by
  induction n generalizing s with
  | zero => exact h
  | succ n ih =>
    unfold State.runXlt
    split
    · exact h
    · exact h.ite (ih h.stepXlt)

theorem State.canonical.askXlt {op : XltOp} {n : BitVec 4} {va : BitVec 56} (h : s.canonical) : (s.askXlt op n va).canonical :=
  (h.pend.modTile (by intro; rfl)).ite (h.pend.modTile (by intro; rfl)).runXlt

theorem xlatHooks_keeps {op : XltOp} {t : Wide} : (xlatHooks op t).Keeps := fun _ h => h.askXlt

theorem handleHooks_keeps {op : XltOp} {t : Wide} : (handleHooks op t).Keeps := fun _ h => h.askXlt

theorem State.canonical.writeEntry {at_ : Nat} {f : Nat → Nat} (h : s.canonical) : (s.writeEntry at_ f).canonical := h.memWrite

theorem State.canonical.tlbDrop {pg : PageRef} (h : s.canonical) : (s.tlbDrop pg).canonical := h

theorem State.canonical.revokeSaved {base : Nat} {p : Handle → Bool} (h : s.canonical) : (s.revokeSaved base p).canonical :=
  h.foldl fun h => h.memWrite.ite h

theorem State.canonical.markMoving {r : PageReq} (h : s.canonical) : (s.markMoving r).canonical := by
  unfold State.markMoving
  split
  · exact h.writeEntry
  · exact h

theorem State.canonical.beginPage {r : PageReq} (h : s.canonical) : (s.beginPage r).canonical := by
  unfold State.beginPage
  split
  · exact h
  · refine .foldl (.withRest (.foldl (.withRest ?_) fun h => h.revokeSaved)) fun h => h.addLater
    exact .mapTiles h.markMoving.tlbDrop fun _ _ => ite_scratch rfl rfl

theorem State.canonical.endPage {r : PageReq} (h : s.canonical) : (s.endPage r).canonical := h

theorem State.canonical.noteWalk {asid : BitVec 16} {va : BitVec 56} (h : s.canonical) : (s.noteWalk asid va).canonical := by
  unfold State.noteWalk
  split
  · exact h
  · exact h

theorem State.canonical.changeEntry {r : PageReq} {at_ entry : Nat} (h : s.canonical) : (s.changeEntry r at_ entry).canonical :=
  ((h.writeEntry.foldl fun h => h.touchSpace).of_eq (by rfl)).foldl fun h => h.tlbDrop

theorem State.canonical.submitChange {r : PageReq} {at_ entry : Nat} (h : s.canonical) : (s.submitChange r at_ entry).canonical :=
  (h.of_eq (by rfl)).changeEntry.ite h

theorem State.canonical.freeCopies {r : PageReq} (h : s.canonical) : (s.freeCopies r).canonical := h

theorem State.canonical.startPage {r : PageReq} (h : s.canonical) : (s.startPage r).canonical := by
  unfold State.startPage
  dsimp only
  split
  · exact (h.beginPage.endPage.freeCopies.ite h.beginPage.addLater).ite h.beginPage
  · exact h.beginPage

theorem State.canonical.declinePage {r : PageReq} (h : s.canonical) : (s.declinePage r).canonical := h.noteWalk.endPage

theorem State.canonical.execRevokeHandles (h : s.canonical) : Out.canonical (Machine.execRevokeHandles s) := by
  unfold Machine.execRevokeHandles
  split
  · exact .next h
  · refine .ite (.next h.endPage.freeCopies) (.ite (.next h.declinePage) ?_)
    split
    · exact .next (h.of_eq (by rfl)).askWalk
    · exact .next h.changeEntry
    · exact .next h.startPage

theorem State.canonical.dropServe {k : TileKey} {i : Instr} (h : s.canonical) : (s.dropServe k i).canonical := h

theorem State.canonical.queueServe {k : TileKey} {i : Instr} {asid : BitVec 16} {va : BitVec 56} (h : s.canonical) :
    (s.queueServe k i asid va).canonical := .ite h h

theorem State.canonical.askEndDup {k : TileKey} {i : Instr} {l : Leaf} {va : BitVec 56} (h : s.canonical) :
    (s.askEndDup k i l va).canonical := h.queueServe

theorem State.canonical.execRevocationAck {die : DieId} {pg : PageRef} (h : s.canonical) :
    Out.canonical (Machine.execRevocationAck die pg s) := by
  unfold Machine.execRevocationAck
  split
  · exact .next h
  · exact .ite (.next h.addEvent) (.next ((h.of_eq (by rfl)).addLater.ite h))

theorem State.canonical.takeFrame {d : DieId} {sz : BitVec 2} (h : s.canonical) : (s.takeFrame d sz).2.canonical := h

theorem State.canonical.takeTable (h : s.canonical) : s.takeTable.2.canonical := h.spend.takeFrame

theorem State.canonical.moveSpill {asid : BitVec 16} {new n : Nat} (h : s.canonical) : (s.moveSpill asid new n).canonical :=
  h.foldl fun h => h.foldl fun h => h.spillExhausted

theorem State.canonical.execMigratePage (h : s.canonical) : Out.canonical (Machine.execMigratePage s) := by
  unfold Machine.execMigratePage
  split
  · exact .next h
  · split
    · refine .ite (.next (h.startPage.ite h.declinePage)) (.ite (.next h) ?_)
      have hp {d sz} {c : Prop} [Decidable c] := State.canonical.ite_snd (c := c) (h.takeFrame (d := d) (sz := sz)) (q := (none, _)) h
      split
      next e => exact .next (hp.of_snd e).writeEntry.endPage
      next e => exact .next ((hp.of_snd e).mapCtxs.copyRange.of_eq (by rfl)).writeEntry.touchSpace.moveSpill.endPage
    · exact .next h.declinePage

theorem State.canonical.makeCopies {l : Leaf} {ds : List Nat} (h : s.canonical) : (s.makeCopies l ds).2.canonical := by
  refine List.foldlRecOn (motive := fun acc : List (DieId × Nat) × State => acc.2.canonical) ds _ h fun acc ha d _ => ?_
  split
  next e => exact ha.takeFrame.of_snd e
  next e => exact (ha.takeFrame.of_snd e).copyRange.touchSpace

theorem State.canonical.execDuplicatePage (h : s.canonical) : Out.canonical (Machine.execDuplicatePage s) := by
  unfold Machine.execDuplicatePage
  split
  · exact .next h
  · split
    · exact .ite (.next h) (.ite (.next h.declinePage) (.ite (.next h.startPage) (.ite (.next h)
        (.next (h.makeCopies.of_eq (by rfl)).writeEntry.tlbDrop.endPage))))
    · exact .next h.declinePage

theorem State.canonical.execDuplicationEnd (h : s.canonical) : Out.canonical (Machine.execDuplicationEnd s) := by
  unfold Machine.execDuplicationEnd
  split
  · exact .next h
  · split
    · exact .next h.declinePage
    · exact .ite (.next h.startPage) (.ite (.next h) (.next (h.of_eq (by rfl)).writeEntry.endPage))

theorem State.canonical.logWalk {k : TileKey} {va : BitVec 56} (h : s.canonical) : (s.logWalk k va).canonical := h

theorem State.canonical.takeWalk {r : XlatReq} {x : Handle} (h : s.canonical) : (s.takeWalk r x).canonical :=
  (h.modTile (by intro; rfl)).addEvent.ite h.finishXlat.runXlt

theorem State.canonical.execPageTableWalk (h : s.canonical) : Out.canonical (Machine.execPageTableWalk s) := by
  unfold Machine.execPageTableWalk
  dsimp only
  split
  · exact .next h.endWalk.dropServe
  · refine .ite (.next h.endWalk.dropServe) ?_
    split
    · exact .next h.endWalk.dropServe.takeWalk
    · refine .ite (.next h.endWalk.queueServe) ?_
      split
      · exact .next h.endWalk.dropServe.takeWalk
      · exact .next h.endWalk.dropServe.logWalk.takeWalk
      · exact .ite (.next h.endWalk.queueServe) (.ite (.next h.endWalk.dropServe.takeWalk)
          (.ite (.next h.endWalk.askEndDup) (.next h.endWalk.dropServe.tlbFill.touchMem.takeWalk)))

theorem State.canonical.makeTables {va : BitVec 56} {n table : Nat} (h : s.canonical) : (s.makeTables va n table).canonical :=
  ⟨s.makeTables_wf va n table h.1, by rw [State.makeTables_tiles]; exact h.2⟩

theorem State.canonical.mapFrame {a : AddrSpace} {va : BitVec 56} {rights f : Nat} (h : s.canonical) :
    (s.mapFrame a va rights f).canonical := by
  unfold State.mapFrame
  dsimp only
  split
  · exact h.makeTables.zeroRange.memWrite.touchSpace
  · exact h.makeTables

theorem State.canonical.mapPage {a : AddrSpace} {va : BitVec 56} {rights : Nat} (h : s.canonical) : (s.mapPage a va rights).canonical :=
  ⟨s.mapPage_wf a va rights h.1, by rw [State.mapPage_tiles]; exact h.2⟩

theorem State.canonical.backPage {asid : BitVec 16} {va : BitVec 56} {need : Need} (h : s.canonical) :
    (s.backPage asid va need).canonical := by
  unfold State.backPage
  split
  · exact h
  · dsimp only
    split
    · exact (h.spend.mapPage.of_eq (by rfl)).memWrite
    · exact h.spend.mapPage

theorem State.canonical.policyBacks (h : s.canonical) : s.policyBacks.2.canonical := h

theorem State.canonical.execHandleFaultService (h : s.canonical) : Out.canonical (Machine.execHandleFaultService s) := by
  have rest : ((s.endWalk s.cur .handleFaultService).dropServe (s.endWalk s.cur .handleFaultService).cur .handleFaultService).canonical :=
    h.endWalk.dropServe
  have queue {k asid va} : Out.canonical (.next ((s.endWalk s.cur .handleFaultService).queueServe k .handleFaultService asid va)) :=
    .next h.endWalk.queueServe
  unfold Machine.execHandleFaultService
  refine .ite (.next rest) (.ite queue ?_)
  split
  · exact .ite queue (.ite (.next ((rest.modTile (by intro; rfl)).modTile (by intro; rfl)).thawSet)
      (.ite (.next h.endWalk.askEndDup) (.next (rest.tlbFill.touchMem.modTile (by intro; rfl)).thawSet)))
  · exact .next ((rest.logWalk.modTile (by intro; rfl)).modTile (by intro; rfl)).thawSet
  · refine .ite (.next ((rest.policyBacks.modTile (by intro; rfl)).modTile (by intro; rfl)).thawSet) ?_
    dsimp only
    split
    · exact .next (rest.policyBacks.backPage.tlbFill.touchMem.modTile (by intro; rfl)).thawSet
    · exact .next ((rest.policyBacks.backPage.modTile (by intro; rfl)).modTile (by intro; rfl)).thawSet

/-! ### The memories through the walkers -/

theorem State.canonical.replayLocks {k : TileKey} (h : s.canonical) : (s.replayLocks k).canonical := by
  refine h.foldl fun h => ?_
  split
  · exact h.modTileAt (by intro; rfl)
  · exact h.noteWalk

theorem State.canonical.flushBuffers {dies : List DieId} (h : s.canonical) : (s.flushBuffers dies).canonical :=
  h.mapTiles fun _ _ => ite_scratch rfl rfl

theorem State.canonical.enqueue {id : CtxId} {q : BitVec 4} {va : BitVec 56} (h : s.canonical) : (s.enqueue id q va).2.canonical := by
  unfold State.enqueue
  dsimp only
  split
  · exact h
  · split
    · exact h
    · split
      · exact h.noteWalk
      · split
        · exact h
        · split
          · exact h
          · exact h.flushBuffers.modCtx

theorem State.canonical.noteDie {d : DieId} (h : s.canonical) : (s.noteDie d).canonical := h.foldl fun h => h.ite h.modCluster

theorem State.canonical.noteCtx {id : CtxId} (h : s.canonical) : (s.noteCtx id).canonical := h.foldl .noteDie

/-! ### The memories through sync -/

theorem State.canonical.modGroup {k : TileKey} {g : BitVec 8} {f : Group → Group} (h : s.canonical) : (s.modGroup k g f).canonical :=
  h.modCtx

theorem hkJoin_keeps {t : Wide} {g : Word} : (hkJoin t g).Keeps := fun _ h => h.modGroup.locked

theorem hkLeave_keeps {t : Wide} {g : Word} : (hkLeave t g).Keeps := fun _ h => h.modGroup.locked

theorem State.canonical.arrive {ob : BarObj} {gather : Option (Nat × Nat)} {close system : Bool} (h : s.canonical) :
    (s.arrive ob gather close system).canonical := h.modCtx.modTile (by intro; rfl)

theorem hkGbar_keeps {t : Wide} {g : Word} : (hkGbar t g).Keeps := fun _ h => h.arrive

theorem hkCbar_keeps {t : Wide} {g : Word} : (hkCbar t g).Keeps := fun _ h => h.arrive

theorem hkDbar_keeps {t : Wide} {g : Word} : (hkDbar t g).Keeps := fun _ h => h.arrive

theorem hkEvgath_keeps {t : Wide} {g : Word} : (hkEvgath t g).Keeps := fun _ h => h.pend.arrive

theorem State.canonical.applyUpd {u : OsUpd} (h : s.canonical) : (s.applyUpd u).canonical :=
  h.ite (h.memWrite.untag.modTileAt (fun u => Tile.countLate_scratch u _))

theorem State.canonical.spillLine {u : OsUpd} (h : s.canonical) : (s.spillLine u).canonical := h.mapCtxs

theorem State.canonical.updateArrives {id : CtxId} {u : OsUpd} (h : s.canonical) : (s.updateArrives id u).canonical :=
  ((h.modCtx.spillLine.ite h.modCtx).modCtx.spillExhausted).ite ((h.modCtx.spillLine.ite h.modCtx).modCtx)

theorem State.canonical.execOsaddUpdateArrival (h : s.canonical) : Out.canonical (Machine.execOsaddUpdateArrival s) := by
  unfold Machine.execOsaddUpdateArrival
  split
  · exact .next h
  · exact .next h.updateArrives

theorem State.canonical.allArrive {id : CtxId} {q : BitVec 4} {serial : Nat} (h : s.canonical) : (s.allArrive id q serial).canonical :=
  h.foldl fun h => h.updateArrives

theorem State.canonical.closeAdds {id : CtxId} {q : BitVec 4} {serial : Nat} (h : s.canonical) : (s.closeAdds id q serial).canonical := by
  unfold State.closeAdds
  dsimp only
  split
  · exact h.allArrive
  · exact (h.allArrive.foldl .applyUpd).modCtx

theorem State.canonical.gatherRecord {id : CtxId} {die : DieId} {g : BitVec 8} {as : List Arrival} (h : s.canonical) :
    (s.gatherRecord id die g as).canonical := by
  unfold State.gatherRecord
  refine h.ite ?_
  dsimp only
  refine .foldl ?_ fun h => ?_
  · split
    · split
      · exact h.writeBytesAt.noteWrite
      · exact h
    · exact h
  · split
    · exact h
    · exact h.spend.fillAt.ite h.spend.fillAt

theorem State.canonical.endEpisode {id : CtxId} {ob : BarObj} (h : s.canonical) : (s.endEpisode id ob).canonical := by
  unfold State.endEpisode
  extract_lets as keys u v
  have hu : u.canonical := h.foldl fun h => h.flushLs
  have hv : v.canonical := by
    dsimp only [v]
    split
    · exact hu.gatherRecord
    · split
      · split
        · exact hu.closeAdds
        · exact hu
      · exact hu
    · exact hu
  exact hv.ite (hv.foldl fun h => h.modTileAt fun t => t.leaveBarrier_scratch _ _ _ _ _).modCtx

theorem State.canonical.execBarrierEpisodeComplete (h : s.canonical) : Out.canonical (Machine.execBarrierEpisodeComplete s) := by
  unfold Machine.execBarrierEpisodeComplete
  split
  · exact .next h
  · exact .next h.endEpisode

theorem State.canonical.addFence {f : Fence} (h : s.canonical) : (s.addFence f).canonical := h.modTile (by intro; rfl)

theorem hkRelease_keeps {t : Wide} {g : Word} : (hkRelease t g).Keeps := fun _ h => h.addFence.modTile (by intro; rfl)

theorem hkAcquire_keeps {t : Wide} {g : Word} : (hkAcquire t g).Keeps := fun _ h => (h.modTile (by intro; rfl)).addFence

theorem hkXfence_keeps {t : Wide} {g : Word} : (hkXfence t g).Keeps := fun _ h =>
  h.addFence.modTile fun x => (foldl_scratch (fun x _ => x.setVc_scratch _ _) _ _).trans
    (foldl_scratch (fun x _ => x.bump_scratch _ _) _ x)

theorem hkSpawn_keeps {t : Wide} {g : Word} : (hkSpawn t g).Keeps := by
  intro s h
  dsimp only [hkSpawn, Hooks.checked]
  split
  · exact h.flushLs.enqueue.locked
  · exact h.flushLs.enqueue.locked
  · exact h.flushLs.enqueue.locked

theorem hkGrow_keeps {t : Wide} {g : Word} : (hkGrow t g).Keeps := by
  intro s h
  dsimp only [hkGrow, Hooks.checked]
  split
  · exact h
  · exact h.locked.ite h.noteCtx.modCtx.noteCtx.locked

theorem hkMode_keeps {t : Wide} {g : Word} : (hkMode t g).Keeps := fun _ h => h.modTile (by intro; rfl)

theorem hkFrmset_keeps {t : Wide} {g : Word} : (hkFrmset t g).Keeps := fun _ h => (h.modTile (by intro; rfl)).locked.ite h.locked

theorem hkBfset_keeps {t : Wide} {g : Word} : (hkBfset t g).Keeps := fun _ h => (h.modTile (by intro; rfl)).locked.ite h.locked

theorem hkBfget_keeps {t : Wide} {g : Word} : (hkBfget t g).Keeps := fun _ h => h.locked

theorem hkEvrd_keeps {t : Wide} {g : Word} : (hkEvrd t g).Keeps := fun _ h => h.locked

theorem hkEvclr_keeps {t : Wide} {g : Word} : (hkEvclr t g).Keeps := fun _ h => h.modTile (fun u => Tile.mapCore_scratch u _)

/-! ### The memories through mx -/

theorem State.canonical.modMx {f : MxCore → MxCore} (h : s.canonical) : (s.modMx f).canonical := h.modTile (by intro; rfl)

theorem mxcfgHooks_keeps {t : Word} : (mxcfgHooks t).Keeps := fun _ h => h.modMx

theorem wpageHooks_keeps {t : Word} : (wpageHooks t).Keeps := fun _ h => h.modMx

theorem State.canonical.settleStats {k : TileKey} {n : Nat} (h : s.canonical) : (s.settleStats k n).canonical := by
  induction n generalizing s with
  | zero => exact h
  | succ n ih =>
    unfold State.settleStats
    split
    · exact ih (h.fillAt.modTileAt (by intro; rfl))
    · exact h

theorem State.canonical.settleMx (h : s.canonical) : s.settleMx.canonical := h.settleStats

theorem State.canonical.pushMx {f : MxCore → MxCore} {o : Nat → MxOp} (h : s.canonical) : (s.pushMx f o).canonical :=
  (h.flushLs.modTile (by intro; rfl)).modMx

theorem mxstatHooks_keeps {t : Word} : (mxstatHooks t).Keeps := fun _ h => h.pend.deliverAs.modMx.settleMx

theorem wldHooks_keeps {t : Word} : (wldHooks t).Keeps := by
  intro s h
  dsimp only [wldHooks, Hooks.stalled]
  split
  · exact h
  · exact h.pushMx

theorem State.canonical.consumePoison {u : Nat} (h : s.canonical) : (s.consumePoison u).canonical := h.takeTrap

theorem State.canonical.execWldPageWritten (h : s.canonical) : Out.canonical (Machine.execWldPageWritten s) := by
  unfold Machine.execWldPageWritten
  split
  · refine .ite (.next h) ?_
    split
    · exact .next h
    · dsimp only
      split
      · exact .next h.consumePoison
      · exact .next (h.modMx.modTile (fun u => Tile.mapCore_scratch u _)).settleMx
  · exact .next h

theorem astrHooks_keeps {t : Word} : (astrHooks t).Keeps := by
  intro s h
  dsimp only [astrHooks, Hooks.stalled]
  split
  · exact h
  · exact (h.flushLs.modTile (by intro; rfl)).modMx

theorem State.canonical.execAstrPassEntered (h : s.canonical) : Out.canonical (Machine.execAstrPassEntered s) := by
  unfold Machine.execAstrPassEntered
  split
  · refine .ite (.next h) ?_
    dsimp only
    split
    · exact .next h.consumePoison
    · split
      · exact .next (h.modMx.modTile (fun u => Tile.mapCore_scratch u _)).settleMx
      · split
        · exact .next ((h.of_eq (by rfl)).modMx.modTile (fun u => Tile.mapCore_scratch u _)).settleMx
        · exact .next (h.modMx.modTile (fun u => Tile.mapCore_scratch u _)).settleMx
  · exact .next h

theorem mxclrHooks_keeps {t : Word} : (mxclrHooks t).Keeps := fun _ h => h.pushMx

theorem State.canonical.execMxclrTakesEffect (h : s.canonical) : Out.canonical (Machine.execMxclrTakesEffect s) := by
  unfold Machine.execMxclrTakesEffect
  split
  · exact .ite (.next h) (.next h.modMx.settleMx)
  · exact .next h

theorem drainHooks_keeps {t g : Word} : (drainHooks t g).Keeps := fun _ h => h.timed.modMx.ite h.timed

theorem drainstHooks_keeps {t : Word} : (drainstHooks t).Keeps := fun _ h => h.pushMx

theorem State.canonical.execDrainstComplete (h : s.canonical) : Out.canonical (Machine.execDrainstComplete s) := by
  unfold Machine.execDrainstComplete
  split
  · exact .ite (.next h) (.next (h.writeBytesAt.untag.modMx.modTile (fun u => Tile.mapCore_scratch u _)).settleMx)
  · exact .next h

theorem State.canonical.execScrubRow {mac : BitVec 2} {page : BitVec 3} {row : BitVec 8} {parityFails : Bool} (h : s.canonical) :
    Out.canonical (Machine.execScrubRow mac page row parityFails s) := .ite (.next h.addEvent)
      (.ite (.next h) (.next (h.modTile (by intro; rfl)).logError))

/-! ### The memories through orb -/

theorem State.canonical.modOrbit {f : Orbit → Orbit} (h : s.canonical) : (s.modOrbit f).canonical := h.modCtx

theorem State.canonical.modStations {f : TileKey → Station → Station} (h : s.canonical) : (s.modStations f).canonical :=
  h.foldl fun h => h.modTileAt (by intro; rfl)

theorem oattHooks_keeps {t : Wide} : (oattHooks t).Keeps := by
  intro s h
  dsimp only [oattHooks, Hooks.stalled]
  refine .withRest (.untag (.modTile_wf (.modOrbit (.ite h.flushLs h.flushLs.modCtx)) fun u hu => ?_))
  dsimp only
  exact u.spWrite_wf _ _ hu

theorem State.canonical.orbNext {k : TileKey} (h : s.canonical) : (s.orbNext k).canonical := by
  unfold State.orbNext
  split
  · exact h.addLater
  · exact h

theorem State.canonical.orbPush {o : OrbOp} (h : s.canonical) : (s.orbPush o).canonical :=
  (h.modTile (by intro; rfl)).orbNext.ite (h.modTile (by intro; rfl))

theorem State.canonical.orbPop (h : s.canonical) : s.orbPop.canonical := (h.modTile (by intro; rfl)).orbNext

theorem oephHooks_keeps {t : Wide} : (oephHooks t).Keeps := fun _ h => h.flushLs.pend.orbPush

theorem oinjHooks_keeps {t : Wide} : (oinjHooks t).Keeps := fun _ h => (h.flushLs.modTile (by intro; rfl)).orbPush

theorem ostepHooks_keeps {t : Wide} : (ostepHooks t).Keeps := fun _ h => (h.pend.modTile (by intro; rfl)).orbPush

theorem State.canonical.consumeFinal {u : Nat} (h : s.canonical) : (s.consumeFinal u).canonical := h.takeTrap

theorem State.canonical.execOephTableLoaded (h : s.canonical) : Out.canonical (Machine.execOephTableLoaded s) := by
  unfold Machine.execOephTableLoaded
  refine .ite (.next h.addEvent) ?_
  split
  · split
    · exact .next h.consumeFinal
    · exact .next ((h.modTile (by intro; rfl)).ite h).fillAt.orbPop
  · exact .next h

theorem State.canonical.execOinjCopyComplete (h : s.canonical) : Out.canonical (Machine.execOinjCopyComplete s) := by
  unfold Machine.execOinjCopyComplete
  refine .ite (.next h.addEvent) ?_
  split
  · split
    · exact .next h.consumeFinal
    · exact .next (.orbPop (.untag (.modTile_wf h fun u hu => u.spWrite_wf _ _ hu)))
  · exact .next h

theorem State.canonical.execStationArmed (h : s.canonical) : Out.canonical (Machine.execStationArmed s) := by
  unfold Machine.execStationArmed
  refine .ite (.next h.addEvent) ?_
  split
  · exact .next (h.modTile (by intro; rfl)).modOrbit.fillAt.orbPop
  · exact .next h

theorem State.canonical.execOrbitStepBegin (h : s.canonical) : Out.canonical (Machine.execOrbitStepBegin s) := by
  unfold Machine.execOrbitStepBegin
  split
  · exact .next h
  · exact .ite (.next h) (.next h.modStations.modOrbit)

theorem State.canonical.moveBodies {o : Orbit} {k : TileKey} {pro ret : BitVec 16 × List Byte} (h : s.canonical) :
    (s.moveBodies o k pro ret).canonical :=
  .untag (.untag (h.modTileAt_wf fun u hu => Tile.spWrite_wf _ _ _ (u.spWrite_wf _ _ hu)))

theorem State.canonical.checkStation {o : Orbit} {k : TileKey} (h : s.canonical) : (s.checkStation o k).canonical :=
  (h.modTileAt (fun u => Tile.checks_scratch u _ _)).ite ((h.modTileAt (fun u => Tile.checks_scratch u _ _)).modStations)

theorem State.canonical.execOrbitStepComplete (h : s.canonical) : Out.canonical (Machine.execOrbitStepComplete s) := by
  unfold Machine.execOrbitStepComplete
  split
  · exact .next h
  · split
    · exact .next h
    · exact .ite (.next h) (.next ((h.foldl fun h => h.moveBodies).foldl fun h => h.checkStation).modOrbit)

theorem State.canonical.execStationRelease (h : s.canonical) : Out.canonical (Machine.execStationRelease s) := by
  unfold Machine.execStationRelease
  split
  · exact .next h
  · exact .ite (.next h) (.next (h.modTile (by intro; rfl)).modOrbit)

theorem State.canonical.execConjunctionTaskStart (h : s.canonical) : Out.canonical (Machine.execConjunctionTaskStart s) := by
  unfold Machine.execConjunctionTaskStart
  refine .ite (.next h) ?_
  split
  · exact .next (h.modTile fun t => Claims.admitHeld_scratch _)
  · exact .next h

theorem State.canonical.answerAll {v : Nat} {l : List (TileKey × Nat)} (h : s.canonical) : (s.answerAll v l).canonical := by
  induction l generalizing s with
  | nil => exact h
  | cons x l ih => exact ih h.fillAt

theorem State.canonical.recoveryLap (h : s.canonical) : s.recoveryLap.canonical := h.modStations.modOrbit

theorem State.canonical.detachOrbit (h : s.canonical) : s.detachOrbit.canonical := (h.foldl fun h => h.modTileAt (by intro; rfl)).modCtx

theorem State.canonical.execLapEnd (h : s.canonical) : Out.canonical (Machine.execLapEnd s) := by
  unfold Machine.execLapEnd
  split
  · exact .next h
  · exact .ite (.next h) (.ite (.next (h.detachOrbit.ite h.recoveryLap))
      (.ite (.next h.answerAll.recoveryLap) (.ite (.next h.answerAll.answerAll.detachOrbit) (.next h.answerAll.modOrbit))))

theorem oslotHooks_keeps {t : Wide} : (oslotHooks t).Keeps := fun _ h => h.timed

theorem orbitReadHooks_keeps {miss : Bool} {t : Wide} : (orbitReadHooks miss t).Keeps := fun _ h => h.lockedBy.deliverAs

theorem olapHooks_keeps {t : Wide} : (olapHooks t).Keeps := fun _ h => h.lockedBy.modOrbit.ite h.pend.modOrbit

theorem odetHooks_keeps {t : Wide} : (odetHooks t).Keeps := fun _ h => h.lockedBy.modOrbit.ite h.pend.modOrbit

/-! ### The memories through dma, net and the copy queues -/

theorem State.canonical.putBytes {k : TileKey} {p : Place} {bs : List Byte} (h : s.canonical) : (s.putBytes k p bs).canonical := by
  unfold State.putBytes
  split
  · exact h.spWrite
  · exact h.memWrite

theorem State.canonical.setPoison {k : TileKey} {p : Place} {l : List Nat} (h : s.canonical) : (s.setPoison k p l).canonical := by
  unfold State.setPoison
  split
  · exact h.modTileAt (by intro; rfl)
  · exact h

theorem State.canonical.moveBytes {k : TileKey} {src : Place} {kd : TileKey} {dst : Place} {n : Nat} (h : s.canonical) :
    (s.moveBytes k src kd dst n).1.canonical := h.putBytes.untag.ite h.putBytes.untag.setPoison

theorem State.canonical.startTransfer {kind : DmaKind} (h : s.canonical) : (s.startTransfer kind).canonical :=
  (h.flushLs.spend.modTile (by intro; rfl)).lockedBy.addLater

theorem dldHooks_keeps {t : Wide} : (dldHooks t).Keeps := fun _ h => h.startTransfer

theorem dstHooks_keeps {t : Wide} : (dstHooks t).Keeps := fun _ h => h.startTransfer

theorem dcpyHooks_keeps {t : Wide} : (dcpyHooks t).Keeps := fun _ h => h.startTransfer

theorem State.canonical.performTransfer {k : TileKey} {d : DmaKind} (h : s.canonical) : (s.performTransfer k d).1.canonical := by
  unfold State.performTransfer
  dsimp only
  split
  · split
    · exact h
    · exact h.moveBytes
  · split
    · exact h
    · exact h.moveBytes
  · split
    · exact h
    · have hm {k p bs n e} : (((s.putBytes k p bs).untag k p n).modTileAt k (fun t => t.countLate e)).canonical :=
        h.putBytes.untag.modTileAt fun t => t.countLate_scratch e
      exact hm.ite hm.setPoison

theorem State.canonical.promiseKept {k : TileKey} {tag : BitVec 16} {done : Option Nat} (h : s.canonical) :
    (s.promiseKept k tag done).canonical := by
  unfold State.promiseKept
  dsimp only
  split
  · exact h
  · split
    · exact (h.modTileAt (by intro; rfl)).addLater
    · exact h.modTileAt (by intro; rfl)

theorem State.canonical.execDmaTransferComplete {tag : BitVec 16} (h : s.canonical) :
    Out.canonical (Machine.execDmaTransferComplete tag s) := by
  unfold Machine.execDmaTransferComplete
  split
  · exact .next h
  · exact .next ((h.noteFlag.performTransfer.modTile (by intro; rfl)).modTile (by intro; rfl)).promiseKept

theorem dpromHooks_keeps {t : Wide} : (dpromHooks t).Keeps := fun _ h => h.lockedBy

theorem dstatHooks_keeps {t : Wide} : (dstatHooks t).Keeps := fun _ h => h.lockedBy

theorem nsendHooks_keeps {t : Wide} : (nsendHooks t).Keeps := fun _ h => h.flushLs.spend.modTile (by intro; rfl)

theorem State.canonical.deliverSend {k : TileKey} {rp : BitVec 4} {x : Send} (h : s.canonical) : (s.deliverSend k rp x).canonical := by
  unfold State.deliverSend
  dsimp only
  exact .modTileAt (.modTileAt h.writeBytesAt.untag fun t => t.setFull_scratch _) (by intro; rfl)

theorem State.canonical.execNsendDelivery {rp : BitVec 4} (h : s.canonical) : Out.canonical (Machine.execNsendDelivery rp s) := by
  unfold Machine.execNsendDelivery
  split
  · exact .next h.deliverSend
  · exact .next h

theorem rldHooks_keeps {t : Wide} : (rldHooks t).Keeps := fun _ h => (h.flushLs.pend.modTile (by intro; rfl)).addLater

theorem State.canonical.execRldServe (h : s.canonical) : Out.canonical (Machine.execRldServe s) := by
  unfold Machine.execRldServe
  split
  · exact .next h
  · exact .next (h.noteFlag.fillAt.modTile (by intro; rfl))

theorem cqpostHooks_keeps {t : Wide} : (cqpostHooks t).Keeps := fun _ h => h.flushLs.locked.ite h.flushLs.modCtx.locked.addLater

theorem State.canonical.copyData {e : CopyEntry} (h : s.canonical) : (s.copyData e).1.canonical := by
  unfold State.copyData
  split
  · exact h
  · exact h.moveBytes

theorem State.canonical.execCopyEntryStart (h : s.canonical) : Out.canonical (Machine.execCopyEntryStart s) := by
  unfold Machine.execCopyEntryStart
  split
  · exact .next h
  · exact .next h.copyData.modCtx.addLater

theorem State.canonical.writeFlag {e : CopyEntry} (h : s.canonical) : (s.writeFlag e).1.canonical := by
  unfold State.writeFlag
  dsimp only
  exact .modTileAt (.tagBytes h.writeBytesAt) fun t => t.setFull_scratch _

theorem State.canonical.execCopyEntryRetire (h : s.canonical) : Out.canonical (Machine.execCopyEntryRetire s) := by
  unfold Machine.execCopyEntryRetire
  split
  · exact .next h
  · refine .next (State.canonical.modCtx ?_)
    split
    · exact h.writeFlag
    · exact h

theorem cqstatHooks_keeps {t : Wide} : (cqstatHooks t).Keeps := fun _ h => h.locked.gate.ite h.locked

theorem nflagHooks_keeps {t : Wide} : (nflagHooks t).Keeps := fun _ h => h.locked

/-! ### The memories through the system -/

theorem State.canonical.sysPut {k : TileKey} {n : Nat} {v : Word} (h : s.canonical) : (s.sysPut k n v).canonical := by
  unfold State.sysPut
  split
  · exact h.modTileAt (by intro; rfl)
  · exact h.modTileAt (by intro; rfl)
  · exact h.modTileAt (by intro; rfl)
  · exact h.modTileAt (by intro; rfl)
  · exact h.modTileAt (by intro; rfl)
  · exact h.modTileAt (by intro; rfl)
  · exact h.modCtx
  · exact h.modTileAt (by intro; rfl)
  · exact h.modTileAt (by intro; rfl)
  · exact h.modCtx
  · exact h

theorem State.canonical.saveTile {k : TileKey} (h : s.canonical) : (s.saveTile k).canonical := by
  unfold State.saveTile
  exact .withRest h.memWrite.memWrite.memWrite.memWrite.memWrite.memWrite.memWrite.memWrite.memWrite

theorem State.canonical.loadTile {k : TileKey} (h : s.canonical) : (s.loadTile k).canonical := by
  unfold State.loadTile
  refine .modCtx (h.setTileAt ?_)
  rw [Tile.setTcause_scratch]
  exact State.canonical_tileAt h k

theorem State.canonical.snapOut {k : TileKey} (h : s.canonical) : (s.snapOut k).canonical :=
  (h.modTileAt (by intro; rfl)).memWrite.ite (h.modTileAt (by intro; rfl))

theorem State.canonical.doTret (h : s.canonical) : s.doTret.canonical :=
  ((h.modTile Tile.leaveStub_scratch).takeHeld).ite (((h.commitRegion.modTile Tile.restoreFrame_scratch).takeHeld).ite h)

theorem State.canonical.execTret (h : s.canonical) : Out.canonical (Machine.execTret s) := .ite (.next h) (.next h.doTret)

theorem State.canonical.runSys {hk : Wide → Word → Hooks} {src : Src} {g : Guard} (h : s.canonical) (hx : ∀ t g, (hk t g).Keeps) :
    Out.canonical (Machine.runSys hk src g s) := .ite (.next h.takeTrap) (h.runScalar hx)

theorem hkSysrd_keeps {t : Wide} {g : Word} : (hkSysrd t g).Keeps := fun _ h => h.locked

theorem hkSyswr_keeps {t : Wide} {g : Word} : (hkSyswr t g).Keeps := fun _ h => h.doTret.ite h.locked.sysPut

theorem hkSnapsv_keeps {t : Wide} {g : Word} : (hkSnapsv t g).Keeps := fun _ h => h.snapOut.locked

theorem hkSnapld_keeps {t : Wide} {g : Word} : (hkSnapld t g).Keeps := fun _ h => (h.modTile (by intro; rfl)).locked

theorem hkRfsv_keeps {t : Wide} {g : Word} : (hkRfsv t g).Keeps := by
  intro s h
  dsimp only [hkRfsv, Hooks.checked]
  exact h.saveTile.locked

theorem hkRfld_keeps {t : Wide} {g : Word} : (hkRfld t g).Keeps := by
  intro s h
  dsimp only [hkRfld, Hooks.checked]
  exact h.loadTile.locked

theorem hkHinv_keeps {t : Wide} {g : Word} : (hkHinv t g).Keeps := fun _ h => (h.modTile (fun u => Tile.mapBoth_scratch u _)).locked

theorem hkIflush_keeps {t : Wide} {g : Word} : (hkIflush t g).Keeps := fun _ h => (h.modTile (by intro; rfl)).replayLocks.locked

theorem State.canonical.writeFrame {k : TileKey} (h : s.canonical) : (s.writeFrame k).canonical := by
  unfold State.writeFrame
  exact .withRest h.memWrite.memWrite.memWrite.memWrite

theorem State.canonical.enterAt {k : TileKey} {n : Nat} {tepc : Word} (h : s.canonical) : (s.enterAt k n tepc).canonical := by
  unfold State.enterAt
  exact .withRest (.takeHeld (.modTile (.writeFrame (.modTile (.commitRegion h.withRest) (by intro; rfl))) fun t =>
    Tile.enter_scratch _ _ _ _ _))

theorem State.canonical.patrolExc {k : TileKey} {e : PatrolExc} (h : s.canonical) : (s.patrolExc k e).canonical := h.modCluster

theorem State.canonical.deliverTrap {k : TileKey} {c : Cause} (h : s.canonical) : (s.deliverTrap k c).canonical := by
  unfold State.deliverTrap
  dsimp only
  split
  · exact ((h.rollbackAt.ite h).modTileAt (fun u => Tile.recordCause_scratch u _)).logTaken.addLater
  · exact ((h.rollbackAt.ite h).modTileAt (fun u => Tile.recordCause_scratch u _)).logTaken

theorem State.canonical.deliverCells {k : TileKey} (h : s.canonical) : (s.deliverCells k).canonical := by
  unfold State.deliverCells
  split
  · exact h
  · dsimp only
    split
    · exact h.deliverTrap
    · exact .withRest h.withRest.readCell

theorem State.canonical.deliverAgain {k : TileKey} (h : s.canonical) : (s.deliverAgain k).canonical :=
  ((h.foldl .deliverCells).addEvent).ite (h.foldl .deliverCells)

theorem State.canonical.deliverTo {k : TileKey} (h : s.canonical) : (s.deliverTo k).canonical := by
  unfold State.deliverTo
  refine .ite h.patrolExc (.ite h.addEvent (.ite h.deliverAgain ?_))
  split
  · exact h.deliverTrap
  · exact h.foldl fun h => h.enterAt

theorem State.canonical.execDeliver (h : s.canonical) : Out.canonical (Machine.execDeliver s) := by
  unfold Machine.execDeliver
  split
  · exact .fault
  · exact .next h.deliverTo

theorem State.canonical.resumeTo {k : TileKey} (h : s.canonical) : (s.resumeTo k).canonical := h.patrolExc.ite h.thawSet

theorem State.canonical.execResume (h : s.canonical) : Out.canonical (Machine.execResume s) := .next h.resumeTo

theorem State.canonical.stubTo {k : TileKey} {e : BitVec 6} (h : s.canonical) : (s.stubTo k e).canonical :=
  h.patrolExc.ite (h.foldl fun h => h.modTileAt (by intro; rfl))

theorem State.canonical.execStub {e : BitVec 6} (h : s.canonical) : Out.canonical (Machine.execStub e s) := .next h.stubTo

theorem State.canonical.ackTo {k : TileKey} (h : s.canonical) : (s.ackTo k).canonical := h.foldl fun h => h.modTileAt (by intro; rfl)

theorem State.canonical.execAck (h : s.canonical) : Out.canonical (Machine.execAck s) := .next h.ackTo

theorem State.canonical.execAbandon (h : s.canonical) : Out.canonical (Machine.execAbandon s) := .next (h.foldl .abandonAt)

theorem State.canonical.copyBlock {k : TileKey} (h : s.canonical) : (s.copyBlock k).canonical := h.ite h

theorem State.canonical.writeBlock {k : TileKey} {i : Nat} {v : Word} (h : s.canonical) : (s.writeBlock k i v).canonical := by
  unfold State.writeBlock
  split
  · exact h.modTileAt (by intro; rfl)
  · exact h

theorem State.canonical.winWrite {k : TileKey} {it : WinItem} {v : Word} (h : s.canonical) : (s.winWrite k it v).canonical := by
  unfold State.winWrite
  dsimp only
  split
  · exact h.modTileAt (by intro; rfl)
  · exact h.modTileAt (by intro; rfl)
  · exact h.modTileAt (by intro; rfl)
  · exact h
  · exact h.modTileAt (by intro; rfl)
  · exact h.modTileAt (by intro; rfl)
  · exact h.sysPut
  · exact h.modTileAt (by intro; rfl)
  · exact h.modTileAt (by intro; rfl)
  · exact h.modTileAt (by intro; rfl)
  · exact h
  · exact h.modTileAt (by intro; rfl)
  · exact h
  · exact h.modTileAt (by intro; rfl)
  · exact h.modTileAt (by intro; rfl)
  · exact h.writeBlock

theorem State.canonical.execPtwdlRead (h : s.canonical) : Out.canonical (Machine.execPtwdlRead s) := by
  unfold Machine.execPtwdlRead
  split
  · exact .next h.patrolExc
  · refine .next (.modCluster ?_)
    split
    · exact h.copyBlock
    · exact h

theorem State.canonical.execPtwdlWrite {v : BitVec 32} (h : s.canonical) : Out.canonical (Machine.execPtwdlWrite v s) := by
  unfold Machine.execPtwdlWrite
  split
  · exact .next h.patrolExc
  · exact .next (h.modCluster.modTileAt (by intro; rfl)).winWrite

theorem State.canonical.command {v : BitVec 32} (h : s.canonical) : (s.command v).canonical := by
  unfold State.command
  refine .ite h.patrolExc ?_
  split
  · exact h.resumeTo
  · exact h.deliverTo
  · exact h.stubTo
  · exact h.ackTo
  · exact h.foldl .abandonAt
  · exact h.patrolExc

theorem State.canonical.csrSet {csr : BitVec 12} {f : Cluster → Cluster} (h : s.canonical) : Out.canonical (s.csrSet csr f) :=
  .next h.modCluster

theorem State.canonical.execCsrWrite {csr : BitVec 12} {v : BitVec 32} (h : s.canonical) :
    Out.canonical (Machine.execCsrWrite csr v s) := by
  unfold Machine.execCsrWrite
  split
  · exact h.csrSet
  · exact h.csrSet
  · exact h.execPtwdlWrite
  · exact h.csrSet.ite (.next h.patrolExc)
  · split
    · exact .fault
    · exact .next (h.command.modCluster.ite h.command)
  · exact h.csrSet
  · exact h.csrSet
  · exact .next h

theorem State.canonical.execPatrolScratchpadAccess {rp : BitVec 4} {off : BitVec 21} {size : BitVec 3} {write : Bool}
    {data : BitVec 32} (h : s.canonical) : Out.canonical (Machine.execPatrolScratchpadAccess rp off size write data s) :=
  .ite (.next h.patrolExc) (.ite (.next (h.modTileAt_wf fun u hu => u.spWrite_wf _ _ hu)) (.next h.modCluster))

/-! ### The memories through the control slot -/

theorem State.canonical.atSlot {i : Nat} (h : s.canonical) : (s.atSlot i).canonical := h.modTile (by intro; rfl)

theorem State.canonical.runControl {privOk : Bool} {hk : Ctl} {g : Guard} (h : s.canonical) (hx : hk.Keeps) :
    Out.canonical (Machine.runControl privOk hk g s) := by
  unfold Machine.runControl
  refine .ite (.next h) (.ite (.next h.atSlot.takeTrap) (.ite (.next h) (.ite (.next h.atSlot) ?_)))
  split
  · exact .next h.atSlot.takeTrap
  · exact .next (hx.2 _ _ (hx.1 _ _ h.atSlot))

theorem State.canonical.branch {a : BitVec 56} {pop : Bool} (h : s.canonical) : (s.branch a pop).canonical := h.modTile (by intro; rfl)

theorem State.canonical.clearWaitu (h : s.canonical) : s.clearWaitu.canonical := h.modTile (fun u => Tile.clearWaitu_scratch u _)

theorem State.canonical.endWaitu (h : s.canonical) : s.endWaitu.canonical := by
  unfold State.endWaitu
  split
  · exact h
  · exact h.clearWaitu.ite h

theorem State.canonical.missWaitu (h : s.canonical) : s.missWaitu.canonical := by
  unfold State.missWaitu
  split
  · exact h
  · exact h.clearWaitu.takeTrap.promiseKept.ite h

theorem State.canonical.endClock {q : Seq} (h : s.canonical) : (s.endClock q).canonical := h.ite (h.modTile (by intro; rfl))

theorem State.canonical.execWaituEnd (h : s.canonical) : Out.canonical (Machine.execWaituEnd s) := .next h.endWaitu.endClock

theorem State.canonical.execPromiseMissed (h : s.canonical) : Out.canonical (Machine.execPromiseMissed s) := .next h.missWaitu

theorem State.canonical.clearWaitb {w : WaitB} (h : s.canonical) : (s.clearWaitb w).canonical := h.modTile (by intro; rfl)

theorem State.canonical.seeFlag {w : WaitB} (h : s.canonical) : (s.seeFlag w).canonical :=
  h.ite (h.modTile (fun u => Tile.waitJoin_scratch u _ _))

theorem State.canonical.endWait {w : WaitB} (h : s.canonical) : (s.endWait w).canonical := h.seeFlag.clearWaitb.ite h

theorem State.canonical.endWaitb (h : s.canonical) : s.endWaitb.canonical := by
  unfold State.endWaitb
  split
  · exact h
  · exact h.endWait

theorem State.canonical.endSideWaits (h : s.canonical) : s.endSideWaits.canonical := h.foldl .endWait

theorem State.canonical.expireWaitb (h : s.canonical) : s.expireWaitb.canonical := by
  unfold State.expireWaitb
  split
  · exact h
  · exact h.ite h.clearWaitb.takeTrap

theorem State.canonical.execWaitbSatisfied (h : s.canonical) : Out.canonical (Machine.execWaitbSatisfied s) :=
  .next h.endSideWaits.endWaitb.endClock

theorem State.canonical.execWaitExpired (h : s.canonical) : Out.canonical (Machine.execWaitExpired s) := .next h.expireWaitb

theorem State.canonical.execDrainBitWaitEnd (h : s.canonical) :
    Out.canonical (Machine.execDrainBitWaitEnd s) := .ite (.next (h.modTile (by intro; rfl))) (.next h)

theorem State.canonical.endTask (h : s.canonical) : s.endTask.canonical := by
  unfold State.endTask
  split
  · exact h
  · exact (h.closeTask.modOrbit.ite h.closeTask).modTile (by intro; rfl)

theorem State.canonical.lockFlag {pk : BitVec 5} {ok : Bool} (h : s.canonical) : (s.lockFlag pk ok).canonical := h.modTile (by intro; rfl)

/-! ### The memories through the scalar units -/

theorem State.canonical.scalarResult {sk : Sock} {lat : Nat} {v : Word} {ev : EvCount} (h : s.canonical) :
    (s.scalarResult sk lat v ev).canonical := h.timed

theorem State.canonical.flagResult {sk : Sock} {lat : Nat} {b : Bool} (h : s.canonical) : (s.flagResult sk lat b).canonical := h.timed

theorem scalarHooks_keeps {sk : Sock} {lat : Nat} {t : Wide} {f : Word → Word → Word → Word} : (scalarHooks sk lat t f).Keeps :=
  fun _ h => h.scalarResult

theorem flagHooks_keeps {sk : Sock} {t : Wide} {f : Word → Word → Bool} : (flagHooks sk t f).Keeps := fun _ h => h.flagResult

theorem divHooks_keeps {t : Wide} {f : Word → Word → Word} : (divHooks t f).Keeps := fun _ h => h.scalarResult

theorem prdHooks_keeps {t : Wide} {f : Word → Word → Word} : (prdHooks t f).Keeps := scalarHooks_keeps

/-! ### The memories through a bundle -/

theorem State.canonical.runMove {d : Dst} {src : Src} {i : Instr} (h : s.canonical) : Out.canonical (Machine.runMove d src i s) := by
  unfold Machine.runMove
  refine .ite (.next h) ?_
  split
  · exact .next h
  · refine .ite (.next h.takeTrap) (.ite (.next h) (.ite (.next h.takeTrap) ?_))
    split
    · exact .next h.takeBundleTrap
    · exact .next (h.consume.modTile (by intro; rfl))

theorem State.canonical.runPhase {rs : List Ready} {p : Nat} (h : s.canonical) (hr : ∀ r ∈ rs, r.Keeps) :
    (s.runPhase rs p).canonical := by
  refine h.foldl_mem fun hm h => ?_
  split
  next e => exact hr _ (List.mem_of_mem_filter hm) _ e _ (h.modTile (by intro; rfl))
  · exact h

theorem State.canonical.runPhases {rs : List Ready} {ps : List Nat} (h : s.canonical) (hr : ∀ r ∈ rs, r.Keeps) :
    (s.runPhases rs ps).canonical :=
  h.foldl fun h => h.runPhase hr

theorem State.canonical.oweClash {clash : Bool} {from_ : Nat} (h : s.canonical) : (s.oweClash clash from_).canonical :=
  h.ite (h.modTile (by intro; rfl))

theorem State.canonical.askRing {rs : List Ready} (h : s.canonical) : (s.askRing rs).canonical :=
  ((h.of_eq (by rfl)).modTile (by intro; rfl)).ite h

theorem State.canonical.takeRing {rs : List Ready} (h : s.canonical) : (s.takeRing rs).canonical :=
  (h.askRing.modTile (by intro; rfl)).ite h

theorem State.canonical.towPost {writes : List (Dst × Wide)} (h : s.canonical) : (s.towPost writes).canonical :=
  h.ite (h.foldl fun h => h.modTileAt (by intro; rfl))

theorem State.canonical.diverge {target : BitVec 56} {ring : BitVec 4} (h : s.canonical) : (s.diverge target ring).canonical :=
  (h.foldl fun h => h.modTileAt (by intro; rfl)).takeTrap.foldl fun h => h.modTileAt (by intro; rfl)

theorem State.canonical.serveLane {u : Twin} (h : s.canonical) : (s.serveLane u).canonical := by
  unfold State.serveLane
  split
  · exact h.yieldStep
  · exact h

theorem State.canonical.serveLanes {issue allFree : Bool} (h : s.canonical) : (s.serveLanes issue allFree).canonical :=
  h.ite (((h.serveLane.ite h).serveLane).ite (h.serveLane.ite h))

theorem State.canonical.clockTick {issue allFree : Bool} (h : s.canonical) : (s.clockTick issue allFree).canonical :=
  h.serveLanes.modTile (by intro; rfl)

theorem State.canonical.stallClock (h : s.canonical) : s.stallClock.canonical := h.clockTick

theorem State.canonical.kernelTrap (h : s.canonical) : s.kernelTrap.canonical := h.ite h.takeTrap

theorem State.canonical.effects {rs : List Ready} {mark : Bool} (h : s.canonical) (hr : ∀ r ∈ rs, r.Keeps) :
    (s.effects rs mark).canonical :=
  (h.runPhases hr).ite (((h.modTile (by intro; rfl)).commitRegion.runPhase hr).commitAll.runPhases hr)

theorem State.canonical.heldClock {rs : List Ready} (h : s.canonical) : (s.heldClock rs).canonical :=
  (((h.askRing.stallClock.serveLane.ite h.askRing.stallClock).serveLane.ite
    (h.askRing.stallClock.serveLane.ite h.askRing.stallClock)).modTile (by intro; rfl))

theorem State.canonical.fetchFault (h : s.canonical) : s.fetchFault.canonical := h.takeTrap

theorem State.canonical.execBundleFetch (h : s.canonical) : Out.canonical (Machine.execBundleFetch s) := by
  have rest : ((s.endWalk s.cur .bundleFetch).dropServe (s.endWalk s.cur .bundleFetch).cur .bundleFetch).canonical := h.endWalk.dropServe
  have queue {k asid va} : Out.canonical (.next ((s.endWalk s.cur .bundleFetch).queueServe k .bundleFetch asid va)) :=
    .next h.endWalk.queueServe
  unfold Machine.execBundleFetch
  refine .ite (.next rest) ?_
  dsimp only
  split
  · exact .next (rest.tlbFill.modTile (by intro; rfl))
  · refine .ite (.next h.endWalk.askWalk) (.ite queue ?_)
    split
    · exact .ite queue (.ite (.next rest.fetchFault) (.next (rest.tlbFill.modTile (by intro; rfl))))
    · exact .next rest.logWalk.fetchFault
    · refine .ite (.next rest.policyBacks.fetchFault) ?_
      split
      · exact .next (rest.policyBacks.backPage.tlbFill.modTile (by intro; rfl))
      · exact .next rest.policyBacks.backPage.fetchFault

theorem State.canonical.landNow {fs : List InFlight} (h : s.canonical) : (s.landNow fs).canonical := by
  unfold State.landNow
  dsimp only
  split
  · exact (h.modTile (by intro; rfl)).takeTrap
  · split
    · exact (h.modTile (by intro; rfl)).takeTrap
    · exact h.modTile (by intro; rfl)

theorem State.canonical.execTimedResultLands (h : s.canonical) : Out.canonical (Machine.execTimedResultLands s) :=
  .ite (.next h) (.next h.landNow)

theorem State.canonical.execInterlockedResultDelivered {sk : Sock} (h : s.canonical) :
    Out.canonical (Machine.execInterlockedResultDelivered sk s) := by
  unfold Machine.execInterlockedResultDelivered
  refine .ite (.next h) ?_
  split
  · exact .next h
  · exact .next h.landNow

/-! ### The memories through the launch queues -/

theorem State.canonical.takeMsg {m : Msg} (h : s.canonical) : (s.takeMsg m).canonical := h

theorem State.canonical.reply {m : Msg} {status value : Nat} {rest : List Word} (h : s.canonical) :
    (s.reply m status value rest).canonical := h.post

theorem State.canonical.noCtx {m : Msg} (h : s.canonical) : (s.noCtx m).canonical := h.reply

theorem State.canonical.onLodge {ty : Nat} {f : Msg → State → State} (h : s.canonical)
    (hf : ∀ {m : Msg} {s : State}, s.canonical → (f m s).canonical) : Out.canonical (s.onLodge ty f) := by
  unfold State.onLodge
  split
  · exact .next h
  · exact .ite (.next (hf h.takeMsg)) (.next h)

theorem State.canonical.onCtx {ty : Nat} {f : Msg → Ctx → State → State} (h : s.canonical)
    (hf : ∀ {m : Msg} {c : Ctx} {s : State}, s.canonical → (f m c s).canonical) : Out.canonical (s.onCtx ty f) := by
  unfold State.onCtx
  refine h.onLodge fun h => ?_
  split
  · exact h.noCtx
  · exact hf h

theorem State.canonical.execBadMessage (h : s.canonical) : Out.canonical (Machine.execBadMessage s) := by
  have answer {m : Msg} {n : Nat} : Out.canonical (.next ((s.takeMsg m).reply m n 0 [])) := .next h.takeMsg.reply
  unfold Machine.execBadMessage
  cases s.dieMsg s.cur.die with
  | none => cases s.lodgeMsg with
    | none => exact .next h
    | some m => exact .ite (.next h) answer
  | some m' =>
    have groomer := Out.canonical.ite (c := (s.dieAt s.cur.die).out) (answer (m := m') (n := 7))
      (.ite (c := s.groomerOk s.cur.die m') (.next h) (answer (m := m') (n := 3)))
    cases s.lodgeMsg with
    | none => exact groomer
    | some m => exact .ite groomer answer

theorem State.canonical.execCtxcreate (h : s.canonical) : Out.canonical (Machine.execCtxcreate s) := by
  unfold Machine.execCtxcreate
  refine h.onLodge (fun h => ?_)
  refine .ite h.reply ?_
  split
  · exact h.reply
  · exact (h.of_eq (by rfl)).reply

theorem State.canonical.mapDies {f : DieId → Die → Die} (h : s.canonical) : (s.mapDies f).canonical := h

theorem State.canonical.linkReply {p : Pairing} {status : Nat} (h : s.canonical) : (s.linkReply p status).canonical := h.post

theorem State.canonical.dropServes {f : TileKey → Bool} (h : s.canonical) : (s.dropServes f).canonical := h

theorem State.canonical.dropCtx {id : CtxId} (h : s.canonical) : (s.dropCtx id).canonical := by
  have ended {l : List TileKey} : (l.foldl (fun s k => (s.flushLs k).abandonAt k) s).canonical := h.foldl fun h => h.flushLs.abandonAt
  unfold State.dropCtx
  dsimp only
  split
  · split
    · exact .startJob (((ended.foldl fun h => h.linkReply).dropServes.mapDies).of_subset rfl fun _ => List.mem_of_mem_filter)
    · exact ((ended.foldl fun h => h.linkReply).dropServes.mapDies).of_subset rfl fun _ => List.mem_of_mem_filter
  · exact ((ended.foldl fun h => h.linkReply).dropServes.mapDies).of_subset rfl fun _ => List.mem_of_mem_filter

theorem State.canonical.execCtxdestroy (h : s.canonical) : Out.canonical (Machine.execCtxdestroy s) := by
  unfold Machine.execCtxdestroy
  refine h.onCtx (fun h => ?_)
  exact h.dropCtx.reply

theorem State.canonical.execLaunch (h : s.canonical) : Out.canonical (Machine.execLaunch s) := by
  unfold Machine.execLaunch
  refine h.onCtx fun h => h.reply.ite ?_
  dsimp only
  split
  · exact h.enqueue.reply
  · exact h.enqueue.reply
  · exact h.enqueue.reply

theorem State.canonical.execSignal (h : s.canonical) : Out.canonical (Machine.execSignal s) := by
  unfold Machine.execSignal
  refine h.onCtx (fun h => ?_)
  exact h.reply.ite h.modCtx.reply

theorem State.canonical.execQstat (h : s.canonical) : Out.canonical (Machine.execQstat s) := by
  unfold Machine.execQstat
  refine h.onCtx (fun h => ?_)
  split
  · exact h.reply
  · exact h.reply

theorem State.canonical.execQresume (h : s.canonical) : Out.canonical (Machine.execQresume s) := by
  unfold Machine.execQresume
  refine h.onCtx (fun h => ?_)
  split
  · exact h.reply
  · exact h.modCtx.reply

theorem State.canonical.signalStok {c : Ctx} {q : BitVec 4} {x : Course} (h : s.canonical) : (s.signalStok c q x).canonical :=
  h.ite (h.modCtx.faultMessage.ite h.modCtx.post)

theorem State.canonical.flushCtx {id : CtxId} (h : s.canonical) : (s.flushCtx id).canonical := h.foldl .flushLs

theorem State.canonical.retire {id : CtxId} {q : BitVec 4} {serial : Nat} (h : s.canonical) : (s.retire id q serial).canonical := by
  unfold State.retire
  dsimp only
  split
  · exact h.flushCtx.closeAdds
  · exact h.flushCtx.closeAdds.leaveQueue.signalStok.noteCtx

theorem State.canonical.execCourseRetire (h : s.canonical) : Out.canonical (Machine.execCourseRetire s) := by
  unfold Machine.execCourseRetire
  split
  · exact .next h
  · exact .next h.retire

theorem State.canonical.execCourseStart (h : s.canonical) : Out.canonical (Machine.execCourseStart s) := by
  unfold Machine.execCourseStart
  split
  · exact .next h
  · split
    · exact .next h
    · split
      · exact .next h
      · dsimp only
        split
        · exact .next h.noteCtx.modCtx.endCourse
        · exact .ite (.next h.noteCtx.modCtx.retire) (.next h.noteCtx.modCtx.noteCtx)

theorem State.canonical.firstDispatch {k : TileKey} (h : s.canonical) : (s.firstDispatch k).canonical := h.ite (h.setTileAt rfl)

theorem State.canonical.startGate {id : CtxId} {q : BitVec 4} {x : Course} {die : DieId} {lead : BitVec 6} {g : Nat}
    (h : s.canonical) : (s.startGate id q x die lead g).canonical :=
  (h.foldl .firstDispatch).foldl fun h => h.modTileAt (fun u => Tile.startGate_scratch u _ _ _ _)

theorem State.canonical.execGateDispatch (h : s.canonical) : Out.canonical (Machine.execGateDispatch s) := by
  unfold Machine.execGateDispatch
  refine .ite (.next h) ?_
  split
  · exact .next h
  · split
    · exact .next h
    · exact .next h.startGate.modCtx

theorem State.canonical.execGrowExtension (h : s.canonical) : Out.canonical (Machine.execGrowExtension s) := by
  unfold Machine.execGrowExtension
  dsimp only
  split
  · exact .next h
  · exact .next h.noteCtx.modCtx.noteCtx

theorem State.canonical.execStarvationPromotion (h : s.canonical) : Out.canonical (Machine.execStarvationPromotion s) := .next h.modCtx

/-! ### The memories through errors -/

theorem State.canonical.logDie {d : DieId} {r : ErrRec} (h : s.canonical) : (s.logDie d r).canonical := by
  unfold State.logDie
  split
  · exact h.logError
  · exact h.modDie

theorem State.canonical.damage {e : ErrSite} (h : s.canonical) : (s.damage e).canonical := by
  unfold State.damage
  split
  · exact h.modTileAt (by intro; rfl)
  · exact h
  · exact h
  · exact h.modTileAt (by intro; rfl)
  · exact h.modTileAt (by intro; rfl)
  · exact h
  · exact h

theorem State.canonical.startTest {e : ErrSite} (h : s.canonical) : (s.startTest e).canonical := h.drawDelay.spend.modDie.addEvent

theorem State.canonical.execUncorrectableError {e : ErrSite} (h : s.canonical) : Out.canonical (Machine.execUncorrectableError e s) := by
  unfold Machine.execUncorrectableError
  extract_lets lost u
  have hu : u.canonical := by
    dsimp only [u]
    split
    · exact h.takeTrapAt
    · exact h
  exact .next (.ite hu.damage hu.damage.startTest)

theorem State.canonical.execCorrectedError {e : ErrSite} (h : s.canonical) :
    Out.canonical (Machine.execCorrectedError e s) := .next h.logDie

theorem State.canonical.execPoisonConsumed {e : ErrSite} (h : s.canonical) : Out.canonical (Machine.execPoisonConsumed e s) :=
  .ite (.next h) (.next h.takeTrap)

theorem State.canonical.trapCtx {id : CtxId} {code : BitVec 8} (h : s.canonical) : (s.trapCtx id code).canonical :=
  (h.foldl fun h => h.endCourse).modCtx.noteCtx

theorem State.canonical.loseFlights {d : DieId} (h : s.canonical) : (s.loseFlights d).canonical := h.of_map rfl rfl fun _ => rfl

theorem State.canonical.loseSide {d : DieId} {compute : Bool} (h : s.canonical) : (s.loseSide d compute).canonical :=
  (h.modDie.ite h.modDie.loseFlights).foldl fun h => h.trapCtx

theorem State.canonical.loseDie {d : DieId} (h : s.canonical) : (s.loseDie d).canonical :=
  ((h.loseSide.ite h).loseSide).ite (h.loseSide.ite h)

theorem State.canonical.loseEdge {die : DieId} {south : Bool} (h : s.canonical) : (s.loseEdge die south).canonical :=
  h.modDie.foldl fun h => h.loseDie

theorem State.canonical.execUcieEdgeFailure {die : DieId} {south : Bool} (h : s.canonical) :
    Out.canonical (Machine.execUcieEdgeFailure die south s) := .next h.loseEdge

theorem State.canonical.loseSite {e : ErrSite} (h : s.canonical) : (s.loseSite e).canonical := by
  unfold State.loseSite
  split
  · exact h.loseEdge
  · exact h.loseEdge
  · split
    · exact h.loseSide
    · exact h

theorem State.canonical.testEnded {k : TileKey} {r : ErrRec} {passed : Bool} (h : s.canonical) : (s.testEnded k r passed).canonical :=
  (h.modTileAt (by intro; rfl)).ite (((h.modTileAt (by intro; rfl)).modTileAt (by intro; rfl)).thawSet.ite
    ((h.modTileAt (by intro; rfl)).modTileAt (by intro; rfl)))

theorem State.canonical.execSelfTestComplete {e : ErrSite} {passed : Bool} (h : s.canonical) :
    Out.canonical (Machine.execSelfTestComplete e passed s) := by
  unfold Machine.execSelfTestComplete
  extract_lets d
  split
  · exact .next h
  · extract_lets r u v
    have hv : v.canonical := by
      dsimp only [v]
      split
      · exact h.modDie.testEnded
      · exact h.modDie
    exact .next (.ite hv.logDie hv.logDie.loseSite)

theorem State.canonical.execNetworkFlitFailure {die : DieId} {ring : Bool} (h : s.canonical) :
    Out.canonical (Machine.execNetworkFlitFailure die ring s) := .next h.startTest

theorem State.canonical.execThermalThreshold {die : DieId} {t : Thermal} (h : s.canonical) :
    Out.canonical (Machine.execThermalThreshold die t s) := by
  unfold Machine.execThermalThreshold
  split
  · exact .next h.modDie
  · exact .next h.modDie
  · exact .next h.loseSide
  · exact .next h.loseSide

/-! ### The memories through the federation -/

theorem State.canonical.onGroomer {ty : Nat} {f : Msg → State → State} (h : s.canonical)
    (hf : ∀ {m : Msg} {s : State}, s.canonical → (f m s).canonical) : Out.canonical (s.onGroomer ty f) := by
  unfold State.onGroomer
  dsimp only
  split
  · exact .next h
  · exact .ite (.next (hf h.takeMsg)) (.next h)

theorem State.canonical.execDiestat (h : s.canonical) : Out.canonical (Machine.execDiestat s) := by
  unfold Machine.execDiestat
  refine h.onGroomer (fun h => ?_)
  exact h.reply

theorem State.canonical.execErrread (h : s.canonical) : Out.canonical (Machine.execErrread s) := by
  unfold Machine.execErrread
  refine h.onGroomer (fun h => ?_)
  split
  · exact h.reply
  · exact h.reply

theorem State.canonical.execTelem (h : s.canonical) : Out.canonical (Machine.execTelem s) := by
  unfold Machine.execTelem
  refine h.onGroomer (fun h => ?_)
  exact (h.of_eq (by rfl)).reply

theorem State.canonical.setInboxes {part : BitVec 4} {base slots : Nat} (h : s.canonical) : (s.setInboxes part base slots).canonical :=
  (h.of_eq (by rfl)).foldl fun h => h.flushInbox

theorem State.canonical.execInbox (h : s.canonical) : Out.canonical (Machine.execInbox s) := by
  unfold Machine.execInbox
  refine h.onLodge (fun h => ?_)
  exact h.setInboxes.reply

theorem State.canonical.execInboxConsumerIndex {part : BitVec 4} {ep : BitVec 7} {v : BitVec 32} (h : s.canonical) :
    Out.canonical (Machine.execInboxConsumerIndex part ep v s) := .ite (.next h) (.next (h.of_eq (by rfl)).flushInbox)

theorem State.canonical.execApertureBadWrite {part : BitVec 4} {ep : BitVec 7} {off len : BitVec 12} (h : s.canonical) :
    Out.canonical (Machine.execApertureBadWrite part ep off len s) := .next (h.ite h)

theorem State.canonical.resetCompute {d : DieId} (h : s.canonical) : (s.resetCompute d).canonical :=
  .modDie (.of_subset (s := s.dropServes fun k => k.die = d && !(s.tileAt k).out) h.dropServes rfl fun _ hm => List.mem_of_mem_filter hm)

theorem State.canonical.resetMemory {d : DieId} (h : s.canonical) : (s.resetMemory d).canonical :=
  .modDie (.mapCtxs (.of_subset (s := s.zeroRange (d.toNat * 2 ^ 36) (2 ^ 36)) h.zeroRange rfl fun _ hm => List.mem_of_mem_filter hm))

theorem State.canonical.resetSides {d : DieId} {mem : Bool} (h : s.canonical) : (s.resetSides d mem).canonical :=
  (((h.loseSide.ite h).loseSide.ite (h.loseSide.ite h)).resetCompute.resetMemory).ite
    (((h.loseSide.ite h).loseSide.ite (h.loseSide.ite h)).resetCompute)

theorem State.canonical.streamImages (h : s.canonical) : s.streamImages.canonical := h

theorem State.canonical.execDiereset (h : s.canonical) : Out.canonical (Machine.execDiereset s) := by
  unfold Machine.execDiereset
  refine h.onLodge (fun h => ?_)
  exact (h.resetSides.streamImages.of_eq (by rfl)).modDie.reply.ite (h.resetSides.streamImages.of_eq (by rfl)).modDie.reply

theorem State.canonical.configure {r : Config.BootRecord} (h : s.canonical) : (s.configure r).canonical := h

theorem State.canonical.dropUnrouted (h : s.canonical) : (s.dropUnrouted).canonical := by
  unfold State.dropUnrouted
  exact h.mapDies

theorem State.canonical.execPackageReset (h : s.canonical) : Out.canonical (Machine.execPackageReset s) := by
  have hr {u : State} (hm : u.mem = s.mem.filter (fun c => 2 ^ 49 ≤ c.1)) (ht : u.tiles = []) : u.canonical :=
    ⟨by rw [hm]; exact filter_wf _ h.1, by rw [ht]; exact List.forall_mem_nil _⟩
  unfold Machine.execPackageReset
  dsimp only
  split
  · exact .next (hr rfl rfl).configure.dropUnrouted
  · exact .next (hr rfl rfl).configure.dropUnrouted

theorem State.canonical.refuseCall (h : s.canonical) : s.refuseCall.canonical := h.spend

theorem State.canonical.callResult {v : Nat} (h : s.canonical) : (s.callResult v).canonical := h

theorem State.canonical.execImgcheck {img : List Byte} (h : s.canonical) : Out.canonical (Machine.execImgcheck img s) :=
  .ite (.next h.refuseCall) (.next (h.of_eq (by rfl)).callResult)

theorem State.canonical.execAttest (h : s.canonical) : Out.canonical (Machine.execAttest s) := by
  unfold Machine.execAttest
  refine h.onLodge (fun h => ?_)
  exact (h.of_eq (by rfl)).memWrite.reply

theorem State.canonical.execAttestsign (h : s.canonical) : Out.canonical (Machine.execAttestsign s) :=
  .ite (.next h.refuseCall) (.next (h.of_eq (by rfl)).callResult)

theorem State.canonical.execAsidnew {part : BitVec 4} (h : s.canonical) : Out.canonical (Machine.execAsidnew part s) := by
  unfold Machine.execAsidnew
  refine .ite (.next h.refuseCall) ?_
  split
  · exact .next h.refuseCall
  · split
    next e => exact .next (h.takeTable.of_snd e).refuseCall
    next e => exact .next ((h.takeTable.of_snd e).zeroRange.of_eq (by rfl)).callResult

theorem State.canonical.execAsidfree {asid : BitVec 16} (h : s.canonical) : Out.canonical (Machine.execAsidfree asid s) :=
  .ite (.next h.refuseCall) (.next (h.of_eq (by rfl)).callResult)

theorem State.canonical.execTableset {pa : BitVec 50} {entry : Word} (h : s.canonical) :
    Out.canonical (Machine.execTableset pa entry s) :=
  .ite (.next h.refuseCall) (.next h.callResult.submitChange)

theorem State.canonical.execLeafset {part : BitVec 4} {pg : PageRef} {pa : BitVec 50} {entry : Word} (h : s.canonical) :
    Out.canonical (Machine.execLeafset part pg pa entry s) := by
  unfold Machine.execLeafset
  split
  · exact .next h.refuseCall
  · split
    · exact .next h.refuseCall
    · exact .ite (.next h.refuseCall) (.next h.callResult.submitChange)

theorem State.canonical.proxyFrame {asid : BitVec 16} {va : BitVec 56} {d : DieId} (h : s.canonical) :
    (s.proxyFrame asid va d).2.canonical := by
  unfold State.proxyFrame
  extract_lets ok
  split
  · split
    next e => dsimp only; exact .of_snd h.takeFrame e
    next e => dsimp only; exact (State.canonical.of_snd h.takeFrame e).mapFrame
  · dsimp only
    exact h.noteWalk

theorem State.canonical.execLinkmap (h : s.canonical) : Out.canonical (Machine.execLinkmap s) := by
  unfold Machine.execLinkmap
  refine h.onCtx fun h => ?_
  dsimp only
  have hp {asid va d} {c : Prop} [Decidable c] := State.canonical.ite_snd (c := c) (h.proxyFrame (asid := asid) (va := va) (d := d))
    (q := (none, _)) h
  split
  next e => exact (hp.of_snd e).reply
  next e => exact ((hp.of_snd e).touchMem.of_eq (by rfl)).addEvent

theorem State.canonical.execLinkmapTimeout (h : s.canonical) : Out.canonical (Machine.execLinkmapTimeout s) :=
  .next ((h.of_eq (by rfl)).foldl fun h => h.linkReply)

theorem State.canonical.execPairingActive {port : BitVec 4} {key : Word} {station : BitVec 48} (h : s.canonical) :
    Out.canonical (Machine.execPairingActive port key station s) := by
  unfold Machine.execPairingActive
  refine .ite (.next h) ?_
  split
  · exact .next h
  · exact .next (h.of_eq (by rfl)).linkReply

theorem State.canonical.execForwardedWriteArrival {port : PortKey} {off : BitVec 14} {unit : Word} {poison : Bool} (h : s.canonical) :
    Out.canonical (Machine.execForwardedWriteArrival port off unit poison s) := by
  unfold Machine.execForwardedWriteArrival
  split
  · exact .next h
  · exact .next h.memWrite.untag

theorem State.canonical.failCopies {f : CtxId → CopyQ → CopyEntry → Bool} (h : s.canonical) : (s.failCopies f).canonical := h.mapCtxs

theorem State.canonical.execPackageLinkFailure {port : PortLoss} (h : s.canonical) :
    Out.canonical (Machine.execPackageLinkFailure port s) := by
  unfold Machine.execPackageLinkFailure
  dsimp only
  split
  · exact .next h.withRest.failCopies
  · exact .next h.failCopies
  · exact .next h.failCopies.withRest

/-! ### The memories through fat objects -/

theorem State.canonical.noteRange {asid : BitVec 16} {va n : Nat} (h : s.canonical) : (s.noteRange asid va n).canonical :=
  h.ite (h.foldl fun h => h.noteWalk)

theorem State.canonical.noteSpan {asid : BitVec 16} {va n : Nat} (h : s.canonical) : (s.noteSpan asid va n).canonical := by
  unfold State.noteSpan
  split
  · exact h.noteWalk
  · exact h

theorem State.canonical.noteSpans {asid : BitVec 16} {n va k : Nat} (h : s.canonical) : (s.noteSpans asid n va k).canonical := by
  induction k generalizing s va with
  | zero => exact h
  | succ k ih => exact h.ite (ih h.noteSpan)

theorem State.canonical.takeSpan {asid : BitVec 16} {n : Nat} (h : s.canonical) : (s.takeSpan asid n).2.canonical := h.noteSpans.spend

theorem State.canonical.afterAll {u : State} (h : s.canonical) : (s.afterAll u).canonical := h

theorem State.canonical.placeBytes {id : CtxId} {asid : BitVec 16} {va rights : Nat} {bs : List Byte} (h : s.canonical) :
    (s.placeBytes id asid va rights bs).canonical := by
  unfold State.placeBytes
  split
  · exact h
  · refine h.foldl fun h => ?_
    dsimp only
    split
    · exact h.mapPage.memWrite.touchMem
    · exact h.mapPage

theorem State.canonical.offerRetranslation {id : CtxId} {base size : Nat} {patched : List Byte} (h : s.canonical) :
    (s.offerRetranslation id base size patched).canonical := .ite (.startJob h) h.spend.modCtx

theorem State.canonical.placeObject {m : Msg} {c : Ctx} {o : Tfo} {code data : Nat × TfoImage} (h : s.canonical) :
    (s.placeObject m c o code data).canonical := by
  unfold State.placeObject
  dsimp only
  split
  · exact h.afterAll.reply
  · split
    · exact h.afterAll.reply
    · split
      · exact h.afterAll.reply
      · exact h.afterAll.reply.ite (.reply (.ite h.takeSpan.placeBytes.takeSpan.placeBytes.placeBytes.offerRetranslation
          h.takeSpan.placeBytes.takeSpan.placeBytes.placeBytes))

theorem State.canonical.execLoad (h : s.canonical) : Out.canonical (Machine.execLoad s) := by
  unfold Machine.execLoad
  refine h.onCtx (fun h => ?_)
  dsimp only
  split
  · exact (h.foldl fun h => h.noteRange).reply
  · split
    · split
      · exact (h.foldl fun h => h.noteRange).reply
      · split
        · exact (h.foldl fun h => h.noteRange).reply
        · exact (h.foldl fun h => h.noteRange).placeObject
    · exact (h.foldl fun h => h.noteRange).reply

theorem State.canonical.unmap {asid : BitVec 16} {va n : Nat} (h : s.canonical) : (s.unmap asid va n).canonical := by
  refine h.foldl fun h => ?_
  dsimp only
  split
  · exact h.noteWalk
  · exact h.submitChange

theorem State.canonical.endJob {j : RetransJob} (h : s.canonical) : (s.endJob j).canonical := by
  have hs : ({ s with job := none } : State).canonical := h
  unfold State.endJob
  dsimp only
  split
  · exact hs.takeSpan.startJob
  · exact hs.takeSpan.placeBytes.modCtx.startJob

theorem State.canonical.execRetranslationSwap (h : s.canonical) : Out.canonical (Machine.execRetranslationSwap s) := by
  unfold Machine.execRetranslationSwap
  split
  · exact .next h.endJob
  · dsimp only
    split
    · exact .next h
    · exact .next h.unmap.modCtx

/-! ### The memories through slices and switches -/

theorem State.canonical.countGrants {die : DieId} (h : s.canonical) : (s.countGrants die).canonical := h.mapCtxs

theorem State.canonical.grantSlice {cl : ClusterId} (h : s.canonical) : (s.grantSlice cl).canonical := by
  unfold State.grantSlice
  dsimp only
  split
  · exact h.noteDie.modCluster
  · exact h.noteDie.modCluster.countGrants

theorem State.canonical.offerSlice {cl : ClusterId} (h : s.canonical) : (s.offerSlice cl).canonical :=
  h.spend.drawDelay.modCluster.ite h.spend.grantSlice

theorem State.canonical.renewSlice {cl : ClusterId} {id : CtxId} (h : s.canonical) : (s.renewSlice cl id).canonical :=
  h.modCluster.countGrants

theorem State.canonical.saveOut {k : TileKey} (h : s.canonical) : (s.saveOut k).canonical := by
  unfold State.saveOut
  extract_lets leave u v
  have hu : u.canonical := h.modTileAt fun t => ite_scratch rfl (t.recordCause_scratch _)
  have hv : v.canonical := hu.ite (hu.modTileAt (by intro; rfl)).snapOut.saveTile
  exact .withRest (.spend (.modTileAt hv (by intro; rfl)))

theorem State.canonical.settleCluster {cl : ClusterId} (h : s.canonical) : (s.settleCluster cl).canonical := by
  unfold State.settleCluster
  dsimp only
  split
  · exact h
  · exact h.ite h.modCluster.offerSlice

theorem State.canonical.execSwitchOut (h : s.canonical) : Out.canonical (Machine.execSwitchOut s) := by
  unfold Machine.execSwitchOut
  refine .ite (.next h) ?_
  split
  · exact .fault
  · exact .next (h.foldl (fun h => (h.ite h.saveOut))).settleCluster

theorem State.canonical.execForcedPreemption (h : s.canonical) : Out.canonical (Machine.execForcedPreemption s) := by
  unfold Machine.execForcedPreemption
  dsimp only
  split
  · exact .next h
  · exact .ite (.next h) (.next (h.foldl (fun h => ((h.modTileAt (by intro; rfl)).spend.ite h))))

theorem State.canonical.execSliceEnd (h : s.canonical) : Out.canonical (Machine.execSliceEnd s) := by
  unfold Machine.execSliceEnd
  dsimp only
  split
  · exact .next (h.noteDie.ite h.noteDie.offerSlice)
  · exact .ite (.next h.noteDie) (.ite (.next h.noteDie.spend.renewSlice) (.next h.noteDie.spend.modCluster.settleCluster))

theorem State.canonical.readBack {k : TileKey} (h : s.canonical) : (s.readBack k).canonical := by
  unfold State.readBack
  refine h.ite (h.setTileAt ?_)
  rw [Tile.giveSnap_scratch]
  exact State.canonical_tileAt h k

theorem State.canonical.bringIn {k : TileKey} (h : s.canonical) : (s.bringIn k).canonical := by
  unfold State.bringIn
  extract_lets u t
  have hu : u.canonical := State.canonical.replayLocks (h.readBack.modTileAt fun t => ite_scratch rfl (Tile.settleOwed_scratch _))
  exact (hu.modTileAt Tile.thaw_scratch).takeHeld.ite hu

theorem State.canonical.execSwitchIn (h : s.canonical) : Out.canonical (Machine.execSwitchIn s) := by
  unfold Machine.execSwitchIn
  refine .ite (.next h) ?_
  split
  · exact .fault
  · exact .next (h.foldl (fun h => (h.bringIn.ite h)))

/-! ### The memories through the clock -/

theorem State.canonical.wantBundle (h : s.canonical) : s.wantBundle.canonical := h.ite h.addLater

theorem State.canonical.towDecide (h : s.canonical) :
    s.towDecide.2.canonical := (h.ite (h.foldl fun h => h.modTileAt (by intro; rfl))).foldl fun h => h.modTileAt (by intro; rfl)

theorem State.canonical.towTurn (h : s.canonical) : s.towTurn.2.canonical := by
  unfold State.towTurn
  split
  · exact h
  · split
    · exact .ite_snd h h.towDecide
    · exact h.towDecide

theorem State.canonical.gainClock {x : TowTurn} (h : s.canonical) : (s.gainClock x).canonical := by
  unfold State.gainClock
  split
  · exact h.modTile Tile.gain_scratch
  · exact h

theorem State.canonical.performLate {x : TileKey × Gated} (h : s.canonical) :
    (s.performLate x).canonical := .withRest (.commitNow h)

theorem State.canonical.atTurn {k : TileKey} (h : s.canonical) : (s.atTurn k).canonical := h

theorem State.canonical.frameReadsAt {k : TileKey} (h : s.canonical) : (s.frameReadsAt k).canonical := by
  unfold State.frameReadsAt
  split
  · exact h
  · exact h.ite (h.modTileAt (by intro; rfl)).writeEntries

theorem State.canonical.frameReads (h : s.canonical) : s.frameReads.canonical := h.foldl fun h => h.frameReadsAt

theorem State.canonical.tick (h : s.canonical) : s.tick.canonical := .withRest (.frameReads h)

end Sys2Proof.Machine
end

section
/-! PROOF. The canonical form of the memories (O55, O56): the triggers, a bundle's cycle, and a step. -/

namespace Sys2Proof.Machine

variable {s t : State}

/-! ### The triggers -/

theorem trigOf_keeps {i : Instr} {x : Trig} (hx : trigOf i = some x) (t : Wide) (g : Word) : (x.hk t g).Keeps := by
  cases i <;> cases hx <;> dsimp only
  case aluAdd.refl | aluSub.refl | aluAnd.refl | aluOr.refl | aluXor.refl | aluAndn.refl | aluShl.refl | aluShr.refl | aluSar.refl |
    aluRol.refl | aluMinS.refl | aluMinN.refl | aluMaxS.refl | aluMaxN.refl | aluSel.refl | aluClz.refl | aluCtz.refl | aluPopc.refl |
    aluSext.refl | aluZext.refl | aluExtr.refl | aluIns.refl | aluPass.refl | aluCat32.refl | aluAddsh.refl | mulMul.refl |
    mulMulhS.refl | mulMulhN.refl | mulMac.refl => exact scalarHooks_keeps
  case vadd.refl | vsub.refl | vmul.refl | vfma.refl | vfms.refl | vfnma.refl | vmin.refl | vmax.refl | vclamp.refl | vsel.refl |
    vshl.refl | vshr.refl | vsar.refl | vadds.refl | vsubs.refl | vdot4.refl | vscale.refl => exact laneHooks_keeps
  case aadd.refl | aminS.refl | aminN.refl | amaxS.refl | amaxN.refl | aand.refl | aor.refl | axor.refl | aswap.refl | acas.refl |
    afadd.refl => exact atomHooks_keeps
  case pand.refl | por.refl | pxor.refl | pandn.refl | pnot.refl | pcnt.refl | pfirst.refl | pmask.refl | pfrom.refl | pto.refl =>
    exact prdHooks_keeps
  case aluEq.refl | aluNe.refl | aluLtS.refl | aluLtN.refl | aluLeS.refl | aluLeN.refl | pall.refl | pany.refl => exact flagHooks_keeps
  case ldS8.refl | ldN8.refl | ldS16.refl | ldN16.refl | ldS32.refl | ldN32.refl | ld64.refl => exact ldHooks_keeps
  case vexp2.refl | vlog2.refl | vrcp.refl | vrsqrt.refl | vsqrt.refl | vtanh.refl | vsigm.refl => exact sfuHooks_keeps
  case vshuf.refl | vzip.refl | vunzip.refl | vbcast.refl | vextr.refl | vins.refl | viota.refl => exact permHooks_keeps
  case mulDivS.refl | mulDivN.refl | mulRemS.refl | mulRemN.refl => exact divHooks_keeps
  case st8.refl | st16.refl | st32.refl | st64.refl => exact stHooks_keeps
  case veq.refl | vne.refl | vlt.refl | vle.refl => exact cmpHooks_keeps
  case hrel.refl | hqry.refl | hbase.refl => exact handleHooks_keeps
  case vand.refl | vor.refl | vxor.refl => exact bitHooks_keeps
  case vrsum.refl | vrmax.refl | vrmin.refl => exact reduceHooks_keeps
  case xlat.refl | xlatw.refl => exact xlatHooks_keeps
  case gld.refl | gldt.refl => exact gldHooks_keeps
  case cellw.refl | cellwr.refl => exact cellWriteHooks_keeps
  case cellr.refl | cellp.refl => exact cellReadHooks_keeps
  case osaddF32.refl | osaddS32.refl => exact osaddHooks_keeps
  case vabs.refl | vneg.refl => exact absHooks_keeps
  case drain.refl | drainVector.refl => exact drainHooks_keeps
  case ocnt.refl | omiss.refl => exact orbitReadHooks_keeps
  case vld.refl => exact vldHooks_keeps
  case vldr.refl => exact loadHooks_keeps
  case vst.refl => exact vstHooks_keeps
  case vstr.refl => exact vstrHooks_keeps
  case vldg.refl => exact vldgHooks_keeps
  case vsts.refl => exact vstsHooks_keeps
  case join.refl => exact hkJoin_keeps
  case leave.refl => exact hkLeave_keeps
  case gbar.refl => exact hkGbar_keeps
  case cbar.refl => exact hkCbar_keeps
  case dbar.refl => exact hkDbar_keeps
  case release.refl => exact hkRelease_keeps
  case acquire.refl => exact hkAcquire_keeps
  case xfence.refl => exact hkXfence_keeps
  case spawn.refl => exact hkSpawn_keeps
  case grow.refl => exact hkGrow_keeps
  case mode.refl => exact hkMode_keeps
  case frmset.refl => exact hkFrmset_keeps
  case bfset.refl => exact hkBfset_keeps
  case bfget.refl => exact hkBfget_keeps
  case evrd.refl => exact hkEvrd_keeps
  case evclr.refl => exact hkEvclr_keeps
  case evgath.refl => exact hkEvgath_keeps
  case vcvt.refl => exact cvtHooks_keeps
  case vpack.refl => exact packHooks_keeps
  case vwiden.refl => exact widenHooks_keeps
  case unpk5.refl => exact unpk5Hooks_keeps
  case pack5.refl => exact pack5Hooks_keeps
  case unpkg.refl => exact unpkgHooks_keeps
  case qntg.refl => exact qntgHooks_keeps
  case vcmpr.refl => exact vcmprHooks_keeps
  case vtopk.refl => exact vtopkHooks_keeps
  case vsort.refl => exact vsortHooks_keeps
  case vslide.refl => exact hkVslide_keeps
  case mxcfg.refl => exact mxcfgHooks_keeps
  case wld.refl => exact wldHooks_keeps
  case wpage.refl => exact wpageHooks_keeps
  case astr.refl => exact astrHooks_keeps
  case drainst.refl => exact drainstHooks_keeps
  case mxclr.refl => exact mxclrHooks_keeps
  case mxstat.refl => exact mxstatHooks_keeps
  case oatt.refl => exact oattHooks_keeps
  case oeph.refl => exact oephHooks_keeps
  case oinj.refl => exact oinjHooks_keeps
  case ostep.refl => exact ostepHooks_keeps
  case oslot.refl => exact oslotHooks_keeps
  case olap.refl => exact olapHooks_keeps
  case odet.refl => exact odetHooks_keeps
  case dld.refl => exact dldHooks_keeps
  case dst.refl => exact dstHooks_keeps
  case dcpy.refl => exact dcpyHooks_keeps
  case dprom.refl => exact dpromHooks_keeps
  case dstat.refl => exact dstatHooks_keeps
  case nsend.refl => exact nsendHooks_keeps
  case rld.refl => exact rldHooks_keeps
  case cqpost.refl => exact cqpostHooks_keeps
  case cqstat.refl => exact cqstatHooks_keeps
  case nflag.refl => exact nflagHooks_keeps
  case sysrd.refl => exact hkSysrd_keeps
  case syswr.refl => exact hkSyswr_keeps
  case snapsv.refl => exact hkSnapsv_keeps
  case snapld.refl => exact hkSnapld_keeps
  case rfsv.refl => exact hkRfsv_keeps
  case rfld.refl => exact hkRfld_keeps
  case hinv.refl => exact hkHinv_keeps
  case iflush.refl => exact hkIflush_keeps

theorem State.canonical.execTrigger {i : Instr} {x : Trig} (h : s.canonical) (hx : trigOf i = some x) : Out.canonical (exec i s) := by
  have hk := trigOf_keeps hx
  cases i <;> cases hx <;> dsimp only at hk
  case aluAdd.refl | aluSub.refl | aluAnd.refl | aluOr.refl | aluXor.refl | aluAndn.refl | aluShl.refl | aluShr.refl | aluSar.refl |
    aluRol.refl | aluMinS.refl | aluMinN.refl | aluMaxS.refl | aluMaxN.refl | aluSel.refl | aluClz.refl | aluCtz.refl | aluPopc.refl |
    aluSext.refl | aluZext.refl | aluExtr.refl | aluIns.refl | aluPass.refl | aluCat32.refl | aluAddsh.refl | mulMul.refl |
    mulMulhS.refl | mulMulhN.refl | mulMac.refl | aluEq.refl | aluNe.refl | aluLtS.refl | aluLtN.refl | aluLeS.refl | aluLeN.refl |
    pall.refl | pany.refl | mulDivS.refl | mulDivN.refl | mulRemS.refl | mulRemN.refl | pand.refl | por.refl | pxor.refl | pandn.refl |
    pnot.refl | pcnt.refl | pfirst.refl | pmask.refl | pfrom.refl | pto.refl | xlat.refl | xlatw.refl | hrel.refl | hqry.refl |
    hbase.refl | ldS8.refl | ldN8.refl | ldS16.refl | ldN16.refl | ldS32.refl | ldN32.refl | ld64.refl | st8.refl | st16.refl |
    st32.refl | st64.refl | vld.refl | vldr.refl | vst.refl | vstr.refl | vldg.refl | vsts.refl | gld.refl | gldt.refl | cellw.refl |
    cellwr.refl | cellr.refl | cellp.refl | aadd.refl | aminS.refl | aminN.refl | amaxS.refl | amaxN.refl | aand.refl | aor.refl |
    axor.refl | aswap.refl | acas.refl | afadd.refl | osaddF32.refl | osaddS32.refl | join.refl | leave.refl | gbar.refl | cbar.refl |
    dbar.refl | release.refl | acquire.refl | xfence.refl | spawn.refl | grow.refl | mode.refl | frmset.refl | bfset.refl | bfget.refl |
    evrd.refl | evclr.refl | evgath.refl | drain.refl | oatt.refl | oeph.refl | oinj.refl | ostep.refl | oslot.refl | ocnt.refl |
    omiss.refl | olap.refl | odet.refl | dld.refl | dst.refl | dcpy.refl | dprom.refl | dstat.refl | nsend.refl | rld.refl |
    cqpost.refl | cqstat.refl | nflag.refl => exact h.runScalar hk
  case vadd.refl | vsub.refl | vmul.refl | vfma.refl | vfms.refl | vfnma.refl | vmin.refl | vmax.refl | vclamp.refl | vsel.refl |
    vshl.refl | vshr.refl | vsar.refl | vadds.refl | vsubs.refl | vdot4.refl | vscale.refl | veq.refl | vne.refl | vlt.refl | vle.refl |
    vand.refl | vor.refl | vxor.refl | vabs.refl | vneg.refl | vcvt.refl | vrsum.refl | vrmax.refl | vrmin.refl | vexp2.refl |
    vlog2.refl | vrcp.refl | vrsqrt.refl | vsqrt.refl | vtanh.refl | vsigm.refl | vshuf.refl | vzip.refl | vunzip.refl | vbcast.refl |
    vextr.refl | vins.refl | viota.refl | vpack.refl | vwiden.refl | unpk5.refl | pack5.refl | unpkg.refl | qntg.refl | vcmpr.refl |
    vtopk.refl | vsort.refl | vslide.refl | drainVector.refl => exact h.runVector hk
  case mxcfg.refl | wld.refl | wpage.refl | astr.refl | drainst.refl | mxclr.refl | mxstat.refl => exact h.runEither hk
  case sysrd.refl | syswr.refl | snapld.refl | hinv.refl | iflush.refl => exact h.runSys hk
  case snapsv.refl | rfsv.refl | rfld.refl => exact .ite .fault (h.runSys hk)

/-! ### The slots of a bundle -/

theorem Ctl.plain_keeps {act : State → State → State} (h : ∀ {p s : State}, s.canonical → (act p s).canonical) : (Ctl.plain act).Keeps :=
  ⟨fun _ _ => h, fun _ _ => id⟩

theorem ctlLaneBranch_keeps {half : Bool} {off : BitVec 19} {g : Guard} : (ctlLaneBranch half off g).Keeps :=
  ⟨fun _ _ h => h.branch.ite h, fun _ _ => id⟩

theorem ctlWaitu_keeps {n : BitVec 3} : (ctlWaitu n).Keeps := by
  refine ⟨fun p s h => ?_, fun _ _ h => h.endWaitu.missWaitu⟩
  dsimp only [ctlWaitu]
  split
  · exact h
  · exact h.modTile (by intro; rfl)

theorem ctlIlock_keeps {pk : BitVec 5} {n : BitVec 3} : (ctlIlock pk n).Keeps := by
  refine Ctl.plain_keeps fun h => ?_
  split
  · exact h.lockFlag
  · exact h.lockFlag.ite (.lockFlag (h.modTile (by intro; rfl)))

theorem ctlIunlock_keeps {pk : BitVec 5} {n : BitVec 3} : (ctlIunlock pk n).Keeps := by
  refine Ctl.plain_keeps fun h => ?_
  split
  · exact h.lockFlag
  · exact .ite (.lockFlag (h.modTile (by intro; rfl))) h.lockFlag

theorem ctlOf_keeps {i : Instr} {x : CtlOp} (hx : ctlOf i = some x) : x.hk.Keeps := by
  cases i <;> cases hx
  case nop.refl => exact Ctl.plain_keeps id
  case br.refl | ret.refl => exact Ctl.plain_keeps fun h => h.branch
  case brp.refl | brn.refl => exact ctlLaneBranch_keeps
  case call.refl => exact Ctl.plain_keeps fun h => .branch (h.modTile (by intro; rfl))
  case loop.refl => exact ⟨fun _ _ h => h.modTile (by intro; rfl), fun _ _ => id⟩
  case spin.refl | wait.refl | safe.refl => exact Ctl.plain_keeps fun h => h.modTile (by intro; rfl)
  case waitu.refl => exact ctlWaitu_keeps
  case waitb.refl => exact ⟨fun _ _ h => h.modTile (by intro; rfl), fun _ _ h => h.endWaitb.expireWaitb⟩
  case taskend.refl => exact ⟨fun _ _ h => h.modTile (by intro; rfl), fun _ _ h => .endTask (h.modTile (by intro; rfl))⟩
  case trapu.refl => exact ⟨fun _ _ => id, fun _ _ h => h.takeTrap⟩
  case ilock.refl => exact ctlIlock_keeps
  case iunlock.refl => exact ctlIunlock_keeps

theorem State.canonical.execControl {i : Instr} {x : CtlOp} (h : s.canonical) (hx : ctlOf i = some x) : Out.canonical (exec i s) := by
  have hk := ctlOf_keeps hx
  cases i <;> cases hx <;> exact h.runControl hk

/-- What a slot that has been read will do is its trigger's operation. -/
theorem ready_keeps {slot : Nat} {hdr : BitVec 16} {i : Instr} {r : Ready} (hr : s.ready slot hdr i = some r) : r.Keeps := by
  intro x hx
  unfold State.ready at hr
  dsimp only at hr
  split at hr
  · split at hr
    · cases hr
    · cases hr; cases hx
  · split at hr
    · cases hr
    · cases hr; cases hx
  · split at hr
    · cases hr
    next y e =>
      split at hr
      · cases hr
      · cases hr; cases hx
        exact trigOf_keeps e _ _

theorem freeze_keeps {r : Ready} (hr : r.Keeps) : (r.freeze s).Keeps := by
  unfold Ready.freeze
  split
  · exact hr
  · exact hr

/-! ### A bundle's cycle -/

theorem State.canonical.finishCycle {p : State} {x : Cycle} {rs : List Ready} {ctl : Option Ctl} (h : s.canonical)
    (hr : ∀ r ∈ rs, r.Keeps) (hc : ∀ c, ctl = some c → c.Keeps) : (p.finishCycle s x rs ctl).canonical := by
  unfold State.finishCycle
  extract_lets writes noted recorded spun moved acted stepped towed ticked marked stored
  have hm : moved.canonical := .modTile (.modTile (.ite (.modTile (h.modTile (by intro; rfl)) (by intro; rfl)) (h.modTile (by intro; rfl)))
    (by intro; rfl)) (by intro; rfl)
  have ha : acted.canonical := by
    cases ctl with
    | none => exact hm
    | some c => exact (hc c rfl).1 _ _ hm
  have hs : stepped.canonical := .ite ha (ha.modTile Tile.sequence_scratch)
  have ht : towed.canonical := .ite hs (hs.towPost.modTile fun t => (Tile.towStep_scratch _).trans (t.towCheck_scratch _))
  have hp : stored.canonical := .runPhase (.ite (ht.clockTick.modTile (by intro; rfl)) ht.clockTick) hr
  cases ctl with
  | none => exact hp.kernelTrap
  | some c => exact .kernelTrap ((hc c rfl).2 _ _ hp)

theorem State.canonical.runCycle {p : State} {x : Cycle} (hs : s.canonical) (hp : p.canonical) : (s.runCycle p x).canonical := by
  unfold State.runCycle
  extract_lets rs ports ctl written posted consumed read shared atomics done
  have hr : ∀ r ∈ rs, r.Keeps := by
    intro r hm
    obtain ⟨_, hy, rfl⟩ := List.mem_map.mp hm
    obtain ⟨_, _, e⟩ := List.mem_filterMap.mp hy
    exact freeze_keeps (ready_keeps e)
  have hc : ∀ c, ctl = some c → c.Keeps := by
    intro c e
    dsimp only [ctl] at e
    split at e
    next e' =>
      split at e
      · cases e; exact ctlOf_keeps e'
      · cases e
    · cases e
  refine .ite hs.stallClock ?_
  have hw : written.canonical := hp.foldl fun h => h.modTile (by intro; rfl)
  have hread : read.canonical := .runPhase (.consume (.ite (hw.modTile Tile.takePosts_scratch) hw)) hr
  refine .ite hs.heldClock ?_
  split
  · exact hp.takeTrap
  split
  · exact hp.takeTrap
  split
  · exact hp.takeTrap
  split
  · exact hp.takeTrap
  split
  · exact hp.takeBundleTrap
  have hsh : shared.canonical := hread.takeRing.runPhases hr
  split
  · exact hp.takeBundleTrap
  · exact .ite hs.askRing.stallClock ((hsh.effects hr).oweClash.finishCycle hr hc)

theorem State.canonical.emptyCycle (h : s.canonical) : s.emptyCycle.canonical := h.runCycle (h.modTile (by intro; rfl))

theorem State.canonical.issueBundle {b : BitVec 512} (h : s.canonical) : (s.issueBundle b).canonical := by
  unfold State.issueBundle
  refine h.ite ?_
  split
  · exact h.diverge
  · refine h.emptyCycle.ite ?_
    dsimp only
    split
    · exact (h.modTile (by intro; rfl)).takeTrap
    · exact h.runCycle ((h.modTile (by intro; rfl)).modTile (by intro; rfl))

theorem State.canonical.execBundleIssue {b : BitVec 512} (h : s.canonical) : Out.canonical (Machine.execBundleIssue b s) :=
  .ite .fault (.next h.issueBundle)

/-! ### A step -/

theorem State.canonical.exec {i : Instr} (h : s.canonical) : Out.canonical (Machine.exec i s) := by
  cases i
  case aluAdd | aluSub | aluAnd | aluOr | aluXor | aluAndn | aluShl | aluShr | aluSar | aluRol | aluMinS | aluMinN | aluMaxS | aluMaxN |
    aluSel | aluClz | aluCtz | aluPopc | aluSext | aluZext | aluExtr | aluIns | aluPass | aluCat32 | aluAddsh | mulMul | mulMulhS |
    mulMulhN | mulMac | aluEq | aluNe | aluLtS | aluLtN | aluLeS | aluLeN | pall | pany | mulDivS | mulDivN | mulRemS | mulRemN | pand |
    por | pxor | pandn | pnot | pcnt | pfirst | pmask | pfrom | pto | xlat | xlatw | hrel | hqry | hbase | ldS8 | ldN8 | ldS16 | ldN16 |
    ldS32 | ldN32 | ld64 | st8 | st16 | st32 | st64 | vld | vldr | vst | vstr | vldg | vsts | gld | gldt | cellw | cellwr | cellr |
    cellp | aadd | aminS | aminN | amaxS | amaxN | aand | aor | axor | aswap | acas | afadd | osaddF32 | osaddS32 | join | leave | gbar |
    cbar | dbar | release | acquire | xfence | spawn | grow | mode | frmset | bfset | bfget | evrd | evclr | evgath | vadd | vsub |
    vmul | vfma | vfms | vfnma | vmin | vmax | vclamp | vsel | vshl | vshr | vsar | vadds | vsubs | vdot4 | vscale | veq | vne | vlt |
    vle | vand | vor | vxor | vabs | vneg | vcvt | vrsum | vrmax | vrmin | vexp2 | vlog2 | vrcp | vrsqrt | vsqrt | vtanh | vsigm |
    vshuf | vzip | vunzip | vbcast | vextr | vins | viota | vpack | vwiden | unpk5 | pack5 | unpkg | qntg | vcmpr | vtopk | vsort |
    vslide | mxcfg | wld | wpage | astr | drain | drainVector | drainst | mxclr | mxstat | oatt | oeph | oinj | ostep | oslot | ocnt |
    omiss | olap | odet | dld | dst | dcpy | dprom | dstat | nsend | rld | cqpost | cqstat | nflag | sysrd | syswr | snapsv | snapld |
    rfsv | rfld | hinv | iflush => exact h.execTrigger rfl
  case nop | br | brp | brn | call | ret | loop | spin | wait | waitu | waitb | taskend | safe | trapu | ilock | iunlock =>
    exact h.execControl rfl
  case bundleIssue => exact h.execBundleIssue
  case interlockedResultDelivered => exact h.execInterlockedResultDelivered
  case move | moveVector => exact h.runMove
  case scrubRow => exact h.execScrubRow
  case dmaTransferComplete => exact h.execDmaTransferComplete
  case nsendDelivery => exact h.execNsendDelivery
  case stub => exact h.execStub
  case ptwdlWrite => exact h.execPtwdlWrite
  case csrWrite => exact h.execCsrWrite
  case revocationAck => exact h.execRevocationAck
  case uncorrectableError => exact h.execUncorrectableError
  case correctedError => exact h.execCorrectedError
  case poisonConsumed => exact h.execPoisonConsumed
  case selfTestComplete => exact h.execSelfTestComplete
  case networkFlitFailure => exact h.execNetworkFlitFailure
  case ucieEdgeFailure => exact h.execUcieEdgeFailure
  case thermalThreshold => exact h.execThermalThreshold
  case inboxConsumerIndex => exact h.execInboxConsumerIndex
  case apertureBadWrite => exact h.execApertureBadWrite
  case forwardedWriteArrival => exact h.execForwardedWriteArrival
  case asidnew part => exact h.execAsidnew (part := part)
  case asidfree => exact h.execAsidfree
  case tableset => exact h.execTableset
  case leafset => exact h.execLeafset
  case imgcheck => exact h.execImgcheck
  case packageLinkFailure => exact h.execPackageLinkFailure
  case pairingActive => exact h.execPairingActive
  case patrolScratchpadAccess => exact h.execPatrolScratchpadAccess
  case bundleFetch => exact h.execBundleFetch
  case timedResultLands => exact h.execTimedResultLands
  case drainBitWaitEnd => exact h.execDrainBitWaitEnd
  case waituEnd => exact h.execWaituEnd
  case promiseMissed => exact h.execPromiseMissed
  case waitbSatisfied => exact h.execWaitbSatisfied
  case waitExpired => exact h.execWaitExpired
  case groupLoadCombine => exact h.execGroupLoadCombine
  case cellReadSatisfied => exact h.execCellReadSatisfied
  case atomicPerform => exact h.execAtomicPerform
  case osaddUpdateArrival => exact h.execOsaddUpdateArrival
  case barrierEpisodeComplete => exact h.execBarrierEpisodeComplete
  case wldPageWritten => exact h.execWldPageWritten
  case astrPassEntered => exact h.execAstrPassEntered
  case drainstComplete => exact h.execDrainstComplete
  case mxclrTakesEffect => exact h.execMxclrTakesEffect
  case oephTableLoaded => exact h.execOephTableLoaded
  case oinjCopyComplete => exact h.execOinjCopyComplete
  case stationArmed => exact h.execStationArmed
  case orbitStepBegin => exact h.execOrbitStepBegin
  case orbitStepComplete => exact h.execOrbitStepComplete
  case stationRelease => exact h.execStationRelease
  case conjunctionTaskStart => exact h.execConjunctionTaskStart
  case lapEnd => exact h.execLapEnd
  case rldServe => exact h.execRldServe
  case copyEntryStart => exact h.execCopyEntryStart
  case copyEntryRetire => exact h.execCopyEntryRetire
  case tret => exact h.execTret
  case resume => exact h.execResume
  case deliver => exact h.execDeliver
  case ack => exact h.execAck
  case abandon => exact h.execAbandon
  case ptwdlRead => exact h.execPtwdlRead
  case courseEndByFault => exact h.execCourseEndByFault
  case ctxcreate => exact h.execCtxcreate
  case ctxdestroy => exact h.execCtxdestroy
  case launch => exact h.execLaunch
  case courseStart => exact h.execCourseStart
  case gateDispatch => exact h.execGateDispatch
  case growExtension => exact h.execGrowExtension
  case courseRetire => exact h.execCourseRetire
  case signal => exact h.execSignal
  case qstat => exact h.execQstat
  case qresume => exact h.execQresume
  case load => exact h.execLoad
  case retranslationSwap => exact h.execRetranslationSwap
  case starvationPromotion => exact h.execStarvationPromotion
  case sliceEnd => exact h.execSliceEnd
  case switchOut => exact h.execSwitchOut
  case forcedPreemption => exact h.execForcedPreemption
  case switchIn => exact h.execSwitchIn
  case pageTableWalk => exact h.execPageTableWalk
  case handleFaultService => exact h.execHandleFaultService
  case revokeHandles => exact h.execRevokeHandles
  case migratePage => exact h.execMigratePage
  case duplicatePage => exact h.execDuplicatePage
  case duplicationEnd => exact h.execDuplicationEnd
  case packageReset => exact h.execPackageReset
  case diereset => exact h.execDiereset
  case diestat => exact h.execDiestat
  case errread => exact h.execErrread
  case telem => exact h.execTelem
  case inbox => exact h.execInbox
  case attest => exact h.execAttest
  case linkmap => exact h.execLinkmap
  case linkmapTimeout => exact h.execLinkmapTimeout
  case attestsign => exact h.execAttestsign
  case storePerformed => exact h.execStorePerformed
  case badMessage => exact h.execBadMessage

theorem State.canonical.tileTurn (h : s.canonical) : s.tileTurn.canonical := by
  unfold State.tileTurn
  split
  · exact h.modTile fun u => u.freeze_scratch false
  extract_lets r u hold
  have hu : u.canonical := h.towTurn
  split
  · exact hu
  split
  · exact hu
  · exact hu.clockTick
  · exact hu.stallClock.ite (hu.gainClock.modTile (by intro; rfl)).stallClock
  · exact hu.stallClock
  · exact hu.clockTick
  · exact (hu.modTile (by intro; rfl)).stallClock
  · exact hu
  · exact hu.wantBundle.stallClock
  · exact hu.stallClock.ite hu.gainClock.emptyCycle
  · split
    · exact hu.stallClock
    · exact hu.gainClock

theorem State.canonical.choose (h : s.canonical) : s.choose.canonical := by
  unfold State.choose
  split
  · exact h
  split
  · exact h.performLate
  split
  · exact h
  split
  · exact h.atTurn.tileTurn
  · exact h.tick

/-- A step keeps the memories canonical. -/
theorem State.canonical.step (h : s.canonical) : Out.canonical (Machine.step s) := by
  have hn := h.choose
  unfold Machine.step
  generalize s.choose = n at hn ⊢
  cases n with
  | run s i => exact State.canonical.exec hn
  | pass s => exact .next hn

/-- Settles O55: DRAM holds no entry after reset, and no tile stands yet. -/
theorem resetCanonical : Obligations.ResetCanonical := ⟨rfl, List.forall_mem_nil _⟩

/-- Settles O56: every operation of a step that writes a memory writes it byte by byte or takes entries out of it. -/
theorem stepKeepsCanonical : Obligations.StepKeepsCanonical := fun _ _ h e => h.step _ e

end Sys2Proof.Machine
end

section
/-! PROOF. Locked ranges of instruction memory (O14). -/

namespace Sys2Proof.Machine

/-- ILOCK of a well-formed range. -/
theorem ctlIlock_act {pk : BitVec 5} {n : BitVec 3} {p s : State} {x : BitVec 56 × Nat} (h : lockRange (p.oreg n) = some x) :
    (ctlIlock pk n).act p s = if 8 ≤ s.tile.locks.length ∨ 1024 < lockTotal s.tile.locks + x.2 then s.lockFlag pk false
      else (s.modTile (fun t => { t with locks := t.locks ++ [x] })).lockFlag pk true := by
  simp [ctlIlock, Ctl.plain, h]

/-- IUNLOCK of a well-formed range. -/
theorem ctlIunlock_act {pk : BitVec 5} {n : BitVec 3} {p s : State} {x : BitVec 56 × Nat} (h : lockRange (p.oreg n) = some x) :
    (ctlIunlock pk n).act p s = if x ∈ s.tile.locks then (s.modTile (fun t => { t with locks := t.locks.erase x })).lockFlag pk true
      else s.lockFlag pk false := by
  simp [ctlIunlock, Ctl.plain, h]

/-- A lock operation of a word that names no range. -/
theorem ctlLocks_act_none {pk : BitVec 5} {n : BitVec 3} {p s : State} (h : lockRange (p.oreg n) = none) :
    (ctlIlock pk n).act p s = s.lockFlag pk false ∧ (ctlIunlock pk n).act p s = s.lockFlag pk false := by
  simp [ctlIlock, ctlIunlock, Ctl.plain, h]

/-- A lock operation that issues takes its effect with the control slot's index. -/
theorem exec_locks {pk : BitVec 5} {n : BitVec 3} {g : Guard} {s : State} (h : ControlIssues g s) :
    exec (.ilock pk n g) s = .next ((ctlIlock pk n).act (s.atSlot 10) (s.atSlot 10)) ∧
    exec (.iunlock pk n g) s = .next ((ctlIunlock pk n).act (s.atSlot 10) (s.atSlot 10)) :=
  ⟨runControl_act h rfl rfl, runControl_act h rfl rfl⟩

/-- Settles O14: the two operations by whether their word names a range. -/
theorem instructionLocks : Obligations.InstructionLocks := by
  intro pk n g s h p no r
  obtain ⟨hl, hu⟩ := exec_locks (pk := pk) (n := n) h
  have hr : r = lockRange (p.oreg n) := by rw [Claims.atSlot_oreg]
  have hk : p.tile.locks = s.tile.locks := by rw [Claims.atSlot_tile]; rfl
  rw [hl, hu, ← hk]
  refine ⟨fun e => ?_, fun x e => ?_⟩
  · obtain ⟨ei, eu⟩ := ctlLocks_act_none (pk := pk) (s := p) (hr ▸ e)
    exact ⟨congrArg _ ei, congrArg _ eu⟩
  · exact ⟨congrArg _ (ctlIlock_act (hr ▸ e)), congrArg _ (ctlIunlock_act (hr ▸ e))⟩

end Sys2Proof.Machine
end

section
/-! PROOF. The settings and the counters of sync (O28). -/

namespace Sys2Proof.Claims

open Sys2Proof.Machine

/-! ### A setting written beside a result -/

/-- A read of a source port leaves the settings and the counters of a tile (R20, R27). -/
theorem taken_settings (s : State) (src : Src) :
    (s.taken src).tile.core.m = s.tile.core.m ∧ (s.taken src).tile.core.frm = s.tile.core.frm ∧
    (s.taken src).tile.core.bf = s.tile.core.bf ∧ (s.taken src).tile.core.lockmask = s.tile.core.lockmask ∧
    (s.taken src).tile.core.ev = s.tile.core.ev := by
  obtain ⟨-, -, hm, -, -, -, -, -, hl, -, hf, hb, he, -⟩ := TileCore.consume_frame s.ctx.qmode (srcPorts src) s.tile.core
  rw [State.taken_tile]
  exact ⟨hm, hf, hb, hl, he⟩

theorem taken_bfOf (s : State) (src : Src) (b : Nat) : (s.taken src).tile.core.bfOf b = s.tile.core.bfOf b := by
  unfold TileCore.bfOf
  rw [(taken_settings s src).2.2.1]

/-- The state in which an operation of sync has written its tile's registers. -/
def written (s : State) (src : Src) (f : TileCore → TileCore) : State := (s.taken src).modTile (fun x => x.mapCore f)

theorem written_core (s : State) (src : Src) (f : TileCore → TileCore) : (written s src f).tile.core = f (s.taken src).tile.core := by
  unfold written; rw [State.modTile_tile]; rfl

theorem sameBytes_written (s : State) (src : Src) (f : TileCore → TileCore) : SameBytes s (written s src f) :=
  sameBytes_trans (sameBytes_taken s src) (sameBytes_modTile _ _ rfl)

/-- The registers behind a write and its result: what the write made of them, with entries in flight (R21). -/
theorem writtenLocked_core (s : State) (src : Src) (f : TileCore → TileCore) (rs : List (RPort × Wide)) :
    ∃ fl, ((written s src f).locked .sync rs).tile.core =
      { f (s.taken src).tile.core with flight := (f (s.taken src).tile.core).flight ++ fl } := by
  obtain ⟨fl, e⟩ := (written s src f).locked_tile .sync rs
  exact ⟨fl, by rw [e, ← written_core s src f]; rfl⟩

theorem sameBytes_writtenLocked (s : State) (src : Src) (f : TileCore → TileCore) (rs : List (RPort × Wide)) :
    SameBytes s ((written s src f).locked .sync rs) := sameBytes_trans (sameBytes_written s src f) (sameBytes_locked _ _ _)

theorem delivers_writtenLocked (s : State) (src : Src) (f : TileCore → TileCore) (p : RPort) (v : Wide) :
    Delivers s ((written s src f).locked .sync [(p, v)]) .sync p v := by
  have hn : (written s src f).tile.nextId = s.nextOp := by
    unfold written; rw [State.modTile_tile]; exact State.taken_nextId s src
  unfold Delivers State.locked State.lockedBy State.answer
  rw [State.modTile_tile]
  exact ⟨_, List.mem_append_right _ List.mem_cons_self, hn, rfl, rfl, rfl, rfl, rfl, rfl⟩

theorem wideOfWord_low (v : Word) : (wideOfWord v).extractLsb' 0 32 = v.truncate 32 := by
  ext i hi
  simp [wideOfWord]
  omega

theorem wideOfWord_getLsbD (v : Word) {i : Nat} (h : i < 64) : (wideOfWord v).getLsbD i = v.getLsbD i := by
  simp [wideOfWord]
  omega

/-! ### MODE (R259) -/

theorem mode_sets {src : Src} {g : Guard} {s : State} (h : ScalarIssues .sync src g s) :
    exec (.mode src g) s = .next (if s.scalarSrc src &&& ~~~ 0x7EDE = 0
      then (s.taken src).modTile (fun t => t.mapCore (fun c => { c with lockmask := s.scalarSrc src }))
      else s.takeTrap (s.illegalOperand .sync (wideOfWord (s.scalarSrc src)))) := by
  refine (runScalar_checked h rfl).trans (congrArg _ ?_)
  rw [syncOperand, lowWord_wideOfWord]
  by_cases hv : s.scalarSrc src &&& ~~~ lockmaskBits = 0
  · rw [if_pos (decide_eq_true hv)]; exact (if_pos hv).symm
  · rw [if_neg (by simpa using hv)]; exact (if_neg hv).symm

/-! ### FRMSET and BFSET (R129, R260) -/

theorem frmset_acts {src : Src} {g : Guard} {s : State} (h : ScalarIssues .sync src g s) :
    exec (.frmset src g) s = .next (if frmOk (s.scalarSrc src)
      then (written s src (fun c => { c with frm := s.scalarSrc src })).locked .sync [(.qp, 1)]
      else (s.taken src).locked .sync [(.qp, 0)]) := by
  refine (runScalar_act (hk := hkFrmset) h rfl rfl rfl rfl).trans (congrArg _ ?_)
  dsimp only [hkFrmset, Hooks.plain]
  rw [lowWord_wideOfWord]
  rfl

theorem frmset_sets {src : Src} {g : Guard} {s : State} (h : ScalarIssues .sync src g s) :
    ∃ t, exec (.frmset src g) s = .next t ∧ SameBytes s t ∧
      t.tile.core.frm = (if frmOk (s.scalarSrc src) then s.scalarSrc src else s.tile.core.frm) ∧
      t.tile.core.m = s.tile.core.m ∧ t.tile.core.bf = s.tile.core.bf ∧ t.tile.core.lockmask = s.tile.core.lockmask ∧
      Delivers s t .sync .qp (if frmOk (s.scalarSrc src) then 1 else 0) := by
  obtain ⟨hm, hf, hb, hl, -⟩ := taken_settings s src
  rw [frmset_acts h]
  split
  · obtain ⟨fl, e⟩ := writtenLocked_core s src (fun c => { c with frm := s.scalarSrc src }) [(.qp, 1)]
    exact ⟨_, rfl, sameBytes_writtenLocked _ _ _ _, by rw [e], by rw [e]; exact hm, by rw [e]; exact hb, by rw [e]; exact hl,
      delivers_writtenLocked _ _ _ _ _⟩
  · obtain ⟨⟨hm, -, -, -, -, -, hl, hf, hb⟩, -⟩ := sameRegisters_takenLocked s src .sync [(.qp, 0)]
    exact ⟨_, rfl, sameBytes_takenLocked _ _ _ _, hf, hm, hb, hl, delivers_locked _ _ _ _ _⟩

theorem setBf_bfOf (c : TileCore) {a : Nat} (b : Nat) (v : BitVec 32) (ha : a < 24) :
    (c.setBf a v).bfOf b = if b = a then v else c.bfOf b := by
  unfold TileCore.setBf TileCore.bfOf
  rw [dif_pos ha]
  by_cases hb : b < 24
  · simp only [dif_pos hb, Vector.get_eq_getElem, Vector.getElem_set, eq_comm (a := a)]
  · rw [dif_neg hb, dif_neg hb, if_neg (by omega)]

theorem setBf_frm (c : TileCore) (a : Nat) (v : BitVec 32) : (c.setBf a v).frm = c.frm := by
  unfold TileCore.setBf; split <;> rfl

theorem bfset_acts {src : Src} {g : Guard} {s : State} (h : ScalarIssues .sync src g s) (ha : (lowWord (s.opA .sync)).toNat < 24) :
    exec (.bfset src g) s = .next (if bfOk (s.scalarSrc src)
      then (written s src (fun c => c.setBf (lowWord (s.opA .sync)).toNat ((s.scalarSrc src).truncate 32))).locked .sync [(.qp, 1)]
      else (s.taken src).locked .sync [(.qp, 0)]) := by
  refine (runScalar_act (hk := hkBfset) h rfl rfl (if_pos (by simp [bankNoOk, ha])) rfl).trans (congrArg _ ?_)
  dsimp only [hkBfset, Hooks.checked]
  rw [lowWord_wideOfWord, State.taken_opA, wideOfWord_low]
  rfl

theorem bfset_sets {src : Src} {g : Guard} {s : State} (h : ScalarIssues .sync src g s) (ha : (lowWord (s.opA .sync)).toNat < 24) :
    ∃ t, exec (.bfset src g) s = .next t ∧ SameBytes s t ∧ t.tile.core.frm = s.tile.core.frm ∧
      (∀ b, t.tile.core.bfOf b = if bfOk (s.scalarSrc src) = true ∧ b = (lowWord (s.opA .sync)).toNat
        then (s.scalarSrc src).truncate 32 else s.tile.core.bfOf b) ∧
      Delivers s t .sync .qp (if bfOk (s.scalarSrc src) then 1 else 0) := by
  rw [bfset_acts h ha]
  split
  next hv =>
    obtain ⟨fl, e⟩ := writtenLocked_core s src (fun c => c.setBf (lowWord (s.opA .sync)).toNat ((s.scalarSrc src).truncate 32)) [(.qp, 1)]
    refine ⟨_, rfl, sameBytes_writtenLocked _ _ _ _, ?_, fun b => ?_, delivers_writtenLocked _ _ _ _ _⟩
    · rw [e]; exact (setBf_frm _ _ _).trans (taken_settings s src).2.1
    · rw [e]; exact (setBf_bfOf _ b _ ha).trans (by rw [taken_bfOf]; simp only [hv, true_and])
  next hv =>
    obtain ⟨⟨-, -, -, -, -, -, -, hf, hb⟩, -⟩ := sameRegisters_takenLocked s src .sync [(.qp, 0)]
    exact ⟨_, rfl, sameBytes_takenLocked _ _ _ _, hf, fun b => by rw [if_neg (fun x => hv x.1)]; unfold TileCore.bfOf; rw [hb],
      delivers_locked _ _ _ _ _⟩

theorem bfset_refused {src : Src} {g : Guard} {s : State} (h : ScalarIssues .sync src g s) (ha : 24 ≤ (lowWord (s.opA .sync)).toNat) :
    exec (.bfset src g) s = .next (s.takeTrap (s.illegalOperand .sync (wideOfWord (s.scalarSrc src)))) :=
  runScalar_trap h rfl (if_neg (by simp [bankNoOk, ha]))

/-! ### BFGET, EVRD and EVCLR (R260, R261) -/

/-- An operation of a lawful operand takes its effect. -/
theorem syncOperand_acts {hk : Wide → Word → Hooks} {src : Src} {g : Guard} {s : State} (h : ScalarIssues .sync src g s)
    {ok : State → Wide → Bool} {act : State → State}
    (e : hk (wideOfWord (s.scalarSrc src)) (BitVec.allOnes 64) = Hooks.checked (syncOperand ok (wideOfWord (s.scalarSrc src))) act)
    (hv : ok s (wideOfWord (s.scalarSrc src)) = true) : runScalar .sync hk src g s = .next (act (s.taken src)) := by
  rw [runScalar_checked h e, syncOperand, if_pos hv]

/-- An operand that is not lawful raises "illegal operand" (R254). -/
theorem syncOperand_refused {hk : Wide → Word → Hooks} {src : Src} {g : Guard} {s : State} (h : ScalarIssues .sync src g s)
    {ok : State → Wide → Bool} {act : State → State}
    (e : hk (wideOfWord (s.scalarSrc src)) (BitVec.allOnes 64) = Hooks.checked (syncOperand ok (wideOfWord (s.scalarSrc src))) act)
    (hv : ok s (wideOfWord (s.scalarSrc src)) = false) :
    runScalar .sync hk src g s = .next (s.takeTrap (s.illegalOperand .sync (wideOfWord (s.scalarSrc src)))) :=
  runScalar_trap h e (if_neg (by simp [hv]))

theorem bfget_delivers {src : Src} {g : Guard} {s : State} (h : ScalarIssues .sync src g s) (hv : (s.scalarSrc src).toNat < 24) :
    ∃ t, exec (.bfget src g) s = .next t ∧ SameBytes s t ∧ SameRegisters s.tile.core t.tile.core ∧
      Delivers s t .sync .q ((s.tile.core.bfOf (s.scalarSrc src).toNat).zeroExtend 512) := by
  refine ⟨_, syncOperand_acts (hk := hkBfget) h rfl (by simp [bankNoOk, hv]), ?_⟩
  rw [lowWord_wideOfWord, taken_bfOf]
  exact ⟨sameBytes_takenLocked _ _ _ _, sameRegisters_takenLocked _ _ _ _, delivers_locked _ _ _ _ _⟩

theorem evrd_delivers {src : Src} {g : Guard} {s : State} (h : ScalarIssues .sync src g s) (hv : (s.scalarSrc src).toNat < 16) :
    ∃ t, exec (.evrd src g) s = .next t ∧ SameBytes s t ∧ SameRegisters s.tile.core t.tile.core ∧
      Delivers s t .sync .q ((s.tile.core.ev.get ⟨(s.scalarSrc src).toNat, hv⟩).zeroExtend 512) := by
  refine ⟨_, syncOperand_acts (hk := hkEvrd) h rfl (by simp [hv]), ?_⟩
  rw [lowWord_wideOfWord, (taken_settings s src).2.2.2.2,
    show Fin.ofNat 16 (s.scalarSrc src).toNat = ⟨(s.scalarSrc src).toNat, hv⟩ from Fin.ext (Nat.mod_eq_of_lt hv)]
  exact ⟨sameBytes_takenLocked _ _ _ _, sameRegisters_takenLocked _ _ _ _, delivers_locked _ _ _ _ _⟩

theorem evclr_clears {src : Src} {g : Guard} {s : State} (h : ScalarIssues .sync src g s) (hv : (s.scalarSrc src).toNat < 2 ^ 16) :
    ∃ t, exec (.evclr src g) s = .next t ∧ SameBytes s t ∧ t.tile.core.frm = s.tile.core.frm ∧
      ∀ i : Fin 16, t.tile.core.ev.get i = if (s.scalarSrc src).getLsbD i.val then 0 else s.tile.core.ev.get i := by
  obtain ⟨-, hf, -, -, he⟩ := taken_settings s src
  refine ⟨written s src (fun c => { c with
      ev := Vector.ofFn (fun i : Fin 16 => if (wideOfWord (s.scalarSrc src)).getLsbD i.val then 0 else c.ev.get i) }),
    syncOperand_acts (hk := hkEvclr) h rfl (by simpa using hv), sameBytes_written _ _ _, ?_, fun i => ?_⟩
  · rw [written_core]; exact hf
  · rw [written_core, Vector.get_ofFn, wideOfWord_getLsbD _ (by omega), he]

/-- Settles O28, operation by operation. -/
theorem settings : Obligations.Settings := fun _ _ _ h =>
  ⟨mode_sets h, frmset_sets h, bfset_sets h, bfset_refused h, bfget_delivers h,
    fun hv => syncOperand_refused (hk := hkBfget) h rfl (by simp [bankNoOk, hv]), evrd_delivers h,
    fun hv => syncOperand_refused (hk := hkEvrd) h rfl (by simp [hv]), evclr_clears h,
    fun hv => syncOperand_refused (hk := hkEvclr) h rfl (by simpa using hv)⟩

end Sys2Proof.Claims
end

section
/-! PROOF. Which addresses name a place, and what a refused one raises (O19). -/

namespace Sys2Proof.Claims

open Sys2Proof.Machine

/-! ### Refused loads and stores (R64, R365) -/

/-- An operation that waits for nothing takes the trap of its check. -/
theorem runScalar_refused {sk : Sock} {hk : Wide → Word → Hooks} {src : Src} {g : Guard} {s : State} {x : Hooks} {c : Cause}
    (h : ScalarIssues sk src g s) (e : hk (wideOfWord (s.scalarSrc src)) (BitVec.allOnes 64) = x) (hs : x.stall s = false)
    (he : x.early s = none) (hc : x.check s = some c) : runScalar sk hk src g s = .next (s.takeTrap c) := by
  rw [runScalar_issues h, e, State.runHooks_check hs he hc]

theorem placeCause_refused {s : State} {u : Twin} {use : Use} {w : Word} {align n : Nat} {e : AddrFail} (h : s.place use w align n = .error e) :
    s.placeCause u use (wideOfWord w) align n = some (s.addrCause (lsuOfTwin u) w e) := by
  unfold State.placeCause
  rw [lowWord_wideOfWord, h]

/-- A load whose address is refused: no place, so no store before it and no race is looked for. -/
theorem load_refused {u : Twin} {hk : Wide → Word → Hooks} {f : Nat → Wide} {src : Src} {g : Guard} {s : State} {e : AddrFail} {n : Nat}
    (h : ScalarIssues (lsuOfTwin u) src g s) (hs : s.lsStall u (wideOfWord (s.scalarSrc src)) = false)
    (hk_eq : hk (wideOfWord (s.scalarSrc src)) (BitVec.allOnes 64) = loadHooks u n n f (wideOfWord (s.scalarSrc src)))
    (hp : s.place .load (s.scalarSrc src) n n = .error e) :
    runScalar (lsuOfTwin u) hk src g s = .next (s.takeTrap (s.addrCause (lsuOfTwin u) (s.scalarSrc src) e)) := by
  refine runScalar_refused h hk_eq hs ?_ (placeCause_refused hp)
  dsimp only [loadHooks]
  rw [lowWord_wideOfWord, hp]

theorem store_refused {u : Twin} {hk : Wide → Word → Hooks} {f : State → List (Nat × Byte × Byte)} {src : Src} {g : Guard} {s : State}
    {e : AddrFail} {n : Nat} (h : ScalarIssues (lsuOfTwin u) src g s) (hs : s.lsStall u (wideOfWord (s.scalarSrc src)) = false)
    (hk_eq : hk (wideOfWord (s.scalarSrc src)) (BitVec.allOnes 64) = storeHooks u n n f (wideOfWord (s.scalarSrc src)))
    (hp : s.place .store (s.scalarSrc src) n n = .error e) :
    runScalar (lsuOfTwin u) hk src g s = .next (s.takeTrap (s.addrCause (lsuOfTwin u) (s.scalarSrc src) e)) :=
  runScalar_refused h hk_eq hs rfl (placeCause_refused hp)

/-- A scalar load of w bits whose address is refused. -/
theorem ld_refused {u : Twin} {hk : Wide → Word → Hooks} {w : Nat} {signed : Bool} {src : Src} {g : Guard} {s : State} {e : AddrFail}
    (h : ScalarIssues (lsuOfTwin u) src g s) (hs : s.lsStall u (wideOfWord (s.scalarSrc src)) = false)
    (hk_eq : ∀ t m, hk t m = ldHooks u w signed t) (hp : s.place .load (s.scalarSrc src) (w / 8) (w / 8) = .error e) :
    runScalar (lsuOfTwin u) hk src g s = .next (s.takeTrap (s.addrCause (lsuOfTwin u) (s.scalarSrc src) e)) :=
  load_refused h hs (hk_eq _ _) hp

/-- A scalar store of w bits whose address is refused. -/
theorem st_refused {u : Twin} {hk : Wide → Word → Hooks} {w : Nat} {src : Src} {g : Guard} {s : State} {e : AddrFail}
    (h : ScalarIssues (lsuOfTwin u) src g s) (hs : s.lsStall u (wideOfWord (s.scalarSrc src)) = false)
    (hk_eq : ∀ t m, hk t m = stHooks u w t) (hp : s.place .store (s.scalarSrc src) (w / 8) (w / 8) = .error e) :
    runScalar (lsuOfTwin u) hk src g s = .next (s.takeTrap (s.addrCause (lsuOfTwin u) (s.scalarSrc src) e)) :=
  store_refused h hs (hk_eq _ _) hp

theorem addressFaults : AddressFaults := by
  intro u src g s e h hs bad
  simp only [List.forall_mem_cons, List.not_mem_nil, false_implies, implies_true, and_true]
  refine ⟨⟨fun hp => ?_, fun hp => ?_, fun hp => ?_, fun hp => ?_, fun hp => ?_, fun hp => ?_, fun hp => ?_, fun hp => ?_⟩,
    fun hp => ?_, fun hp => ?_, fun hp => ?_, fun hp => ?_, fun hp => ?_⟩
  · exact ld_refused (hk := hkLdS8 u) (w := 8) (signed := true) h hs (fun _ _ => rfl) hp
  · exact ld_refused (hk := hkLdN8 u) (w := 8) (signed := false) h hs (fun _ _ => rfl) hp
  · exact ld_refused (hk := hkLdS16 u) (w := 16) (signed := true) h hs (fun _ _ => rfl) hp
  · exact ld_refused (hk := hkLdN16 u) (w := 16) (signed := false) h hs (fun _ _ => rfl) hp
  · exact ld_refused (hk := hkLdS32 u) (w := 32) (signed := true) h hs (fun _ _ => rfl) hp
  · exact ld_refused (hk := hkLdN32 u) (w := 32) (signed := false) h hs (fun _ _ => rfl) hp
  · exact ld_refused (hk := hkLd64 u) (w := 64) (signed := false) h hs (fun _ _ => rfl) hp
  · exact load_refused (hk := hkVldr u) (f := fun x => BitVec.ofNat 512 x) h hs rfl hp
  · exact st_refused (hk := hkSt8 u) (w := 8) h hs (fun _ _ => rfl) hp
  · exact st_refused (hk := hkSt16 u) (w := 16) h hs (fun _ _ => rfl) hp
  · exact st_refused (hk := hkSt32 u) (w := 32) h hs (fun _ _ => rfl) hp
  · exact st_refused (hk := hkSt64 u) (w := 64) h hs (fun _ _ => rfl) hp
  · exact store_refused (hk := hkVstr u) (f := fun s => maskedBytes (s.opA (lsuOfTwin u)) (s.maskA u) 4 64) h hs rfl hp

/-! ### Plain local addresses (R63-R65) -/

/-- A plain local address names a place where no high bit is set and the range may be used. -/
theorem place_local {s : State} {use : Use} {addr : Word} {align n : Nat} (h : addrSpace addr = 0) :
    s.place use addr align n = if (addr.extractLsb' 21 39 : BitVec 39) = 0 ∧ scratchOk s.tile use (addrOff addr) align n = true
      then .ok (.scratch s.cur.tid (addrOff addr)) else .error .fault := by
  unfold State.place
  rw [h]
  dsimp only
  by_cases hb : (addr.extractLsb' 21 39 : BitVec 39) = 0 <;> cases hk : scratchOk s.tile use (addrOff addr) align n <;> simp [hb]

theorem scratchOk_iff (t : Tile) (use : Use) (off align n : Nat) : scratchOk t use off align n = true ↔
    off + n ≤ 0x180000 ∧ off / 0x10000 = (off + n - 1) / 0x10000 ∧ off % align = 0 ∧ bankOk t use off = true := by
  simp only [scratchOk, Bool.and_eq_true, decide_eq_true_eq, and_assoc]
  rfl

/-- The banks of the cells are for loads and for cell operations (R64, R77). -/
theorem bankOk_bounds {t : Tile} {use : Use} {off : Nat} (h : bankOk t use off = true) :
    (use = .store ∨ use = .atomic → off < 22 * 0x10000) ∧ (use = .cell → 22 * 0x10000 ≤ off) := by
  have hdiv : off / bankSize < 22 ↔ off < 22 * 0x10000 := Nat.div_lt_iff_lt_mul (by decide)
  cases use
  case load => simp
  case cell =>
    have hb : 22 ≤ off / bankSize := of_decide_eq_true h
    exact ⟨by simp, fun _ => by omega⟩
  case store | atomic =>
    have hb : ¬ 22 ≤ off / bankSize := of_decide_eq_false (by simpa using (Bool.and_eq_true_iff.mp h).1)
    exact ⟨fun _ => by omega, by simp⟩

theorem localPlaces : LocalPlaces := by
  intro s use addr align n h0 _
  rw [place_local h0]
  refine ⟨fun ⟨p, hp⟩ => ?_, fun hb he hbank ha hu => ?_⟩
  · split at hp
    next hok =>
      obtain ⟨hb, hk⟩ := hok
      obtain ⟨he, hbank, ha, hu⟩ := (scratchOk_iff _ _ _ _ _).mp hk
      obtain ⟨hstore, hcell⟩ := bankOk_bounds hu
      exact ⟨if_pos ⟨hb, hk⟩, hb, he, hbank, ha, hstore, hcell⟩
    next => cases hp
  · exact if_pos ⟨hb, (scratchOk_iff _ _ _ _ _).mpr ⟨he, hbank, ha, hu ▸ rfl⟩⟩

/-- Settles O19. -/
theorem addressRules : Obligations.AddressRules := ⟨addressFaults, localPlaces⟩

end Sys2Proof.Claims
end

section
/-! PROOF. The operations on future cells (O21): what a read of a cell leaves unchanged, and the read itself. -/

namespace Sys2Proof.Machine

/-! ### Steps that keep a view of every tile -/

/-- Only tiles, contexts and the count of free delays have changed, and a view of each tile stands. -/
structure KeepsView {α : Type} (view : Tile → α) (s t : State) : Prop where
  rest : ∃ l c n, t = { s with tiles := l, ctxs := c, free := n }
  tiles : ∀ k, view (t.tileAt k) = view (s.tileAt k)

namespace KeepsView

variable {α β : Type} {view : Tile → α} {s t u : State}

theorem refl (s : State) : KeepsView view s s := ⟨⟨_, _, _, rfl⟩, fun _ => rfl⟩

theorem trans (h : KeepsView view s t) (g : KeepsView view t u) : KeepsView view s u := by
  obtain ⟨l, c, n, rfl⟩ := h.rest
  obtain ⟨l', c', n', rfl⟩ := g.rest
  exact ⟨⟨l', c', n', rfl⟩, fun k => (g.tiles k).trans (h.tiles k)⟩

/-- A view that is computed from another is kept with it. -/
theorem comp (h : KeepsView view s t) (f : α → β) : KeepsView (fun x => f (view x)) s t := ⟨h.rest, fun k => congrArg f (h.tiles k)⟩

theorem modTileAt (s : State) (k : TileKey) {f : Tile → Tile} (h : ∀ x, view (f x) = view x) : KeepsView view s (s.modTileAt k f) := by
  refine ⟨⟨_, _, _, rfl⟩, fun j => ?_⟩
  by_cases e : j = k
  · subst e; rw [State.modTileAt_tileAt, h]
  · rw [State.modTileAt_tileAt_ne _ _ e]

theorem modTile (s : State) {f : Tile → Tile} (h : ∀ x, view (f x) = view x) : KeepsView view s (s.modTile f) := modTileAt s s.cur h

theorem modCtx (s : State) (i : CtxId) (f : Ctx → Ctx) : KeepsView view s (s.modCtx i f) := ⟨⟨_, _, _, rfl⟩, fun _ => rfl⟩

theorem setFree (s : State) (n : Nat) : KeepsView view s { s with free := n } := ⟨⟨_, _, _, rfl⟩, fun _ => rfl⟩

theorem ite {c : Prop} [Decidable c] (h : KeepsView view s t) (g : KeepsView view s u) : KeepsView view s (if c then t else u) := by
  split
  · exact h
  · exact g

theorem foldl {γ : Type} {f : State → γ → State} (h : ∀ s a, KeepsView view s (f s a)) (l : List γ) (s : State) :
    KeepsView view s (l.foldl f s) := by
  induction l generalizing s with
  | nil => exact refl s
  | cons a l ih => exact (h s a).trans (ih _)

/-- Every tile changed by a function that keeps the view. -/
theorem mapTiles (s : State) {f : TileKey → Tile → Tile} (h : ∀ k x, view (f k x) = view x) :
    KeepsView view s { s with tiles := s.tiles.map (fun x => (x.1, f x.1 x.2)) } := by
  refine ⟨⟨_, _, _, rfl⟩, fun k => ?_⟩
  show view ((assocGet (s.tiles.map (fun x => (x.1, f x.1 x.2))) k).getD Tile.reset) = view ((assocGet s.tiles k).getD Tile.reset)
  rw [assocGet_map]
  cases assocGet s.tiles k with
  | none => rfl
  | some x => exact h k x

theorem cur (h : KeepsView view s t) : t.cur = s.cur := by obtain ⟨l, c, n, rfl⟩ := h.rest; rfl

theorem goesBehind (h : KeepsView view s t) (p : Place) : t.goesBehind p = s.goesBehind p := by obtain ⟨l, c, n, rfl⟩ := h.rest; rfl

theorem tile (h : KeepsView view s t) : view t.tile = view s.tile := by
  unfold State.tile
  rw [h.cur]
  exact h.tiles s.cur

end KeepsView

/-! ### The edges of the memory order (R103-R107) -/

/-- A tile without what the memory order adds to it: the clocks, and the operations that carry them. -/
def Tile.noOrder (t : Tile) : Tile :=
  { t with vcs := Tile.reset.vcs, rel := [], acq := [], markHb := Tile.reset.markHb, gated := [], lsq := [] }

theorem Tile.joinLate_noOrder (t : Tile) (k : TileKey) (start startMark : List (Nat × Nat)) (from_ : List Fence) (v : VClock) :
    (t.joinLate k start startMark from_ v).noOrder = t.noOrder := rfl

theorem Tile.seeTags_noOrder (t : Tile) (id : Nat) (l : List RelTag) : (t.seeTags id l).noOrder = t.noOrder := by
  unfold Tile.seeTags
  dsimp only
  split <;> rfl

theorem spreadLate_keeps (s : State) (fs : List Fence) (v : VClock) : KeepsView Tile.noOrder s (s.spreadLate fs v) :=
  .ite (.refl s) (.mapTiles s fun k x => x.joinLate_noOrder k _ _ _ _)

theorem lateEdge_keeps (s : State) (k : TileKey) (path id : Nat) (v : VClock) : KeepsView Tile.noOrder s (s.lateEdge k path id v) :=
  .ite (.refl s) (((KeepsView.modTileAt s k fun x => x.joinLate_noOrder _ _ _ _ _).trans (.modCtx _ _ _)).trans (spreadLate_keeps _ _ _))

/-- A read takes in what its tags bring, and changes nothing else (R105, R106). -/
theorem noteRead_keeps (s : State) (k : TileKey) (id : Nat) (p : Place) (n : Nat) : KeepsView Tile.noOrder s (s.noteRead k id p n) :=
  .ite (.refl s) (((KeepsView.modTileAt s k fun x => x.seeTags_noOrder _ _).trans (lateEdge_keeps _ _ _ _ _)).trans
    (.foldl (fun s _ => spreadLate_keeps s _ _) _ _))

/-! ### What a cell operation looks at -/

/-- What of a tile its bytes and its save area are made of. -/
def Tile.stored (t : Tile) : Tile := { Tile.reset with scratch := t.scratch, frame := t.frame, savebase := t.savebase }

/-- That, and the state of the tile's cells (R77, R78, R415). -/
def Tile.cells (t : Tile) : Tile := { t.stored with full := t.full, held := t.held, poison := t.poison }

theorem KeepsView.cells_stored {s t : State} (h : KeepsView Tile.cells s t) : KeepsView Tile.stored s t := h.comp Tile.stored

theorem KeepsView.noOrder_stored {s t : State} (h : KeepsView Tile.noOrder s t) : KeepsView Tile.stored s t := h.comp Tile.stored

theorem KeepsView.cellReady {s t : State} (h : KeepsView Tile.cells s t) (k : TileKey) (off : Nat) (consume : Bool) :
    (t.tileAt k).cellReady off consume = (s.tileAt k).cellReady off consume :=
  (congrArg (fun x : Tile => x.cellReady off consume) (h.tiles k) :)

theorem KeepsView.poisonAt {s t : State} (h : KeepsView Tile.cells s t) (k : TileKey) (tid : BitVec 6) (off n : Nat) :
    t.poisonAt k (.scratch tid off) n = s.poisonAt k (.scratch tid off) n :=
  (congrArg (fun x : Tile => x.poison.find? (fun u => u < off + n && off < u + 8)) (h.tiles (keyPeer k tid)) :)

/-- The entries in flight of a tile behind the arrival of results. -/
theorem State.fillAt_flight (s : State) (id due : Nat) (rs : List (RPort × Wide)) :
    (s.fillAt s.cur id due rs).tile.core.flight = fillFlight s.tile.core.flight id due rs := by
  unfold State.tile
  rw [(State.fillAt_ctxs _ _ _ _ _).2, State.fillAt_tileAt]
  rfl

theorem State.fillAt_cellRds (s : State) (id due : Nat) (rs : List (RPort × Wide)) :
    (s.fillAt s.cur id due rs).tile.core.cellRds = s.tile.core.cellRds := by
  unfold State.tile
  rw [(State.fillAt_ctxs _ _ _ _ _).2, State.fillAt_tileAt]
  rfl

theorem State.fillAt_held (s : State) (k j : TileKey) (id due : Nat) (rs : List (RPort × Wide)) :
    ((s.fillAt k id due rs).tileAt j).held = (s.tileAt j).held := by
  by_cases e : j = k
  · subst e; rw [State.fillAt_tileAt]; rfl
  · rw [State.fillAt_other _ _ _ _ e]

/-- An entry that waits for its value has it when it arrives (R21). -/
theorem mem_fillFlight {l : List InFlight} {f : InFlight} {id due : Nat} {rs : List (RPort × Wide)} (hf : f ∈ l) (hid : f.id = id)
    (hl : f.locked = true) (hr : f.ready = false) : { f with ready := true, due := due, value := portVal rs f.port } ∈ fillFlight l id due rs :=
  List.mem_map.mpr ⟨f, hf, if_pos (by simp [hid, hl, hr])⟩

/-! ### The read of a cell (R77, R78) -/

/-- The read of an operation has its value. -/
def TileCore.readDone (c : TileCore) (id : Nat) : TileCore :=
  { c with cellRds := c.cellRds.map (fun x => if x.id = id then { x with done := true } else x) }

/-- A cell of a tile held where the read consumes it. -/
def State.heldFor (s : State) (o : TileKey) (r : CellRd) : State :=
  if r.consume then s.modTileAt o (fun t => { t with held := (r.off, s.cur) :: t.held }) else s

/-- A cell read but for the arrival of its value. -/
def State.readTaken (s : State) (r : CellRd) : State :=
  (((s.noteRead s.cur r.id (.scratch r.tid r.off) 8).heldFor (s.ownerKey r.tid) r).modTile (fun t => t.mapBoth (fun c => c.readDone r.id)))

theorem State.readCell_eq (s : State) (r : CellRd) :
    s.readCell r = ({ s.readTaken r with free := (s.readTaken r).free + 1 }).fillAt (s.readTaken r).cur r.id
      ((s.readTaken r).clock + Config.freeDelay (s.readTaken r).free) [(.q, BitVec.ofNat 512 ((s.tileAt (s.ownerKey r.tid)).spRead r.off 8))] := rfl

theorem heldFor_keeps {α : Type} {view : Tile → α} (h : ∀ (t : Tile) l, view { t with held := l } = view t) (s : State) (o : TileKey) (r : CellRd) :
    KeepsView view s (s.heldFor o r) := .ite (.modTileAt s o fun x => h x _) (.refl s)

theorem readTaken_stored (s : State) (r : CellRd) : KeepsView Tile.stored s (s.readTaken r) :=
  ((noteRead_keeps s _ _ _ _).noOrder_stored.trans (heldFor_keeps (fun _ _ => rfl) _ _ r)).trans (.modTile _ fun _ => rfl)

theorem State.readTaken_core (s : State) (r : CellRd) : (s.readTaken r).tile.core = s.tile.core.readDone r.id := by
  have h : ((s.noteRead s.cur r.id (.scratch r.tid r.off) 8).heldFor (s.ownerKey r.tid) r).tile.core = s.tile.core :=
    (heldFor_keeps (view := Tile.core) (fun _ _ => rfl) _ _ r).tile.trans ((noteRead_keeps s _ _ _ _).comp Tile.core).tile
  unfold State.readTaken
  rw [State.modTile_tile]
  exact congrArg (fun c : TileCore => c.readDone r.id) h

theorem State.readTaken_held (s : State) (r : CellRd) (h : r.consume = true) :
    (r.off, s.cur) ∈ ((s.readTaken r).tileAt (s.ownerKey r.tid)).held := by
  have hm := (KeepsView.modTile (view := Tile.held) ((s.noteRead s.cur r.id (.scratch r.tid r.off) 8).heldFor (s.ownerKey r.tid) r)
    (f := fun t => t.mapBoth (fun c => c.readDone r.id)) fun _ => rfl).tiles (s.ownerKey r.tid)
  unfold State.readTaken
  rw [hm, State.heldFor, if_pos h, State.modTileAt_tileAt, (noteRead_keeps s _ _ _ _).cur]
  exact List.mem_cons_self

theorem State.readCell_cellRds (s : State) (r : CellRd) : (s.readCell r).tile.core.cellRds = (s.tile.core.readDone r.id).cellRds := by
  rw [← State.readTaken_core]
  exact State.fillAt_cellRds { s.readTaken r with free := (s.readTaken r).free + 1 } _ _ _

theorem State.readCell_flight (s : State) (r : CellRd) : ∃ due, (s.readCell r).tile.core.flight =
    fillFlight s.tile.core.flight r.id due [(.q, BitVec.ofNat 512 ((s.tileAt (s.ownerKey r.tid)).spRead r.off 8))] := by
  have hc : (s.readTaken r).tile.core.flight = s.tile.core.flight := (congrArg TileCore.flight (s.readTaken_core r) :)
  rw [← hc]
  exact ⟨_, State.fillAt_flight { s.readTaken r with free := (s.readTaken r).free + 1 } _ _ _⟩

theorem State.readCell_held (s : State) (r : CellRd) (h : r.consume = true) : (r.off, s.cur) ∈ ((s.readCell r).tileAt (s.ownerKey r.tid)).held := by
  rw [State.readCell_eq, State.fillAt_held]
  exact s.readTaken_held r h

/-! ### CELLR and CELLP triggered -/

/-- A cell read under way: it waits for its value, and a CELLR is gated (R77, R78). -/
def State.cellAsked (s : State) (u : Twin) (tid : BitVec 6) (off : Nat) (consume : Bool) (addr : Word) : State :=
  let r : CellRd := { id := s.nextOp, u := u, tid := tid, off := off, consume := consume, done := false }
  let s := (s.pend (lsuOfTwin u) [.q]).modTile (fun t => t.mapCore (fun c => { c with cellRds := c.cellRds ++ [r] }))
  if consume then s.gate u (.scratch tid off) (.cellr r.id) addr else s

theorem pend_cells (s : State) (sk : Sock) (ports : List RPort) : KeepsView Tile.cells s (s.pend sk ports) := by
  unfold State.pend
  exact .modTile s fun _ => rfl

theorem cellAsked_keeps (s : State) (u : Twin) (tid : BitVec 6) (off : Nat) (consume : Bool) (addr : Word) :
    KeepsView Tile.cells s (s.cellAsked u tid off consume addr) := by
  have h : KeepsView Tile.cells s ((s.pend (lsuOfTwin u) [.q]).modTile (fun t => t.mapCore (fun c => { c with cellRds := c.cellRds ++
      [{ id := s.nextOp, u := u, tid := tid, off := off, consume := consume, done := false }] }))) :=
    (pend_cells s _ _).trans (.modTile _ fun _ => rfl)
  exact .ite (h.trans (.modTile _ fun _ => rfl)) h

theorem mem_cellAsked (s : State) (u : Twin) (tid : BitVec 6) (off : Nat) (consume : Bool) (addr : Word) :
    { id := s.nextOp, u := u, tid := tid, off := off, consume := consume, done := false } ∈ (s.cellAsked u tid off consume addr).tile.core.cellRds := by
  unfold State.cellAsked
  dsimp only
  cases consume
  · rw [if_neg (by decide), State.modTile_tile]
    exact List.mem_append_right _ List.mem_cons_self
  · rw [if_pos rfl, State.gate, State.modTile_tile, State.modTile_tile]
    exact List.mem_append_right _ List.mem_cons_self

/-- What a cell read does at its trigger: it reads at once where the cell is ready, whole, and no other tile's turn comes first. -/
def State.cellAct (s : State) (u : Twin) (tid : BitVec 6) (off : Nat) (consume : Bool) (addr : Word) : State :=
  let r : CellRd := { id := s.nextOp, u := u, tid := tid, off := off, consume := consume, done := false }
  let s := s.cellAsked u tid off consume addr
  if (s.tileAt (s.ownerKey tid)).cellReady off consume && (s.poisonAt s.cur (.scratch tid off) 8).isNone && !s.goesBehind (.scratch tid off)
  then s.readCell r else s

theorem cellReadHooks_act {s : State} {u : Twin} {consume : Bool} {t : Wide} {tid : BitVec 6} {off : Nat}
    (h : s.place .cell (lowWord t) 8 8 = .ok (.scratch tid off)) :
    (cellReadHooks u consume t).act s = (s.flushLs s.cur).cellAct u tid off consume (lowWord t) := by
  dsimp only [cellReadHooks]
  rw [h]
  rfl

/-- No committed operation of the tile stands before the read: its poison is what stands there. -/
theorem poisonAt_of_cellPoison {s : State} {t : Wide} {consume : Bool} {tid : BitVec 6} {off : Nat} (hl : s.tile.lsq = [])
    (h : s.place .cell (lowWord t) 8 8 = .ok (.scratch tid off)) (hp : s.cellPoison t consume = none)
    (hr : (s.tileAt (s.ownerKey tid)).cellReady off consume = true) : s.poisonAt s.cur (.scratch tid off) 8 = none := by
  unfold State.cellPoison at hp
  rw [h] at hp
  dsimp only at hp
  rw [if_pos hr] at hp
  unfold State.poisonCause at hp
  rw [Claims.flushLs_none hl, (KeepsView.modTileAt (view := Tile.cells) s s.cur (f := Claims.noneLeft) fun _ => rfl).poisonAt] at hp
  cases e : s.poisonAt s.cur (.scratch tid off) 8 with
  | none => rfl
  | some x => rw [e] at hp; cases hp

end Sys2Proof.Machine

namespace Sys2Proof.Claims

open Sys2Proof.Machine

theorem sameBytes_keepsView {s t : State} (h : KeepsView Tile.stored s t) : SameBytes s t := by
  refine ⟨fun pa => ?_, fun k off => (congrArg (fun x : Tile => x.byte off) (h.tiles k) :)⟩
  obtain ⟨l, c, n, rfl⟩ := h.rest
  rfl

/-- What awaits an operation's results stands in the frame and in the save area alone. -/
theorem unsaved_keepsView {s t : State} {id : Nat} (h : KeepsView Tile.stored s t) (hu : Unsaved s s.cur id) : Unsaved t t.cur id := by
  have hf : (t.tileAt s.cur).frame = (s.tileAt s.cur).frame := (congrArg Tile.frame (h.tiles s.cur) :)
  have ha : (t.tileAt s.cur).area = (s.tileAt s.cur).area := (congrArg Tile.area (h.tiles s.cur) :)
  obtain ⟨hframe, hsaved⟩ := hu
  rw [h.cur]
  refine ⟨fun f hx => hframe f (hf ▸ hx), fun b hb hpa => hsaved b ?_ (hpa.trans ha)⟩
  obtain ⟨l, c, n, rfl⟩ := h.rest
  exact hb

/-- A cell read changes no byte, unless a frame or a save area awaits its value (R371, R377). -/
theorem sameBytes_readCell (s : State) (r : CellRd) (h : Unsaved s s.cur r.id) : SameBytes s (s.readCell r) := by
  have hk := (readTaken_stored s r).trans (.setFree _ ((s.readTaken r).free + 1))
  exact sameBytes_trans (sameBytes_keepsView hk) (sameBytes_fillAt _ _ _ _ _ (unsaved_keepsView hk h))

/-! ### CELLW and CELLWR (R77, R248) -/

theorem cellWrite_gates {u : Twin} {kind : Word → GKind} {hk : Wide → Word → Hooks} {src : Src} {g : Guard} {s : State} {p : Place}
    (hk_eq : ∀ t m, hk t m = cellWriteHooks u kind t) (h : ScalarIssues (lsuOfTwin u) src g s)
    (hs : s.lsStall u (wideOfWord (s.scalarSrc src)) = false) (hp : s.place .cell (s.scalarSrc src) 8 8 = .ok p) :
    runScalar (lsuOfTwin u) hk src g s =
      .next ((s.taken src).gate u p (kind (lowWord (s.opA (lsuOfTwin u)))) (s.scalarSrc src)) := by
  have hc : cellCheck u (wideOfWord (s.scalarSrc src)) s = none := by
    unfold cellCheck State.placeCause
    rw [lowWord_wideOfWord, hp]
  rw [runScalar_issues h, hk_eq, State.runHooks_act hs rfl hc rfl h.sound]
  change Host.Outcome.next ((cellWriteHooks u kind (wideOfWord (s.scalarSrc src))).act (s.taken src)) = _
  dsimp only [cellWriteHooks, Hooks.stalled]
  rw [lowWord_wideOfWord, State.taken_place, hp, State.taken_opA]

/-! ### CELLR and CELLP (R77, R78, R248) -/

/-- From a state whose ready cell is whole, the read has its value at once exactly where the cell is ready and its turn has come. -/
theorem cellAct_reads (s : State) (u : Twin) (tid : BitVec 6) (off : Nat) (consume : Bool) (addr : Word)
    (hp : (s.tileAt (s.ownerKey tid)).cellReady off consume = true → s.poisonAt s.cur (.scratch tid off) 8 = none) :
    (Unsaved s s.cur s.nextOp → SameBytes s (s.cellAct u tid off consume addr)) ∧
    { id := s.nextOp, u := u, tid := tid, off := off, consume := consume,
      done := (s.tileAt (s.ownerKey tid)).cellReady off consume && !s.goesBehind (.scratch tid off) }
        ∈ (s.cellAct u tid off consume addr).tile.core.cellRds := by
  have hk := cellAsked_keeps s u tid off consume addr
  have hr := mem_cellAsked s u tid off consume addr
  unfold State.cellAct
  dsimp only
  rw [show (s.cellAsked u tid off consume addr).ownerKey tid = s.ownerKey tid from congrArg (keyPeer · tid) hk.cur, hk.cellReady, hk.poisonAt,
    hk.goesBehind, hk.cur]
  have hc : ((s.tileAt (s.ownerKey tid)).cellReady off consume && (s.poisonAt s.cur (.scratch tid off) 8).isNone && !s.goesBehind (.scratch tid off)) =
      ((s.tileAt (s.ownerKey tid)).cellReady off consume && !s.goesBehind (.scratch tid off)) := by
    cases e : (s.tileAt (s.ownerKey tid)).cellReady off consume with
    | false => rfl
    | true => rw [hp e]; rfl
  rw [hc]
  cases (s.tileAt (s.ownerKey tid)).cellReady off consume && !s.goesBehind (.scratch tid off) with
  | false => exact ⟨fun _ => sameBytes_keepsView hk.cells_stored, hr⟩
  | true =>
    refine ⟨fun hu => sameBytes_trans (sameBytes_keepsView hk.cells_stored) (sameBytes_readCell _ _ (unsaved_keepsView hk.cells_stored hu)), ?_⟩
    rw [if_pos rfl, State.readCell_cellRds]
    exact List.mem_map.mpr ⟨_, hr, if_pos rfl⟩

theorem cellRead_asks {u : Twin} {consume : Bool} {hk : Wide → Word → Hooks} {src : Src} {g : Guard} {s : State} {tid : BitVec 6} {off : Nat}
    (hk_eq : ∀ t m, hk t m = cellReadHooks u consume t) (h : ScalarIssues (lsuOfTwin u) src g s)
    (hs : s.lsStall u (wideOfWord (s.scalarSrc src)) = false) (hp : s.place .cell (s.scalarSrc src) 8 8 = .ok (.scratch tid off))
    (hq : s.cellPoison (wideOfWord (s.scalarSrc src)) consume = none) :
    runScalar (lsuOfTwin u) hk src g s =
      .next (((s.taken src).flushLs (s.taken src).cur).cellAct u tid off consume (s.scalarSrc src)) := by
  have hc : cellCheck u (wideOfWord (s.scalarSrc src)) s = none := by
    unfold cellCheck State.placeCause
    rw [lowWord_wideOfWord, hp]
  rw [runScalar_issues h, hk_eq, State.runHooks_act hs rfl hc hq h.sound]
  change Host.Outcome.next ((cellReadHooks u consume (wideOfWord (s.scalarSrc src))).act (s.taken src)) = _
  rw [cellReadHooks_act (by rw [lowWord_wideOfWord, State.taken_place, hp]), lowWord_wideOfWord]

/-- A read of a source port leaves what a cell operation looks at. -/
theorem taken_cells (s : State) (src : Src) : KeepsView Tile.cells s (s.taken src) := by
  unfold State.taken State.consume
  split
  · exact .refl s
  · exact .modTile s fun _ => rfl

theorem cellRead_reads {u : Twin} {consume : Bool} {hk : Wide → Word → Hooks} {src : Src} {g : Guard} {s : State} {tid : BitVec 6} {off : Nat}
    (hk_eq : ∀ t m, hk t m = cellReadHooks u consume t) (h : ScalarIssues (lsuOfTwin u) src g s)
    (hs : s.lsStall u (wideOfWord (s.scalarSrc src)) = false) (hp : s.place .cell (s.scalarSrc src) 8 8 = .ok (.scratch tid off))
    (hq : s.cellPoison (wideOfWord (s.scalarSrc src)) consume = none) (hl : s.tile.lsq = []) :
    ∃ t, runScalar (lsuOfTwin u) hk src g s = .next t ∧ (Unsaved s s.cur s.nextOp → SameBytes s t) ∧
      ∃ r ∈ t.tile.core.cellRds, r.id = s.nextOp ∧ r.tid = tid ∧ r.off = off ∧ r.consume = consume ∧
        r.done = ((s.tileAt (s.ownerKey tid)).cellReady off consume && !s.goesBehind (.scratch tid off)) := by
  have hlq : (s.taken src).tile.lsq = [] := by rw [State.taken_tile]; exact hl
  refine ⟨_, cellRead_asks hk_eq h hs hp hq, ?_⟩
  rw [flushLs_none hlq]
  have hn : ((s.taken src).modTileAt (s.taken src).cur noneLeft).nextOp = s.nextOp :=
    (congrArg Tile.nextId (State.modTile_tile (s.taken src) noneLeft)).trans (State.taken_nextId s src)
  generalize he : (s.taken src).modTileAt (s.taken src).cur noneLeft = a at hn ⊢
  have hk : KeepsView Tile.cells s a := he ▸ (taken_cells s src).trans (.modTileAt _ _ fun _ => rfl)
  have ho : a.ownerKey tid = s.ownerKey tid := congrArg (keyPeer · tid) hk.cur
  obtain ⟨hb, hr⟩ := cellAct_reads a u tid off consume (s.scalarSrc src) fun hready => by
    rw [ho, hk.cellReady] at hready
    rw [hk.cur, hk.poisonAt]
    exact poisonAt_of_cellPoison hl (by rw [lowWord_wideOfWord, hp]) hq hready
  rw [hn, ho, hk.cellReady, hk.goesBehind] at hr
  exact ⟨fun hu => sameBytes_trans (sameBytes_keepsView hk.cells_stored) (hb (hn ▸ unsaved_keepsView hk.cells_stored hu)), _, hr, rfl, rfl, rfl, rfl, rfl⟩

/-! ### A read that has waited (R78) -/

theorem execCellReadSatisfied_ready {s : State} {r : CellRd} (h : s.readyCell s.cur = some r) (hp : s.poisonCause (.scratch r.tid r.off) 8 = none) :
    execCellReadSatisfied s = .next (s.readCell r) := by
  unfold execCellReadSatisfied
  rw [h]
  dsimp only
  rw [hp]

theorem readDone_done {c : TileCore} {id : Nat} : ∀ x ∈ (c.readDone id).cellRds, x.id = id → x.done = true := by
  intro x hx hid
  obtain ⟨y, -, rfl⟩ := List.mem_map.mp hx
  by_cases e : y.id = id
  · rw [if_pos e]
  · rw [if_neg e] at hid; exact absurd hid e

/-- Settles O21. -/
theorem cellOperations : Obligations.CellOperations := by
  refine ⟨fun u src g s tid off h hs hp => ⟨?_, ?_, fun consume hq hl => ?_⟩, fun s r hr hp => ?_⟩
  · exact cellWrite_gates (hk := hkCellw u) (kind := fun v => .cellw v) (fun _ _ => rfl) h hs hp
  · exact cellWrite_gates (hk := hkCellwr u) (kind := fun v => .cellwr v) (fun _ _ => rfl) h hs hp
  · cases consume with
    | false => exact cellRead_reads (hk := hkCellp u) (fun _ _ => rfl) h hs hp hq hl
    | true => exact cellRead_reads (hk := hkCellr u) (fun _ _ => rfl) h hs hp hq hl
  · obtain ⟨due, hf⟩ := s.readCell_flight r
    refine ⟨_, execCellReadSatisfied_ready hr hp, sameBytes_readCell s r, ?_, s.readCell_held r, fun f hm hid hlk hrd hq => ?_⟩
    · rw [State.readCell_cellRds]
      exact readDone_done
    · have hv : portVal [(RPort.q, BitVec.ofNat 512 ((s.tileAt (s.ownerKey r.tid)).spRead r.off 8))] f.port =
          BitVec.ofNat 512 ((s.tileAt (s.ownerKey r.tid)).spRead r.off 8) := by rw [hq]; rfl
      rw [hf]
      exact ⟨_, mem_fillFlight hm hid hlk hrd, rfl, rfl, hv⟩

end Sys2Proof.Claims
end

section
/-! PROOF. Group loads (O20): what a load takes at its trigger, and the combination of its leaves. -/

namespace Sys2Proof.Machine

/-! ### What a group load reads (R87, R91, R96) -/

/-- A leaf is made of its member's scratchpad and poison, and of the die's service. -/
theorem KeepsView.leafLine {s t : State} (h : KeepsView Tile.cells s t) (m : BitVec 6) (off : Nat) : t.leafLine m off = s.leafLine m off := by
  have ho : t.ownerKey m = s.ownerKey m := congrArg (keyPeer · m) h.cur
  have hd : t.dieAt (s.ownerKey m).die = s.dieAt (s.ownerKey m).die := by obtain ⟨l, c, n, rfl⟩ := h.rest; rfl
  have hr : (t.tileAt (s.ownerKey m)).spRead off 64 = (s.tileAt (s.ownerKey m)).spRead off 64 :=
    (congrArg (fun x : Tile => x.spRead off 64) (h.tiles _) :)
  unfold State.leafLine
  dsimp only
  rw [ho, hd, hr, h.poisonAt, h.cur]

theorem noteFlag_keeps (s : State) (k : TileKey) (path id : Nat) (p : Place) (n : Nat) : KeepsView Tile.noOrder s (s.noteFlag k path id p n) :=
  lateEdge_keeps _ _ _ _ _

/-- Each result port of an operation that was triggered awaits its result (R21). -/
theorem State.pend_pending (s : State) (sk : Sock) {ports : List RPort} {p : RPort} (h : p ∈ ports) :
    (s.pend sk ports).tile.core.pending sk p = true := by
  unfold State.pend TileCore.pending
  rw [State.modTile_tile]
  exact List.any_eq_true.mpr ⟨_, List.mem_append_right _ (List.mem_map_of_mem h), by simp⟩

/-! ### GLD and GLDT triggered (R87-R91) -/

/-- The group load that a trigger makes: its members and their lines as they stand. -/
def State.groupLoad (s : State) (u : Twin) (trapping : Bool) (addr : Word) : GLoad :=
  let members := (s.group s.cur (groupOfAddr addr)).membersAt s.clock
  { id := s.nextOp, u := u, addr := addr, op := BitVec.ofNat 3 (bitsOf (s.opA (lsuOfTwin u)).toNat 0 3),
    ty := BitVec.ofNat 4 (bitsOf (s.opA (lsuOfTwin u)).toNat 4 4), members := members,
    leaves := members.map (fun m => s.leafLine m (addrOff addr)), trapping := trapping, here := s.tile.core.seq.here,
    slot := s.tile.core.seq.slot, ep := s.tile.epoch s.cur pathGR, combined := false, absent := 0, trapped := false,
    race := ((members.zip (List.range members.length)).filterMap (fun x => s.leafRace x.1 x.2 (addrOff addr))).head?,
    seen := false, closed := false }

/-- The completion flags of the lines of a group load are taken in (R106). -/
def State.noteLeaves (s : State) (x : GLoad) : State :=
  x.members.foldl (fun s m => s.noteFlag s.cur pathGR s.nextOp (.scratch m (addrOff x.addr)) 64) s

/-- A group load under way: its results are pending, and the routers will combine its leaves. -/
def State.askGroup (s : State) (x : GLoad) : State :=
  let s := (s.noteLeaves x).pend (lsuOfTwin x.u) [.q, .qp, .q1]
  (s.modTile (fun t => t.mapCore (fun c => { c with gloads := c.gloads ++ [x] }))).addLater s.cur .groupLoadCombine

theorem gldHooks_act (s : State) (u : Twin) (trapping : Bool) (t : Wide) :
    (gldHooks u trapping t).act s = (s.flushLs s.cur).askGroup ((s.flushLs s.cur).groupLoad u trapping (lowWord t)) := rfl

theorem noteLeaves_keeps (s : State) (x : GLoad) : KeepsView Tile.noOrder s (s.noteLeaves x) :=
  .foldl (fun s _ => noteFlag_keeps s _ _ _ _ _) _ _

theorem State.askGroup_tile (s : State) (x : GLoad) :
    (s.askGroup x).tile = ((s.noteLeaves x).pend (lsuOfTwin x.u) [.q, .qp, .q1]).tile.mapCore (fun c => { c with gloads := c.gloads ++ [x] }) := by
  unfold State.askGroup
  exact State.modTile_tile ((s.noteLeaves x).pend (lsuOfTwin x.u) [.q, .qp, .q1]) (fun t => t.mapCore (fun c => { c with gloads := c.gloads ++ [x] }))

/-- The core of the tile behind the trigger: results are in flight, the load is listed, and everything else stands. -/
theorem State.askGroup_core (s : State) (x : GLoad) : ∃ fl, (s.askGroup x).tile.core =
    { s.tile.core with flight := s.tile.core.flight ++ fl, gloads := s.tile.core.gloads ++ [x] } := by
  have hc : (s.noteLeaves x).tile.core = s.tile.core := ((noteLeaves_keeps s x).comp Tile.core).tile
  obtain ⟨fl, e⟩ := (s.noteLeaves x).pend_tile (lsuOfTwin x.u) [.q, .qp, .q1]
  exact ⟨fl, by rw [State.askGroup_tile, e, ← hc]; rfl⟩

theorem State.askGroup_pending (s : State) (x : GLoad) {p : RPort} (h : p ∈ [RPort.q, .qp, .q1]) :
    (s.askGroup x).tile.core.pending (lsuOfTwin x.u) p = true := by
  rw [State.askGroup_tile]
  exact State.pend_pending _ _ h

theorem State.askGroup_event (s : State) (x : GLoad) : ∃ e ∈ (s.askGroup x).events, e.step = .groupLoadCombine ∧ e.at_ = s.cur :=
  ⟨_, List.mem_append_right _ List.mem_cons_self, rfl, (noteLeaves_keeps s x).cur⟩

/-! ### The combination (R90, R92, R93) -/

/-- The combined line of a group load. -/
def GLoad.line (x : GLoad) : Wide :=
  if x.leaves.all (·.isNone) then 0
  else wideOfLanes (codeTy x.ty.toNat).width (fun i => (groupLane x.op.toNat (codeTy x.ty.toNat) x.leaves i).val)

/-- The events that its lanes count. -/
def GLoad.events (x : GLoad) : EvCount :=
  if x.leaves.all (·.isNone) then EvCount.zero
  else laneEvents everyLane (groupLane x.op.toNat (codeTy x.ty.toNat) x.leaves) (512 / (codeTy x.ty.toNat).width)

/-- Its three results. -/
def GLoad.results (x : GLoad) : List (RPort × Wide) :=
  [(.q, x.line), (.qp, if absentMask x.leaves = 0 then 0 else 1), (.q1, BitVec.ofNat 512 (absentMask x.leaves))]

/-- The load is noted as combined, with its absent ranks. -/
def TileCore.noteCombined (c : TileCore) (x : GLoad) : TileCore :=
  { c with gloads := c.gloads.map (fun y =>
      if y.id = x.id then { y with combined := true, absent := BitVec.ofNat 64 (absentMask x.leaves) } else y) }

/-- A group load combined but for the note of it. -/
def State.deliverGroup (s : State) (x : GLoad) : State :=
  let s := s.spend.fillAt s.cur x.id (s.clock + Config.freeDelay s.free) x.results
  s.chargeAt s.cur x.id x.events

theorem execGroupLoadCombine_eq {s : State} {x : GLoad} (h : s.tile.core.gloads.find? (fun y => !y.combined) = some x) :
    execGroupLoadCombine s = .next ((s.deliverGroup x).modTile (fun t => t.mapBoth (fun c => c.noteCombined x))) := by
  unfold execGroupLoadCombine
  rw [h]
  rfl

theorem TileCore.noteCombined_combined {c : TileCore} {x y : GLoad} (h : y ∈ (c.noteCombined x).gloads) (hid : y.id = x.id) :
    y.combined = true := by
  obtain ⟨z, -, rfl⟩ := List.mem_map.mp h
  by_cases e : z.id = x.id
  · rw [if_pos e]
  · rw [if_neg e] at hid; exact absurd hid e

theorem State.deliverGroup_flight (s : State) (x : GLoad) : ∃ due, (s.deliverGroup x).tile.core.flight =
    chargeFlight (fillFlight s.tile.core.flight x.id due x.results) x.id x.events := by
  refine ⟨s.clock + Config.freeDelay s.free, ?_⟩
  have hf : (s.spend.fillAt s.cur x.id (s.clock + Config.freeDelay s.free) x.results).tile.core.flight = _ :=
    s.spend.fillAt_flight x.id (s.clock + Config.freeDelay s.free) x.results
  have hm (t : State) (g : List InFlight → List InFlight) : (t.mapFlights t.cur g).tile.core.flight = g t.tile.core.flight :=
    congrArg (fun u : Tile => u.core.flight) (State.mapFlights_tileAt t t.cur g)
  unfold State.deliverGroup State.chargeAt
  rw [hm, hf]
  rfl

/-- Counted events change no other part of a result on its way (R143). -/
theorem mem_chargeFlight {l : List InFlight} {f : InFlight} (id : Nat) (ev : EvCount) (h : f ∈ l) :
    ∃ f' ∈ chargeFlight l id ev, f'.id = f.id ∧ f'.port = f.port ∧ f'.ready = f.ready ∧ f'.value = f.value := by
  refine ⟨_, List.mem_map_of_mem h, ?_⟩
  split <;> exact ⟨rfl, rfl, rfl, rfl⟩

/-- A result that a group load awaits has its value behind the combination. -/
theorem State.deliverGroup_fills {s : State} {x : GLoad} {f : InFlight} (hf : f ∈ s.tile.core.flight) (hid : f.id = x.id)
    (hl : f.locked = true) (hr : f.ready = false) :
    ∃ f' ∈ (s.deliverGroup x).tile.core.flight, f'.id = f.id ∧ f'.port = f.port ∧ f'.ready = true ∧ f'.value = portVal x.results f.port := by
  obtain ⟨due, e⟩ := s.deliverGroup_flight x
  rw [e]
  exact mem_chargeFlight x.id x.events (mem_fillFlight (due := due) (rs := x.results) hf hid hl hr)

/-- Three results, one for each port: a port has its own. -/
theorem portVal_three (a b c : Wide) : portVal [(.q, a), (.qp, b), (.q1, c)] .q = a ∧ portVal [(.q, a), (.qp, b), (.q1, c)] .qp = b ∧
    portVal [(.q, a), (.qp, b), (.q1, c)] .q1 = c := ⟨rfl, rfl, rfl⟩

/-- Each port has its own result of a group load (R90). -/
theorem GLoad.portVal_results (x : GLoad) : portVal x.results .q = x.line ∧
    portVal x.results .qp = (if absentMask x.leaves = 0 then 0 else 1) ∧ portVal x.results .q1 = BitVec.ofNat 512 (absentMask x.leaves) :=
  portVal_three _ _ _

end Sys2Proof.Machine

namespace Sys2Proof.Claims

open Sys2Proof.Machine

/-! ### A group load triggered -/

theorem sameBytes_askGroup (s : State) (x : GLoad) : SameBytes s (s.askGroup x) :=
  sameBytes_trans (sameBytes_trans (sameBytes_keepsView (noteLeaves_keeps s x).noOrder_stored) (sameBytes_pend _ _ _))
    (sameBytes_trans (sameBytes_modTile _ _ rfl) (sameBytes_addLater _ _ _))

/-- The state from which a group load reads: its source port is read, and no committed operation is left (R101). -/
theorem taken_flushLs {s : State} (src : Src) (hl : s.tile.lsq = []) :
    let v := (s.taken src).flushLs (s.taken src).cur
    KeepsView Tile.cells s v ∧ v.tile.core = (s.taken src).tile.core ∧ ∃ l, v = { s with tiles := l } := by
  have hlq : (s.taken src).tile.lsq = [] := by rw [State.taken_tile]; exact hl
  dsimp only
  rw [flushLs_none hlq]
  refine ⟨(taken_cells s src).trans (.modTileAt _ _ fun _ => rfl), (congrArg Tile.core (State.modTile_tile (s.taken src) noneLeft) :), ?_⟩
  obtain ⟨l, e⟩ := s.taken_eq src
  rw [e]
  exact ⟨_, rfl⟩

/-- A read of a source port changes no register (R20, R27). -/
theorem sameRegisters_taken (s : State) (src : Src) : SameRegisters s.tile.core (s.taken src).tile.core := by
  rw [State.taken_tile]
  obtain ⟨h1, h2, h3, h4, h5, h6, -, -, h9, -, h11, h12, h13, -⟩ := TileCore.consume_frame s.ctx.qmode (srcPorts src) s.tile.core
  exact ⟨⟨h3, h4, h5, h6, h1, h2, h9, h11, h12⟩, h13⟩

section

variable {u : Twin} {trapping : Bool} {hk : Wide → Word → Hooks} {src : Src} {g : Guard} {s : State}
    (hk_eq : ∀ t m, hk t m = gldHooks u trapping t) (h : ScalarIssues (lsuOfTwin u) src g s) (hb : s.lsuBusy u = false)
    (hfence : s.fenceStall pathGR = false) (hq : s.tile.core.inFlight (lsuOfTwin u) .q1 < 4)
    (ha : groupAddrOk (s.scalarSrc src) = true) (hr : reductionOk (s.opA (lsuOfTwin u)) = true)

include hk_eq h hb hfence hq ha hr

/-- A group load that issues, with a lawful address and reduction word, takes its effect. -/
theorem groupLoad_asks :
    let v := (s.taken src).flushLs (s.taken src).cur
    runScalar (lsuOfTwin u) hk src g s = .next (v.askGroup (v.groupLoad u trapping (s.scalarSrc src))) := by
  have hstall : (gldHooks u trapping (wideOfWord (s.scalarSrc src))).stall s = false := by
    simp [gldHooks, Hooks.stalled, hb, hfence, hq]
  have hcheck : (gldHooks u trapping (wideOfWord (s.scalarSrc src))).check s = none := by
    simp [gldHooks, Hooks.stalled, lowWord_wideOfWord, ha, hr]
  rw [runScalar_issues h, hk_eq, State.runHooks_act hstall rfl hcheck rfl h.sound]
  exact congrArg Host.Outcome.next (by rw [gldHooks_act, lowWord_wideOfWord]; rfl)

/-- What a group load that takes its effect is, and what it leaves (R87-R91). -/
theorem groupLoad_taken (hl : s.tile.lsq = []) :
    ∃ t x, runScalar (lsuOfTwin u) hk src g s = .next t ∧ t.tile.core.gloads = (s.taken src).tile.core.gloads ++ [x] ∧
      x.trapping = trapping ∧ x.combined = false ∧ x.members = (s.group s.cur (groupOfAddr (s.scalarSrc src))).membersAt s.clock ∧
      x.leaves = x.members.map (fun m => s.leafLine m (addrOff (s.scalarSrc src))) ∧
      (∀ p ∈ [RPort.q, .qp, .q1], t.tile.core.pending (lsuOfTwin u) p = true) ∧
      (∃ e ∈ t.events, e.step = .groupLoadCombine ∧ e.at_ = s.cur) ∧ SameBytes s t ∧ SameRegisters s.tile.core t.tile.core := by
  have hasks := groupLoad_asks hk_eq h hb hfence hq ha hr
  obtain ⟨hkeeps, hcore, hrest⟩ := taken_flushLs src hl
  dsimp only at hasks
  generalize (s.taken src).flushLs (s.taken src).cur = v at hasks hkeeps hcore hrest
  obtain ⟨fl, e⟩ := v.askGroup_core (v.groupLoad u trapping (s.scalarSrc src))
  rw [hcore] at e
  refine ⟨_, v.groupLoad u trapping (s.scalarSrc src), hasks, by rw [e], rfl, rfl, ?_, List.map_congr_left fun m _ => hkeeps.leafLine m _,
    fun p hp => v.askGroup_pending _ hp, hkeeps.cur ▸ v.askGroup_event _,
    sameBytes_trans (sameBytes_keepsView hkeeps.cells_stored) (sameBytes_askGroup v _), ?_⟩
  · obtain ⟨l, rfl⟩ := hrest
    rfl
  · rw [e]
    exact sameRegisters_taken s src

end

/-! ### A group load combined -/

theorem sameBytes_mapFlights (s : State) (k : TileKey) (f : List InFlight → List InFlight) : SameBytes s (s.mapFlights k f) :=
  sameBytes_modTileAt s k (fun t => t.mapFlights f) rfl

/-- The combination changes no byte, unless a frame or a save area awaits its results (R371, R377). -/
theorem sameBytes_deliverGroup (s : State) (x : GLoad) (h : Unsaved s s.cur x.id) : SameBytes s (s.deliverGroup x) :=
  sameBytes_trans (b := s.spend) ⟨fun _ => rfl, fun _ _ => rfl⟩
    (sameBytes_trans (sameBytes_fillAt s.spend s.cur x.id _ x.results h) (sameBytes_mapFlights _ _ _))

/-- Settles O20, by what a group load takes at its trigger and what the combination of its leaves delivers. -/
theorem groupLoads : Obligations.GroupLoads := by
  refine ⟨fun trap u src g s h hb hf hq ha hr hl => ?_, fun s x hx => ?_⟩
  · cases trap with
    | false => exact groupLoad_taken (hk := hkGldt u) (fun _ _ => rfl) h hb hf hq ha hr hl
    | true => exact groupLoad_taken (hk := hkGld u) (fun _ _ => rfl) h hb hf hq ha hr hl
  · refine ⟨_, execGroupLoadCombine_eq hx, fun hu => sameBytes_trans (sameBytes_deliverGroup s x hu) (sameBytes_modTile _ _ rfl), ?_, ?_⟩
    · rw [State.modTile_tile]
      exact fun y hy hid => TileCore.noteCombined_combined hy hid
    · intro f hm hid hlk hrd
      rw [State.modTile_tile]
      obtain ⟨f', hm', hid', hp', hr', hv'⟩ := State.deliverGroup_fills hm hid hlk hrd
      obtain ⟨hq, hqp, hq1⟩ := x.portVal_results
      exact ⟨f', hm', hid', hp', hr', fun hp => by rw [hv', hp, hq, GLoad.line], fun hp => by rw [hv', hp, hqp], fun hp => by rw [hv', hp, hq1]⟩

end Sys2Proof.Claims
end

section
/-! PROOF. The fences (O26): RELEASE, ACQUIRE and XFENCE change the clocks of the tile's paths and the sequencer's fences alone. -/

namespace Sys2Proof.Machine

/-! ### Clocks of the paths -/

theorem Tile.setVc_vcOf (t : Tile) {p : Nat} (h : p < 6) (v : VClock) : (t.setVc p v).vcOf p = v := by
  unfold Tile.vcOf Tile.setVc
  rw [dif_pos h, dif_pos h]
  exact vget_set_self t.vcs p h v ⟨p, h⟩ rfl

/-- Changes of the clocks of some paths, one after another. -/
theorem Tile.foldl_vcs {f : Tile → Nat → Tile} (hf : ∀ t p, ∃ l, f t p = { t with vcs := l }) (ps : List Nat) (t : Tile) :
    ∃ l, ps.foldl f t = { t with vcs := l } := by
  induction ps generalizing t with
  | nil => exact ⟨t.vcs, rfl⟩
  | cons p ps ih =>
    obtain ⟨l, e⟩ := hf t p
    obtain ⟨l', e'⟩ := ih (f t p)
    exact ⟨l', by rw [List.foldl_cons, e', e]⟩

/-! ### A fence added -/

/-- A fence comes behind those that still hold, and everything else of the tile stands (R103). -/
theorem State.addFence_tile (s : State) (f : Fence) :
    ∃ l, (s.addFence f).tile = s.tile.mapSeq (fun q => { q with fences := l ++ [f] }) :=
  ⟨_, State.modTile_tile _ _⟩

theorem State.taken_seq (s : State) (src : Src) : (s.taken src).tile.core.seq = s.tile.core.seq := by
  obtain ⟨-, -, -, -, -, -, -, -, -, hs, -⟩ := TileCore.consume_frame s.ctx.qmode (srcPorts src) s.tile.core
  rw [State.taken_tile]
  exact hs

theorem State.addFence_scope (s : State) (f : Fence) : (s.addFence f).scope = s.scope := by
  obtain ⟨l, e⟩ := s.addFence_tile f
  unfold State.scope
  rw [e]
  rfl

theorem State.taken_scope (s : State) (src : Src) : (s.taken src).scope = s.scope := by
  unfold State.scope
  rw [State.taken_seq]

/-! ### The three operations (R103-R105) -/

/-- A RELEASE of the tile of the step. -/
def State.releaseFence (s : State) : Fence :=
  { early := 1, late := 0, who := [(s.cur, s.nextOp)], acq := false, scope := s.scope, region := false, rel := true }

/-- An ACQUIRE of the tile of the step. -/
def State.acquireFence (s : State) : Fence :=
  { early := 1, late := 1, who := [(s.cur, s.nextOp)], acq := true, scope := s.scope, region := false, rel := false }

/-- An XFENCE of the tile of the step with a path word. -/
def State.pathFence (s : State) (t : Wide) : Fence :=
  { early := t.extractLsb' 0 6, late := t.extractLsb' 8 6, who := [(s.cur, s.nextOp)], acq := false, scope := s.scope, region := true,
    rel := false }

/-- What a tile did so far is what its later writes publish at a scope (R105). -/
def Tile.publish (t : Tile) (k : TileKey) (scope : BitVec 3) : Tile :=
  { t.bump k pathLS with
    rel := assocSet (t.bump k pathLS).rel scope (vcJoin ((assocGet (t.bump k pathLS).rel scope).getD []) ((t.bump k pathLS).vcOf pathLS)) }

/-- The later accesses on some paths follow the earlier ones on others (R103). -/
def Tile.orderPaths (t : Tile) (k : TileKey) (early late : List Nat) : Tile :=
  let x := early.foldl (fun x p => x.bump k p) t
  late.foldl (fun y p => y.setVc p (vcJoin (y.vcOf p) (early.foldl (fun v p => vcJoin v (x.vcOf p)) []))) x

theorem hkRelease_act (s : State) (t : Wide) (m : Word) :
    (hkRelease t m).act s = (s.addFence s.releaseFence).modTile (fun x => x.publish s.cur s.scope) := by
  rw [← s.addFence_scope s.releaseFence]
  rfl

theorem hkAcquire_act (s : State) (t : Wide) (m : Word) :
    (hkAcquire t m).act s = (s.modTile (fun x => x.joinLs (acquired s.cur s.scope s.tile.acq))).addFence
      (s.modTile (fun x => x.joinLs (acquired s.cur s.scope s.tile.acq))).acquireFence := rfl

theorem hkXfence_act (s : State) (t : Wide) (m : Word) :
    (hkXfence t m).act s = (s.addFence (s.pathFence t)).modTile (fun x =>
      x.orderPaths s.cur (pathsOf (s.pathFence t).early) (pathsOf (s.pathFence t).late)) := rfl

theorem Tile.publish_eq (t : Tile) (k : TileKey) (scope : BitVec 3) : ∃ l r, t.publish k scope = { t with vcs := l, rel := r } := by
  obtain ⟨l, e⟩ := t.bump_eq k pathLS
  unfold Tile.publish
  rw [e]
  exact ⟨l, _, rfl⟩

theorem Tile.publish_rel (t : Tile) (k : TileKey) (scope : BitVec 3) :
    assocGet (t.publish k scope).rel scope = some (vcJoin ((assocGet t.rel scope).getD []) ((t.publish k scope).vcOf pathLS)) := by
  obtain ⟨l, e⟩ := t.bump_eq k pathLS
  unfold Tile.publish
  rw [e]
  exact assocGet_assocSet_self _ _ _

theorem Tile.orderPaths_eq (t : Tile) (k : TileKey) (early late : List Nat) : ∃ l, t.orderPaths k early late = { t with vcs := l } := by
  obtain ⟨l, e⟩ := Tile.foldl_vcs (fun t p => t.bump_eq k p) early t
  unfold Tile.orderPaths
  obtain ⟨l', e'⟩ := Tile.foldl_vcs (f := fun y p => y.setVc p (vcJoin (y.vcOf p)
    (early.foldl (fun v p => vcJoin v ((early.foldl (fun x p => x.bump k p) t).vcOf p)) []))) (fun y p => y.setVc_eq p _) late
    (early.foldl (fun x p => x.bump k p) t)
  exact ⟨l', e'.trans (by rw [e])⟩

end Sys2Proof.Machine

namespace Sys2Proof.Claims

open Sys2Proof.Machine

/-- A fence stands last on the tile, and no register and no byte has changed. -/
structure FenceStands (s t : State) (f : Fence) : Prop where
  bytes : SameBytes s t
  registers : SameRegisters s.tile.core t.tile.core
  last : t.tile.core.seq.fences.getLast? = some f

theorem sameBytes_addFence (s : State) (f : Fence) : SameBytes s (s.addFence f) := sameBytes_modTile _ _ rfl

/-- A fence added behind a read of a source port, beside a change of the tile that leaves its registers and its bytes. -/
theorem fenceStands_of {s t : State} {src : Src} {f : Fence} (hb : SameBytes (s.taken src) t)
    (hc : ∃ l, t.tile.core = { (s.taken src).tile.core with seq := { (s.taken src).tile.core.seq with fences := l ++ [f] } }) :
    FenceStands s t f := by
  obtain ⟨l, e⟩ := hc
  refine ⟨sameBytes_trans (sameBytes_taken s src) hb, ?_, ?_⟩ <;> rw [e]
  · exact sameRegisters_taken s src
  · exact List.getLast?_concat

theorem release_stands (s : State) (src : Src) (t : Wide) (m : Word) :
    FenceStands s ((hkRelease t m).act (s.taken src)) (s.taken src).releaseFence := by
  obtain ⟨l, e⟩ := (s.taken src).addFence_tile (s.taken src).releaseFence
  have hp (x : Tile) := x.publish_eq (s.taken src).cur (s.taken src).scope
  rw [hkRelease_act]
  refine fenceStands_of (sameBytes_trans (sameBytes_addFence _ _) (sameBytes_modTile _ _ ?_)) ⟨l, ?_⟩
  · obtain ⟨l', r, e'⟩ := hp ((s.taken src).addFence (s.taken src).releaseFence).tile
    rw [e']
  · rw [State.modTile_tile]
    obtain ⟨l', r, e'⟩ := hp ((s.taken src).addFence (s.taken src).releaseFence).tile
    rw [e', e]
    rfl

/-- Behind a RELEASE its scope publishes what the LS path stands for, and what it published before (R105). -/
theorem release_publishes (s : State) (src : Src) (t : Wide) (m : Word) :
    assocGet ((hkRelease t m).act (s.taken src)).tile.rel s.scope =
      some (vcJoin ((assocGet s.tile.rel s.scope).getD []) (((hkRelease t m).act (s.taken src)).tile.vcOf pathLS)) := by
  obtain ⟨l, e⟩ := (s.taken src).addFence_tile (s.taken src).releaseFence
  have hr : ((s.taken src).addFence (s.taken src).releaseFence).tile.rel = s.tile.rel := by
    rw [e, State.taken_tile]
    rfl
  rw [hkRelease_act, State.modTile_tile, State.taken_scope, Tile.publish_rel, hr]

theorem acquire_stands (s : State) (src : Src) (t : Wide) (m : Word) :
    ∃ f, FenceStands s ((hkAcquire t m).act (s.taken src)) f ∧ f.acq = true ∧ f.scope = s.scope ∧ f.early = 1 ∧ f.late = 1 := by
  generalize hv : acquired (s.taken src).cur (s.taken src).scope (s.taken src).tile.acq = v
  have hj : ∃ l, ((s.taken src).modTile (fun x => x.joinLs v)).tile = { (s.taken src).tile with vcs := l } := by
    rw [State.modTile_tile]
    exact Tile.setVc_eq _ _ _
  obtain ⟨l', e'⟩ := hj
  rw [hkAcquire_act, hv]
  have hb := sameBytes_trans (sameBytes_modTile (s.taken src) (fun x => x.joinLs v) (by simp))
    (sameBytes_addFence _ ((s.taken src).modTile (fun x => x.joinLs v)).acquireFence)
  refine ⟨((s.taken src).modTile (fun x => x.joinLs v)).acquireFence, fenceStands_of hb ?_, rfl, ?_, rfl, rfl⟩
  · obtain ⟨l, e⟩ := ((s.taken src).modTile (fun x => x.joinLs v)).addFence_tile ((s.taken src).modTile (fun x => x.joinLs v)).acquireFence
    refine ⟨l, ?_⟩
    rw [e, e']
    rfl
  · have hseq : ((s.taken src).modTile (fun x => x.joinLs v)).scope = (s.taken src).scope := by
      unfold State.scope
      rw [e']
    exact hseq.trans (State.taken_scope s src)

/-- An ACQUIRE takes in what the RELEASEs before the writes that the tile has read stand for (R105). -/
theorem acquire_joins (s : State) (src : Src) (t : Wide) (m : Word) :
    ((hkAcquire t m).act (s.taken src)).tile.vcOf pathLS = vcJoin (s.tile.vcOf pathLS) (acquired s.cur s.scope s.tile.acq) := by
  have ha : (s.taken src).tile.acq = s.tile.acq ∧ (s.taken src).tile.vcOf pathLS = s.tile.vcOf pathLS := by
    rw [State.taken_tile]
    exact ⟨rfl, rfl⟩
  rw [hkAcquire_act, State.taken_cur, State.taken_scope, ha.1]
  generalize acquired s.cur s.scope s.tile.acq = v
  obtain ⟨l, e⟩ := ((s.taken src).modTile (fun x => x.joinLs v)).addFence_tile ((s.taken src).modTile (fun x => x.joinLs v)).acquireFence
  rw [e, State.modTile_tile]
  exact (Tile.setVc_vcOf (s.taken src).tile (by decide) _).trans (by rw [ha.2])

theorem xfence_stands (s : State) (src : Src) (t : Wide) (m : Word) :
    FenceStands s ((hkXfence t m).act (s.taken src)) ((s.taken src).pathFence t) := by
  obtain ⟨l, e⟩ := (s.taken src).addFence_tile ((s.taken src).pathFence t)
  have hp (x : Tile) (late : List Nat) := x.orderPaths_eq (s.taken src).cur (pathsOf ((s.taken src).pathFence t).early) late
  rw [hkXfence_act]
  refine fenceStands_of (sameBytes_trans (sameBytes_addFence _ _) (sameBytes_modTile _ _ ?_)) ⟨l, ?_⟩
  · obtain ⟨l', e'⟩ := hp ((s.taken src).addFence ((s.taken src).pathFence t)).tile (pathsOf ((s.taken src).pathFence t).late)
    rw [e']
  · rw [State.modTile_tile]
    obtain ⟨l', e'⟩ := hp ((s.taken src).addFence ((s.taken src).pathFence t)).tile (pathsOf ((s.taken src).pathFence t).late)
    rw [e', e]
    rfl

/-- The two masks of a path word (R103). -/
theorem wideOfWord_masks (w : Word) : (wideOfWord w).extractLsb' 0 6 = (w.extractLsb' 0 6 : BitVec 6) ∧
    (wideOfWord w).extractLsb' 8 6 = (w.extractLsb' 8 6 : BitVec 6) := by
  constructor <;> ext i hi <;> simp [wideOfWord] <;> omega

/-- Settles O26, operation by operation. -/
theorem fences : Obligations.Fences := by
  intro src g s h
  refine ⟨fun hz => ⟨?_, ?_⟩, fun hw => ?_, fun hw => ?_⟩
  · have hok : zeroOk (wideOfWord (s.scalarSrc src)) = true := by simp [zeroOk, hz]
    obtain ⟨hb, hr, -⟩ := release_stands s src (wideOfWord (s.scalarSrc src)) (BitVec.allOnes 64)
    have hp := release_publishes s src (wideOfWord (s.scalarSrc src)) (BitVec.allOnes 64)
    exact ⟨_, syncOperand_acts (hk := hkRelease) h rfl hok, hb, hr, hp⟩
  · have hok : zeroOk (wideOfWord (s.scalarSrc src)) = true := by simp [zeroOk, hz]
    obtain ⟨f, ⟨hb, hr, hl⟩, hf⟩ := acquire_stands s src (wideOfWord (s.scalarSrc src)) (BitVec.allOnes 64)
    have hj := acquire_joins s src (wideOfWord (s.scalarSrc src)) (BitVec.allOnes 64)
    exact ⟨_, syncOperand_acts (hk := hkAcquire) h rfl hok, hb, hr, hj, f, hl, hf⟩
  · obtain ⟨hb, hr, hl⟩ := xfence_stands s src (wideOfWord (s.scalarSrc src)) (BitVec.allOnes 64)
    obtain ⟨he, hla⟩ := wideOfWord_masks (s.scalarSrc src)
    exact ⟨_, _, syncOperand_acts (hk := hkXfence) h rfl hw, hb, hr, hl, he, hla, rfl, rfl⟩
  · exact syncOperand_refused (hk := hkXfence) h rfl hw

end Sys2Proof.Claims
end

section
/-! PROOF. Ordered adds (O23): the updates that an OSADD sends, and the arrival of the oldest one on its way. -/

namespace Sys2Proof.Machine

/-! ### OSADD triggered (R115, R253) -/

/-- The lanes of an ordered add that are active (R239). -/
def State.activeLanes (s : State) (u : Twin) : List Nat := (List.range 16).filter (fun i => laneOn (s.maskA u) 4 i)

/-- The update that a lane of an ordered add of a task sends. -/
def State.orderedUpdate (s : State) (u : Twin) (isF : Bool) (t : Wide) (k : Task) (i : Nat) : OsUpd :=
  { pa := (s.tile.core.h.get (addrHandle (lowWord t)).toFin).frame + osOffset t (s.opB (lsuOfTwin u)) i,
    val := BitVec.ofNat 32 (laneOf 32 (s.opA (lsuOfTwin u)).toNat i), float := isF, conjK := k.osKey.1, gate := k.osKey.2.1,
    conj := k.osKey.2.2.1, pos := k.osKey.2.2.2, seq := s.tile.core.osSeq, lane := i, src := s.cur, spilled := false, q := k.q,
    course := k.course }

/-- The updates that it sends. -/
def State.orderedUpdates (s : State) (u : Twin) (isF : Bool) (t : Wide) (k : Task) : List OsUpd :=
  (s.activeLanes u).map (s.orderedUpdate u isF t k)

/-- An event for each update, at which it reaches its memory side (R116). -/
def State.awaitUpdates (s : State) (ups : List OsUpd) : State := ups.foldl (fun s _ => s.addLater s.cur .osaddUpdateArrival) s

/-- Updates on their way in a context, behind those that are on it already. -/
def Ctx.send (c : Ctx) (ups : List OsUpd) : Ctx := { c with transit := c.transit ++ ups }

/-- Updates of the tile of the step on their way, under its next sequence number. -/
def State.sendUpdates (s : State) (ups : List OsUpd) : State :=
  State.awaitUpdates ((s.modTile (fun t => t.mapCore (fun c => { c with osSeq := c.osSeq + 1 }))).modCtx s.cur.ctx
    (fun c => c.send ups)) ups

theorem osaddHooks_act {s : State} {k : Task} (h : s.tile.task = some k) (u : Twin) (isF : Bool) (t : Wide) :
    (osaddHooks u isF t).act s = (s.flushLs s.cur).sendUpdates ((s.flushLs s.cur).orderedUpdates u isF t k) := by
  dsimp only [osaddHooks, Hooks.stalled]
  rw [h]
  rfl

theorem State.awaitUpdates_eq (s : State) (ups : List OsUpd) : ∃ l n, s.awaitUpdates ups = { s with events := l, free := n } := by
  unfold State.awaitUpdates
  induction ups generalizing s with
  | nil => exact ⟨s.events, s.free, rfl⟩
  | cons x ups ih =>
    obtain ⟨l, n, e⟩ := ih (s.addLater s.cur .osaddUpdateArrival)
    exact ⟨l, n, e⟩

/-- The tile behind the updates that it sends: only its sequence number has moved on. -/
theorem State.sendUpdates_tileAt (s : State) (ups : List OsUpd) (k : TileKey) : (s.sendUpdates ups).tileAt k =
    (s.modTile (fun t => t.mapCore (fun c => { c with osSeq := c.osSeq + 1 }))).tileAt k := by
  unfold State.sendUpdates
  obtain ⟨l, n, e⟩ := State.awaitUpdates_eq ((s.modTile (fun t => t.mapCore (fun c => { c with osSeq := c.osSeq + 1 }))).modCtx s.cur.ctx
    (fun c => c.send ups)) ups
  rw [e]
  rfl

theorem State.sendUpdates_rest (s : State) (ups : List OsUpd) : (s.sendUpdates ups).cur = s.cur ∧ (s.sendUpdates ups).mem = s.mem ∧
    (s.sendUpdates ups).ctxs = (s.modCtx s.cur.ctx (fun c => c.send ups)).ctxs := by
  unfold State.sendUpdates
  obtain ⟨l, n, e⟩ := State.awaitUpdates_eq ((s.modTile (fun t => t.mapCore (fun c => { c with osSeq := c.osSeq + 1 }))).modCtx s.cur.ctx
    (fun c => c.send ups)) ups
  rw [e]
  exact ⟨rfl, rfl, rfl⟩

theorem State.sendUpdates_core (s : State) (ups : List OsUpd) :
    (s.sendUpdates ups).tile.core = { s.tile.core with osSeq := s.tile.core.osSeq + 1 } := by
  unfold State.tile
  rw [(s.sendUpdates_rest ups).1, s.sendUpdates_tileAt]
  exact congrArg Tile.core (State.modTile_tile s _)

/-- The updates stand on their way behind the earlier ones of the context (R116). -/
theorem State.sendUpdates_transit {s : State} {c : Ctx} (h : s.ctxAt? s.cur.ctx = some c) (ups : List OsUpd) :
    (s.sendUpdates ups).ctx.transit = c.transit ++ ups := by
  obtain ⟨hcur, -, hctxs⟩ := s.sendUpdates_rest ups
  have hs : s.ctxAt s.cur.ctx = c := by rw [State.ctxAt, h]; rfl
  unfold State.ctx
  rw [hcur, State.ctxAt_congr hctxs, State.modCtx_ctxAt (f := fun c => c.send ups) (fun _ => rfl) s _ (by rw [h]; rfl), hs]
  rfl

/-! ### The check of OSADD (R253) -/

theorem osaddCheck_none {s : State} {u : Twin} {isF : Bool} {t : Wide} {p : Place} (ha : addrSpace (lowWord t) = 8)
    (hp : s.place .atomic (lowWord t) 4 4 = .ok p)
    (hl : ∀ i ∈ s.activeLanes u, osOffset t (s.opB (lsuOfTwin u)) i % 4 = 0 ∧
      osOffset t (s.opB (lsuOfTwin u)) i + 4 ≤ pageSize (s.tile.core.h.get (addrHandle (lowWord t)).toFin).sz)
    (hq : s.tile.core.osSeq < 2 ^ 28) : (osaddHooks u isF t).check s = none := by
  have hany : (s.activeLanes u).any (fun i => osOffset t (s.opB (lsuOfTwin u)) i % 4 ≠ 0 ||
      pageSize (s.tile.core.h.get (addrHandle (lowWord t)).toFin).sz < osOffset t (s.opB (lsuOfTwin u)) i + 4) = false := by
    rw [List.any_eq_false]
    intro i hi
    obtain ⟨h4, hsz⟩ := hl i hi
    simp [h4, hsz]
  unfold State.activeLanes at hany
  dsimp only [osaddHooks, Hooks.stalled]
  rw [if_neg (not_not.mpr ha), hp]
  dsimp only
  rw [hany, if_neg (by decide), if_neg (Nat.not_le.mpr hq)]

/-! ### An update's arrival (R116) -/

/-- Where the spill area has room, the arrival is the update's entry in its course, held or spilled. -/
theorem State.updateArrives_fits {s : State} {x : OsUpd} :
    let s1 := s.modCtx s.cur.ctx (fun c => { c with transit := c.transit.erase x })
    let out := (s1.lineUpds x).any (·.spilled) || decide (16 ≤ (s1.lineUpds x).length)
    let t := (if out then s1.spillLine x else s1).modCtx s.cur.ctx (fun c =>
      c.modCourse x.q x.course (fun y => { y with updates := y.updates ++ [{ x with spilled := out }] }))
    t.ctx.spillUsed ≤ t.ctx.spillSz → s.updateArrives s.cur.ctx x = t := by
  intro s1 out t h
  have hcur : t.cur = s.cur := by
    show (if out then s1.spillLine x else s1).cur = s.cur
    cases out <;> rfl
  unfold State.ctx at h
  rw [hcur] at h
  exact if_neg (Nat.not_lt.mpr h)

end Sys2Proof.Machine

namespace Sys2Proof.Claims

open Sys2Proof.Machine

/-! ### OSADD (R115, R253) -/

/-- What an ordered add reads of a state (R253). -/
theorem orderedUpdates_congr {s v : State} (hcur : v.cur = s.cur) (ho : v.tile.core.opnd = s.tile.core.opnd)
    (hm : v.tile.core.opMask = s.tile.core.opMask) (hh : v.tile.core.h = s.tile.core.h) (hq : v.tile.core.osSeq = s.tile.core.osSeq)
    (u : Twin) (isF : Bool) (t : Wide) (k : Task) : v.orderedUpdates u isF t k = s.orderedUpdates u isF t k := by
  have hlanes : v.activeLanes u = s.activeLanes u := by
    simp only [State.activeLanes, State.maskA, TileCore.mask', hm]
  have hupd : v.orderedUpdate u isF t k = s.orderedUpdate u isF t k := by
    funext i
    simp only [State.orderedUpdate, State.opA, State.opB, TileCore.opnd', hcur, ho, hh, hq]
  rw [State.orderedUpdates, hlanes, hupd]
  rfl

section

variable {isF : Bool} {u : Twin} {hk : Wide → Word → Hooks} {src : Src} {g : Guard} {s : State} {p : Place} {k : Task} {c : Ctx}
    (hk_eq : ∀ t m, hk t m = osaddHooks u isF t) (h : ScalarIssues (lsuOfTwin u) src g s)
    (hs : s.lsStall u (wideOfWord (s.scalarSrc src)) = false) (hr : s.releaseHolds s.nextOp = false)
    (ha : addrSpace (s.scalarSrc src) = 8) (hp : s.place .atomic (s.scalarSrc src) 4 4 = .ok p) (hq : s.tile.core.osSeq < 2 ^ 28)
    (hl : ∀ i ∈ s.activeLanes u, osOffset (wideOfWord (s.scalarSrc src)) (s.opB (lsuOfTwin u)) i % 4 = 0 ∧
      osOffset (wideOfWord (s.scalarSrc src)) (s.opB (lsuOfTwin u)) i + 4 ≤ pageSize (s.tile.core.h.get (addrHandle (s.scalarSrc src)).toFin).sz)
    (hk_task : s.tile.task = some k)

include hk_eq h hs hr ha hp hq hl hk_task

/-- An OSADD that issues, with a lawful handle and lawful lanes, sends its updates. -/
theorem osadd_sends :
    let v := (s.taken src).flushLs (s.taken src).cur
    runScalar (lsuOfTwin u) hk src g s = .next (v.sendUpdates (v.orderedUpdates u isF (wideOfWord (s.scalarSrc src)) k)) := by
  have hstall : (osaddHooks u isF (wideOfWord (s.scalarSrc src))).stall s = false := by
    simp [osaddHooks, Hooks.stalled, hs, hr]
  have hcheck : (osaddHooks u isF (wideOfWord (s.scalarSrc src))).check s = none := by
    rw [← lowWord_wideOfWord (s.scalarSrc src)] at ha hp
    refine osaddCheck_none ha hp ?_ hq
    rw [lowWord_wideOfWord]
    exact hl
  have htask : (s.taken src).tile.task = some k := by rw [State.taken_tile]; exact hk_task
  rw [runScalar_issues h, hk_eq, State.runHooks_act hstall rfl hcheck rfl h.sound]
  exact congrArg Host.Outcome.next (osaddHooks_act htask u isF _)

/-- What an OSADD sends, and what it leaves (R115, R253). -/
theorem osadd_updates (hc : s.ctxAt? s.cur.ctx = some c) (hlq : s.tile.lsq = []) :
    ∃ t, runScalar (lsuOfTwin u) hk src g s = .next t ∧
      t.ctx.transit = c.transit ++ s.orderedUpdates u isF (wideOfWord (s.scalarSrc src)) k ∧
      t.tile.core.osSeq = s.tile.core.osSeq + 1 ∧ SameBytes s t ∧ SameRegisters s.tile.core t.tile.core := by
  have hsends := osadd_sends hk_eq h hs hr ha hp hq hl hk_task
  obtain ⟨hkeeps, hcore, l, hrest⟩ := taken_flushLs src hlq
  obtain ⟨ho, hm, -, -, -, hh, -, -, -, -, -, -, -, -, hseq, -⟩ := TileCore.consume_frame s.ctx.qmode (srcPorts src) s.tile.core
  dsimp only at hsends hkeeps hcore hrest
  rw [State.taken_tile] at hcore
  have hregs := sameRegisters_taken s src
  rw [State.taken_tile] at hregs
  generalize (s.taken src).flushLs (s.taken src).cur = v at hsends hkeeps hcore hrest
  rw [orderedUpdates_congr hkeeps.cur (hcore ▸ ho) (hcore ▸ hm) (hcore ▸ hh) (hcore ▸ hseq)] at hsends
  have hctx : v.ctxAt? v.cur.ctx = some c := by rw [hrest]; exact hc
  obtain ⟨-, hmem, -⟩ := v.sendUpdates_rest (s.orderedUpdates u isF (wideOfWord (s.scalarSrc src)) k)
  refine ⟨_, hsends, State.sendUpdates_transit hctx _, ?_,
    sameBytes_trans (sameBytes_keepsView hkeeps.cells_stored) ⟨fun pa => ?_, fun j off => ?_⟩, ?_⟩
  · rw [State.sendUpdates_core, hcore]
    exact congrArg (· + 1) hseq
  · exact congrArg (fun m => cellsGet m pa) hmem
  · rw [State.sendUpdates_tileAt]
    exact (sameBytes_modTile v _ rfl).2 j off
  · rw [State.sendUpdates_core, hcore]
    exact hregs

end

/-- Settles O23: what an OSADD sends at its trigger, and what the arrival of the oldest update does where the spill area has room. -/
theorem orderedAdds : Obligations.OrderedAdds := by
  refine ⟨fun isF u src g s p k c h hs hr ha hp hq ht hc hlq hl => ?_, fun s x r hx hsp => ?_⟩
  · have hl' : ∀ i ∈ s.activeLanes u, osOffset (wideOfWord (s.scalarSrc src)) (s.opB (lsuOfTwin u)) i % 4 = 0 ∧
        osOffset (wideOfWord (s.scalarSrc src)) (s.opB (lsuOfTwin u)) i + 4 ≤
          pageSize (s.tile.core.h.get (addrHandle (s.scalarSrc src)).toFin).sz := by
      simpa only [State.activeLanes, osOffset, lowWord_wideOfWord] using hl
    have hsend : ∃ t, exec (if isF then .osaddF32 u src g else .osaddS32 u src g) s = .next t ∧
        t.ctx.transit = c.transit ++ s.orderedUpdates u isF (wideOfWord (s.scalarSrc src)) k ∧
        t.tile.core.osSeq = s.tile.core.osSeq + 1 ∧ SameBytes s t ∧ SameRegisters s.tile.core t.tile.core := by
      cases isF with
      | false => exact osadd_updates (hk := hkOsaddS32 u) (fun _ _ => rfl) h hs hr ha hp hq hl' ht hc hlq
      | true => exact osadd_updates (hk := hkOsaddF32 u) (fun _ _ => rfl) h hs hr ha hp hq hl' ht hc hlq
    obtain ⟨t, hx, htr, hseq, hb, hreg⟩ := hsend
    refine ⟨t, _, hx, htr, hseq, hb, hreg, ?_, fun x hx => ?_⟩
    · rw [State.orderedUpdates, List.map_map]
      refine List.map_congr_left fun i _ => ?_
      simp only [Function.comp_apply, State.orderedUpdate, osOffset, lowWord_wideOfWord]
    · obtain ⟨i, -, rfl⟩ := List.mem_map.mp hx
      exact ⟨rfl, rfl, rfl, rfl⟩
  · have he : exec .osaddUpdateArrival s = .next (s.updateArrives s.cur.ctx x) := by
      show execOsaddUpdateArrival s = _
      unfold execOsaddUpdateArrival
      rw [hx]
    rw [he, State.updateArrives_fits hsp]

end Sys2Proof.Claims
end

section
/-! PROOF. The loads (O17): the plain loads, the typed load of a bank and the gather. -/

namespace Sys2Proof.Machine

/-! ### What a load looks at -/

/-- What of a tile an access of the tile of the step looks at: its bytes and those that its own stores hide, its bank formats and handles,
the lsus' operands, and what decides which addresses are lawful (R64, R68, R73, R75, R82). -/
def Tile.access (t : Tile) : Tile :=
  { Tile.reset with
    scratch := t.scratch, shadow := t.shadow, issue := t.issue, station := t.station, task := t.task, refused := t.refused,
    core := { Tile.reset.core with bf := t.core.bf, h := t.core.h, opnd := t.core.opnd, opMask := t.core.opMask } }

theorem Tile.consume_access (t : Tile) (q : Bool) (ps : List (Sock × RPort)) : (t.mapCore (fun c => c.consume q ps)).access = t.access := by
  obtain ⟨ho, hm, -, -, -, hh, -, -, -, -, -, hb, -⟩ := TileCore.consume_frame q ps t.core
  unfold Tile.access Tile.mapCore
  rw [ho, hm, hh, hb]

theorem taken_access (s : State) (src : Src) : KeepsView Tile.access s (s.taken src) := by
  unfold State.taken State.consume
  split
  · exact .refl s
  · exact .modTile s fun t => t.consume_access _ _

/-- The state from which a load reads where no committed operation is left (R101). -/
theorem takenFlushLs_access {s : State} (src : Src) (hl : s.tile.lsq = []) :
    KeepsView Tile.access s ((s.taken src).flushLs (s.taken src).cur) := by
  have hlq : (s.taken src).tile.lsq = [] := by rw [State.taken_tile]; exact hl
  rw [Claims.flushLs_none hlq]
  exact (taken_access s src).trans (.modTileAt _ _ fun _ => rfl)

namespace KeepsView

variable {s t : State} (h : KeepsView Tile.access s t)

include h

theorem bankWord (a : Word) : t.bankWord a = s.bankWord a := by
  unfold State.bankWord State.ownerKey
  rw [h.cur]
  exact (congrArg (fun x : Tile => x.core.bfOf (addrOff a / bankSize)) (h.tiles _) :)

theorem runAt (a : Word) : t.runAt a = s.runAt a := by
  unfold State.runAt
  rw [h.bankWord]

theorem maskA (u : Twin) : t.maskA u = s.maskA u := (congrArg (fun x : Tile => x.core.mask' (lsuOfTwin u) .a) h.tile :)

theorem opA (sk : Sock) : t.opA sk = s.opA sk := (congrArg (fun x : Tile => x.core.opnd' sk .a) h.tile :)

theorem place (u : Use) (a : Word) (al n : Nat) : t.place u a al n = s.place u a al n := by
  have hok (k : TileKey) (off : Nat) : scratchOk (t.tileAt k) u off al n = scratchOk (s.tileAt k) u off al n :=
    (congrArg (fun x : Tile => scratchOk x u off al n) (h.tiles k) :)
  have hown (off : Nat) : scratchOk t.tile u off al n = scratchOk s.tile u off al n :=
    (congrArg (fun x : Tile => scratchOk x u off al n) h.tile :)
  have hin : t.tile.inCluster = s.tile.inCluster := (congrArg Tile.inCluster h.tile :)
  have hh : t.tile.core.h = s.tile.core.h := (congrArg (fun x : Tile => x.core.h) h.tile :)
  have hm (x : Handle) : t.tile.mayServe x = s.tile.mayServe x := (congrArg (fun y : Tile => y.mayServe x) h.tile :)
  unfold State.place
  simp only [hok, hown, hin, hh, hm, h.cur]

theorem runPlace (u : Use) (a : Word) (r : Run) (on : Nat → Bool) : t.runPlace u a r on = s.runPlace u a r on := by
  unfold State.runPlace
  rw [h.place, h.bankWord]

theorem readPlace (p : Place) (n : Nat) : t.readPlace p n = s.readPlace p n := by
  unfold State.readPlace State.readPlaceAt
  rw [h.cur]
  cases p with
  | scratch tid off => exact (congrArg (fun x : Tile => x.spRead off n) (h.tiles _) :)
  | phys pa => obtain ⟨l, c, f, rfl⟩ := h.rest; rfl

theorem loadPlace (p : Place) (n : Nat) : t.loadPlace p n = s.loadPlace p n := by
  have ho (q : Place) (b : Byte) : t.tile.ownByte q b = s.tile.ownByte q b := (congrArg (fun x : Tile => x.ownByte q b) h.tile :)
  unfold State.loadPlace
  simp only [ho, h.readPlace]

theorem runScale (p : Place) (b : BitVec 32) (r : Run) (i : Nat) : t.runScale p b r i = s.runScale p b r i := by
  unfold State.runScale
  cases p with
  | phys _ => rfl
  | scratch tid off => exact congrArg (scaleVal (bfSfmt b)) (h.loadPlace _ _)

end KeepsView

/-! ### What the record of a load leaves (R67, R105, R109) -/

/-- A tile without its race tags and what the memory order adds to it. -/
def Tile.noTags (t : Tile) : Tile := { t.noOrder with lines := [] }

/-- Tags that are taken in change nothing but the memory order (R105, R106). -/
theorem noteTags_keeps (s : State) (k : TileKey) (id : Nat) (tags : List RelTag) : KeepsView Tile.noOrder s (s.noteTags k id tags) :=
  .ite (.refl s) (((KeepsView.modTileAt s k fun x => x.seeTags_noOrder _ _).trans (lateEdge_keeps _ _ _ _ _)).trans
    (.foldl (fun s _ => spreadLate_keeps s _ _) _ _))

theorem noteLanes_keeps (s : State) (p : Place) (n : Nat) : KeepsView Tile.noTags s (s.noteLanes p n) := by
  have h : KeepsView Tile.noTags s (s.noteTags s.cur s.nextOp (s.ownTags p n)) :=
    (noteTags_keeps s s.cur s.nextOp (s.ownTags p n)).comp (fun t => { t with lines := [] })
  unfold State.noteLanes
  cases p with
  | phys _ => exact h
  | scratch tid off =>
    generalize s.noteTags s.cur s.nextOp (s.ownTags (.scratch tid off) n) = v at h ⊢
    exact h.trans (.foldl (fun w line => .modTileAt w (f := fun t => t.setLine ((t.lineTag line).read w.cur (v.tile.epoch v.cur pathLS))) _
      fun _ => rfl) _ _)

theorem yieldStep_keeps {α : Type} {view : Tile → α} (s : State) (p : Place) : KeepsView view s (s.yieldStep p) := by
  unfold State.yieldStep
  cases p with
  | phys _ => exact .refl s
  | scratch tid off => exact .ite ((KeepsView.setFree s (s.free + 1)).trans (.modCtx _ _ _)) (.refl s)

theorem noteLoad_keeps (s : State) (p : Place) (n : Nat) : KeepsView Tile.noTags s (s.noteLoad p n) :=
  (noteLanes_keeps s p n).trans (yieldStep_keeps _ p)

theorem noteScales_keeps (s : State) (ps : List Place) : KeepsView Tile.noTags s (s.noteScales ps) :=
  .foldl (fun s p => noteLoad_keeps s p 2) ps s

theorem KeepsView.noTags_stored {s t : State} (h : KeepsView Tile.noTags s t) : KeepsView Tile.stored s t := h.comp Tile.stored

theorem KeepsView.noTags_core {s t : State} (h : KeepsView Tile.noTags s t) : t.tile.core = s.tile.core := (h.comp Tile.core).tile

/-! ### The result of a load -/

/-- A timed result on one port: its entry in flight comes behind the others. -/
theorem State.timed_core (s : State) (sk : Sock) (lat : Nat) (p : RPort) (v m : Wide) (ev : EvCount) :
    ∃ f, f.sk = sk ∧ f.port = p ∧ f.value = v ∧ f.mask = m ∧
      (s.timed sk lat [(p, v, m)] ev).tile.core = { s.tile.core with flight := s.tile.core.flight ++ [f] } :=
  ⟨_, rfl, rfl, rfl, rfl, congrArg Tile.core (State.modTile_tile s _)⟩

/-- An access that has a place names a scratchpad, the window or a handle (R63). -/
theorem State.place_space {s : State} {u : Use} {a : Word} {al n : Nat} {p : Place} (h : s.place u a al n = .ok p) :
    addrSpace a = 0 ∨ addrSpace a = 1 ∨ addrSpace a = 8 := by
  unfold State.place at h
  split at h
  · exact .inl ‹_›
  · exact .inr (.inl ‹_›)
  · exact .inr (.inr ‹_›)
  · cases h

theorem State.runPlace_place {s : State} {u : Use} {a : Word} {r : Run} {on : Nat → Bool} {p : Place} (h : s.runPlace u a r on = .ok p) :
    s.place u a 1 r.bytes = .ok p := by
  unfold State.runPlace at h
  split at h
  · cases h
  · next e =>
    split at h
    · cases h
    · rw [e, h]

/-- A run lies in a scratchpad, whose loads are timed (R72, R76, R246). -/
theorem State.loadResult_run {s t : State} {a : Word} {r : Run} {on : Nat → Bool} {p : Place} (hr : s.runAt a = some r)
    (hp : s.runPlace .load a r on = .ok p) (u : Twin) (lat : Nat) (v : Wide) (ev : EvCount) :
    ∃ lat', t.loadResult u a lat v ev = t.timed (lsuOfTwin u) lat' [(.q, v, allBits)] ev := by
  have h8 : addrSpace a ≠ 8 := fun e => by
    unfold State.runAt at hr
    rw [if_pos e] at hr
    cases hr
  unfold State.loadResult
  rcases State.place_space (State.runPlace_place hp) with e | e | e
  · rw [e]; exact ⟨lat, rfl⟩
  · rw [e]; exact ⟨20, rfl⟩
  · exact absurd e h8

/-! ### What the loads do at their trigger -/

theorem loadHooks_act {s : State} {u : Twin} {al n : Nat} {f : Nat → Wide} {t : Wide} {p : Place}
    (hp : s.place .load (lowWord t) al n = .ok p) : (loadHooks u al n f t).act s =
      ((s.flushLs s.cur).noteLoad p n).loadResult u (lowWord t) 5 (f ((s.flushLs s.cur).loadPlace p n)) EvCount.zero := by
  dsimp only [loadHooks]
  rw [hp]

theorem vldHooks_act_raw {s : State} {u : Twin} {t : Wide} {p : Place} (hr : s.runAt (lowWord t) = none)
    (hp : s.place .load (lowWord t) 64 64 = .ok p) : (vldHooks u t).act s =
      ((s.flushLs s.cur).noteLoad p 64).loadResult u (lowWord t) 7 (BitVec.ofNat 512 ((s.flushLs s.cur).loadPlace p 64)) EvCount.zero := by
  dsimp only [vldHooks]
  rw [hr, if_pos Option.isNone_none, hp]

/-- Lane i of a typed load of a run: the element decoded with its scale (R127, R133, R246). -/
def State.runLane (s : State) (addr : Word) (r : Run) (p : Place) (i : Nat) : Res :=
  if i < r.elems then decodeElem (bfFmt (s.bankWord addr)) (bfGrouped (s.bankWord addr)) (bitsOf (s.loadPlace p r.bytes) (r.bits * i) r.bits)
    (s.runScale p (s.bankWord addr) r i)
  else Res.pure 0

/-- A typed load of a run at its trigger (R246). -/
def State.typedLoad (s : State) (u : Twin) (addr : Word) (r : Run) (p : Place) : State :=
  ((s.noteLoad p r.bytes).noteScales (runScales p (s.bankWord addr) r everyLane)).loadResult u addr 7
    (wideOfLanes r.width (fun i => (s.runLane addr r p i).val)) (laneEvents everyLane (s.runLane addr r p) r.elems)

theorem vldHooks_act_run {s : State} {u : Twin} {t : Wide} {r : Run} {p : Place} (hr : s.runAt (lowWord t) = some r)
    (hv : (s.flushLs s.cur).runAt (lowWord t) = some r) (hp : (s.flushLs s.cur).runPlace .load (lowWord t) r everyLane = .ok p) :
    (vldHooks u t).act s = (s.flushLs s.cur).typedLoad u (lowWord t) r p := by
  dsimp only [vldHooks]
  rw [hr, if_neg (by simp), hv]
  dsimp only
  rw [hp]
  rfl

theorem KeepsView.runLane {s t : State} (h : KeepsView Tile.access s t) (a : Word) (r : Run) (p : Place) : t.runLane a r p = s.runLane a r p := by
  funext i
  unfold State.runLane
  rw [h.bankWord, h.loadPlace, h.runScale]

/-- The words that a gather loads, in the lanes that are active (R247). -/
def State.gathered (s : State) (u : Twin) (t : Wide) : Wide :=
  wideOfLanes 32 (fun i => if laneOn (s.maskA u) 4 i then s.loadPlace (s.gatherPlace t (s.opA (lsuOfTwin u)) i) 4 else 0)

/-- The loads of a gather's active lanes recorded (R105, R109). -/
def State.noteGather (s : State) (u : Twin) (t : Wide) : State :=
  (s.activeLanes u).foldl (fun s' i => s'.noteLanes (s.gatherPlace t (s.opA (lsuOfTwin u)) i) 4) s

theorem noteGather_keeps (s : State) (u : Twin) (t : Wide) : KeepsView Tile.noTags s (s.noteGather u t) :=
  .foldl (fun s' _ => noteLanes_keeps s' _ 4) _ s

/-- A gather occupies its lsu, and its lanes meet their banks one by one (R217, R247). -/
theorem vldgHooks_act (s : State) (u : Twin) (t : Wide) : ∃ l f,
    (vldgHooks u t).act s = ((((s.flushLs s.cur).noteGather u t).timed (lsuOfTwin u) 21
      [(.q, (s.flushLs s.cur).gathered u t, laneMask ((s.flushLs s.cur).maskA u) 4)] EvCount.zero).deliverAs
        ((s.flushLs s.cur).noteGather u t).nextOp l).modTile (fun t => t.mapSeq f) := ⟨_, _, rfl⟩

/-- Results that do something at their delivery: their entries stand otherwise as they were. -/
theorem State.deliverAs_core (s : State) (id : Nat) (l : Delivery) : (s.deliverAs id l).tile.core =
    { s.tile.core with flight := s.tile.core.flight.map (fun f => if f.id = id then { f with live := l } else f) } :=
  congrArg Tile.core (State.modTile_tile s _)

/-- An entry in flight stands behind that, but for what it does at its delivery. -/
theorem State.mem_deliverAs {s : State} {f : InFlight} (id : Nat) (l : Delivery) (h : f ∈ s.tile.core.flight) :
    ∃ f' ∈ (s.deliverAs id l).tile.core.flight, f'.sk = f.sk ∧ f'.port = f.port ∧ f'.mask = f.mask ∧ f'.value = f.value := by
  rw [State.deliverAs_core]
  refine ⟨_, List.mem_map_of_mem h, ?_⟩
  split <;> exact ⟨rfl, rfl, rfl, rfl⟩

/-- A gather of lawful addresses, whose active lanes meet no trap, raises nothing (R74, R109, R247, R416). -/
theorem vldgHooks_clear {s : State} {u : Twin} {t : Wide} {a : Word} (ha : lowWord t = a)
    (hb : gatherBad s.tile .load t (s.opA (lsuOfTwin u)) (s.maskA u) = false)
    (hl : ∀ i ∈ s.activeLanes u,
      s.loadEarly u a (s.gatherPlace t (s.opA (lsuOfTwin u)) i) 4 = none ∧
      s.loadCause u a (s.gatherPlace t (s.opA (lsuOfTwin u)) i) 4 = none) :
    (vldgHooks u t).early s = none ∧ (vldgHooks u t).check s = none ∧ (vldgHooks u t).race s = none := by
  subst ha
  exact ⟨List.findSome?_eq_none_iff.mpr fun i hi => (hl i hi).1, if_neg (by rw [hb]; decide),
    List.findSome?_eq_none_iff.mpr fun i hi => (hl i hi).2⟩

end Sys2Proof.Machine

namespace Sys2Proof.Claims

open Sys2Proof.Machine

/-! ### The plain loads (R243-R245) -/

/-- A plain load that goes through takes its effect. -/
theorem load_completes {u : Twin} {hk : Wide → Word → Hooks} {al n : Nat} {f : Nat → Wide} {src : Src} {g : Guard} {s : State} {p : Place}
    (hk_eq : ∀ t m, hk t m = loadHooks u al n f t) (h : ScalarIssues (lsuOfTwin u) src g s) (hr : LoadReady u src s p al n) :
    runScalar (lsuOfTwin u) hk src g s = .next (loadDone u src s p n 5 f) := by
  obtain ⟨hfree, hplace, hseen, hclean⟩ := hr
  have hcheck : s.placeCause u .load (wideOfWord (s.scalarSrc src)) al n = none := by
    unfold State.placeCause
    rw [lowWord_wideOfWord, hplace]
  rw [← lowWord_wideOfWord (s.scalarSrc src)] at hplace hseen hclean
  have hearly : (loadHooks u al n f (wideOfWord (s.scalarSrc src))).early s = none := by
    dsimp only [loadHooks]; rw [hplace]; exact hseen
  have hrace : (loadHooks u al n f (wideOfWord (s.scalarSrc src))).race s = none := by
    dsimp only [loadHooks]; rw [hplace]; exact hclean
  rw [runScalar_act h, hk_eq, loadHooks_act ((State.taken_place ..).trans hplace), State.taken_cur, lowWord_wideOfWord]
  · rfl
  all_goals rw [hk_eq]; assumption

/-- VLD of a raw bank goes through as VLDR does, with its own latency (R245, R246). -/
theorem vld_raw {u : Twin} {src : Src} {g : Guard} {s : State} {p : Place} (h : ScalarIssues (lsuOfTwin u) src g s)
    (hr : LoadReady u src s p 64 64) (hrun : s.runAt (s.scalarSrc src) = none) (htrn : s.trnBank (s.scalarSrc src) = false) :
    exec (.vld u src g) s = .next (loadDone u src s p 64 7 (fun v => BitVec.ofNat 512 v)) := by
  obtain ⟨hfree, hplace, hseen, hclean⟩ := hr
  have hact : (hkVld u (wideOfWord (s.scalarSrc src)) (BitVec.allOnes 64)).act (s.taken src) =
      loadDone u src s p 64 7 (fun v => BitVec.ofNat 512 v) := by
    refine (vldHooks_act_raw (p := p) ?_ ?_).trans ?_
    · rw [lowWord_wideOfWord, (taken_access s src).runAt, hrun]
    · rw [lowWord_wideOfWord, State.taken_place, hplace]
    · rw [lowWord_wideOfWord, State.taken_cur]; rfl
  refine (runScalar_act (hk := hkVld u) h hfree ?_ ?_ ?_).trans (congrArg _ hact)
  all_goals simp only [hkVld, vldHooks, loadHooks, lowWord_wideOfWord, hrun, htrn, hplace, hseen, hclean, State.placeCause, Option.isNone_none,
    if_true, Bool.false_eq_true, if_false]

theorem loadResults : LoadResults := by
  intro u src g s p h
  refine ⟨?_, load_completes (hk := hkVldr u) (fun _ _ => rfl) h, vld_raw h⟩
  simp only [List.forall_mem_cons, List.not_mem_nil, false_imp_iff, implies_true, and_true]
  exact ⟨load_completes (hk := hkLdS8 u) (fun _ _ => rfl) h, load_completes (hk := hkLdN8 u) (fun _ _ => rfl) h,
    load_completes (hk := hkLdS16 u) (fun _ _ => rfl) h, load_completes (hk := hkLdN16 u) (fun _ _ => rfl) h,
    load_completes (hk := hkLdS32 u) (fun _ _ => rfl) h, load_completes (hk := hkLdN32 u) (fun _ _ => rfl) h,
    load_completes (hk := hkLd64 u) (fun _ _ => rfl) h⟩

/-! ### The typed load (R246) -/

theorem takenFlushLs_frame {s : State} (src : Src) (hl : s.tile.lsq = []) :
    SameBytes s ((s.taken src).flushLs (s.taken src).cur) ∧ SameRegisters s.tile.core ((s.taken src).flushLs (s.taken src).cur).tile.core := by
  obtain ⟨hkeeps, hcore, -⟩ := taken_flushLs src hl
  refine ⟨sameBytes_keepsView hkeeps.cells_stored, ?_⟩
  rw [hcore]
  exact sameRegisters_taken s src

/-- A typed load of a run that meets no trap acts. -/
theorem vld_acts {u : Twin} {src : Src} {g : Guard} {s : State} (h : ScalarIssues (lsuOfTwin u) src g s)
    (hs : s.lsStall u (wideOfWord (s.scalarSrc src)) = false) {r : Run} {p : Place}
    (hr : s.runAt (s.scalarSrc src) = some r)
    (hp : s.runPlace .load (s.scalarSrc src) r everyLane = .ok p) (he : s.loadEarly u (s.scalarSrc src) p r.bytes = none)
    (hc : s.loadCause u (s.scalarSrc src) p r.bytes = none)
    (hse : s.scalesEarly u (s.scalarSrc src) (runScales p (s.bankWord (s.scalarSrc src)) r everyLane) = none)
    (hsc : s.scalesCause u (s.scalarSrc src) (runScales p (s.bankWord (s.scalarSrc src)) r everyLane) = none) :
    exec (.vld u src g) s = .next ((vldHooks u (wideOfWord (s.scalarSrc src))).act (s.taken src)) := by
  refine runScalar_act (hk := hkVld u) h hs ?_ ?_ ?_ <;> simp only [hkVld, vldHooks, lowWord_wideOfWord, hr, hp, Option.isNone_some,
    Bool.false_eq_true, if_false, he, hc, hse, hsc]
  all_goals rfl

/-- Where no committed operation waits, it changes no byte and no register, and its decoded lanes are on their way. -/
theorem vld_run {u : Twin} {src : Src} {s : State} {r : Run} {p : Place} (hr : s.runAt (s.scalarSrc src) = some r)
    (hp : s.runPlace .load (s.scalarSrc src) r everyLane = .ok p) (hl : s.tile.lsq = []) :
    let t := (vldHooks u (wideOfWord (s.scalarSrc src))).act (s.taken src)
    SameBytes s t ∧ SameRegisters s.tile.core t.tile.core ∧ ∃ f ∈ t.tile.core.flight, f.sk = lsuOfTwin u ∧ f.port = .q ∧
      f.value = wideOfLanes r.width (fun i => (s.runLane (s.scalarSrc src) r p i).val) := by
  have hk := takenFlushLs_access src hl
  obtain ⟨hbytes, hregs⟩ := takenFlushLs_frame src hl
  rw [vldHooks_act_run (p := p) (r := r) (by rw [lowWord_wideOfWord, (taken_access s src).runAt, hr])
    (by rw [lowWord_wideOfWord, hk.runAt, hr]) (by rw [lowWord_wideOfWord, hk.runPlace, hp]), lowWord_wideOfWord]
  generalize (s.taken src).flushLs (s.taken src).cur = v at hk hbytes hregs ⊢
  unfold State.typedLoad
  have hnote := (noteLoad_keeps v p r.bytes).trans (noteScales_keeps _ (runScales p (v.bankWord (s.scalarSrc src)) r everyLane))
  generalize (v.noteLoad p r.bytes).noteScales (runScales p (v.bankWord (s.scalarSrc src)) r everyLane) = w at hnote ⊢
  rw [hk.runLane]
  obtain ⟨lat, e⟩ := State.loadResult_run (t := w) hr hp u 7 (wideOfLanes r.width (fun i => (s.runLane (s.scalarSrc src) r p i).val))
    (laneEvents everyLane (s.runLane (s.scalarSrc src) r p) r.elems)
  rw [e]
  obtain ⟨f, hsk, hport, hval, -, hcore⟩ := w.timed_core (lsuOfTwin u) lat .q
    (wideOfLanes r.width (fun i => (s.runLane (s.scalarSrc src) r p i).val)) allBits
    (laneEvents everyLane (s.runLane (s.scalarSrc src) r p) r.elems)
  refine ⟨sameBytes_trans hbytes (sameBytes_trans (sameBytes_keepsView hnote.noTags_stored) (sameBytes_timed _ _ _ _ _)), ?_,
    f, ?_, hsk, hport, hval⟩
  · rw [hcore, hnote.noTags_core]
    exact hregs
  · rw [hcore]
    exact List.mem_append_right _ List.mem_cons_self

/-! ### The gather (R247) -/

/-- A gather of lawful addresses that meets no trap acts. -/
theorem vldg_acts {u : Twin} {src : Src} {g : Guard} {s : State} (h : ScalarIssues (lsuOfTwin u) src g s)
    (hs : s.lsStall u (wideOfWord (s.scalarSrc src)) = false)
    (hb : gatherBad s.tile .load (wideOfWord (s.scalarSrc src)) (s.opA (lsuOfTwin u)) (s.maskA u) = false)
    (hlanes : ∀ i ∈ s.activeLanes u,
      s.loadEarly u (s.scalarSrc src) (s.gatherPlace (wideOfWord (s.scalarSrc src)) (s.opA (lsuOfTwin u)) i) 4 = none ∧
      s.loadCause u (s.scalarSrc src) (s.gatherPlace (wideOfWord (s.scalarSrc src)) (s.opA (lsuOfTwin u)) i) 4 = none) :
    exec (.vldg u src g) s = .next ((vldgHooks u (wideOfWord (s.scalarSrc src))).act (s.taken src)) := by
  obtain ⟨he, hc, hr⟩ := vldgHooks_clear (lowWord_wideOfWord _) hb hlanes
  exact runScalar_act (hk := hkVldg u) h hs he hc hr

/-- Where no committed operation waits, a gather changes no byte and no register, and its lanes are on their way. -/
theorem vldg_gathers {u : Twin} {src : Src} {s : State} (hl : s.tile.lsq = []) :
    let t := (vldgHooks u (wideOfWord (s.scalarSrc src))).act (s.taken src)
    SameBytes s t ∧ SameRegisters s.tile.core t.tile.core ∧ ∃ f ∈ t.tile.core.flight, f.sk = lsuOfTwin u ∧ f.port = .q ∧
      f.mask = laneMask (s.maskA u) 4 ∧ f.value = s.gathered u (wideOfWord (s.scalarSrc src)) := by
  have hk := takenFlushLs_access src hl
  obtain ⟨hbytes, hregs⟩ := takenFlushLs_frame src hl
  obtain ⟨l, q, e⟩ := vldgHooks_act (s.taken src) u (wideOfWord (s.scalarSrc src))
  rw [e]
  generalize (s.taken src).flushLs (s.taken src).cur = v at hk hbytes hregs ⊢
  have hg : v.gathered u (wideOfWord (s.scalarSrc src)) = s.gathered u (wideOfWord (s.scalarSrc src)) := by
    unfold State.gathered State.gatherPlace
    simp only [hk.maskA, hk.opA, hk.loadPlace, hk.cur]
  rw [hg, hk.maskA]
  have hnote := noteGather_keeps v u (wideOfWord (s.scalarSrc src))
  generalize v.noteGather u (wideOfWord (s.scalarSrc src)) = w at hnote ⊢
  obtain ⟨f, hsk, hport, hval, hmask, hcore⟩ := w.timed_core (lsuOfTwin u) 21 .q (s.gathered u (wideOfWord (s.scalarSrc src)))
    (laneMask (s.maskA u) 4) EvCount.zero
  have hmem : f ∈ (w.timed (lsuOfTwin u) 21 [(.q, s.gathered u (wideOfWord (s.scalarSrc src)), laneMask (s.maskA u) 4)]
      EvCount.zero).tile.core.flight := by
    rw [hcore]
    exact List.mem_append_right _ List.mem_cons_self
  obtain ⟨f', hf', hsk', hport', hmask', hval'⟩ := State.mem_deliverAs w.nextOp l hmem
  refine ⟨sameBytes_trans hbytes (sameBytes_trans (sameBytes_keepsView hnote.noTags_stored)
    (sameBytes_trans (sameBytes_timed _ _ _ _ _) (sameBytes_trans (sameBytes_modTile _ _ rfl) (sameBytes_modTile _ _ rfl)))), ?_,
    f', ?_, hsk'.trans hsk, hport'.trans hport, hmask'.trans hmask, hval'.trans hval⟩
  · rw [State.modTile_tile, Tile.mapSeq, Tile.mapCore_core, State.deliverAs_core, hcore, hnote.noTags_core]
    exact hregs
  · rw [State.modTile_tile]
    exact hf'

theorem typedLoads : TypedLoads := by
  intro u src g s h hs
  refine ⟨fun r p hr hp he hc hse hsc => ⟨_, vld_acts h hs hr hp he hc hse hsc, fun hl => ?_⟩, ?_⟩
  · obtain ⟨hb, ⟨⟨hm, ho, -, hh, -⟩, -⟩, f, hf, hsk, hport, hval⟩ := vld_run hr hp hl
    refine ⟨hb, hm, ho, hh, f, hf, hsk, hport, hval.trans (congrArg _ (funext fun i => ?_))⟩
    unfold State.runLane
    split <;> rfl
  · intro lanes at_ hb hlanes
    have hat (i : Nat) : at_ i = s.gatherPlace (wideOfWord (s.scalarSrc src)) (s.opA (lsuOfTwin u)) i := by
      unfold State.gatherPlace laneAddr
      rw [lowWord_wideOfWord]
    simp only [hat] at hlanes ⊢
    exact ⟨_, vldg_acts h hs hb hlanes, fun hl => vldg_gathers hl⟩

/-- Settles O17: the plain loads, the typed load and the gather, each by what it does at its trigger. -/
theorem loadsComplete : Obligations.LoadsComplete := ⟨loadResults, typedLoads⟩

end Sys2Proof.Claims
end

section
/-! PROOF. Atomics (O22): the cause of a poisoned atomic is one that outlives a rollback, which shows where the tile has to hold it. -/

namespace Sys2Proof.Claims

open Sys2Proof.Machine

/-- An atomic of the tile's own scratchpad. -/
def committedAtom : AtomReq :=
  { id := 0, sk := .lsu0, op := .add, wide := true, place := .scratch State.reset.cur.tid 0, a := 1, b := 0, vc := [], rel := [] }

/-- A machine whose tile runs a stub, with that atomic committed before it and poison in the unit at its place (R113, R359, R415). -/
def stubbed : State := State.reset.modTile (fun t => { t with priv := true, lsq := [.atom committedAtom], poison := [0] })

theorem stubbed_canonical : stubbed.canonical := by
  unfold State.canonical
  decide +kernel

theorem stubbed_lsq : stubbed.tile.lsq = [.atom committedAtom] := by decide +kernel

theorem stubbed_unsaved : Unsaved stubbed stubbed.cur committedAtom.id := by
  have hf : (stubbed.tileAt stubbed.cur).frame = none := by decide +kernel
  have hs : stubbed.saved = [] := by decide +kernel
  exact ⟨fun f h => (by rw [hf] at h; cases h), fun b h => (by rw [hs] at h; cases h)⟩

theorem stubbed_poison : stubbed.atomPoison stubbed.cur committedAtom = some 0 := by decide +kernel

/-- The state in which the atomic is no longer among the tile's committed operations. -/
def stubbedEmpty : State := stubbed.modTile (fun t => { t with lsq := [] })

/-- The cause as the statement gives it. -/
def claimedCause : Cause := stubbedEmpty.softError stubbed.cur.die 1 (poisonLoc committedAtom.place 0).1 (poisonLoc committedAtom.place 0).2

/-- Whether a rollback leaves each of the causes that the tile holds standing (R366). -/
def heldOutlives (s : State) : List Bool := s.tile.heldCauses.map Cause.outlives

/-- A tile in a stub, whose user's state the cause would roll back, holds it (R359, R366). -/
theorem stubbed_holds (c : Cause) (h : isRollbackCause c.code = true ∧ isService c.code = true) :
    heldOutlives (stubbedEmpty.takeTrap c) = [c.outlives] := by
  have hp : (stubbedEmpty.tileAt stubbedEmpty.cur).priv = true := by decide +kernel
  have hr : (stubbedEmpty.tileAt stubbedEmpty.cur).replays c = false := by
    unfold Tile.replays
    rw [show isRollbackCause (stubbedEmpty.tileAt stubbedEmpty.cur).code = false by decide +kernel]
    rfl
  have hh : (stubbedEmpty.tileAt stubbedEmpty.cur).heldCauses = [] := by decide +kernel
  unfold heldOutlives
  rw [takeTrap_tile, State.takeTrapAt_held (.inr ⟨hp, h.1⟩), hr, if_neg (by decide), if_pos h.2, State.modTileAt_tileAt]
  exact congrArg (fun l => (l ++ [c]).map Cause.outlives) hh

/-- The atomic consumes the poison: it cannot be done again, so that its cause outlives the rollback (R366, R416). -/
theorem stubbed_performs : exec .atomicPerform stubbed = .next (stubbedEmpty.takeTrap { claimedCause with final := true }) := by
  have hp : stubbedEmpty.atomPoison stubbed.cur committedAtom = some 0 := by decide +kernel
  show Host.Outcome.next (stubbed.performFirst stubbed.cur (throughAtom stubbed.tile.lsq)) = _
  unfold State.performFirst
  rw [show stubbed.tileAt stubbed.cur = stubbed.tile from rfl, stubbed_lsq]
  show Host.Outcome.next (stubbedEmpty.performAtom stubbed.cur committedAtom) = _
  unfold State.performAtom
  rw [hp]
  rfl

/-- Refutes O22: a tile in a stub holds the cause of a poisoned atomic as one that a rollback leaves standing, the statement's as one that a
rollback undoes (R359, R366). -/
theorem not_atomics : ¬ Obligations.Atomics := by
  rintro ⟨-, hperformed⟩
  obtain ⟨hpoison, -⟩ := hperformed stubbed committedAtom stubbed_canonical stubbed_lsq stubbed_unsaved
  have htrap : exec .atomicPerform stubbed = .next (stubbedEmpty.takeTrap claimedCause) := hpoison 0 stubbed_poison
  have hheld := congrArg heldOutlives (Host.Outcome.next.inj (stubbed_performs.symm.trans htrap))
  rw [stubbed_holds _ ⟨by decide +kernel, by decide +kernel⟩, stubbed_holds _ ⟨by decide +kernel, by decide +kernel⟩] at hheld
  exact absurd hheld (by decide +kernel)

end Sys2Proof.Claims
end

section
/-! PROOF. The matrix engine's steps (O32): the accumulator's columns behind a pass, a clearing and a drain. -/

namespace Sys2Proof.Machine

/-! ### The columns of the accumulator file (R138, R144, R153, R154) -/

theorem MxCore.colAt_place (m : MxCore) (r c : Nat) : (m.colAt r c).row = r ∧ (m.colAt r c).col = c := by
  unfold MxCore.colAt
  cases h : m.acc.find? (fun x => x.row = r && x.col = c) with
  | none => exact ⟨rfl, rfl⟩
  | some x => simpa using List.find?_some h

/-- Columns taken out by their places are clear; every other column stands. -/
theorem MxCore.filter_colAt (m : MxCore) (out : Nat → Nat → Bool) (r c : Nat) :
    ({ m with acc := m.acc.filter (fun x => !out x.row x.col) } : MxCore).colAt r c =
      if out r c then AccCol.clear r c else m.colAt r c := by
  have hfind : (m.acc.filter (fun x => !out x.row x.col)).find? (fun x => x.row = r && x.col = c) =
      m.acc.find? (fun x => !out r c && (decide (x.row = r) && decide (x.col = c))) := by
    rw [List.find?_filter]
    congr 1
    funext x
    by_cases hr : x.row = r <;> by_cases hc : x.col = c <;> simp [hr, hc]
  unfold MxCore.colAt
  rw [hfind]
  cases out r c with
  | false => simp
  | true =>
    rw [List.find?_eq_none.mpr (by simp)]
    rfl

theorem MxCore.setCol_colAt (m : MxCore) {x : AccCol} {r c : Nat} (hr : x.row = r) (hc : x.col = c) : (m.setCol x).colAt r c = x := by
  simp [MxCore.setCol, MxCore.colAt, hr, hc]

theorem MxCore.setCol_colAt_ne (m : MxCore) {x : AccCol} {r c : Nat} (h : ¬(r = x.row ∧ c = x.col)) :
    (m.setCol x).colAt r c = m.colAt r c := by
  have hx : ¬(decide (x.row = r) && decide (x.col = c)) = true := fun e => by
    rw [Bool.and_eq_true, decide_eq_true_eq, decide_eq_true_eq] at e
    exact h ⟨e.1.symm, e.2.symm⟩
  have hout : (decide (r = x.row) && decide (c = x.col)) = false := by
    rw [← Bool.decide_and]
    exact decide_eq_false h
  have hfilter := m.filter_colAt (fun a b => decide (a = x.row) && decide (b = x.col)) r c
  rw [hout] at hfilter
  exact (congrArg (fun o => o.getD (AccCol.clear r c))
    (List.find?_cons_of_neg (p := fun y : AccCol => decide (y.row = r) && decide (y.col = c)) hx)).trans hfilter

theorem freeColumn_place (nprof free : Nat) (x : AccCol) :
    (freeColumn nprof free x).1.row = x.row ∧ (freeColumn nprof free x).1.col = x.col := by
  unfold freeColumn
  dsimp only
  split_ifs <;> exact ⟨rfl, rfl⟩

/-- A pass whose images are not stated changes its own columns alone (R419). -/
theorem MxCore.enterFree_colAt (nprof row free r c : Nat) (cols : List Nat) (m : MxCore) (h : ¬(r = row ∧ c ∈ cols)) :
    (m.enterFree nprof row free cols).1.colAt r c = m.colAt r c := by
  induction cols generalizing m with
  | nil => rfl
  | cons col cols ih =>
    obtain ⟨hrow, hcol⟩ := freeColumn_place nprof (free + 2 * col) (m.colAt row col)
    obtain ⟨hr, hc⟩ := m.colAt_place row col
    refine (ih _ fun e => h ⟨e.1, List.mem_cons_of_mem _ e.2⟩).trans (m.setCol_colAt_ne fun e => h ⟨?_, ?_⟩)
    · rw [e.1, hrow, hr]
    · rw [e.2, hcol, hc]; exact List.mem_cons_self

/-- A row with a NaN or an infinity poisons every column of its pass (R134). -/
theorem MxCore.poisonCols_colAt (m : MxCore) (nprof row : Nat) (cols : List Nat) :
    ∀ c ∈ cols, ((m.poisonCols nprof row cols).colAt row c).poison = true := by
  have hset (m : MxCore) (b c : Nat) : ((m.setCol { m.colAt row b with kind := passKind nprof, poison := true }).colAt row c).poison =
      (decide (c = b) || (m.colAt row c).poison) := by
    obtain ⟨hr, hc⟩ := m.colAt_place row b
    by_cases e : c = b
    · subst e
      rw [MxCore.setCol_colAt _ (x := { m.colAt row c with kind := passKind nprof, poison := true }) hr hc]
      simp
    · rw [MxCore.setCol_colAt_ne _ (x := { m.colAt row b with kind := passKind nprof, poison := true }) fun x => e (x.2.trans hc)]
      simp [e]
  refine foldl_makes (P := fun c m => (MxCore.colAt m row c).poison = true) (fun m b => ?_) (fun m c b h => ?_) cols m
  · simp [hset]
  · simp [hset, h]

/-- A slice and those after it cleared (R154, R155). -/
theorem MxCore.clearSlices_colAt (m : MxCore) (row slice count r c : Nat) :
    ((List.range count).foldl (fun m i => m.clearSlice row (slice + i) (fun _ => true)) m).colAt r c =
      if r = row ∧ 16 * slice ≤ c ∧ c < 16 * (slice + count) then AccCol.clear r c else m.colAt r c := by
  induction count with
  | zero => rw [if_neg (by omega)]; rfl
  | succ n ih =>
    rw [List.range_succ, List.foldl_append]
    refine (MxCore.filter_colAt _ (fun a b => decide (a = row) && decide (b / 16 = slice + n) && true) r c).trans ?_
    rw [ih]
    simp only [Bool.and_true, Bool.and_eq_true, decide_eq_true_eq]
    rw [← ite_or]
    exact if_congr (by omega) rfl rfl

/-! ### The queue behind a pass and a clearing -/

theorem MxCore.enter_queue (nprof row : Nat) (l : List (Nat × List (List Dyadic))) (m : MxCore) :
    (m.enter nprof row l).1.queue = m.queue := by
  induction l generalizing m with
  | nil => rfl
  | cons x l ih => exact ih _

theorem MxCore.enterFree_queue (nprof row free : Nat) (cols : List Nat) (m : MxCore) :
    (m.enterFree nprof row free cols).1.queue = m.queue := by
  induction cols generalizing m with
  | nil => rfl
  | cons x l ih => exact ih _

theorem MxCore.poisonCols_queue (m : MxCore) (nprof row : Nat) (cols : List Nat) : (m.poisonCols nprof row cols).queue = m.queue :=
  by unfold MxCore.poisonCols; apply foldl_keeps MxCore.queue; exact fun _ _ => rfl

theorem MxCore.clearSlices_queue (m : MxCore) (row slice count : Nat) :
    ((List.range count).foldl (fun m i => m.clearSlice row (slice + i) (fun _ => true)) m).queue = m.queue :=
  by apply foldl_keeps MxCore.queue; exact fun _ _ => rfl

theorem MxCore.mem_remove {m : MxCore} {o x : MxOp} (h : x ∈ (m.remove o).queue) : x ∈ m.queue := List.mem_of_mem_erase h

/-! ### The arrival of results where a frame and a save area await some (R371, R377) -/

theorem awaits_fillFlight {l : List InFlight} {id : Nat} (h : awaits l id = false) (j due : Nat) (rs : List (RPort × Wide)) :
    awaits (fillFlight l j due rs) id = false := by
  simp only [awaits, fillFlight, List.any_map, List.any_eq_false, Function.comp] at h ⊢
  intro f hf
  split
  · simp
  · exact h f hf

theorem State.fillAt_saved (s : State) (k : TileKey) (id due : Nat) (rs : List (RPort × Wide)) :
    (s.fillAt k id due rs).saved =
      s.saved.map (fun b => if b.pa = (s.tileAt k).area then b.mapFlights (fun l => fillFlight l id due rs) else b) := by
  obtain e | ⟨a, b, e⟩ := State.fillAt_cases s k id due rs <;> rw [e]
  · rfl
  · obtain ⟨m, e'⟩ := (s.mapFlights k (fun l => fillFlight l id due rs)).writeEntries_eq k a b
    rw [e']
    rfl

/-- An MXSTAT answered: its result has arrived, and it stands in the queue no more (R146, R295). -/
def State.answerStat (s : State) (k : TileKey) (id : Nat) (r : List MxOp) : State :=
  (s.fillAt k id s.clock [(.q, BitVec.ofNat 512 (s.tileAt k).core.mx.mxstat)]).modTileAt k (fun t =>
    { t.mapCore (fun c => c.mapMx (fun m => { m.clearCim (t.clearsInFrame id) with queue := r })) with
      mark := t.mark.markStat id (t.clearsInFrame id) })

theorem State.settleStats_succ {s : State} {k : TileKey} {id : Nat} {r : List MxOp} (n : Nat)
    (h : (s.tileAt k).core.mx.queue = .stat id :: r) : s.settleStats k (n + 1) = (s.answerStat k id r).settleStats k n := by
  rw [State.settleStats, h]
  rfl

theorem State.answerStat_tileAt (s : State) (k : TileKey) (id : Nat) (r : List MxOp) :
    ∃ cim, ((s.answerStat k id r).tileAt k).core.mx = { (s.tileAt k).core.mx with cim := cim, queue := r } ∧
      ((s.answerStat k id r).tileAt k).frame = ((s.fillAt k id s.clock [(.q, BitVec.ofNat 512 (s.tileAt k).core.mx.mxstat)]).tileAt k).frame ∧
      ((s.answerStat k id r).tileAt k).area = (s.tileAt k).area := by
  unfold State.answerStat
  rw [State.modTileAt_tileAt, State.fillAt_tileAt]
  exact ⟨_, rfl, rfl, rfl⟩

/-! ### The bytes that a drain writes (R155) -/

/-- A store to a scratchpad keeps what the writing of bytes does not belong to. -/
theorem writeScratch_keeps {β : Type} {view : Tile → β} (hv : OffStores view) (s : State) (k : TileKey) (tid : BitVec 6) (o : Nat)
    (bs : List (Nat × Byte × Byte)) : KeepsView view s (s.writeBytesAt k (.scratch tid o) bs) := by
  have heach : KeepsView view s (s.writeEach k (.scratch tid o) bs) := by
    induction bs generalizing s with
    | nil => exact .refl s
    | cons b bs ih => exact (KeepsView.modTileAt s _ fun x => hv.scratch x _).trans (ih _)
  exact heach.trans (.ite (.refl _) (.modTileAt _ _ fun x => hv.poison x _))

theorem untagScratch_keeps {β : Type} {view : Tile → β} (hv : OffNotes view) (s : State) (k : TileKey) (tid : BitVec 6) (o n : Nat) :
    KeepsView view s (s.untag k (.scratch tid o) n) := .ite (.refl s) (.modTileAt s _ fun x => hv.tags x _)

/-- What decides how an MXSTAT is answered: the engine, the frame and the place of the save area. -/
def Tile.awaiting (t : Tile) : MxCore × Option Frame × Word := (t.core.mx, t.frame, t.savebase)

theorem offStores_awaiting : OffStores Tile.awaiting :=
  ⟨⟨fun _ _ => rfl, fun _ _ => rfl, fun _ _ => rfl, fun _ _ _ => rfl⟩, fun _ _ => rfl, fun _ _ => rfl⟩

/-- The state behind a store of n bytes to the tile's own scratchpad, whose release tags it ends (R105). -/
def State.drainTo (s : State) (dst v n : Nat) : State :=
  (s.writeBytesAt s.cur (.scratch s.cur.tid dst) (fullBytes v n)).untag s.cur (.scratch s.cur.tid dst) n

theorem State.drainTo_keeps (s : State) (dst v n : Nat) : KeepsView Tile.awaiting s (s.drainTo dst v n) :=
  (writeScratch_keeps offStores_awaiting s _ _ _ _).trans (untagScratch_keeps offStores_awaiting.toOffNotes _ _ _ _ _)

theorem State.drainTo_mx (s : State) (dst v n : Nat) : (s.drainTo dst v n).mx = s.mx :=
  congrArg Prod.fst (s.drainTo_keeps dst v n).tile

/-- The engine behind a DRAINST: its slices are clear where it asks for that (R155). -/
def MxCore.drained (o : MxOp) (row slice count : Nat) (clear : Bool) (m : MxCore) : MxCore :=
  if clear then (List.range count).foldl (fun m i => m.clearSlice row (slice + i) (fun _ => true)) (m.remove o) else m.remove o

theorem MxCore.drained_colAt (o : MxOp) (row slice count : Nat) (clear : Bool) (m : MxCore) (r c : Nat) :
    (m.drained o row slice count clear).colAt r c =
      if clear && decide (r = row ∧ 16 * slice ≤ c ∧ c < 16 * (slice + count)) then AccCol.clear r c else m.colAt r c := by
  unfold MxCore.drained
  cases clear with
  | false => rfl
  | true =>
    rw [if_pos rfl, MxCore.clearSlices_colAt]
    simp only [Bool.true_and, decide_eq_true_eq]
    rfl

theorem MxCore.mem_drained {o x : MxOp} {row slice count : Nat} {clear : Bool} {m : MxCore}
    (h : x ∈ (m.drained o row slice count clear).queue) : x ∈ m.queue := by
  unfold MxCore.drained at h
  split at h
  · exact MxCore.mem_remove ((MxCore.clearSlices_queue _ _ _ _) ▸ h)
  · exact MxCore.mem_remove h

end Sys2Proof.Machine

namespace Sys2Proof.Claims

open Sys2Proof.Machine

theorem Unsaved.fillAt {s : State} {k : TileKey} {id : Nat} (h : Unsaved s k id) (j due : Nat) (rs : List (RPort × Wide)) :
    Unsaved (s.fillAt k j due rs) k id := by
  obtain ⟨hframe, hsaved⟩ := h
  refine ⟨fun f hf => ?_, fun b hb hpa => ?_⟩
  · rw [State.fillAt_tileAt] at hf
    obtain ⟨x, hx, rfl⟩ := Option.map_eq_some_iff.mp hf
    exact awaits_fillFlight (hframe x hx) _ _ _
  · rw [State.fillAt_tileAt] at hpa
    rw [State.fillAt_saved] at hb
    obtain ⟨x, hx, rfl⟩ := List.mem_map.mp hb
    by_cases e : x.pa = (s.tileAt k).area
    · rw [if_pos e]
      exact awaits_fillFlight (hsaved x hx e) _ _ _
    · rw [if_neg e] at hpa
      exact absurd hpa e

/-- No frame and no save area awaits the result of an MXSTAT that stands in a tile's queue. -/
def StatsUnsaved (s : State) (k : TileKey) : Prop := ∀ id, MxOp.stat id ∈ (s.tileAt k).core.mx.queue → Unsaved s k id

/-- What an unanswered MXSTAT goes by: the engine, the frame and the place of the save area. -/
theorem Unsaved.congr {s t : State} {k : TileKey} {id : Nat} (h : Unsaved s k id) (hf : (t.tileAt k).frame = (s.tileAt k).frame)
    (ha : (t.tileAt k).area = (s.tileAt k).area) (hs : t.saved = s.saved) : Unsaved t k id := by
  unfold Unsaved
  rw [hf, ha, hs]
  exact h

/-- The answers of the MXSTATs at the head of the queue change no byte, and of the engine neither the pages nor the columns (R146). -/
theorem StatsUnsaved.settleStats {s : State} {k : TileKey} (h : StatsUnsaved s k) (n : Nat) :
    SameBytes s (s.settleStats k n) ∧ (s.settleStats k n).cur = s.cur ∧
    ((s.settleStats k n).tileAt k).core.mx.acc = (s.tileAt k).core.mx.acc ∧
    ((s.settleStats k n).tileAt k).core.mx.pages = (s.tileAt k).core.mx.pages := by
  have hstays : SameBytes s s ∧ s.cur = s.cur ∧ (s.tileAt k).core.mx.acc = (s.tileAt k).core.mx.acc ∧
      (s.tileAt k).core.mx.pages = (s.tileAt k).core.mx.pages := ⟨sameBytes_refl s, rfl, rfl, rfl⟩
  induction n generalizing s with
  | zero => exact hstays
  | succ n ih =>
    cases hq : (s.tileAt k).core.mx.queue with
    | nil => rw [State.settleStats, hq]; exact hstays
    | cons o r =>
      cases o with
      | stat id =>
        rw [State.settleStats_succ n hq]
        obtain ⟨cim, hmx, hframe, harea⟩ := s.answerStat_tileAt k id r
        have hnext : StatsUnsaved (s.answerStat k id r) k := fun j hj => by
          rw [hmx] at hj
          refine ((h j (hq ▸ List.mem_cons_of_mem _ hj)).fillAt id _ _).congr hframe ?_ rfl
          rw [harea, State.fillAt_tileAt]
          rfl
        have hbytes : SameBytes s (s.answerStat k id r) :=
          sameBytes_trans (sameBytes_fillAt s k id _ _ (h id (hq ▸ List.mem_cons_self))) (sameBytes_modTileAt _ _ _ rfl)
        have hcur : (s.answerStat k id r).cur = s.cur := (State.fillAt_ctxs _ _ _ _ _).2
        obtain ⟨hb, hc, ha, hp⟩ := ih hnext ⟨sameBytes_refl _, rfl, rfl, rfl⟩
        rw [hmx] at ha hp
        exact ⟨sameBytes_trans hbytes hb, hc.trans hcur, ha, hp⟩
      | _ => rw [State.settleStats, hq]; exact hstays

/-- So do those of the tile of the step. -/
theorem StatsUnsaved.settleMx {s : State} (h : StatsUnsaved s s.cur) :
    SameBytes s s.settleMx ∧ s.settleMx.cur = s.cur ∧ s.settleMx.mx.acc = s.mx.acc ∧ s.settleMx.mx.pages = s.mx.pages := by
  obtain ⟨hbytes, hcur, hacc, hpages⟩ := h.settleStats s.mx.queue.length
  exact ⟨hbytes, hcur, (congrArg (fun k => (s.settleMx.tileAt k).core.mx.acc) hcur).trans hacc,
    (congrArg (fun k => (s.settleMx.tileAt k).core.mx.pages) hcur).trans hpages⟩

/-- A change of the tile's registers that puts no operation into the engine's queue. -/
theorem StatsUnsaved.modCore {s : State} {f : TileCore → TileCore} (h : StatsUnsaved s s.cur)
    (hq : ∀ x ∈ (f s.tile.core).mx.queue, x ∈ s.mx.queue) : StatsUnsaved (s.modTile (fun t => t.mapCore f)) s.cur := by
  intro id hid
  have ht : (s.modTile (fun t => t.mapCore f)).tileAt s.cur = s.tile.mapCore f := State.modTile_tile s _
  rw [ht] at hid
  exact (h id (hq _ hid)).congr (by rw [ht]; rfl) (by rw [ht]; rfl) rfl

theorem modMx_mx (s : State) (f : MxCore → MxCore) : (s.modMx f).mx = f s.mx := by
  unfold State.mx State.modMx
  rw [State.modTile_tile]
  rfl

/-- A step of the engine: the engine changed, the events counted, and the MXSTATs that it leaves at the head of the queue answered. -/
def engineDone (s : State) (f : MxCore → MxCore) (e : EvCount) : State :=
  ((s.modMx f).modTile (fun t => t.mapCore (fun c => c.count e))).settleMx

/-- A step of the engine changes no byte, and leaves the pages and the columns that it makes. -/
theorem StatsUnsaved.engineDone_keeps {s : State} (h : StatsUnsaved s s.cur) (f : MxCore → MxCore) (e : EvCount)
    (hq : ∀ x ∈ (f s.mx).queue, x ∈ s.mx.queue) :
    SameBytes s (engineDone s f e) ∧ (engineDone s f e).cur = s.cur ∧ (engineDone s f e).mx.acc = (f s.mx).acc ∧
    (engineDone s f e).mx.pages = (f s.mx).pages := by
  have hchanged : StatsUnsaved (s.modMx f) (s.modMx f).cur := h.modCore hq
  have hmx : ((s.modMx f).modTile (fun t => t.mapCore (fun c => c.count e))).mx = f s.mx := by
    rw [← modMx_mx s f]
    unfold State.mx
    rw [State.modTile_tile]
    rfl
  obtain ⟨hbytes, hcur, hacc, hpages⟩ := StatsUnsaved.settleMx (hchanged.modCore (f := fun c => c.count e) fun _ hx => hx)
  rw [hmx] at hacc hpages
  exact ⟨sameBytes_trans (sameBytes_modTile _ _ rfl) (sameBytes_trans (sameBytes_modTile _ _ rfl) hbytes), hcur, hacc, hpages⟩

/-- A step that ends so, from a state in which no MXSTAT of the queue is awaited in a frame or a save area. -/
theorem StatsUnsaved.ends {s u : State} {i : Instr} {f : MxCore → MxCore} {e : EvCount} (h : StatsUnsaved u u.cur)
    (hexec : exec i s = .next (engineDone u f e)) (hq : ∀ x ∈ (f u.mx).queue, x ∈ u.mx.queue) :
    ∃ t, exec i s = .next t ∧ SameBytes u t ∧ t.cur = u.cur ∧ t.mx.acc = (f u.mx).acc ∧ t.mx.pages = (f u.mx).pages :=
  ⟨_, hexec, h.engineDone_keeps f e hq⟩

/-- What decides how an MXSTAT is answered stands, and so does whether its result is awaited. -/
theorem StatsUnsaved.keepsView {s t : State} {k : TileKey} (h : StatsUnsaved s k) (hk : KeepsView Tile.awaiting s t) : StatsUnsaved t k := by
  have hmx : (t.tileAt k).core.mx = (s.tileAt k).core.mx := congrArg Prod.fst (hk.tiles k)
  have hframe : (t.tileAt k).frame = (s.tileAt k).frame := congrArg (fun x => x.2.1) (hk.tiles k)
  have harea : (t.tileAt k).area = (s.tileAt k).area := congrArg (fun x => x.2.2.toNat) (hk.tiles k)
  intro id hid
  rw [hmx] at hid
  refine (h id hid).congr hframe harea ?_
  obtain ⟨l, c, n, rfl⟩ := hk.rest
  rfl

theorem colAt_congr {a b : MxCore} (h : a.acc = b.acc) (r c : Nat) : a.colAt r c = b.colAt r c := by
  unfold MxCore.colAt
  rw [h]

/-! ### The bytes behind a drain -/

/-- A byte that a store to a scratchpad does not name reads as before. -/
theorem writeEach_byte_out (s : State) (k : TileKey) (tid : BitVec 6) (o : Nat) (bs : List (Nat × Byte × Byte)) {off : Nat}
    (h : ∀ x ∈ bs, off ≠ o + x.1) :
    ((s.writeEach k (.scratch tid o) bs).tileAt (keyPeer k tid)).byte off = (s.tileAt (keyPeer k tid)).byte off := by
  induction bs generalizing s with
  | nil => rfl
  | cons x bs ih =>
    have hx : off ≠ o + x.1 := h x List.mem_cons_self
    have hone : (s.writeByteAt k (.scratch tid (o + x.1)) x.2.1 x.2.2).tileAt (keyPeer k tid) =
        (s.tileAt (keyPeer k tid)).spWrite (o + x.1) [mergeByte ((s.tileAt (keyPeer k tid)).byte (o + x.1)) x.2.1 x.2.2] :=
      State.modTileAt_tileAt _ _ _
    exact (ih _ fun y hy => h y (List.mem_cons_of_mem _ hy)).trans ((congrArg (fun t => t.byte off) hone).trans
      (Tile.byte_spWrite_out _ _ _ (by simp only [List.length_singleton]; omega)))

theorem fullBytes_lt {v n : Nat} {x : Nat × Byte × Byte} (h : x ∈ fullBytes v n) : x.1 < n := by
  obtain ⟨i, hi, rfl⟩ := List.mem_map.mp h
  exact List.mem_range.mp hi

theorem drainTo_scratch (s : State) (dst v n : Nat) (k : TileKey) : ((s.drainTo dst v n).tileAt k).scratch =
    ((s.writeEach s.cur (.scratch s.cur.tid dst) (fullBytes v n)).tileAt k).scratch :=
  ((untagScratch_keeps offNotes_scratch _ _ _ _ _).tiles k).trans (unpoison_scratch _ _ _ _ _)

theorem drainTo_memByte (s : State) (dst v n pa : Nat) : (s.drainTo dst v n).memByte pa = s.memByte pa := by
  obtain ⟨l, c, m, e⟩ := (s.drainTo_keeps dst v n).rest
  rw [e]
  rfl

/-- Every byte of a drain's destination is one of the value drained (R155). -/
theorem drainTo_byte {s : State} (hwf : s.canonical) (dst v n : Nat) {i : Nat} (h : i < n) :
    ((s.drainTo dst v n).tileAt s.cur).byte (dst + i) = byteOf v i := by
  refine (congrArg (fun c => cellsGet c (dst + i)) (drainTo_scratch s dst v n s.cur)).trans ?_
  refine (writeEach_byte (s := s) (k := s.cur) (tid := s.cur.tid) (fullBytes v n) (State.canonical_tileAt hwf _) (dst + i)).trans ?_
  rw [if_pos (Nat.le_add_right dst i), Nat.add_sub_cancel_left, storedByte_fullBytes, if_pos h]

/-- A drain writes its destination and nothing else (R155). -/
theorem drainTo_byte_out (s : State) (dst v n : Nat) {k : TileKey} {off : Nat} (h : ¬(k = s.cur ∧ dst ≤ off ∧ off < dst + n)) :
    ((s.drainTo dst v n).tileAt k).byte off = (s.tileAt k).byte off := by
  refine (congrArg (fun c => cellsGet c off) (drainTo_scratch s dst v n k)).trans ?_
  by_cases e : k = s.cur
  · subst e
    refine writeEach_byte_out s s.cur s.cur.tid dst _ fun x hx => ?_
    have hlt := fullBytes_lt hx
    exact fun he => h ⟨rfl, by omega, by omega⟩
  · rw [(writeEach_other s s.cur s.cur.tid dst _).2 k e]
    rfl

/-! ### The four steps -/

/-- The engine behind a WLD that has filled its page: the page's image stands first, and one that an earlier pass keeps behind it (R152). -/
def pageFilled (o : MxOp) (id : Nat) (mac : BitVec 2) (page : BitVec 3) (r : PageImage × Nat × Nat) (m : MxCore) : MxCore :=
  { m.remove o with
    pages := { r.1 with ver := id } :: m.pages.filter (fun x => !(x.mac = mac && x.page = page) || (m.remove o).earlierPass id mac page),
    cim := m.cim || decide (r.2.1 ≠ 0) || decide (r.2.2 ≠ 0) }

/-- The events of a page's load (R143, R147). -/
def pageEvents (r : PageImage × Nat × Nat) : EvCount := { EvCount.zero with trn := r.2.1, inv := r.2.2, wld := r.2.2 }

/-- The stripes of the row that a pass streams; none for a row with a NaN or an infinity (R134, R149, R151). -/
def passStripes (t : Tile) (off : Nat) (sf : BitVec 3) (mode : BitVec 2) (fmt np : BitVec 4) : Option (List (Int × List Int)) :=
  rowStripes sf.toNat (streamWa sf.toNat np.toNat) (rowElems mode.toNat (neffOf fmt.toNat))
    (t.spRead off (rowBytes sf.toNat (rowElems mode.toNat (neffOf fmt.toNat))))

/-- The engine behind an MXCLR (R153). -/
def rowsCleared (o : MxOp) (rows : BitVec 16) (m : MxCore) : MxCore :=
  { m.remove o with acc := (m.remove o).acc.filter (fun c => !rows.getLsbD c.row) }

section
variable {s : State} (hrun : s.tile.frozen = false) (hstats : StatsUnsaved s s.cur)
include hrun

/-- The clock of a step has come, and the tile runs (R25, R144). -/
theorem engine_due {due : Nat} (h : due ≤ s.mx.clk) : ¬(s.tile.frozen || decide (s.mx.clk < due)) = true := by
  simp [hrun, h]

include hstats

/-- A page is filled with its image (R147, R148). -/
theorem wld_fills {id due off stride sidx neff rb : Nat} {mac : BitVec 2} {page : BitVec 3} {bf : BitVec 32}
    (hhead : s.mx.loadHead = some (.wld id due mac page off stride sidx bf)) (hdue : due ≤ s.mx.clk) (hclean : s.tile.poison = [])
    (hfmt : resident (bfFmt bf) = some (neff, rb)) :
    let so (i : Nat) : Nat := scaleBank bf (off / bankSize) * bankSize + scaleOff bf (sidx + i)
    let rows := (List.range 256).map (fun k => s.tile.spRead (off + k * stride) rb)
    let scales := if grouped bf then (List.range (4 * neff)).map (fun i => scaleVal (bfSfmt bf) (s.tile.spRead (so i) 2)) else []
    ∃ t, exec .wldPageWritten s = .next t ∧ SameBytes s t ∧
      t.mx.pages.find? (fun p => p.mac = mac && p.page = page) =
        some { (fillPage mac page (bfFmt bf) neff rb rows scales).1 with ver := id } := by
  intro so rows scales
  have hexec : exec .wldPageWritten s = .next (engineDone s
      (pageFilled (.wld id due mac page off stride sidx bf) id mac page (fillPage mac page (bfFmt bf) neff rb rows scales))
      (pageEvents (fillPage mac page (bfFmt bf) neff rb rows scales))) := by
    show execWldPageWritten s = _
    unfold execWldPageWritten
    simp only [hhead, hfmt, Tile.poisonIn, hclean, if_neg (engine_due hrun hdue), if_true]
    rfl
  obtain ⟨t, ht, hbytes, -, -, hpages⟩ := hstats.ends hexec (fun x hx => MxCore.mem_remove hx)
  refine ⟨t, ht, hbytes, ?_⟩
  rw [hpages]
  exact List.find?_cons_of_pos (by simp [fillPage])

section
variable {id due stop row off : Nat} {sf : BitVec 3} {mode : BitVec 2} {fmt : BitVec 4} {pages : List (BitVec 3)} {np : BitVec 4}
  (hhead : s.mx.streamHead = some (.pass id due stop row off sf mode fmt pages np)) (hdue : due ≤ s.mx.clk) (hclean : s.tile.poison = [])
include hhead hdue hclean

/-- A pass is entered into its row (R151). -/
theorem pass_enters {st : List (Int × List Int)} {im : List PageImage} (hst : passStripes s.tile off sf mode fmt np = some st)
    (him : s.mx.images id stop pages = some im) :
    ∃ t, exec .astrPassEntered s = .next t ∧ SameBytes s t ∧
      t.mx.acc = ((s.mx.remove (.pass id due stop row off sf mode fmt pages np)).enter np.toNat row
        (passColumns mode.toNat (neffOf fmt.toNat) im st)).1.acc := by
  obtain ⟨m, e, hm⟩ : ∃ m e, (m, e) = (s.mx.remove (.pass id due stop row off sf mode fmt pages np)).enter np.toNat row
    (passColumns mode.toNat (neffOf fmt.toNat) im st) := ⟨_, _, rfl⟩
  have hexec : exec .astrPassEntered s = .next (engineDone s (fun _ => m) e) := by
    show execAstrPassEntered s = _
    unfold execAstrPassEntered
    unfold passStripes at hst
    simp only [hhead, hst, him, Tile.poisonIn, hclean, if_neg (engine_due hrun hdue), if_true, ← hm]
    rfl
  have hqueue : m.queue = (s.mx.remove (.pass id due stop row off sf mode fmt pages np)).queue :=
    (congrArg (fun x => x.1.queue) hm).trans (MxCore.enter_queue _ _ _ _)
  obtain ⟨t, ht, hbytes, -, hacc, -⟩ := hstats.ends hexec (fun x hx => MxCore.mem_remove (hqueue ▸ hx))
  exact ⟨t, ht, hbytes, hm ▸ hacc⟩

/-- A pass whose page was emptied while it streamed changes its own columns alone (R419). -/
theorem pass_enters_free (hst : passStripes s.tile off sf mode fmt np ≠ none) (him : s.mx.images id stop pages = none) :
    ∃ t, exec .astrPassEntered s = .next t ∧ SameBytes s t ∧
      ∀ r c, ¬(r = row ∧ c ∈ passTargets mode.toNat (neffOf fmt.toNat)) → t.mx.colAt r c = s.mx.colAt r c := by
  obtain ⟨st, hst⟩ := Option.ne_none_iff_exists'.mp hst
  obtain ⟨m, e, hm⟩ : ∃ m e, (m, e) = (s.mx.remove (.pass id due stop row off sf mode fmt pages np)).enterFree np.toNat row s.free
    (passTargets mode.toNat (neffOf fmt.toNat)) := ⟨_, _, rfl⟩
  have hexec : exec .astrPassEntered s = .next (engineDone { s with free := s.free + 2048 } (fun _ => m) e) := by
    show execAstrPassEntered s = _
    unfold execAstrPassEntered
    unfold passStripes at hst
    simp only [hhead, hst, him, Tile.poisonIn, hclean, if_neg (engine_due hrun hdue), if_true, ← hm]
    rfl
  have hqueue : m.queue = (s.mx.remove (.pass id due stop row off sf mode fmt pages np)).queue :=
    (congrArg (fun x => x.1.queue) hm).trans (MxCore.enterFree_queue _ _ _ _ _)
  have hcols (r c : Nat) (h : ¬(r = row ∧ c ∈ passTargets mode.toNat (neffOf fmt.toNat))) : m.colAt r c = s.mx.colAt r c :=
    (congrArg (fun x => x.1.colAt r c) hm).trans (MxCore.enterFree_colAt _ _ _ _ _ _ _ h)
  have hdrawn : StatsUnsaved { s with free := s.free + 2048 } s.cur := hstats
  obtain ⟨t, ht, hbytes, -, hacc, -⟩ := hdrawn.ends hexec (fun x hx => MxCore.mem_remove (hqueue ▸ hx))
  exact ⟨t, ht, hbytes, fun r c h => (colAt_congr hacc r c).trans (hcols r c h)⟩

/-- A pass of a row with a NaN or an infinity poisons its columns (R134, R151). -/
theorem pass_poisons (hst : passStripes s.tile off sf mode fmt np = none) :
    ∃ t, exec .astrPassEntered s = .next t ∧ SameBytes s t ∧
      ∀ c ∈ passTargets mode.toNat (neffOf fmt.toNat), (t.mx.colAt row c).poison = true := by
  have hexec : exec .astrPassEntered s = .next (engineDone s
      (fun m => (m.remove (.pass id due stop row off sf mode fmt pages np)).poisonCols np.toNat row
        (passTargets mode.toNat (neffOf fmt.toNat)))
      { EvCount.zero with inv := (passTargets mode.toNat (neffOf fmt.toNat)).length }) := by
    show execAstrPassEntered s = _
    unfold execAstrPassEntered
    unfold passStripes at hst
    simp only [hhead, hst, Tile.poisonIn, hclean, if_neg (engine_due hrun hdue), if_true]
    rfl
  obtain ⟨t, ht, hbytes, -, hacc, -⟩ := hstats.ends hexec (fun x hx => MxCore.mem_remove ((MxCore.poisonCols_queue _ _ _ _) ▸ hx))
  refine ⟨t, ht, hbytes, fun c hc => ?_⟩
  rw [colAt_congr hacc]
  exact MxCore.poisonCols_colAt _ _ _ _ c hc

end

/-- Rows are cleared (R153). -/
theorem clr_clears {id due : Nat} {rows : BitVec 16} (hhead : s.mx.streamHead = some (.clr id due rows)) (hdue : due ≤ s.mx.clk) :
    ∃ t, exec .mxclrTakesEffect s = .next t ∧ SameBytes s t ∧
      ∀ r c, t.mx.colAt r c = if rows.getLsbD r then AccCol.clear r c else s.mx.colAt r c := by
  have hexec : exec .mxclrTakesEffect s = .next (s.modMx (rowsCleared (.clr id due rows) rows)).settleMx := by
    show execMxclrTakesEffect s = _
    unfold execMxclrTakesEffect
    simp only [hhead, if_neg (engine_due hrun hdue)]
    rfl
  have hchanged : StatsUnsaved (s.modMx (rowsCleared (.clr id due rows) rows)) s.cur := hstats.modCore fun x hx => MxCore.mem_remove hx
  obtain ⟨hbytes, -, hacc, -⟩ := hchanged.settleMx
  rw [modMx_mx] at hacc
  exact ⟨_, hexec, sameBytes_trans (sameBytes_modTile _ _ rfl) hbytes, fun r c =>
    (colAt_congr hacc r c).trans (MxCore.filter_colAt _ (fun a _ => rows.getLsbD a) r c)⟩

/-- A drain writes the elements that its columns encode to, and clears its slices where it asks for that (R155). -/
theorem drainst_drains {id due dst row slice count : Nat} {clear : Bool} {bf : BitVec 32} {frm : BitVec 4}
    (hhead : s.mx.streamHead = some (.drainst id due dst row slice count clear bf frm)) (hdue : due ≤ s.mx.clk) :
    let n := 16 * count
    let sz := drainSize (bfFmt bf)
    let scale (i : Nat) : FVal := scaleVal (bfSfmt bf) (s.tile.spRead (scaleBank bf (dst / bankSize) * bankSize +
      scaleOff bf (groupOf (bfOrient bf) (dst % bankSize + i))) 2)
    let elem (i : Nat) : Nat := (drainEncode bf frm (s.mx.colAt row (16 * slice + i)).read.val
      (if grouped bf then scale i else .fin false 1 0)).val
    ∃ t, exec .drainstComplete s = .next t ∧ (∀ pa, t.memByte pa = s.memByte pa) ∧
      (s.canonical → ∀ i, i < n * sz → t.tile.byte (dst + i) = byteOf (ofLanes (8 * sz) elem n) i) ∧
      (∀ r c, t.mx.colAt r c = if clear && decide (r = row ∧ 16 * slice ≤ c ∧ c < 16 * (slice + count)) then AccCol.clear r c
        else s.mx.colAt r c) ∧
      ∀ k off, ¬(k = s.cur ∧ dst ≤ off ∧ off < dst + 16 * count * drainSize (bfFmt bf)) → (t.tileAt k).byte off = (s.tileAt k).byte off := by
  intro n sz scale elem
  obtain ⟨e, hexec⟩ : ∃ e, exec .drainstComplete s = .next (engineDone (s.drainTo dst (ofLanes (8 * sz) elem n) (n * sz))
      (MxCore.drained (.drainst id due dst row slice count clear bf frm) row slice count clear) e) := by
    show ∃ e, execDrainstComplete s = _
    unfold execDrainstComplete
    simp only [hhead, if_neg (engine_due hrun hdue)]
    exact ⟨_, rfl⟩
  have hkeeps := s.drainTo_keeps dst (ofLanes (8 * sz) elem n) (n * sz)
  have hmx := s.drainTo_mx dst (ofLanes (8 * sz) elem n) (n * sz)
  obtain ⟨t, ht, ⟨hmem, hbyte⟩, hcur, hacc, -⟩ := StatsUnsaved.ends (hkeeps.cur ▸ hstats.keepsView hkeeps) hexec
    (fun x hx => MxCore.mem_drained hx)
  refine ⟨t, ht, fun pa => (hmem pa).trans (drainTo_memByte _ _ _ _ _), fun hwf i hi => ?_, fun r c => ?_, fun k off h => ?_⟩
  · rw [State.tile, hcur, hkeeps.cur, hbyte]
    exact drainTo_byte hwf _ _ _ hi
  · rw [colAt_congr hacc, hmx]
    exact MxCore.drained_colAt _ _ _ _ _ _ _ _
  · rw [hbyte]
    exact drainTo_byte_out _ _ _ _ h

end

end Sys2Proof.Claims

open Sys2Proof Sys2Proof.Machine Sys2Proof.Claims

/-- Settles O32: what each of the engine's steps makes of its pages, its columns and the scratchpad, behind which the MXSTATs that it lets
through change no byte. -/
theorem matrixSteps : Obligations.MatrixSteps := by
  intro s hrun hunsaved
  have hstats : StatsUnsaved s s.cur := hunsaved
  refine ⟨fun _ _ _ _ _ _ _ _ _ _ hhead hdue hclean hfmt => wld_fills hrun hstats hhead hdue hclean hfmt,
    fun _ _ _ _ _ _ _ _ _ _ hhead hdue hclean => ⟨fun _ _ hst him => pass_enters hrun hstats hhead hdue hclean hst him,
      fun hst him => pass_enters_free hrun hstats hhead hdue hclean hst him, fun hst => pass_poisons hrun hstats hhead hdue hclean hst⟩,
    fun _ _ _ hhead hdue => clr_clears hrun hstats hhead hdue,
    fun _ _ _ _ _ _ _ _ _ hhead hdue => drainst_drains hrun hstats hhead hdue⟩

end

section
/-! PROOF. The typed operations of a valu and the special functions (O3). -/

namespace Sys2Proof.Machine

/-! ### Operations of a vector slot that issue -/

/-- A read of a source port leaves the rounding mode (R129). -/
theorem State.taken_rm (s : State) (src : Src) : (s.taken src).tile.core.rm = s.tile.core.rm :=
  congrArg (fun w : Word => (w.extractLsb' 0 3 : BitVec 3).toNat) (Claims.taken_settings s src).2.1

/-- A read of a source port leaves the saturation of floating conversions (R129). -/
theorem State.taken_fsat (s : State) (src : Src) : (s.taken src).tile.core.fsat = s.tile.core.fsat :=
  congrArg (fun w : Word => w.getLsbD 3) (Claims.taken_settings s src).2.1

section
variable {sk : Sock} {hk : Wide → Word → Hooks} {md : SrcMod} {src : Src} {g : Guard} {s : State} {check : State → Option Cause}
  {act : State → State}

/-- A checked operation of a vector slot that issues and whose check raises nothing takes its effect. -/
theorem runVector_lawful (h : VectorIssues src s) (e : hk (s.vectorSrc md src) (s.tile.core.guardWord g) = Hooks.checked check act)
    (hc : check s = none) : runVector sk hk md src g s = .next (act (s.taken src)) := by
  rw [runVector_checked h e, hc]

/-- A checked operation of a vector slot that issues takes the trap of its check. -/
theorem runVector_trap (h : VectorIssues src s) (e : hk (s.vectorSrc md src) (s.tile.core.guardWord g) = Hooks.checked check act)
    {c : Cause} (hc : check s = some c) : runVector sk hk md src g s = .next (s.takeTrap c) := by
  rw [runVector_checked h e, hc]

end

theorem needA_lawful {sk : Sock} {ok : Wide → Bool} {s : State} (t : Wide) (h : ok (s.opA sk) = true) : needA sk t ok s = none :=
  if_pos h

theorem needA_refused {sk : Sock} {ok : Wide → Bool} {s : State} (t : Wide) (h : ok (s.opA sk) = false) :
    needA sk t ok s = some (s.illegalOperand sk t) := if_neg (by simp [h])

end Sys2Proof.Machine

namespace Sys2Proof.Claims

open Sys2Proof.Machine

/-- A lane operation that issues gives each active lane its result (R264, R265). -/
theorem runVector_lanes {sk : Sock} {hk : Wide → Word → Hooks} {md : SrcMod} {src : Src} {g : Guard} {s : State} {lat w : Nat}
    {f : Nat → Nat → Nat → Nat → Res} (h : VectorIssues src s)
    (e : hk (s.vectorSrc md src) (s.tile.core.guardWord g) = laneHooks sk lat w (s.vectorSrc md src) (s.tile.core.guardWord g) f) :
    runVector sk hk md src g s = .next (laneDone s md src g sk lat w f) := by
  refine (runVector_act h (by rw [e]; rfl) (by rw [e]; rfl) (by rw [e]; rfl) (by rw [e]; rfl)).trans ?_
  rw [e]
  unfold laneHooks laneDone Hooks.plain
  simp only [State.taken_rm, State.taken_opA, State.taken_opB]

/-! ### The typed operations of a valu (R214, R274-R276) -/

section
variable {u : Twin} {md : SrcMod} {src : Src} {g : Guard} {s : State} (h : VectorIssues src s)
include h

theorem vabs_vneg_complete (neg : Bool) (ha : absOk (s.opA u.valu) = true) :
    exec (if neg then .vneg u md src g else .vabs u md src g) s =
      .next (laneDone s md src g u.valu 2 (codeTy (typeOf (s.opA u.valu))).width (fun _ _ _ t =>
        laneAbsNeg neg (codeTy (typeOf (s.opA u.valu))) t)) := by
  have hrun : exec (if neg then .vneg u md src g else .vabs u md src g) s = runVector u.valu (absHooks neg u.valu) md src g s := by
    cases neg <;> rfl
  rw [hrun, runVector_lawful h rfl (needA_lawful _ ha), State.taken_opA]
  rfl

theorem vcvt_completes (hc : cvtOk (s.opA u.valu) = true) :
    let dst := codeTy (typeOf (s.opA u.valu))
    let from_ := codeTy (stypeOf (s.opA u.valu))
    let n := 512 / max from_.width dst.width
    let on (i : Nat) : Bool := laneOn (s.tile.core.guardWord g) (from_.width / 8) i
    let r (i : Nat) : Res := convert s.tile.core.rm s.tile.core.fsat from_ dst (laneOf from_.width (s.vectorSrc md src).toNat i)
    exec (.vcvt u md src g) s = .next ((s.taken src).timed u.valu 3 [(.q, BitVec.ofNat 512 (ofLanes dst.width (fun i => (r i).val) n),
      wideOfLanes dst.width (fun i => if n ≤ i || on i then 2 ^ dst.width - 1 else 0))] (laneEvents on r n)) := by
  intro dst from_ n on r
  have hrun : exec (.vcvt u md src g) s = runVector u.valu (cvtHooks u.valu) md src g s := rfl
  rw [hrun, runVector_lawful h rfl (needA_lawful _ hc), State.taken_opA, State.taken_rm, State.taken_fsat]

/-- A reduction that knows its type completes: op 0, 1 or 2 (R276). -/
theorem reduction_completes {op lat : Nat} (hr : reduceOk (s.opA u.valu) = true) :
    let ty := codeTy (typeOf (s.opA u.valu))
    let r := reduceLanes op ty (hdrNprof s.tile.core.seq.hdr).toNat ((List.range (512 / ty.width)).map (fun i =>
      if laneOn (s.tile.core.guardWord g) (ty.width / 8) i then some (laneOf ty.width (s.vectorSrc md src).toNat i) else none))
    runVector u.valu (reduceHooks op lat u.valu) md src g s =
      .next ((s.taken src).timed u.valu lat [(.q, BitVec.ofNat 512 r.val, BitVec.allOnes 512)] r.ev) := by
  intro ty r
  rw [runVector_lawful h rfl (needA_lawful _ hr), State.taken_opA, State.taken_seq]
  rfl

/-- An operation that does not know the type word of its port a raises "illegal operand" (R214). -/
theorem unknown_type_traps {hk : Wide → Word → Hooks} {ok : Wide → Bool} {act : State → State}
    (e : hk (s.vectorSrc md src) (s.tile.core.guardWord g) = Hooks.checked (needA u.valu (s.vectorSrc md src) ok) act)
    (hbad : ok (s.opA u.valu) = false) :
    runVector u.valu hk md src g s = .next (s.takeTrap (s.illegalOperand u.valu (s.vectorSrc md src))) :=
  runVector_trap h e (needA_refused _ hbad)

end

theorem vectorTyped : VectorTyped := by
  intro u md src g s h
  refine ⟨fun ha neg => vabs_vneg_complete h neg ha, fun hc => vcvt_completes h hc, fun hr x hx => ?_,
    fun ha => ⟨unknown_type_traps (hk := absHooks false u.valu) h rfl ha, unknown_type_traps (hk := absHooks true u.valu) h rfl ha⟩,
    fun hc => unknown_type_traps (hk := cvtHooks u.valu) h rfl hc, fun hr i hi => ?_⟩
  · fin_cases hx <;> exact reduction_completes h hr
  · fin_cases hi
    · exact unknown_type_traps (hk := reduceHooks 0 6 u.valu) h rfl hr
    · exact unknown_type_traps (hk := reduceHooks 1 4 u.valu) h rfl hr
    · exact unknown_type_traps (hk := reduceHooks 2 4 u.valu) h rfl hr

/-- The special functions are lane operations of vsfu (R277). -/
theorem specialFunctions : SpecialFunctions := by
  intro ty md src g s h x hx
  have hlanes (fn : Sfu) : runVector .vsfu (sfuHooks fn (fmtF3 ty)) md src g s =
      .next (laneDone s md src g .vsfu 10 (fmtF3 ty).width (fun m _ _ t => (fmtF3 ty).special m fn ((fmtF3 ty).decode t))) :=
    runVector_lanes h rfl
  fin_cases hx <;> exact hlanes _

/-- Settles O3: each typed operation behind the check of its type word, and the special functions as lane operations. -/
theorem typedVectorResults : Obligations.TypedVectorResults := ⟨vectorTyped, specialFunctions⟩

end Sys2Proof.Claims
end

section
/-! PROOF. Packing, compress, top-k and sort (O5): digits of TRN5 bytes, counts in a block, and lists in order. -/

namespace Sys2Proof.Machine

/-! ### Digits of a TRN5 byte (R125, R281) -/

/-- The multiplications and shifts of R281 give the quotients of a legal byte. -/
theorem trn5Digit_eq : ∀ b < 243, ∀ i < 5, Claims.trn5Digit b i = trnDigit b i := by decide +kernel

/-! ### How often something holds below a bound -/

theorem countBelow_eq_length (f : Nat → Bool) (n : Nat) : countBelow f n = ((List.range n).filter f).length := by
  induction n with
  | zero => rfl
  | succ n ih =>
    rw [countBelow, ih, List.range_succ, List.filter_append, List.length_append]
    cases h : f n <;> simp [h]

theorem countBelow_congr {f g : Nat → Bool} {n : Nat} (h : ∀ i < n, f i = g i) : countBelow f n = countBelow g n := by
  induction n with
  | zero => rfl
  | succ n ih => rw [countBelow, countBelow, ih fun i hi => h i (Nat.lt_succ_of_lt hi), h n n.lt_succ_self]

theorem countBelow_none {f : Nat → Bool} {n : Nat} (h : ∀ i < n, f i = false) : countBelow f n = 0 := by
  rw [countBelow_eq_length, List.filter_eq_nil_iff.mpr fun i hi => by simp [h i (List.mem_range.mp hi)]]
  rfl

theorem countBelow_add (f : Nat → Bool) (a n : Nat) : countBelow f (a + n) = countBelow f a + countBelow (fun d => f (a + d)) n := by
  induction n with
  | zero => rfl
  | succ n ih => rw [← Nat.add_assoc, countBelow, ih, countBelow, Nat.add_assoc]

/-- What holds of lanes of one block of m lanes only is counted over that block. -/
theorem countBelow_block (f : Nat → Bool) {m b n : Nat} (hm : 0 < m) (hn : (b + 1) * m ≤ n) :
    countBelow (fun j => decide (j / m = b) && f j) n = countBelow (fun d => f (b * m + d)) m := by
  obtain ⟨r, rfl⟩ := Nat.exists_eq_add_of_le hn
  rw [Nat.add_mul, Nat.one_mul, Nat.add_assoc, countBelow_add, countBelow_add]
  have hbefore : countBelow (fun j => decide (j / m = b) && f j) (b * m) = 0 := countBelow_none fun j hj => by
    have hlt : j / m < b := Nat.div_lt_of_lt_mul (by rwa [Nat.mul_comm] at hj)
    simp [hlt.ne]
  have hblock : countBelow (fun d => decide ((b * m + d) / m = b) && f (b * m + d)) m = countBelow (fun d => f (b * m + d)) m :=
    countBelow_congr fun d hd => by
      rw [Nat.mul_comm b m, Nat.mul_add_div (by omega), Nat.div_eq_of_lt hd]
      simp
  have hbehind : countBelow (fun d => decide ((b * m + (m + d)) / m = b) && f (b * m + (m + d))) r = 0 := countBelow_none fun d _ => by
    have hlt : b < (b * m + (m + d)) / m := (Nat.le_div_iff_mul_le hm).mpr (by rw [Nat.succ_mul]; omega)
    simp [hlt.ne']
  rw [hbefore, hblock, hbehind, Nat.zero_add, Nat.add_zero]

/-! ### Lists in order (R141) -/

/-- The sort of the model is the insertion sort by "not before". -/
theorem sortBy_eq {α : Type} (before : α → α → Bool) (l : List α) :
    sortBy before l = l.insertionSort (fun a b => before b a = false) := by
  have hinsert (x : α) (l : List α) : insertBy before x l = l.orderedInsert (fun a b => before b a = false) x := by
    induction l with
    | nil => rfl
    | cons y l ih =>
      rw [insertBy, List.orderedInsert, ih]
      cases before y x <;> rfl
  induction l with
  | nil => rfl
  | cons x l ih => rw [sortBy, List.insertionSort_cons, ih, hinsert]

section
variable {α : Type} {before : α → α → Bool}

theorem sortBy_perm (l : List α) : (sortBy before l).Perm l := by
  rw [sortBy_eq]
  exact List.perm_insertionSort _ l

/-- The sort puts every list in order, where of any two one is not before the other and the order carries over. -/
theorem sortBy_pairwise (total : ∀ a b, before b a = false ∨ before a b = false)
    (trans : ∀ a b c, before b a = false → before c b = false → before c a = false) (l : List α) :
    (sortBy before l).Pairwise (fun a b => before b a = false) := by
  have : Std.Total (fun a b => before b a = false) := ⟨total⟩
  have : IsTrans α (fun a b => before b a = false) := ⟨trans⟩
  rw [sortBy_eq]
  exact List.pairwise_insertionSort _ l

end

/-- Element x does not stand behind y in the order of R141: the higher key first, equal keys by index, then by lane. -/
theorem sortBefore_false_iff (x y : SortEl) : sortBefore y x = false ↔
    y.key < x.key ∨ (x.key = y.key ∧ (x.g < y.g ∨ (x.g = y.g ∧ x.lane ≤ y.lane))) := by
  simp only [sortBefore, Bool.or_eq_false_iff, Bool.and_eq_false_iff, decide_eq_false_iff_not]
  omega

theorem sortBeforeUp_false_iff (x y : SortEl) : sortBeforeUp y x = false ↔
    x.key < y.key ∨ (x.key = y.key ∧ (x.g < y.g ∨ (x.g = y.g ∧ x.lane ≤ y.lane))) := by
  simp only [sortBeforeUp, Bool.or_eq_false_iff, Bool.and_eq_false_iff, decide_eq_false_iff_not]
  omega

theorem sortBy_sortBefore (l : List SortEl) : (sortBy sortBefore l).Pairwise (fun x y => sortBefore y x = false) :=
  sortBy_pairwise (fun a b => by rw [sortBefore_false_iff, sortBefore_false_iff]; omega)
    (fun a b c => by simp only [sortBefore_false_iff]; omega) l

theorem sortBy_sortBeforeUp (l : List SortEl) : (sortBy sortBeforeUp l).Pairwise (fun x y => sortBeforeUp y x = false) :=
  sortBy_pairwise (fun a b => by rw [sortBeforeUp_false_iff, sortBeforeUp_false_iff]; omega)
    (fun a b c => by simp only [sortBeforeUp_false_iff]; omega) l

/-- The active lanes stand in the list in order. -/
theorem sortLanes_lanes (ty : ElTy) (t : Wide) (g : Word) (gi : Nat → Nat) :
    (sortLanes ty t g gi).Pairwise (fun x y => x.lane < y.lane) := by
  unfold sortLanes
  refine List.Pairwise.filterMap _ (fun i j hij x hx y hy => ?_) (List.pairwise_lt_range (n := 512 / ty.width))
  obtain ⟨-, ex⟩ := Option.ite_none_right_eq_some.mp hx
  obtain ⟨-, ey⟩ := Option.ite_none_right_eq_some.mp hy
  rw [← Option.some.inj ex, ← Option.some.inj ey]
  exact hij

theorem sortLanes_g {ty : ElTy} {t : Wide} {g : Word} {gi : Nat → Nat} {x : SortEl} (h : x ∈ sortLanes ty t g gi) : x.g = gi x.lane := by
  obtain ⟨i, -, hi⟩ := List.mem_filterMap.mp h
  obtain ⟨-, e⟩ := Option.ite_none_right_eq_some.mp hi
  rw [← Option.some.inj e]

/-! ### The largest of some numbers (R284) -/

/-- The running maximum of the numbers that count is 0 or one of them, and none of them exceeds it. -/
theorem foldl_max_of (p : Nat → Bool) (g : Nat → Nat) (l : List Nat) :
    let m := l.foldl (fun m j => if p j then max m (g j) else m) 0
    (m = 0 ∨ ∃ j ∈ l, p j = true ∧ m = g j) ∧ ∀ j ∈ l, p j = true → g j ≤ m := by
  intro m
  have hm : (0 :: (l.filter p).map g).max? = some m := by
    rw [List.max?_cons', List.foldl_map, List.foldl_filter]
  obtain ⟨hmem, hle⟩ := List.max?_eq_some_iff.mp hm
  refine ⟨(List.mem_cons.mp hmem).imp_right fun h => ?_, fun j hj hp =>
    hle _ (List.mem_cons_of_mem _ (List.mem_map_of_mem (List.mem_filter.mpr ⟨hj, hp⟩)))⟩
  obtain ⟨j, hj, e⟩ := List.mem_map.mp h
  obtain ⟨hl, hp⟩ := List.mem_filter.mp hj
  exact ⟨j, hl, hp, e.symm⟩

end Sys2Proof.Machine
end

section
/-! PROOF. The packing, compress, top-k and sort operations (O5): their control words, and the values that each puts on its way. -/

namespace Sys2Proof.Claims
open Sys2Proof.Machine

/-! ### UNPK5 and PACK5 (R281, R282) -/

theorem wdWidth_eq (c : Nat) : wdWidth c = if bitsOf c 9 2 = 0 then 32 else if bitsOf c 9 2 = 1 then 16 else 8 := by
  unfold wdWidth
  split
  · next h => simp [h]
  · next h => simp [h]
  · next h0 h1 => rw [if_neg h0, if_neg h1]

theorem unpkOk_iff (a : Wide) :
    unpkOk a = true ↔ bitsOf (ctlWord a) 12 20 = 0 ∧ bitsOf (ctlWord a) 9 2 ≠ 3 ∧ bitsOf (ctlWord a) 0 9 ≤ 319 := by
  simp [unpkOk, and_assoc]

/-- A field is zero where its lowest bit and the bits above that one are. -/
theorem bitsOf_succ_eq_zero_iff (x lo len : Nat) : bitsOf x lo (len + 1) = 0 ↔ bitsOf x (lo + 1) len = 0 ∧ bitsOf x lo 1 = 0 := by
  unfold bitsOf
  rw [Nat.shiftRight_succ, Nat.pow_succ', pow_one]
  generalize x >>> lo = y
  rw [Nat.mod_mul]
  omega

theorem packOk_iff (a : Wide) :
    packOk a = true ↔ bitsOf (ctlWord a) 9 2 ≠ 3 ∧ bitsOf (ctlWord a) 0 9 = 0 ∧ bitsOf (ctlWord a) 11 21 = 0 := by
  have hraw := bitsOf_succ_eq_zero_iff (ctlWord a) 11 20
  simp only [packOk, Bool.and_eq_true, unpkOk_iff, decide_eq_true_eq]
  rw [show (11 + 1 : Nat) = 12 from rfl, show (20 + 1 : Nat) = 21 from rfl] at hraw
  omega

section
variable {md : SrcMod} {src : Src} {g : Guard} {s : State} (h : VectorIssues src s)
include h

/-- An operation of perm whose control word is not legal raises "illegal operand" (R263). -/
theorem perm_refused {hk : Wide → Word → Hooks} {ok : Wide → Bool} {act : State → State}
    (e : hk (s.vectorSrc md src) (s.tile.core.guardWord g) = Hooks.checked (needA .perm (s.vectorSrc md src) ok) act)
    (hbad : ¬ok (s.opA .perm) = true) :
    runVector .perm hk md src g s = .next (s.takeTrap (s.illegalOperand .perm (s.vectorSrc md src))) :=
  runVector_trap h e (needA_refused _ (Bool.eq_false_iff.mpr hbad))

/-- One whose control word is legal takes its effect. -/
theorem perm_lawful {hk : Wide → Word → Hooks} {ok : Wide → Bool} {act : State → State}
    (e : hk (s.vectorSrc md src) (s.tile.core.guardWord g) = Hooks.checked (needA .perm (s.vectorSrc md src) ok) act)
    (hok : ok (s.opA .perm) = true) : runVector .perm hk md src g s = .next (act (s.taken src)) :=
  runVector_lawful h e (needA_lawful _ hok)

end

theorem wdWidth_cases (c : Nat) : wdWidth c = 32 ∨ wdWidth c = 16 ∨ wdWidth c = 8 := by
  rw [wdWidth_eq]
  split_ifs <;> simp

/-- The value of a digit as a lane holds it: 0, 1, or -1 in two's complement (R125). -/
theorem wrapInt_trnDigit {n b i : Nat} (hn : n = 32 ∨ n = 16 ∨ n = 8) :
    wrapInt n (trnValue (trnDigit b i)) = if trnDigit b i = 2 then 2 ^ n - 1 else trnDigit b i := by
  have hd : trnDigit b i < 3 := Nat.mod_lt _ (by decide)
  generalize trnDigit b i = d at hd ⊢
  rcases hn with rfl | rfl | rfl <;> interval_cases d <;> rfl

theorem unpk5Values : Unpk5Values := by
  intro md src g s h t w c ok n el byte bad lane feeds
  refine ⟨fun hok => ?_, fun hbad => perm_refused (hk := unpk5Hooks) h rfl (mt (unpkOk_iff _).mp hbad)⟩
  refine (perm_lawful (hk := unpk5Hooks) h rfl ((unpkOk_iff _).mpr hok)).trans ?_
  have hn : wdWidth c = n := wdWidth_eq c
  have hlane : lane = fun i => if 319 < el i || bad i then 0
      else if bitsOf c 11 1 = 1 then trnDigit (byte (el i / 5)) (el i % 5) else wrapInt n (trnValue (trnDigit (byte (el i / 5)) (el i % 5))) := by
    funext i
    show (if 319 < el i ∨ bad i = true then 0 else if bitsOf c 11 1 = 1 then trn5Digit (byte (el i / 5)) (el i % 5)
      else if trn5Digit (byte (el i / 5)) (el i % 5) = 2 then 2 ^ n - 1 else trn5Digit (byte (el i / 5)) (el i % 5)) = _
    by_cases hout : 319 < el i ∨ bad i = true
    · rw [if_pos hout, if_pos (by simpa using hout)]
    · have hlegal : byte (el i / 5) < 243 := by
        simp only [bad, not_or, Bool.and_eq_true, decide_eq_true_eq] at hout
        omega
      refine Eq.trans ?_ (if_neg (by simpa using hout)).symm
      rw [if_neg hout, trn5Digit_eq _ hlegal _ (Nat.mod_lt _ (by decide)), wrapInt_trnDigit (by rw [← hn]; exact wdWidth_cases c)]
  rw [State.taken_opA, hlane]
  dsimp only
  rw [show wdWidth (ctlWord (s.opA .perm)) = n from hn]

theorem pack5Values : Pack5Values := by
  intro md src g s h t c ok n v d
  refine ⟨fun hok => ?_, fun hbad => perm_refused (hk := pack5Hooks) h rfl (mt (packOk_iff _).mp hbad)⟩
  refine (perm_lawful (hk := pack5Hooks) h rfl ((packOk_iff _).mpr hok)).trans ?_
  have hn : wdWidth c = n := wdWidth_eq c
  rw [State.taken_opA]
  dsimp only
  rw [show wdWidth (ctlWord (s.opA .perm)) = n from hn]
  have hv (i : Nat) : (if (decide (i < 512 / n) && laneOn (s.tile.core.guardWord g) (n / 8) i) = true
      then sInt n (laneOf n (s.vectorSrc md src).toNat i) else 0) = v i := by
    simp only [Bool.and_eq_true, decide_eq_true_eq]
    rfl
  have hbyte (k : Nat) : d (5 * k) + 3 * d (5 * k + 1) + 9 * d (5 * k + 2) + 27 * d (5 * k + 3) + 81 * d (5 * k + 4) =
      ((List.range 5).map (fun i => d (5 * k + i) * 3 ^ i)).sum := by
    simp only [show List.range 5 = [0, 1, 2, 3, 4] from rfl, List.map_cons, List.map_nil, List.sum_cons, List.sum_nil, Nat.add_zero]
    ring
  have hcount (i : Nat) : (decide (v i < -1) || decide (1 < v i)) = decide (v i ≠ -1 ∧ v i ≠ 0 ∧ v i ≠ 1) := by
    rw [← Bool.decide_or]
    exact decide_eq_decide.mpr (by omega)
  simp only [hv, ← hbyte, ← hcount]
  rfl

/-! ### UNPKG and QNTG (R283, R284) -/

theorem unpkgOk_iff (four : Bool) (a : Wide) : unpkgOk four a = true ↔
    bitsOf (ctlWord a) 9 7 = 0 ∧ bitsOf (ctlWord a) 0 8 ≤ (if four then 112 else 154) := by
  simp only [unpkgOk, Bool.and_eq_true, decide_eq_true_eq]

/-- An element of a stream of groups as its signed field (R126). -/
theorem groupElem_eq (four : Bool) (x j : Nat) :
    groupElem four x j = sInt (if four then 4 else 3) (bitsOf x ((if four then 4 else 3) * j) (if four then 4 else 3)) := by
  cases four <;> rfl

theorem scaleVal_decide (p : Prop) [Decidable p] (x : Nat) :
    scaleVal (decide p) x = if p then Fmt.bf16.decode x else Fmt.f16.decode x := by
  simp only [scaleVal, decide_eq_true_eq]

theorem unpkg_completes {md : SrcMod} {src : Src} {g : Guard} {s : State} (h : VectorIssues src s) (ty : GT2)
    (hok : unpkgOk (ty == .s4g) (s.opA .perm) = true) :
    exec (.unpkg ty md src g) s = .next ((s.taken src).laneResult .perm 3 32 (s.tile.core.guardWord g) (fun i =>
      f32MulRne (FVal.ofInt (groupElem (ty == .s4g) (s.vectorSrc md src).toNat (bitsOf (ctlWord (s.opA .perm)) 0 8 + i)))
        (scaleVal (bitsOf (ctlWord (s.opA .perm)) 8 1 = 1) (bitsOf (ctlWord (s.opA .perm)) 16 16)))) := by
  refine (perm_lawful (hk := unpkgHooks (ty == .s4g)) h rfl hok).trans ?_
  rw [State.taken_opA]
  rfl

/-- The group of 64 elements that QNTG reads: those of a, then those of t (R284). -/
def qntgElem (a t : Wide) (j : Nat) : Nat := if j < 32 then laneOf 16 a.toNat j else laneOf 16 t.toNat (j - 32)

/-- The largest magnitude of the finite active elements, as bits (R284). -/
def qntgMax (f : Fmt) (on : Nat → Bool) (x : Nat → Nat) : Nat :=
  (List.range 64).foldl (fun m j => if on j && decide (x j % 2 ^ 15 < f.infBits) then max m (x j % 2 ^ 15) else m) 0

/-- The scale of a group (R284). -/
def qntgScale (rm : Nat) (f : Fmt) (hi : Int) (amax : Nat) : Res :=
  match f.decode amax with
  | .fin _ m e => f.round rm false false (Mag.ofRat m hi.natAbs e)
  | _ => Res.pure 0

theorem qntgScale_fin {f : Fmt} {amax m : Nat} {neg : Bool} {e : Int} (rm : Nat) (hi : Int) (h : f.decode amax = .fin neg m e) :
    qntgScale rm f hi amax = f.round rm false false (Mag.ofRat m hi.natAbs e) := by
  unfold qntgScale
  rw [h]

/-- An element quantised by its group's scale; an inactive one, and each of a group of zeros, gives 0 (R284). -/
def qntgLane (rm : Nat) (lo hi : Int) (f : Fmt) (on : Nat → Bool) (x : Nat → Nat) (amax scale j : Nat) : IRes :=
  if on j = false ∨ amax = 0 then { val := 0, ev := EvCount.zero } else quantInt rm lo hi (f.decode (x j)) (f.decode scale)

/-- The results of QNTG: the elements of k bits and their scale (R284). -/
def qntgDone (s : State) (k : Nat) (q : Nat → IRes) (scale : Res) : State :=
  s.timed .perm 4 [(.q, BitVec.ofNat 512 (ofLanes k (fun j => wrapInt k (q j).val) 64), BitVec.allOnes 512),
    (.q1, BitVec.ofNat 512 scale.val, BitVec.allOnes 512)]
    (scale.ev.add (laneEvents (fun _ => true) (fun j => { val := 0, ev := (q j).ev }) 64))

/-- The limits of the packed elements as the rule writes them (R284). -/
theorem qntg_limits (ty : GT3) : ((2 ^ (qntgBits ty - 1) : Nat) : Int) - 1 = (2 ^ (qntgBits ty - 1) - 1 : Nat) ∧
    -((2 ^ (qntgBits ty - 1) : Nat) : Int) = -((2 ^ (qntgBits ty - 1) - 1 + 1 : Nat) : Int) := by
  cases ty <;> exact ⟨rfl, rfl⟩

theorem qntg_completes {md : SrcMod} {src : Src} {g : Guard} {s : State} (h : VectorIssues src s) (ty : GT3)
    (hok : ctlWord (s.opB .perm) ≤ 1) {scale : Res} :
    let f : Fmt := if (s.opB .perm).getLsbD 0 then .bf16 else .f16
    let hi : Nat := 2 ^ (qntgBits ty - 1) - 1
    let x := qntgElem (s.opA .perm) (s.vectorSrc md src)
    let on (j : Nat) : Bool := laneOn (s.tile.core.guardWord g) 2 (j % 32)
    qntgScale s.tile.core.rm f hi (qntgMax f on x) = scale →
    exec (.qntg ty md src g) s = .next (qntgDone (s.taken src) (qntgBits ty)
      (qntgLane s.tile.core.rm (-(hi + 1 : Nat)) hi f on x (qntgMax f on x) scale.val) scale) := by
  intro f hi x on hscale
  have hcheck : (if qntgOk (s.opB .perm) then none else some (s.illegalOperand .perm (s.vectorSrc md src))) = none :=
    if_pos (by simpa [qntgOk] using hok)
  refine (runVector_lawful (hk := qntgHooks ty) h rfl hcheck).trans ?_
  obtain ⟨hhi, hlo⟩ := qntg_limits ty
  rw [State.taken_opA, State.taken_opB, State.taken_rm]
  dsimp only
  rw [hhi, hlo, ← hscale]
  have hlane (scale : Nat) : qntgLane s.tile.core.rm (-(hi + 1 : Nat)) hi f on x (qntgMax f on x) scale = fun j =>
      if !on j || decide (qntgMax f on x = 0) then { val := 0, ev := EvCount.zero }
      else quantInt s.tile.core.rm (-(hi + 1 : Nat)) hi (f.decode (x j)) (f.decode scale) := by
    funext j
    simp only [qntgLane, Bool.or_eq_true, Bool.not_eq_true', decide_eq_true_eq]
  rw [hlane]
  rfl

theorem groupValues : GroupValues := by
  intro md src g s h t w bad
  refine ⟨fun ty => ?_, fun ty => ?_⟩
  · intro c k ok scale
    have hiff : unpkgOk (ty == .s4g) (s.opA .perm) = true ↔ ok := by
      rw [unpkgOk_iff]
      cases ty <;> rfl
    refine ⟨fun hok => (unpkg_completes h ty (hiff.mpr hok)).trans ?_,
      fun hbad => perm_refused (hk := unpkgHooks (ty == .s4g)) h rfl (mt hiff.mp hbad)⟩
    simp only [groupElem_eq, scaleVal_decide]
    cases ty <;> rfl
  · intro f k hi x on finite
    refine ⟨fun hbad => ?_, fun hok => ?_⟩
    · have hcheck : (if qntgOk (s.opB .perm) then none else some (s.illegalOperand .perm t)) = some (s.illegalOperand .perm t) :=
        if_neg (by simpa [qntgOk] using hbad)
      exact runVector_trap (hk := qntgHooks ty) h rfl hcheck
    · obtain ⟨hfrom, hall⟩ := foldl_max_of finite (fun j => x j % 2 ^ 15) (List.range 64)
      refine ⟨qntgMax f on x, hfrom.imp_right fun ⟨j, hj, hfin, e⟩ => ⟨j, List.mem_range.mp hj, hfin, e⟩,
        fun j hj hfin => hall j (List.mem_range.mpr hj) hfin, fun neg m e hdec => ?_⟩
      exact qntg_completes h ty hok (qntgScale_fin _ _ hdec)

/-! ### VCMPR (R140, R285) -/

theorem vcmprOk_iff (n : Nat) (a : Wide) : vcmprOk n a = true ↔ bitsOf (ctlWord a) 11 21 = 0 ∧ bitsOf (ctlWord a) 7 1 = 0 ∧
    1 ≤ bitsOf (ctlWord a) 8 3 ∧ 2 ^ bitsOf (ctlWord a) 8 3 ≤ n ∧ 1 ≤ bitsOf (ctlWord a) 0 7 ∧
    bitsOf (ctlWord a) 0 7 ≤ 2 ^ bitsOf (ctlWord a) 8 3 := by
  simp only [vcmprOk, Bool.and_eq_true, decide_eq_true_eq, and_assoc]

/-- The lanes of a type are a power of two (R208). -/
theorem lanes_pow_two (ty : FSN9) : ∃ e, 512 / (tyFSN9 ty).width = 2 ^ e := by
  cases ty
  case f32 | s32 | n32 => exact ⟨4, rfl⟩
  case f16 | bf16 | s16 | n16 => exact ⟨5, rfl⟩
  case s8 | n8 => exact ⟨6, rfl⟩

/-- The block of a lane lies among the lanes (R285). -/
theorem block_le {n m i : Nat} (hm : m ∣ n) (hi : i < n) : (i / m + 1) * m ≤ n := by
  obtain ⟨k, rfl⟩ := hm
  rw [Nat.mul_comm]
  exact Nat.mul_le_mul_left m (Nat.div_lt_of_lt_mul hi)

/-- How many lanes of its block rank above a lane, counted over the block or over all lanes (R285). -/
theorem ranksAbove_block (f : Nat → Nat → Bool) {n m i : Nat} (hpos : 0 < m) (hm : m ∣ n) (hi : i < n) :
    countBelow (fun d => f (i - i % m + d) i) m = ((List.range n).filter (fun j => decide (j / m = i / m) && f j i)).length := by
  rw [← countBelow_eq_length, countBelow_block (fun j => f j i) hpos (block_le hm hi), Nat.div_mul_self_eq_mod_sub_self]

/-- Results on q and q1 whose lanes agree. -/
theorem timed_lanes_congr (s : State) (sk : Sock) (lat w w' : Nat) (e : EvCount) {f f' p p' : Nat → Nat} (hf : ∀ i, f i = f' i)
    (hp : ∀ i, p i = p' i) :
    s.timed sk lat [(.q, wideOfLanes w f, BitVec.allOnes 512), (.q1, wideOfLanes w' p, BitVec.allOnes 512)] e =
      s.timed sk lat [(.q, wideOfLanes w f', BitVec.allOnes 512), (.q1, wideOfLanes w' p', BitVec.allOnes 512)] e := by
  rw [funext hf, funext hp]

section
variable {α : Type} {l : List α} {i : Nat} {f : α → Nat} {d : Nat}

theorem mapGetD_some {x : α} (h : l[i]? = some x) : ((l[i]?).map f).getD d = f x := by
  rw [h]
  rfl

theorem mapGetD_none (h : l[i]? = none) : ((l[i]?).map f).getD d = d := by
  rw [h]
  rfl

theorem takeGetD_some {k : Nat} {x : α} (h : (l.take k)[i]? = some x) : (if i < k then ((l[i]?).map f).getD d else d) = f x := by
  obtain ⟨hi, hx⟩ : i < k ∧ l[i]? = some x := by simpa [List.getElem?_take] using h
  rw [if_pos hi, mapGetD_some hx]

theorem takeGetD_none {k : Nat} (h : (l.take k)[i]? = none) : (if i < k then ((l[i]?).map f).getD d else d) = d := by
  split
  · next hi =>
    rw [List.getElem?_take, if_pos hi] at h
    exact mapGetD_none h
  · rfl

end

theorem compressValues : CompressValues := by
  intro ty md src g s h t c n m ok on v rank above kept
  have hiff : vcmprOk (512 / n) (s.opA .perm) = true ↔ ok := vcmprOk_iff _ _
  refine ⟨fun hok => ?_, fun hbad => perm_refused (hk := vcmprHooks (tyFSN9 ty)) h rfl (mt hiff.mp hbad)⟩
  refine (perm_lawful (hk := vcmprHooks (tyFSN9 ty)) h rfl (hiff.mpr hok)).trans ?_
  obtain ⟨-, -, -, hm, -, -⟩ := hok
  have hdvd : m ∣ 512 / n := by
    obtain ⟨e, he⟩ := lanes_pow_two ty
    rw [show 512 / n = 2 ^ e from he] at hm ⊢
    exact Nat.pow_dvd_pow 2 ((Nat.pow_le_pow_iff_right (by decide)).mp hm)
  have hkept : (List.range (512 / n)).filter (fun i => decide (countBelow (fun d =>
      decide (rank i < rank (i - i % m + d)) || (decide (rank i = rank (i - i % m + d)) && decide (i - i % m + d < i))) m < bitsOf c 0 7)) =
      kept := List.filter_congr fun i hi => by
    rw [ranksAbove_block (fun j i => decide (rank i < rank j) || (decide (rank i = rank j) && decide (j < i))) (Nat.two_pow_pos _) hdvd
      (List.mem_range.mp hi)]
  rw [State.taken_opA]
  refine congrArg Host.Outcome.next (timed_lanes_congr _ _ _ _ _ _ (fun i => ?_) (fun i => ?_))
  · rw [← hkept]
    split
    · next j hj => exact (mapGetD_some (f := v) hj).symm
    · next hj => exact (mapGetD_none (f := v) hj).symm
  · rw [← hkept]
    split
    · next j hj => exact (mapGetD_some (f := fun j => j % m) hj).symm
    · next hj => exact (mapGetD_none (f := fun j => j % m) hj).symm

/-! ### VTOPK and VSORT (R141, R286, R287) -/

theorem vtopkOk_iff (ty : ElTy) (a : Wide) : vtopkOk ty a = true ↔ ctlWord a < 32 ∧ (ctlWord a < 16 ∨ ty.width = 32) := by
  simp only [vtopkOk, Bool.and_eq_true, Bool.or_eq_true, decide_eq_true_eq]

/-- The sort of the active lanes: all of them, in order by key and, among equal keys, by lane (R141, R287). -/
theorem sortBy_lanes (ty : ElTy) (t : Wide) (w : Word) (up : Bool) :
    (sortBy (if up then sortBeforeUp else sortBefore) (sortLanes ty t w (fun i => i))).Pairwise (fun x y =>
      (if up then x.key < y.key else y.key < x.key) ∨ (x.key = y.key ∧ x.lane < y.lane)) := by
  have hperm : (sortBy (if up then sortBeforeUp else sortBefore) (sortLanes ty t w (fun i => i))).Perm (sortLanes ty t w (fun i => i)) :=
    sortBy_perm _
  have hdistinct := hperm.symm.pairwise ((sortLanes_lanes ty t w (fun i => i)).imp fun h => h.ne) fun h => h.symm
  have hindex {x : SortEl} (hx : x ∈ sortBy (if up then sortBeforeUp else sortBefore) (sortLanes ty t w (fun i => i))) : x.g = x.lane :=
    sortLanes_g (hperm.mem_iff.mp hx)
  cases up with
  | false =>
    refine (hdistinct.and (sortBy_sortBefore _)).imp_of_mem fun {x y} hx hy ⟨hne, hxy⟩ => ?_
    have hgx := hindex hx
    have hgy := hindex hy
    rw [sortBefore_false_iff] at hxy
    simp only [Bool.false_eq_true, if_false]
    omega
  | true =>
    refine (hdistinct.and (sortBy_sortBeforeUp _)).imp_of_mem fun {x y} hx hy ⟨hne, hxy⟩ => ?_
    have hgx := hindex hx
    have hgy := hindex hy
    rw [sortBeforeUp_false_iff] at hxy
    simp only [if_true]
    omega

theorem sortedValues : SortedValues := by
  intro ty md src g s h t w bad n c b
  have htopk : vtopkOk (tyFSN9 ty) (s.opA .perm) = true ↔ c < 32 ∧ (c < 16 ∨ n = 32) := vtopkOk_iff _ _
  refine ⟨fun hc hn => ?_, fun hbad => perm_refused (hk := vtopkHooks (tyFSN9 ty)) h rfl (by rw [htopk]; omega), fun hc => ?_,
    fun hbad => perm_refused (hk := vsortHooks (tyFSN9 ty)) h rfl (by rw [decide_eq_true_eq]; exact Nat.not_le.mpr hbad)⟩
  · refine ⟨sortBy sortBefore (sortLanes (tyFSN9 ty) t w (fun i => if 16 ≤ c then laneOf 32 b i else (b % 2 ^ 32 + i) % 2 ^ 32)),
      sortBy_perm _, (sortBy_sortBefore _).imp fun hxy => ?_, ?_⟩
    · rw [sortBefore_false_iff] at hxy
      omega
    · refine (perm_lawful (hk := vtopkHooks (tyFSN9 ty)) h rfl (htopk.mpr ⟨hc, hn⟩)).trans ?_
      rw [State.taken_opA, State.taken_opB]
      refine congrArg Host.Outcome.next (timed_lanes_congr _ _ _ _ _ _ (fun i => ?_) (fun i => ?_))
      · split
        · next e he => exact (takeGetD_some he).symm
        · next he => exact (takeGetD_none he).symm
      · split
        · next e he => exact (takeGetD_some he).symm
        · next he => exact (takeGetD_none he).symm
  · refine ⟨sortBy (if decide (c = 1) then sortBeforeUp else sortBefore) (sortLanes (tyFSN9 ty) t w (fun i => i)), sortBy_perm _, ?_, ?_⟩
    · simpa only [decide_eq_true_eq] using sortBy_lanes (tyFSN9 ty) t w (decide (c = 1))
    · refine (perm_lawful (hk := vsortHooks (tyFSN9 ty)) h rfl (decide_eq_true hc)).trans ?_
      rw [State.taken_opA]
      refine congrArg Host.Outcome.next (timed_lanes_congr _ _ _ _ _ _ (fun i => ?_) (fun i => ?_))
      · split
        · next e he => exact (mapGetD_some he).symm
        · next he => exact (mapGetD_none he).symm
      · split
        · next e he => exact (mapGetD_some he).symm
        · next he => exact (mapGetD_none he).symm

/-- Settles O5: each operation behind the check of its control word, by the values that it puts on its way. -/
theorem packAndSort : Obligations.PackAndSort := ⟨unpk5Values, pack5Values, groupValues, compressValues, sortedValues⟩

end Sys2Proof.Claims
end

section
/-! PROOF. DRAIN (O31): the slice that it reads, and the word that it refuses. -/

namespace Sys2Proof.Machine

/-- A read of a source port leaves the matrix engine as it was. -/
theorem State.taken_mx (s : State) (src : Src) : (s.taken src).mx = s.mx := by
  obtain ⟨-, -, -, -, -, -, -, -, -, -, -, -, -, hmx, -⟩ := TileCore.consume_frame s.ctx.qmode (srcPorts src) s.tile.core
  unfold State.mx
  rw [State.taken_tile]
  exact hmx

theorem State.legal_ok {s : State} {sk : Sock} {w : Word} {p : Prop} [Decidable p] (h : p) : s.legal sk w (decide p) = none :=
  if_pos (decide_eq_true h)

theorem State.legal_refused {s : State} {sk : Sock} {w : Word} {p : Prop} [Decidable p] (h : ¬p) :
    s.legal sk w (decide p) = some (s.illegalOperand sk (wideOfWord w)) := if_neg (by simp [h])

/-- An operation of the mx unit from a scalar slot has the slot's word as its operand (R289). -/
theorem mxWord_wideOfWord (w : Word) : mxWord false (wideOfWord w) = w := lowWord_wideOfWord w

section
variable {s : State} {w lanes : Word} {ps : List (Sock × RPort)} (hwait : s.mx.drainWaits (bitsOf w.toNat 6 4) = false)
include hwait

/-- A lawful DRAIN behind no pass or clear of its row takes its effect (R154). -/
theorem drain_acts (hsound : ∀ x ∈ ps, s.portCause x = none) (hw : w.toNat < 2048) :
    s.runHooks (drainHooks w lanes) ps = (drainHooks w lanes).act (s.consume ps) :=
  State.runHooks_act hwait rfl (State.legal_ok hw) rfl hsound

/-- A DRAIN word with a bit above its fields is refused (R294). -/
theorem drain_refused (hw : 2048 ≤ w.toNat) : s.runHooks (drainHooks w lanes) ps = s.takeTrap (s.illegalOperand .mx (wideOfWord w)) :=
  State.runHooks_check hwait rfl (State.legal_refused (Nat.not_lt.mpr hw))

end

end Sys2Proof.Machine

namespace Sys2Proof.Claims

open Sys2Proof.Machine

/-- A DRAIN of either kind of slot that issues goes through its stages: all lanes are on in a scalar slot, those of the guard in a vector
slot (R289, R294). -/
theorem drain_issues {src : Src} {md : SrcMod} {g : Guard} {s : State} {v : Bool}
    (h : if v then VectorIssues src s else ScalarIssues .mx src g s) :
    (exec (if v then .drainVector md src g else .drain src g) s = .next (s.runHooks
      (drainHooks (mxOperand (if v then some md else none) src s) (if v then s.tile.core.guardWord g else BitVec.allOnes 64))
      (srcPorts src))) ∧ ∀ x ∈ srcPorts src, s.portCause x = none := by
  cases v with
  | false =>
    have hissues : ScalarIssues .mx src g s := h
    refine ⟨(runScalar_issues (hk := hkDrain) hissues).trans ?_, hissues.sound⟩
    rw [hkDrain, mxWord_wideOfWord]
    rfl
  | true =>
    have hissues : VectorIssues src s := h
    exact ⟨runVector_issues (hk := hkDrainVector) hissues, hissues.sound⟩

end Sys2Proof.Claims

open Sys2Proof Sys2Proof.Machine Sys2Proof.Claims

/-- Settles O31: a DRAIN that waits for nothing takes its effect from the columns as they stand, or the trap of its word. -/
theorem matrixDrain : Obligations.MatrixDrain := by
  intro src md g s v h i w lanes row slice col hwait
  obtain ⟨hexec, hsound⟩ := drain_issues (md := md) h
  refine ⟨fun hw => hexec.trans (congrArg Host.Outcome.next ?_), fun hw => hexec.trans (congrArg Host.Outcome.next (drain_refused hwait hw))⟩
  refine (drain_acts hwait hsound hw).trans ?_
  change (drainHooks w lanes).act (s.taken src) = _
  unfold drainHooks
  simp only [Hooks.stalled, State.taken_mx]
  rfl

end

section
/-! PROOF. The settings and triggers of the matrix engine (O30): an MXCLR before which a committed atomic meets poison joins the queue that
the mark holds. -/

namespace Sys2Proof.Machine

/-- An operation without a result joins the queue as the performing of the committed operations leaves it (R101, R152). -/
theorem State.pushMx_queue (s : State) {f : MxCore → MxCore} (o : Nat → MxOp) :
    (s.pushMx f o).mx.queue = (s.flushLs s.cur).mx.queue ++ [o (s.flushLs s.cur).nextOp] := by
  unfold State.pushMx
  rw [Claims.modMx_mx]
  unfold State.mx
  rw [State.modTile_tile]

end Sys2Proof.Machine

namespace Sys2Proof.Claims

open Sys2Proof.Machine

/-- A lawful MXCLR that issues takes its effect (R153). -/
theorem mxclr_acts {src : Src} {g : Guard} {s : State} (h : ScalarIssues .mx src g s) (hw : (s.scalarSrc src).toNat < 65536) :
    exec (.mxclr none src g) s = .next ((mxclrHooks (s.scalarSrc src)).act (s.taken src)) := by
  have hword : hkMxclr false (wideOfWord (s.scalarSrc src)) (BitVec.allOnes 64) = mxclrHooks (s.scalarSrc src) :=
    congrArg mxclrHooks (mxWord_wideOfWord _)
  refine (runScalar_checked (hk := hkMxclr false) h hword).trans ?_
  rw [State.legal_ok hw]
  rfl

/-- A machine whose tile has performed the MXCLR that stood in its queue at the mark. The unit that its committed atomic reads is poisoned,
so that the atomic rolls the tile back when it is performed (R58, R416). -/
def poisonedMxclr : State :=
  State.reset.modTile (fun t => { t with
    mark := t.mark.mapMx (fun m => { m with queue := [.clr 1 0 1] }), lsq := [.atom atomAtZero], poison := [0], nextId := 2 })

theorem poisonedMxclr_issues : ScalarIssues .mx (.imm8 1) alwaysOn poisonedMxclr where
  runs := by decide +kernel
  on := by decide +kernel
  mode := .inl (by decide +kernel)
  ready := by simp [srcPorts]
  late := by decide +kernel
  sound := by simp [srcPorts]

/-- Its queue is empty, its operand is lawful, and its atomic brings the MXCLR of the mark back (R58). -/
theorem poisonedMxclr_rollsBack : poisonedMxclr.mx.queue = [] ∧ (poisonedMxclr.scalarSrc (.imm8 1)).toNat < 65536 ∧
    ((poisonedMxclr.taken (.imm8 1)).flushLs (poisonedMxclr.taken (.imm8 1)).cur).mx.queue = [.clr 1 0 1] := by decide +kernel

end Sys2Proof.Claims

open Sys2Proof Sys2Proof.Machine Sys2Proof.Claims

/-- Refutes O30: the trigger of an MXCLR performs the tile's committed atomic first, which consumes poison and rolls the tile back, so that
the MXCLR joins the queue of the mark; the statement has it join the queue that stood at its trigger. -/
theorem not_matrixOperations : ¬ Obligations.MatrixOperations := by
  rintro ⟨hsettings, -⟩
  obtain ⟨hempty, hw, hrolled⟩ := poisonedMxclr_rollsBack
  obtain ⟨-, -, -, hmxclr, -⟩ := hsettings none (.imm8 1) alwaysOn poisonedMxclr poisonedMxclr_issues
  obtain ⟨t, hexec, -, hclaimed⟩ := hmxclr hw
  obtain rfl := Host.Outcome.next.inj ((mxclr_acts poisonedMxclr_issues hw).symm.trans hexec)
  have hjoined := (State.pushMx_queue (poisonedMxclr.taken (.imm8 1)) _).symm.trans hclaimed
  rw [hrolled, hempty] at hjoined
  exact absurd (congrArg List.length hjoined) (by simp)

end

section
/-! PROOF. OrbitOperations (O34): an OMISS whose index is that of a group load that has raced delivers no count. -/

namespace Sys2Proof.Claims

open Sys2Proof.Machine

/-- An OMISS of an attached station reads its count at its delivery (R302). -/
theorem omiss_acts {src : Src} {g : Guard} {s : State} (h : ScalarIssues .orb src g s) (ha : s.tile.station.attached = true)
    (hw : s.scalarSrc src = 0) :
    exec (.omiss src g) s =
      .next (((s.taken src).lockedBy .orb (some 8) [(.q, 0)]).deliverAs (s.taken src).nextOp .omiss) := by
  refine (runScalar_checked (hk := hkOmiss) h rfl).trans ?_
  rw [hw, lowWord_wideOfWord, ha, if_neg (by decide), State.legal_ok rfl]
  rfl

/-- A group load that has raced with a store of the tile at ring position 0, with operation index 0 (R95). -/
def racedLoad : GLoad :=
  { id := 0, u := .u0, addr := 0, op := 0, ty := 0, members := [0], leaves := [], trapping := false, here := 0, slot := 0, ep := 0,
    combined := true, absent := 0, trapped := false, race := some (0, 0, 0), seen := false, closed := false }

/-- A machine whose tile has an attached station with one miss record. The index that its next operation receives is that of a raced group
load; no premise of the statement keeps the two apart. -/
def missed : State :=
  State.reset.modTile (fun t => { t.mapCore (fun c => { c with gloads := [racedLoad] }) with
    station := { Station.reset with attached := true, misses := [{ pid := 1, rid := 2, wake := false, task := 3, arg := 4 }] } })

theorem missed_issues : ScalarIssues .orb (.imm8 0) alwaysOn missed where
  runs := by decide +kernel
  on := by decide +kernel
  mode := .inl (by decide +kernel)
  ready := by simp [srcPorts]
  late := by decide +kernel
  sound := by simp [srcPorts]

/-- Its station is attached, its OMISS word is lawful, and it has one miss record (R174, R302). -/
theorem missed_reads : missed.tile.station.attached = true ∧ missed.scalarSrc (.imm8 0) = 0 ∧ missed.orbitRead missed.cur true = 1 := by
  decide +kernel

/-- What the OMISS of that machine leaves: each result in flight is delivered as that of the raced load, with the value 0 of its trigger. -/
theorem missed_delivers :
    let t := ((missed.taken (.imm8 0)).lockedBy .orb (some 8) [(.q, 0)]).deliverAs (missed.taken (.imm8 0)).nextOp .omiss
    ∀ f ∈ t.tile.core.flight, (t.atDelivery f).value = 0 := by decide +kernel

end Sys2Proof.Claims

open Sys2Proof Sys2Proof.Machine Sys2Proof.Claims

/-- Refutes O34: the delivery of a result whose index is that of a raced group load reads no count (R95), and the statement lets the tile
hold such a load; its OMISS then delivers 0 where the station has one miss record. -/
theorem not_orbitOperations : ¬ Obligations.OrbitOperations := by
  rintro ⟨htriggers, -⟩
  obtain ⟨hattached, hword, hcount⟩ := missed_reads
  obtain ⟨-, -, -, hreads, -⟩ := htriggers (.imm8 0) alwaysOn missed missed_issues
  obtain ⟨-, hread⟩ := hreads hattached
  obtain ⟨t, hexec, -, -, f, hf, -, -, -, -, -, -, hclaimed⟩ := hread hword true
  obtain rfl := Host.Outcome.next.inj ((omiss_acts missed_issues hattached hword).symm.trans hexec)
  rw [missed_delivers f hf, hcount] at hclaimed
  exact absurd hclaimed (by decide +kernel)

end

section
/-! PROOF. StationSteps (O35): the operations of a station, and the bodies of a ring before and behind a step. -/

namespace Sys2Proof.Machine

/-! ### A range of bytes copied -/

theorem cellsRead_length (l : List Host.Cell) (a n : Nat) : (cellsRead l a n).length = n := by
  induction n generalizing a with
  | zero => rfl
  | succ n ih => exact congrArg (· + 1) (ih (a + 1))

theorem cellsRead_getElem (l : List Host.Cell) {a n i : Nat} (h : i < (cellsRead l a n).length) :
    (cellsRead l a n)[i] = cellsGet l (a + i) := by
  induction n generalizing a i with
  | zero => exact absurd h (Nat.not_lt_zero i)
  | succ n ih =>
    cases i with
    | zero => rfl
    | succ i => exact (ih (Nat.lt_of_succ_lt_succ h)).trans (by rw [Nat.add_assoc, Nat.add_comm 1 i])

/-- A byte of a copy is the byte that was read for it, whichever memory it was read from. -/
theorem cellsGet_copy_in {l : List Host.Cell} (hw : Memory.wf l = true) (m : List Host.Cell) (src dst : Nat) {n i : Nat} (h : i < n) :
    cellsGet (cellsWrite l dst (cellsRead m src n)) (dst + i) = cellsGet m (src + i) := by
  have hi : i < (cellsRead m src n).length := by rwa [cellsRead_length]
  rw [cellsGet_write_in _ _ hw hi, cellsRead_getElem]

theorem cellsGet_copy_out (l m : List Host.Cell) (src dst n : Nat) {b : Nat} (h : b < dst ∨ dst + n ≤ b) :
    cellsGet (cellsWrite l dst (cellsRead m src n)) b = cellsGet l b :=
  cellsGet_write_out _ _ _ (by rwa [cellsRead_length])

/-! ### The operations that a station takes one by one (R296) -/

/-- The station's next operation is put on its way. -/
theorem State.orbNext_eq (s : State) (k : TileKey) : ∃ e n, s.orbNext k = { s with events := e, free := n } := by
  unfold State.orbNext
  split
  · exact ⟨_, _, rfl⟩
  · exact ⟨s.events, s.free, rfl⟩

/-- A station whose oldest operation is done. -/
def Station.popped (x : Station) : Station := { x with ops := x.ops.drop 1 }

theorem State.orbPop_eq (s : State) : ∃ e n, s.orbPop = { s.modTile (fun t => t.mapStation Station.popped) with events := e, free := n } :=
  State.orbNext_eq _ _

theorem State.orbPop_tile (s : State) : s.orbPop.tile = s.tile.mapStation Station.popped := by
  obtain ⟨e, n, h⟩ := s.orbPop_eq
  rw [h]
  exact State.modTile_tile s (fun t => t.mapStation Station.popped)

/-- The station's oldest operation is done, and its results arrive. -/
def State.orbAnswer (s : State) (id : Nat) (rs : List (RPort × Wide)) : State := (s.fillAt s.cur id s.clock rs).orbPop

theorem State.orbAnswer_station (s : State) (id : Nat) (rs : List (RPort × Wide)) :
    (s.orbAnswer id rs).tile.station = s.tile.station.popped := by
  have hfill : (s.fillAt s.cur id s.clock rs).tile.station = s.tile.station := by
    unfold State.tile
    rw [(State.fillAt_ctxs _ _ _ _ _).2, State.fillAt_tileAt]
    rfl
  unfold State.orbAnswer
  rw [State.orbPop_tile]
  exact congrArg Station.popped hfill

/-- The table of an OEPH stands where each of its entries is well formed (R167). -/
def Station.loadTable (ws : List (Nat × Nat)) (x : Station) : Station := { x with eph := if ws.all ephOk then ws.map ephOf else x.eph }

/-- The tile's table of an OEPH loaded. -/
def State.loadTable (s : State) (ws : List (Nat × Nat)) : State :=
  if ws.all ephOk then s.modTile (fun t => t.mapStation (fun x => { x with eph := ws.map ephOf })) else s

theorem State.loadTable_station (s : State) (ws : List (Nat × Nat)) : (s.loadTable ws).tile.station = s.tile.station.loadTable ws := by
  unfold State.loadTable Station.loadTable
  split
  · rw [State.modTile_tile]; rfl
  · rfl

theorem State.loadTable_keeps (s : State) (ws : List (Nat × Nat)) : KeepsView Tile.stored s (s.loadTable ws) :=
  .ite (.modTile s fun _ => rfl) (.refl s)

/-- The id of an OINJ given to the body of its family (R162). -/
def Station.named (retro : Bool) (bid : BitVec 16) (x : Station) : Station :=
  if retro then { x with ret := { x.ret with id := bid } } else { x with pro := { x.pro with id := bid } }

/-- The slot of a family's current body (R161, R164). -/
def Station.slotOf (x : Station) (retro : Bool) : Nat := if retro then x.ret.slot else x.pro.slot

theorem Station.named_id (retro : Bool) (bid : BitVec 16) (x : Station) :
    (if retro then (x.named retro bid).ret.id else (x.named retro bid).pro.id) = bid := by cases retro <;> rfl

theorem Station.named_ops (retro : Bool) (bid : BitVec 16) (x : Station) : (x.named retro bid).ops = x.ops := by cases retro <;> rfl

/-- The body of an OINJ copied to its slot and named. -/
def State.inject (s : State) (src n : Nat) (retro : Bool) (bid : BitVec 16) : State :=
  s.modTile (fun t => (t.copyBody src (s.tile.station.slotOf retro) n).mapStation (Station.named retro bid))

/-- A station that has armed (R163). -/
def Station.armedNow (x : Station) : Station := { x with armed := true }

/-- The station of the tile of the step arms (R163, R300). -/
def State.arm (s : State) : State :=
  (s.modTile (fun t => t.mapStation Station.armedNow)).modOrbit (fun o => { o with after := o.clk, lapAt := o.clk })

theorem State.arm_tile (s : State) : s.arm.tile = s.tile.mapStation Station.armedNow :=
  State.modTile_tile s (fun t => t.mapStation Station.armedNow)

theorem State.arm_keeps (s : State) : KeepsView Tile.stored s s.arm :=
  (KeepsView.modTile s (f := fun t => t.mapStation Station.armedNow) fun _ => rfl).trans (.modCtx _ _ _)

/-! ### What a station and its bytes are -/

/-- The station of a tile with the tile's bytes. -/
def Tile.orbital (t : Tile) : Station × List Host.Cell := (t.station, t.scratch)

theorem offNotes_orbital : OffNotes Tile.orbital := ⟨fun _ _ => rfl, fun _ _ => rfl, fun _ _ => rfl, fun _ _ _ => rfl⟩

theorem State.untagScratch_other (s : State) {j k : TileKey} (off n : Nat) (h : j ≠ k) :
    (s.untag k (.scratch k.tid off) n).tileAt j = s.tileAt j := by
  have hj : j ≠ keyPeer k k.tid := h
  unfold State.untag
  dsimp only
  split
  · rfl
  · exact State.modTileAt_tileAt_ne _ _ hj

theorem State.untagScratch_ctxs (s : State) (k : TileKey) (tid : BitVec 6) (off n : Nat) :
    (s.untag k (.scratch tid off) n).ctxs = s.ctxs := by
  unfold State.untag
  dsimp only
  split <;> rfl

/-- What a station holds of bodies, with the tile's bytes: a check of a step changes none of it. -/
def Tile.carried (t : Tile) : Body × Body × Option Body × List Host.Cell := (t.station.pro, t.station.ret, t.station.held, t.scratch)

/-- What a station holds of bodies is a part of it. -/
theorem Tile.carried_of_orbital {a b : Tile} (h : a.orbital = b.orbital) : a.carried = b.carried :=
  congrArg (fun x : Station × List Host.Cell => (x.1.pro, x.1.ret, x.1.held, x.2)) h

theorem Tile.fire_carried (t : Tile) (pass wake : Bool) (pid rid : BitVec 16) (c : Conj) :
    (t.fire pass wake pid rid c).carried = t.carried := by
  unfold Tile.fire
  split
  · rfl
  · split <;> rfl

theorem Tile.checkPair_carried (t : Tile) (o : Orbit) (u : Nat) (wake : Bool) (b : Body) : (t.checkPair o u wake b).carried = t.carried := by
  unfold Tile.checkPair
  dsimp only
  split
  · rfl
  · exact Tile.fire_carried _ _ _ _ _ _

theorem Tile.checks_carried (t : Tile) (o : Orbit) (u : Nat) : (t.checks o u).carried = t.carried := by
  refine Eq.trans (b := (t.checkPair o u false t.station.ret).carried) ?_ (t.checkPair_carried o u false t.station.ret)
  unfold Tile.checks
  dsimp only
  split
  · exact Tile.checkPair_carried _ _ _ _ _
  · rfl

theorem State.modStations_keeps {β : Type} {f : TileKey → Station → Station} (g : Tile → β) (h : ∀ k t, g (t.mapStation (f k)) = g t)
    (s : State) (j : TileKey) : g ((s.modStations f).tileAt j) = g (s.tileAt j) :=
  State.foldl_keeps g (fun u k i => State.modTileAt_keeps g (h k) u k i) s.clusterTiles s j

theorem State.checkStation_carried (s : State) (o : Orbit) (k j : TileKey) :
    ((s.checkStation o k).tileAt j).carried = (s.tileAt j).carried := by
  have hchecks := State.modTileAt_keeps Tile.carried (fun t => t.checks_carried o (o.total + 1)) s k j
  unfold State.checkStation
  dsimp only
  split
  · exact hchecks
  · exact (State.modStations_keeps Tile.carried (fun _ _ => rfl) _ j).trans hchecks

theorem State.checkStation_ctxs (s : State) (o : Orbit) (k : TileKey) :
    (s.checkStation o k).ctxs = s.ctxs ∧ (s.checkStation o k).cur = s.cur := by
  unfold State.checkStation
  dsimp only
  split
  · exact ⟨rfl, rfl⟩
  · exact State.modStations_ctxs _ _

/-! ### The slots of a station (R161; log 23) -/

theorem freeSlot_eq (w : Word) (used : List Nat) : ∃ i, freeSlot w used = stationBase + i * slotSize w := by
  unfold freeSlot
  split
  · exact ⟨_, rfl⟩
  · exact ⟨0, by rw [Nat.zero_mul, Nat.add_zero]⟩

/-- Two slots that differ do not overlap. -/
theorem freeSlot_disjoint {w : Word} {used used' : List Nat} (h : freeSlot w used ≠ freeSlot w used') {j : Nat} (hj : j < slotSize w) :
    freeSlot w used + j < freeSlot w used' ∨ freeSlot w used' + slotSize w ≤ freeSlot w used + j := by
  obtain ⟨a, ha⟩ := freeSlot_eq w used
  obtain ⟨b, hb⟩ := freeSlot_eq w used'
  rw [ha, hb] at h ⊢
  rcases Nat.lt_trichotomy a b with hlt | rfl | hlt
  · have := Nat.mul_le_mul_right (slotSize w) hlt
    rw [Nat.succ_mul] at this
    omega
  · exact absurd rfl h
  · have := Nat.mul_le_mul_right (slotSize w) hlt
    rw [Nat.succ_mul] at this
    omega

/-! ### The bodies that a station receives (R164) -/

section
variable {t : Tile} {w : Word} {pro ret : BitVec 16} {mp mr : List Host.Cell} {ap ar : Nat} (hw : Memory.wf t.scratch = true)
include hw

/-- The retrograde body that arrives stands in its slot. -/
theorem Tile.stepBodies_ret_byte {j : Nat} (hj : j < slotSize w) :
    let u := t.stepBodies w (pro, cellsRead mp ap (slotSize w)) (ret, cellsRead mr ar (slotSize w))
    u.byte (u.station.ret.slot + j) = cellsGet mr (ar + j) := cellsGet_copy_in (Tile.spWrite_wf _ _ _ hw) _ _ _ hj

/-- The prograde body that arrives stands in its slot, where the retrograde one takes another. -/
theorem Tile.stepBodies_pro_byte {j : Nat} (hj : j < slotSize w) :
    let u := t.stepBodies w (pro, cellsRead mp ap (slotSize w)) (ret, cellsRead mr ar (slotSize w))
    u.station.pro.slot ≠ u.station.ret.slot → u.byte (u.station.pro.slot + j) = cellsGet mp (ap + j) := fun hne =>
  (cellsGet_copy_out _ _ _ _ _ (freeSlot_disjoint hne hj)).trans (cellsGet_copy_in hw _ _ _ hj)

end

theorem State.moveBodies_self (s : State) (o : Orbit) (k : TileKey) (pro ret : BitVec 16 × List Byte) :
    ((s.moveBodies o k pro ret).tileAt k).orbital = ((s.tileAt k).stepBodies o.word pro ret).orbital := by
  refine ((untagScratch_keeps offNotes_orbital _ _ _ _ _).trans (untagScratch_keeps offNotes_orbital _ _ _ _ _)).tiles k |>.trans ?_
  rw [State.modTileAt_tileAt]

theorem State.moveBodies_other (s : State) (o : Orbit) {j k : TileKey} (pro ret : BitVec 16 × List Byte) (h : j ≠ k) :
    (s.moveBodies o k pro ret).tileAt j = s.tileAt j :=
  (State.untagScratch_other _ _ _ h).trans ((State.untagScratch_other _ _ _ h).trans (State.modTileAt_tileAt_ne _ _ h))

theorem State.moveBodies_ctxs (s : State) (o : Orbit) (k : TileKey) (pro ret : BitVec 16 × List Byte) :
    (s.moveBodies o k pro ret).ctxs = s.ctxs ∧ (s.moveBodies o k pro ret).cur = s.cur :=
  ⟨(State.untagScratch_ctxs _ _ _ _ _).trans (State.untagScratch_ctxs _ _ _ _ _), (State.untag_cur _ _ _ _).trans (State.untag_cur _ _ _ _)⟩

/-- A fold whose every step changes one tile, of which no two are the same, changes each as its step does from the start. -/
theorem State.foldl_eachTile {α : Type} {f : State → α → State} {key : α → TileKey} {P : α → Tile → Tile → Prop}
    (here : ∀ s a, P a (s.tileAt (key a)) ((f s a).tileAt (key a))) (other : ∀ s a j, j ≠ key a → (f s a).tileAt j = s.tileAt j)
    {l : List α} (hd : (l.map key).Nodup) (s : State) : ∀ a ∈ l, P a (s.tileAt (key a)) ((l.foldl f s).tileAt (key a)) := by
  have stays : ∀ (l : List α) (s : State) (j : TileKey), j ∉ l.map key → (l.foldl f s).tileAt j = s.tileAt j := fun l => by
    induction l with
    | nil => exact fun _ _ _ => rfl
    | cons b l ih =>
      intro s j hj
      rw [List.map_cons, List.mem_cons, not_or] at hj
      exact (ih _ j hj.2).trans (other s b j hj.1)
  induction l generalizing s with
  | nil => simp
  | cons b l ih =>
    obtain ⟨hb, hl⟩ := List.nodup_cons.mp hd
    intro a ha
    rcases List.mem_cons.mp ha with rfl | ha
    · rw [List.foldl_cons, stays l _ _ hb]
      exact here s a
    · have hne : key a ≠ key b := fun e => hb (e ▸ List.mem_map_of_mem ha)
      have := ih hl (f s b) a ha
      rwa [other s b _ hne] at this

/-! ### The ring of a cluster (R159, R164) -/

/-- The station at a ring position of the cluster of the tile of the step, counted modulo 16. -/
def State.ringKey (s : State) (i : Nat) : TileKey := keyPeer s.cur (tidOf (tidCluster s.cur.tid) (BitVec.ofNat 4 i))

theorem State.ringKey_mod (s : State) (i : Nat) : s.ringKey (i % 16) = s.ringKey i := by
  have h : BitVec.ofNat 4 (i % 16) = BitVec.ofNat 4 i := BitVec.eq_of_toNat_eq (Nat.mod_mod_of_dvd i (dvd_refl 16))
  unfold State.ringKey
  rw [h]

theorem State.ringKey_inj (s : State) {i j : Nat} (hi : i < 16) (hj : j < 16) (h : s.ringKey i = s.ringKey j) : i = j := by
  have htid : tidOf (tidCluster s.cur.tid) (BitVec.ofNat 4 i) = tidOf (tidCluster s.cur.tid) (BitVec.ofNat 4 j) := congrArg TileKey.tid h
  have hring := congrArg (fun x : BitVec 6 => (x.extractLsb' 0 4).toNat) htid
  simp only [tidOf, extract_low, BitVec.toNat_ofNat] at hring
  omega

theorem State.ringKeys_nodup (s : State) : ((List.range 16).map s.ringKey).Nodup :=
  List.nodup_range.map_on fun _ hi _ hj h => s.ringKey_inj (List.mem_range.mp hi) (List.mem_range.mp hj) h

/-- The bodies of a station of the ring. -/
def State.ringBodies (s : State) (o : Orbit) (i : Nat) : (BitVec 16 × List Byte) × (BitVec 16 × List Byte) :=
  (s.tileAt (s.ringKey i)).bodies o.word

/-- The station at a ring position receives its neighbours' bodies, which left them at `s` (R164). -/
def State.ringReceive (s : State) (o : Orbit) (u : State) (i : Nat) : State :=
  u.moveBodies o (s.ringKey i) (s.ringBodies o (i + 15)).1 (s.ringBodies o (i + 1)).2

/-- Every body of the ring moves one station on (R164). -/
def State.ringStep (s : State) (o : Orbit) : State := (List.range 16).foldl (s.ringReceive o) s

/-- Every station of the ring makes its checks (R164). -/
def State.ringChecks (s : State) (o : Orbit) (ks : List TileKey) : State := ks.foldl (fun u k => u.checkStation o k) s

/-- The orbit behind a step (R166). -/
def Orbit.stepped (o : Orbit) : Orbit :=
  { o with stepDue := none, step := o.step + 1, total := o.total + 1, doneAt := o.clk, after := o.clk }

theorem execOrbitStepComplete_steps {s : State} {o : Orbit} {d : Nat} (ho : s.orbit? = some o) (hd : o.stepDue = some d) (hclk : d ≤ o.clk)
    (hres : s.residentAt s.cur = true) :
    execOrbitStepComplete s = .next (((s.ringStep o).ringChecks o s.clusterTiles).modOrbit Orbit.stepped) := by
  have hbody (i : Nat) : ((s.clusterTiles.map (fun k => (s.tileAt k).bodies o.word))[i % 16]?).getD ((0xFFFF, []), (0xFFFF, [])) =
      s.ringBodies o i := by
    have hi : i % 16 < 16 := Nat.mod_lt _ (by decide)
    unfold State.clusterTiles
    rw [List.getElem?_map, List.getElem?_map, List.getElem?_range hi, Option.map_some, Option.map_some, Option.getD_some]
    exact congrArg (fun k => (s.tileAt k).bodies o.word) (s.ringKey_mod i)
  have hzip : s.clusterTiles.zip (List.range 16) = (List.range 16).map (fun i => (s.ringKey i, i)) := rfl
  unfold execOrbitStepComplete
  rw [ho]
  dsimp only
  rw [hd]
  dsimp only
  rw [if_neg (by simp [hres, hclk])]
  simp only [hbody, hzip, List.foldl_map]
  rfl

theorem State.ringStep_tile (s : State) (o : Orbit) {i : Nat} (hi : i < 16) :
    ((s.ringStep o).tileAt (s.ringKey i)).orbital =
      ((s.tileAt (s.ringKey i)).stepBodies o.word (s.ringBodies o (i + 15)).1 (s.ringBodies o (i + 1)).2).orbital :=
  State.foldl_eachTile (f := s.ringReceive o) (key := s.ringKey)
    (P := fun i a b => b.orbital = (a.stepBodies o.word (s.ringBodies o (i + 15)).1 (s.ringBodies o (i + 1)).2).orbital)
    (fun u i => u.moveBodies_self o (s.ringKey i) _ _) (fun u _ _ h => u.moveBodies_other o _ _ h) s.ringKeys_nodup s i
    (List.mem_range.mpr hi)

theorem State.ringChecks_carried (s : State) (o : Orbit) (ks : List TileKey) (j : TileKey) :
    ((s.ringChecks o ks).tileAt j).carried = (s.tileAt j).carried :=
  State.foldl_keeps Tile.carried (fun u k j => u.checkStation_carried o k j) ks s j

theorem State.ringStep_orbit (s : State) (o : Orbit) (ks : List TileKey) : ((s.ringStep o).ringChecks o ks).orbit? = s.orbit? := by
  have hmove (u : State) (i : Nat) : (s.ringReceive o u i).ctxs = u.ctxs ∧ (s.ringReceive o u i).cur = u.cur := u.moveBodies_ctxs _ _ _ _
  have hcheck (u : State) (k : TileKey) := u.checkStation_ctxs o k
  exact State.orbit?_congr
    ((Machine.foldl_keeps State.ctxs (fun u k => (hcheck u k).1) _ _).trans (Machine.foldl_keeps State.ctxs (fun u i => (hmove u i).1) _ _))
    ((Machine.foldl_keeps State.cur (fun u k => (hcheck u k).2) _ _).trans (Machine.foldl_keeps State.cur (fun u i => (hmove u i).2) _ _))

/-- What the station at a ring position holds behind a step of the ring with its checks. -/
theorem State.ringStep_carried (s : State) (o : Orbit) (ks : List TileKey) {i : Nat} (hi : i < 16) :
    (((s.ringStep o).ringChecks o ks).tileAt (s.ringKey i)).carried =
      ((s.tileAt (s.ringKey i)).stepBodies o.word (s.ringBodies o (i + 15)).1 (s.ringBodies o (i + 1)).2).carried :=
  (State.ringChecks_carried _ o ks _).trans (Tile.carried_of_orbital (s.ringStep_tile o hi))

end Sys2Proof.Machine

namespace Sys2Proof.Claims

open Sys2Proof.Machine

theorem sameBytes_orbPop (s : State) : SameBytes s s.orbPop := by
  obtain ⟨e, n, h⟩ := s.orbPop_eq
  rw [h]
  exact sameBytes_modTile s (fun t => t.mapStation Station.popped) rfl

theorem sameBytes_orbAnswer {s : State} {id : Nat} (rs : List (RPort × Wide)) (h : Unsaved s s.cur id) : SameBytes s (s.orbAnswer id rs) :=
  sameBytes_trans (sameBytes_fillAt s s.cur id s.clock rs h) (sameBytes_orbPop _)

theorem sameBytes_modStations (s : State) (f : TileKey → Station → Station) : SameBytes s (s.modStations f) :=
  sameBytes_foldl (fun u k => sameBytes_modTileAt u k _ rfl) s.clusterTiles s

theorem sameBytes_modOrbit (s : State) (f : Orbit → Orbit) : SameBytes s (s.modOrbit f) := sameBytes_modCtx s _ _

/-! ### The oldest operation of a station (R298-R300) -/

section
variable {s : State} {r : List OrbOp} (hrun : s.tile.frozen = false) (hin : s.tile.out = false) (hclean : s.tile.poison = [])
include hrun hin

/-- A station that is neither frozen nor switched out goes on (R25). -/
theorem station_runs : ¬(s.tile.frozen || s.tile.out) = true := by simp [hrun, hin]

include hclean in
/-- A table is loaded where every entry is well formed (R167, R298). -/
theorem oeph_loads {id off n : Nat} (hops : s.tile.station.ops = .oeph id off n :: r) :
    let ws := (List.range n).map (fun i => s.tile.ephWords off i)
    ∃ t, exec .oephTableLoaded s = .next t ∧ (Unsaved s s.cur id → SameBytes s t) ∧ t.tile.station.ops = r ∧
      t.tile.station.eph = if ws.all ephOk then ws.map ephOf else s.tile.station.eph := by
  intro ws
  have hexec : exec .oephTableLoaded s = .next ((s.loadTable ws).orbAnswer id [(.qp, if ws.all ephOk then 1 else 0)]) := by
    show execOephTableLoaded s = _
    unfold execOephTableLoaded
    simp only [if_neg (station_runs hrun hin), hops, Tile.poisonIn, hclean, if_true]
    rfl
  have hkeeps := s.loadTable_keeps ws
  have hstation := (State.orbAnswer_station (s.loadTable ws) id [(.qp, if ws.all ephOk then 1 else 0)]).trans
    (congrArg Station.popped (s.loadTable_station ws))
  refine ⟨_, hexec, fun hu => sameBytes_trans (sameBytes_keepsView hkeeps) (sameBytes_orbAnswer _ (unsaved_keepsView hkeeps hu)), ?_, ?_⟩
  · rw [hstation]
    exact congrArg (List.drop 1) hops
  · rw [hstation]
    rfl

include hclean in
/-- A body stands in the slot of its family, and every other byte reads as before (R162, R299). -/
theorem oinj_injects {id off : Nat} {retro : Bool} {bid : BitVec 16} {o : Orbit} (hops : s.tile.station.ops = .oinj id off retro bid :: r)
    (ho : s.orbit? = some o) :
    let slot := if retro then s.tile.station.ret.slot else s.tile.station.pro.slot
    ∃ t, exec .oinjCopyComplete s = .next t ∧ t.tile.station.ops = r ∧
      (if retro then t.tile.station.ret.id else t.tile.station.pro.id) = bid ∧
      (s.canonical → ∀ i, i < slotSize o.word → t.tile.byte (slot + i) = s.tile.byte (off + i)) ∧
      ∀ k a, ¬(k = s.cur ∧ slot ≤ a ∧ a < slot + slotSize o.word) → (t.tileAt k).byte a = (s.tileAt k).byte a := by
  intro slot
  let u := s.inject off (slotSize o.word) retro bid
  let v := u.untag s.cur (.scratch s.cur.tid slot) (slotSize o.word)
  have hexec : exec .oinjCopyComplete s = .next v.orbPop := by
    show execOinjCopyComplete s = _
    unfold execOinjCopyComplete
    simp only [if_neg (station_runs hrun hin), hops, ho, Tile.poisonIn, hclean, if_true]
    rfl
  have hkeeps : KeepsView Tile.orbital u v := untagScratch_keeps offNotes_orbital u s.cur s.cur.tid slot (slotSize o.word)
  have hu : u.tile = (s.tile.copyBody off slot (slotSize o.word)).mapStation (Station.named retro bid) := State.modTile_tile s _
  have hstation : v.orbPop.tile.station = (s.tile.station.named retro bid).popped := by
    rw [State.orbPop_tile]
    exact congrArg (fun x : Station × List Host.Cell => x.1.popped) (hkeeps.tile.trans (congrArg Tile.orbital hu))
  have hbyte (k : TileKey) (a : Nat) : (v.orbPop.tileAt k).byte a = (u.tileAt k).byte a :=
    ((sameBytes_orbPop v).2 k a).trans (congrArg (fun x : Station × List Host.Cell => cellsGet x.2 a) (hkeeps.tiles k))
  have hcur : v.orbPop.cur = s.cur := by
    obtain ⟨e, n, h⟩ := v.orbPop_eq
    rw [h]
    exact hkeeps.cur
  have hown (a : Nat) : (u.tileAt s.cur).byte a = (s.tile.copyBody off slot (slotSize o.word)).byte a := by
    rw [show u.tileAt s.cur = _ from hu]
    rfl
  refine ⟨_, hexec, ?_, ?_, fun hw i hi => ?_, fun k a hout => ?_⟩
  · rw [hstation]
    exact congrArg (List.drop 1) ((Station.named_ops _ _ _).trans hops)
  · rw [hstation]
    exact Station.named_id _ _ _
  · rw [State.tile, hcur, hbyte, hown]
    exact cellsGet_copy_in (State.canonical_tileAt hw s.cur) _ _ _ hi
  · rw [hbyte]
    by_cases hk : k = s.cur
    · rw [hk, hown]
      have hrange : ¬(slot ≤ a ∧ a < slot + slotSize o.word) := fun e => hout ⟨hk, e⟩
      exact cellsGet_copy_out _ _ _ _ _ (by omega)
    · exact congrArg (fun t : Tile => t.byte a) (State.modTile_tileAt_ne s _ hk)

/-- The station arms (R163, R300). -/
theorem ostep_arms {id : Nat} {o : Orbit} (hops : s.tile.station.ops = .ostep id :: r) (ho : s.orbit? = some o) :
    ∃ t, exec .stationArmed s = .next t ∧ (Unsaved s s.cur id → SameBytes s t) ∧ t.tile.station.armed = true ∧ t.tile.station.ops = r := by
  have hexec : exec .stationArmed s = .next (s.arm.orbAnswer id [(.q, BitVec.ofNat 512 (o.ordinal % 2 ^ 16))]) := by
    show execStationArmed s = _
    unfold execStationArmed
    simp only [if_neg (station_runs hrun hin), hops, ho]
    rfl
  have hkeeps := s.arm_keeps
  refine ⟨_, hexec, fun hu => sameBytes_trans (sameBytes_keepsView hkeeps) (sameBytes_orbAnswer _ (unsaved_keepsView hkeeps hu)), ?_, ?_⟩
  · rw [State.orbAnswer_station, State.arm_tile]
    rfl
  · rw [State.orbAnswer_station, State.arm_tile]
    exact congrArg (List.drop 1) hops

end

theorem stationOperations : StationOperations := fun _ _ hrun hin hclean =>
  ⟨fun _ _ _ hops => oeph_loads hrun hin hclean hops, fun _ _ _ _ _ hops ho => oinj_injects hrun hin hclean hops ho,
    fun _ _ hops ho => ostep_arms hrun hin hops ho⟩

/-! ### The steps of an orbit (R164-R166, R170) -/

section
variable {s : State} {o : Orbit} (ho : s.orbit? = some o)
include ho

theorem orbitStep_begins (hready : s.stepReady o = true) :
    ∃ t o', exec .orbitStepBegin s = .next t ∧ SameBytes s t ∧ t.orbit? = some o' ∧
      o'.stepDue = some (o.clk + 16 + slotSize o.word / 64) ∧ o'.step = o.step ∧ o'.total = o.total := by
  let u := s.modStations (fun _ x => { x with released := false })
  let begun (o : Orbit) : Orbit := { o with stepDue := some (o.clk + 16 + slotSize o.word / 64), yieldAt := none }
  have hexec : exec .orbitStepBegin s = .next (u.modOrbit begun) := by
    show execOrbitStepBegin s = _
    unfold execOrbitStepBegin
    simp only [ho, hready]
    rfl
  obtain ⟨hctxs, hcur⟩ := s.modStations_ctxs (fun _ x => { x with released := false })
  exact ⟨_, begun o, hexec, sameBytes_trans (sameBytes_modStations s _) (sameBytes_modOrbit u _),
    State.modOrbit_orbit (fun _ => rfl) ((State.orbit?_congr hctxs hcur).trans ho), rfl, rfl, rfl⟩

theorem orbitStep_completes {d : Nat} (hd : o.stepDue = some d) (hclk : d ≤ o.clk) (hres : s.residentAt s.cur = true) :
    ∃ t o', exec .orbitStepComplete s = .next t ∧ t.orbit? = some o' ∧ o'.stepDue = none ∧ o'.step = o.step + 1 ∧ o'.total = o.total + 1 ∧
      ∀ i < 16, (t.tileAt (s.ringKey i)).station.pro.id = (s.tileAt (s.ringKey (i + 15))).station.pro.id ∧
        (t.tileAt (s.ringKey i)).station.ret.id = (s.tileAt (s.ringKey (i + 1))).station.ret.id ∧
        (t.tileAt (s.ringKey i)).station.held = some (s.tileAt (s.ringKey i)).station.ret ∧
        (s.canonical → ∀ j, j < slotSize o.word →
          (t.tileAt (s.ringKey i)).byte ((t.tileAt (s.ringKey i)).station.ret.slot + j) =
            (s.tileAt (s.ringKey (i + 1))).byte ((s.tileAt (s.ringKey (i + 1))).station.ret.slot + j) ∧
          ((t.tileAt (s.ringKey i)).station.pro.slot ≠ (t.tileAt (s.ringKey i)).station.ret.slot →
            (t.tileAt (s.ringKey i)).byte ((t.tileAt (s.ringKey i)).station.pro.slot + j) =
              (s.tileAt (s.ringKey (i + 15))).byte ((s.tileAt (s.ringKey (i + 15))).station.pro.slot + j))) := by
  refine ⟨_, o.stepped, execOrbitStepComplete_steps ho hd hclk hres,
    State.modOrbit_orbit (fun _ => rfl) ((s.ringStep_orbit o _).trans ho), rfl, rfl, rfl, fun i hi => ?_⟩
  have hcarried := s.ringStep_carried o s.clusterTiles hi
  simp only [Tile.carried, Prod.mk.injEq] at hcarried
  obtain ⟨hpro, hret, hheld, hscratch⟩ := hcarried
  rw [State.modOrbit, State.modCtx_tileAt, hpro, hret, hheld]
  refine ⟨rfl, rfl, rfl, fun hw j hj => ?_⟩
  have hwf := State.canonical_tileAt hw (s.ringKey i)
  unfold Tile.byte
  rw [hscratch]
  exact ⟨Tile.stepBodies_ret_byte hwf hj, Tile.stepBodies_pro_byte hwf hj⟩

theorem station_releases (hreleased : s.tile.station.released = false) (hdue : o.stepDue = none) (hq : s.tile.conjQ = [])
    (hholding : s.tile.station.holding = []) (htask : ∀ x, s.tile.task = some x → x.conj = none) :
    ∃ t, exec .stationRelease s = .next t ∧ t.tile.station.released = true ∧ SameBytes s t := by
  have hfree : (match s.tile.task with | some k => k.conj.isSome | none => false) = false := by
    cases h : s.tile.task with
    | none => rfl
    | some x => simp [htask x h]
  let u := s.modTile (fun t => t.mapStation (fun x => { x with released := true }))
  have hexec : exec .stationRelease s = .next (u.modOrbit (fun o => { o with after := o.clk })) := by
    show execStationRelease s = _
    unfold execStationRelease
    rw [ho]
    dsimp only
    rw [hreleased, hdue, hq, hholding, if_neg]
    exact fun h => Bool.false_ne_true (hfree.symm.trans h)
  have hu : u.tile = s.tile.mapStation (fun x => { x with released := true }) := State.modTile_tile s _
  exact ⟨_, hexec, congrArg (fun t : Tile => t.station.released) hu,
    sameBytes_trans (b := u) (sameBytes_modTile s _ rfl) (sameBytes_modOrbit u _)⟩

end

theorem orbitSteps : OrbitSteps := fun _ _ ho =>
  ⟨orbitStep_begins ho, fun _ hd hclk hres => orbitStep_completes ho hd hclk hres, station_releases ho⟩

end Sys2Proof.Claims

open Sys2Proof Sys2Proof.Machine Sys2Proof.Claims

/-- Settles O35: what each operation of a station does to it, and, for a step, what every station of the ring receives from its
neighbours. -/
theorem stationSteps : Obligations.StationSteps := ⟨stationOperations, orbitSteps⟩

end
